-- ==== Sys2Proof/Word.lean ====
section
/-!
DEFINITION. The word of the part: every CSR and every Legend parameter word is 32 bits wide (00_scope.md R14).
-/

namespace Sys2Proof

/-- A CSR word, a mailbox word, a Legend word (R14). -/
abbrev Word := BitVec 32

/-- A byte of an image, a record or a dump. -/
abbrev Byte := BitVec 8

end Sys2Proof
end

