-- ==== Sys2Proof/Syntax.lean ====
section
/-!
DEFINITION. The commands of the block: the operand types and the one inductive `Instr`, a constructor per row of
opcode_table.json. Event rows carry, as operands, what the environment supplies (measured levels, pulses, image bytes).
-/

namespace Sys2Proof

/-- Master of a CSR access, 14_register_interface.md Table 14.6. -/
inductive Master where
  | datum | chart | pciePriv | pcieUser | pcieAlias | spi
  deriving DecidableEq, Repr

/-- The way a bus access comes in (Table 14.1): the Datum core and the Chart pair by CSR offset, the host through BAR2 (both
views, by BAR2 offset) or through a mailbox page of BAR0 (by BAR0 offset). -/
inductive Port where
  | datum | chart | bar2 | bar0
  deriving DecidableEq, Repr

/-- The way an alias access comes in: BAR4 of the host by BAR4 offset, the Datum core or the Chart pair by offset in the alias
range of R19. -/
inductive AliasPort where
  | datum | chart | bar4
  deriving DecidableEq, Repr

/-- An access through the alias window: narrower than a word (R271), and the bit that a write carries. -/
structure AliasAccess where
  narrow : Bool
  write : Option Bool
  deriving DecidableEq, Repr

/-- A stamp: operating seconds, grid tick within the second, power-cycle count. -/
structure Stamp where
  opSec : Nat
  gt : Nat
  pwrCyc : Nat
  deriving DecidableEq, Repr

/-- One event of a collector cycle: the source, whether it was injected or came from an invalid pair, and the targets the
event names (TX lane mask, domain mask; R290). -/
structure FaultEv where
  source : Nat
  inj : Bool
  path : Bool
  lanes : Nat
  domains : Nat
  deriving DecidableEq, Repr

/-- A Field Book record as offered (Table 16.1), before the writer assigns SEQ and CRC: the ten payload words are words 6-15. -/
structure Record where
  typ : Nat
  source : Nat
  sev : Nat
  order : Nat
  path : Bool
  inj : Bool
  stamp : Stamp
  payload : List Word
  deriving DecidableEq, Repr

/-- How a foreground calibration that ran ends (Table 2.8). -/
inductive CalResult where
  | pass | range | noLock | level
  deriving DecidableEq, Repr

/-- Where an uncorrectable party SRAM error lies (R113): the 64-bit word of the party's 1.25 MiB, eight to a unit. -/
abbrev EccSite := Fin 163840

/-- What a stateless piece works for (R107): a support block of a channeliser, the power sums of a row, the measurements of a domain. -/
inductive PostSrc where
  | support (block : Nat)
  | powers (path row : Nat)
  | measure (domain : Nat)
  deriving DecidableEq, Repr

/-- A stateless piece: its source and its cycles, at most 8. -/
structure Post where
  src : PostSrc
  cycles : Nat
  deriving DecidableEq, Repr

/-- The piece that a completion names: a resident piece by its path (with the row, the block beside it), or a stateless one. -/
inductive PieceName where
  | path (p : Fin 256)
  | posted (src : PostSrc)
  deriving DecidableEq, Repr


/-- What a lane's receive estimator saw of a closed sheet: the sum and the highest of the sample powers y_i² + y_q² over the grid ticks that
the sheet boundary passes over (R380), and the part of the span, in kHz, that carries energy within 40 dB of the strongest subband (R45). -/
structure RxLevel where
  sum : Nat
  peak : Nat
  span : Nat
  deriving DecidableEq, Repr

/-- What the observation receiver saw of a TX lane in its turn over a closed sheet (R45): a clipped instant, the mean power in 1/256 dBFS, and
the part of the span, in kHz, within 40 dB of the strongest subband. -/
structure Observation where
  clipped : Bool
  mean : Int
  span : Nat
  deriving DecidableEq, Repr

/-- What the datapath sums for a domain over grid ticks (R143, R159, R160): power at stage 12 over its transmit subbands and both branches;
power and samples at stage 12 by open subband, key 2048 TX lane + subband; its subband samples with the subband open; over the open subbands
the power and samples of the reference, and the real and imaginary parts of its correlation with itself one loop lag before. -/
structure DomainSum where
  out : Nat
  subs : List (Nat × Nat × Nat)
  samples : Nat
  ref : Nat
  refSamples : Nat
  corI : Int
  corQ : Int
  deriving DecidableEq, Repr

/-- A coupling power as an estimator gives it (R158, R162, R163), in units of 2^−60: receive branch and TX lane of the window, each 0 A or 1 B,
and the lag. -/
structure Coupling where
  branch : Nat
  tx : Nat
  lag : Nat
  power : Nat
  deriving DecidableEq, Repr

/-- What the estimators present of a domain for a closed sheet: the sums over the grid ticks that the sheet boundary passes over; the
residual coupling powers of the traffic and of the pilot source, averaged over the domain's open subbands (R158); kinds whose source block flags
them invalid, a mask (R143). -/
structure DomainMeas where
  sum : DomainSum
  traffic : List Coupling
  pilot : List Coupling
  bad : Nat
  deriving DecidableEq, Repr

/-- What a loop-lag measurement formed (R162): the coupling power by receive branch, pilot and lag, and the noise of the estimate, in units
of 2^−60. -/
structure LoopScan where
  taps : List Coupling
  noise : Nat
  deriving DecidableEq, Repr

/-- Bytes moved at a port of Table 17.4 in a sheet, with the attributes that FILT tests (R329): access class, master (FILT.MST bit) and
level (FILT.LVL bit); address. -/
structure Traffic where
  port : Nat
  write : Bool
  cls : Nat
  mst : Nat
  lvl : Nat
  addr : Nat
  bytes : Nat
  deriving DecidableEq, Repr

/-- What the environment presents over the grid tick that a grid tick boundary closes. -/
structure TickInput where
  /-- Slice codes per RX lane over the 3,072 raw instants, as runs (instants, code of I, code of Q), first first (R43). -/
  raw : List (Nat × List (Nat × Int × Int))
  /-- Samples that leave stage 7 of the channelisers, key 2048 RX lane + subband; for a direct window the lane's stream before its FIR, at
  subband 0. -/
  rx : List (Nat × List (Int × Int))
  /-- By TX lane: what the synthesis bank of stage 13 rebuilds and the probe's stream of stage 14, before their narrowing. -/
  synth : List (Nat × List (Int × Int))
  probe : List (Nat × List (Int × Int))
  /-- Corrected 16-bit rails of each TX lane after stage 15, 3,072 instants (R44). -/
  dac : List (Nat × List (Int × Int))
  /-- At the opening of the grid tick that begins: the stateless pieces posted for it (R107), and the surveyor engines whose self-test fails
  (R111). -/
  posts : List Post
  failed : List (Fin 256)
  /-- At the same instant: the filtered levels of CX_PRI, a mask over the links, and the level of CX_OGNT (R230, R231). -/
  pri : Fin 4
  ognt : Bool
  deriving DecidableEq, Repr

/-- What the environment presents to the block over the sheet that a sheet boundary closes. -/
structure SheetInput where
  /-- The pins of the two tacho channels over the sheet, first first: TACHO_A, TACHO_B, and for how many ns they stood so (R122). -/
  tacho0 : List (Bool × Bool × Nat)
  tacho1 : List (Bool × Bool × Nat)
  /-- Levels of the PRESENCE pins at the boundary, a mask. -/
  presence : Nat
  /-- REFIN and REFIN2 met R201 over the sheet. -/
  ref1 : Bool
  ref2 : Bool
  /-- Receive levels by lane; by TX lane the sum of the powers at stage 13 over the grid ticks passed over, and the observation of the lanes
  whose turn it is; domain measurements. -/
  rx : List (Nat × RxLevel)
  tx : List (Nat × Nat)
  obs : List (Nat × Observation)
  dom : List (Nat × DomainMeas)
  /-- By window, the coupling of each TX lane to each receive branch before stage 8, formed over the latest 64 sheets (R163). -/
  iso : List (Nat × List Coupling)
  /-- Mean power in the Recce receiver's 20 MHz, 1/16 dBm, where it listened (R226); mean VIN, mV (Table 18.15). -/
  listen : Int
  vin : Nat
  /-- Die temperature near each lane, and at key 16 near the sense converters, °C (R46, R248). -/
  die : List (Nat × Int)
  /-- Bytes moved at the ports; corrected errors and commands queued over 100 ns per DRAM channel (Table 17.2, R286). -/
  traffic : List Traffic
  dram : List (Nat × Nat × Nat)
  deriving DecidableEq, Repr

/-- A clear or a key change as the Datum core runs it: its mailbox, the verifications of the CLEARED record's write that fail (R310,
R321), and whether the Datum core restarts while it runs (Table 16.6). -/
structure BookRun where
  mb : Fin 20
  failures : Nat
  restart : Bool
  deriving DecidableEq, Repr

/-- What a Recce measurement interval gave (Table 11.3): level in 1/16 dBm, SSB index, PCI or BSIC, frame start (stream samples modulo
a frame), and the stream sample of the burst found; nothing detected; input beyond range. -/
inductive RecceResult where
  | found (level : Int) (ssb ident phase burst : Nat)
  | notFound
  | overload
  deriving DecidableEq, Repr

/-- One conversion of a sense converter (R238): its code, and whether the input lay below −20 mV or above VREF_SNS + 20 mV. -/
structure SenseConv where
  code : Fin 65536
  low : Bool
  high : Bool
  deriving DecidableEq, Repr

/-- The sketch configuration of an image (R339 to R341): its windows, receive and transmit lanes, the register words and window tables
that set them up, and its region 0. -/
structure SketchConfig where
  windows : Nat
  rx : Nat
  tx : Nat
  regs : List (Nat × Word)
  tables : List (Nat × Word)
  region : List (Nat × Byte)
  deriving DecidableEq, Repr

/-- A boot image as the boot device or the host memory holds it (Table 18.3): the 256 bytes of its header, its body, and the sketch
configuration that the body carries. -/
structure BootImage where
  header : List Byte
  body : List Byte
  sketch : SketchConfig
  deriving DecidableEq, Repr

/-- The commands of the block, one constructor per row of opcode_table.json, in the table's order. -/
inductive Instr where
  /-- DOORBELL_RING, R253. -/
  | doorbellRing (mb : Fin 20)
  /-- DOORBELL_ACK, R254. -/
  | doorbellAck (mb : Fin 20)
  /-- CMD_COPY_DONE, R253. -/
  | cmdCopyDone (mb : Fin 20)
  /-- RESPONSE_POST, R254. -/
  | responsePost (mb : Fin 20)
  /-- NOTIFICATION_POST, R261. -/
  | notificationPost
  /-- NOP, R257. -/
  | nop (mb : Fin 20)
  /-- IDENTIFY, R285. -/
  | identify (mb : Fin 20)
  /-- MB_LEVEL, R251. -/
  | mbLevel (mb : Fin 20)
  /-- NOTIFY_MASK, R261. -/
  | notifyMask (mb : Fin 20)
  /-- TIMESTAMP, R28. -/
  | timestamp (mb : Fin 20)
  /-- RESTART, R344. -/
  | restart (mb : Fin 20)
  /-- GET, R262. -/
  | get (mb : Fin 20)
  /-- SET, R263. -/
  | set (mb : Fin 20)
  /-- STAGE, R263. -/
  | stage (mb : Fin 20)
  /-- COMMIT, R263. -/
  | commit (mb : Fin 20)
  /-- DISCARD, R263. -/
  | discard (mb : Fin 20)
  /-- DESCRIBE, R381. -/
  | describe (mb : Fin 20)
  /-- ATLAS_LOAD, R118. -/
  | atlasLoad (mb : Fin 20)
  /-- ATLAS_LOAD_DONE, R118. -/
  | atlasLoadDone (bytes : List (Nat × Byte))
  /-- ATLAS_SWITCH, R121. -/
  | atlasSwitch (mb : Fin 20)
  /-- ATLAS_STATUS, R120. -/
  | atlasStatus (mb : Fin 20)
  /-- POS_FIX, R125. -/
  | posFix (mb : Fin 20)
  /-- POS_ROUTE, R127. -/
  | posRoute (mb : Fin 20)
  /-- PASSAGE, R136. -/
  | passage (mb : Fin 20)
  /-- WIN_CONFIG, R77. -/
  | winConfig (mb : Fin 20)
  /-- WIN_ENABLE, R77. -/
  | winEnable (mb : Fin 20)
  /-- ROUTE_LOAD, R77. -/
  | routeLoad (mb : Fin 20)
  /-- TRIM_LOAD, R77. -/
  | trimLoad (mb : Fin 20)
  /-- FIR_LOAD, R77. -/
  | firLoad (mb : Fin 20)
  /-- BANK_APPLY, R78. -/
  | bankApply (mb : Fin 20)
  /-- WIN_STATUS, R77. -/
  | winStatus (mb : Fin 20)
  /-- PATH_CONFIG, R99. -/
  | pathConfig (mb : Fin 20)
  /-- AMAP_LOAD, R99. -/
  | amapLoad (mb : Fin 20)
  /-- PATH_ENABLE, R99. -/
  | pathEnable (mb : Fin 20)
  /-- PATH_STATUS, R99. -/
  | pathStatus (mb : Fin 20)
  /-- DOMAIN_MODE, R169. -/
  | domainMode (mb : Fin 20)
  /-- LANE_TX, R209. -/
  | laneTx (mb : Fin 20)
  /-- LANE_TUNE, R209. -/
  | laneTune (mb : Fin 20)
  /-- BEAM_SET, R221. -/
  | beamSet (mb : Fin 20)
  /-- LANE_CONFIG, R210. -/
  | laneConfig (mb : Fin 20)
  /-- CAPTURE_ARM, R334. -/
  | captureArm (mb : Fin 20)
  /-- CAPTURE_TRIGGER, R334. -/
  | captureTrigger
  /-- CAPTURE_DONE, R334. -/
  | captureDone (data : List (Nat × Word))
  /-- CAPTURE_ABORT, R334. -/
  | captureAbort (mb : Fin 20) (data : List (Nat × Word))
  /-- CAPTURE_READ, R334. -/
  | captureRead (mb : Fin 20)
  /-- CAPTURE_STATUS, R335. -/
  | captureStatus (mb : Fin 20)
  /-- LOOP_MEASURE, R336. -/
  | loopMeasure (mb : Fin 20)
  /-- CAL_START, R336. -/
  | calStart (mb : Fin 20)
  /-- PMC_EXPORT, R332. -/
  | pmcExport (mb : Fin 20)
  /-- PMC_STATUS, R331. -/
  | pmcStatus (mb : Fin 20)
  /-- FB_STATUS, R312. -/
  | fbStatus (mb : Fin 20)
  /-- FB_READ, R317. -/
  | fbRead (mb : Fin 20) (ue : Bool)
  /-- FB_NONCE, R318. -/
  | fbNonce (mb : Fin 20)
  /-- FB_SEEK, R316. -/
  | fbSeek (mb : Fin 20)
  /-- FB_CLEAR_COMPAT, R320. -/
  | fbClearCompat (run : BookRun)
  /-- FB_CLEAR, R321. -/
  | fbClear (run : BookRun)
  /-- FB_KEY, R322. -/
  | fbKey (run : BookRun)
  /-- PROT_STATUS, R198. -/
  | protStatus (mb : Fin 20)
  /-- PROT_STOP, R198. -/
  | protStop (mb : Fin 20)
  /-- PROT_RELEASE, R184. -/
  | protRelease (mb : Fin 20)
  /-- FAULT_STATUS, R295. -/
  | faultStatus (mb : Fin 20)
  /-- FAULT_CLEAR, R292. -/
  | faultClear (mb : Fin 20)
  /-- FI_UNLOCK, R298. -/
  | fiUnlock (mb : Fin 20)
  /-- FI_INJECT, R299. -/
  | fiInject (mb : Fin 20)
  /-- FREEZE, R348. -/
  | freeze (mb : Fin 20)
  /-- START_STATUS, R346. -/
  | startStatus (mb : Fin 20)
  /-- START_RETRY, R347. -/
  | startRetry (mb : Fin 20)
  /-- IMAGE_WRITE, R339. -/
  | imageWrite (mb : Fin 20)
  /-- AGE_STATUS, R351. -/
  | ageStatus (mb : Fin 20)
  /-- AGE_REPLAN, R351. -/
  | ageReplan (mb : Fin 20)
  /-- AGE_BASELINE, R354. -/
  | ageBaseline (mb : Fin 20)
  /-- AGE_READ, R355. -/
  | ageRead (mb : Fin 20)
  /-- LOCK_ACQUIRE, R266. -/
  | lockAcquire (mb : Fin 20)
  /-- LOCK_RENEW, R266. -/
  | lockRenew (mb : Fin 20)
  /-- LOCK_RELEASE, R266. -/
  | lockRelease (mb : Fin 20)
  /-- LOCK_BREAK, R266. -/
  | lockBreak (mb : Fin 20)
  /-- LOCK_STATUS, R266. -/
  | lockStatus (mb : Fin 20)
  /-- LOCK_LEASE_EXPIRY, R266. -/
  | lockLeaseExpiry
  /-- REGISTER_WRITE, R278. -/
  | registerWrite (port : Port) (addr : Nat) (narrow : Bool) (data : Word)
  /-- CLEARING_READ, R273. -/
  | clearingRead (port : Port) (addr : Nat) (narrow : Bool)
  /-- ALIAS_ACCESS, R275. -/
  | aliasAccess (port : AliasPort) (addr : Nat) (acc : AliasAccess)
  /-- SSPI_TRANSACTION, R267. -/
  | sspiTransaction (opening : Word) (data : List Word) (reads : Nat)
  /-- GT_SEC_READ, R28. -/
  | gtSecRead
  /-- POOL_USED_READ, R85. -/
  | poolUsedRead (m : Master)
  /-- ST_DATA_READ, R157. -/
  | stDataRead (m : Master)
  /-- JRES0_READ, R225. -/
  | jres0Read (m : Master) (j : Fin 32)
  /-- VAL_LO_READ, R326. -/
  | valLoRead (m : Master) (i : Fin 384)
  /-- AP0_READ, R317. -/
  | ap0Read (m : Master) (ue : Bool)
  /-- AP15_READ, R317. -/
  | ap15Read (m : Master)
  /-- TBL_DATA_ACCESS, R74. -/
  | tblDataAccess (m : Master) (write : Option Word)
  /-- AMAP_DATA_ACCESS, R89. -/
  | amapDataAccess (m : Master) (write : Option Word)
  /-- RSEQ_DATA_ACCESS, R220. -/
  | rseqDataAccess (m : Master) (master : Fin 4) (write : Option Word)
  /-- WCTL_EN_WRITE, R64. -/
  | wctlEnWrite (m : Master) (w : Fin 16) (data : Word)
  /-- WCTL_SWAP, R73. -/
  | wctlSwap (m : Master) (w : Fin 16) (data : Word)
  /-- PCFG0_EN_WRITE, R88. -/
  | pcfg0EnWrite (m : Master) (p : Fin 256) (data : Word)
  /-- CAL_CTL_RX_START, R55. -/
  | calCtlRxStart (m : Master) (n : Fin 16) (data : Word)
  /-- CAL_CTL_TX_START, R55. -/
  | calCtlTxStart (m : Master) (n : Fin 16) (data : Word)
  /-- CALIBRATION_END, R56. -/
  | calibrationEnd (n : Fin 16) (tx : Bool) (result : CalResult)
  /-- SVY_FENCE, R111. -/
  | svyFence (m : Master) (data : Word)
  /-- SNS_CAL0, R248. -/
  | snsCal0 (m : Master) (data : Word)
  /-- SNS_CAL1, R248. -/
  | snsCal1 (m : Master) (data : Word)
  /-- SNS_SWAP, R246. -/
  | snsSwap (m : Master) (data : Word)
  /-- INJ_REQ_GO, R247. -/
  | injReqGo (m : Master) (data : Word)
  /-- PMC_CLEAR, R327. -/
  | pmcClear (m : Master) (data : Word)
  /-- LOOP_START, R162. -/
  | loopStart (m : Master) (w : Fin 16) (data : Word)
  /-- LOOP_MEASURE_END, R162. -/
  | loopMeasureEnd (w : Fin 16) (scan : LoopScan)
  /-- SW_TRIG, R220. -/
  | swTrig (m : Master) (master : Fin 4) (data : Word)
  /-- AGE_NOW, R351. -/
  | ageNow (m : Master) (data : Word)
  /-- SEAL_WRITE, R282. -/
  | sealWrite (m : Master) (set : Fin 35) (data : Word)
  /-- SEAL_HOLD_WRITE, R283. -/
  | sealHoldWrite (m : Master) (set : Fin 35) (data : Word)
  /-- SEAL_HOLD_TIMEOUT, R283. -/
  | sealHoldTimeout (set : Fin 35)
  /-- SWEEP_PASS_DONE, R281. -/
  | sweepPassDone (set : Fin 35)
  /-- SCFG_FREQ_WRITE, R205. -/
  | scfgFreqWrite (m : Master) (syn : Fin 8) (data : Word)
  /-- LSRC_WRITE, R204. -/
  | lsrcWrite (m : Master) (n : Fin 16) (data : Word)
  /-- TX_EN_WRITE, R207. -/
  | txEnWrite (m : Master) (n : Fin 16) (data : Word)
  /-- RX_EN_WRITE, R208. -/
  | rxEnWrite (m : Master) (n : Fin 16) (data : Word)
  /-- DCTL_EN_WRITE, R150. -/
  | dctlEnWrite (m : Master) (d : Fin 256) (data : Word)
  /-- CCFG3_EN_WRITE, R150. -/
  | ccfg3EnWrite (m : Master) (k : Fin 1536) (data : Word)
  /-- CON_EN_WRITE, R154. -/
  | conEnWrite (m : Master) (data : Word)
  /-- ALERT_SW_WRITE, R293. -/
  | alertSwWrite (m : Master) (data : Word)
  /-- TDD_CTL_WRITE, R211. -/
  | tddCtlWrite (m : Master) (data : Word)
  /-- RCE_CTL_WRITE, R226. -/
  | rceCtlWrite (m : Master) (data : Word)
  /-- GRID_TICK_BOUNDARY, R30. -/
  | gridTickBoundary (inp : TickInput)
  /-- OSC_CLOSURE, R166. -/
  | oscClosure (d : Fin 256)
  /-- GATE_CLOSE, R194. -/
  | gateClose (w : Fin 16) (i : Nat)
  /-- PIECE_COMPLETION, R109. -/
  | pieceCompletion (eng : Fin 256) (path : PieceName) (row : Nat) (block : Nat) (again : Bool) (cycle : Nat)
  /-- TICK_CLOSE, R110. -/
  | tickClose
  /-- REEXEC_DEADLINE, R110. -/
  | reexecDeadline
  /-- ENGINE_WATCHDOG, R111. -/
  | engineWatchdog (eng : Fin 256)
  /-- RESIDUE_FAILURE, R111. -/
  | residueFailure (eng : Fin 256)
  /-- SVY_ECC_CE, R113. -/
  | svyEccCe (q : Fin 32)
  /-- SVY_ECC_UE, R113. -/
  | svyEccUe (q : Fin 32) (site : EccSite)
  /-- CROSSBAR_PARITY, R114. -/
  | crossbarParity (q : Fin 32)
  /-- COVER_TEST_DONE, R115. -/
  | coverTestDone
  /-- SHEET_BOUNDARY, R32. -/
  | sheetBoundary (inp : SheetInput)
  /-- CONTOUR_LOST, R172. -/
  | contourLost (d : Fin 256) (kind : Fin 6)
  /-- CONTOUR_FROZEN, R172. -/
  | contourFrozen (d : Fin 256) (kind : Fin 6)
  /-- SUP_HOLD_EXPIRY, R173. -/
  | supHoldExpiry (d : Fin 256)
  /-- GUARD_EXPIRY, R173. -/
  | guardExpiry (d : Fin 256)
  /-- PLAUS_MAX_REACHED, R171. -/
  | plausMaxReached (d : Fin 256) (kind : Fin 6)
  /-- PRESENCE_ASSERT, R136. -/
  | presenceAssert (i : Fin 8)
  /-- TRACK_EMPTY, R136. -/
  | trackEmpty (track : Fin 2)
  /-- CORR_STALE, R46. -/
  | corrStale (n : Fin 16) (temp : Int)
  /-- ROW_RELOAD_DONE, R97. -/
  | rowReloadDone (path : Fin 256) (row : Nat)
  /-- CUT_END, R97. -/
  | cutEnd (path : Fin 256) (row : Nat)
  /-- SK_HALF_END, R97. -/
  | skHalfEnd (path : Fin 256) (row : Nat)
  /-- CHECKPOINT_GENERATION_START, R94. -/
  | checkpointGenerationStart
  /-- CHECKPOINT_GENERATION_DONE, R94. -/
  | checkpointGenerationDone
  /-- COUNTER_DUMP, R331. -/
  | counterDump
  /-- OPERATING_SECOND, R27. -/
  | operatingSecond
  /-- RECCE_JOB_DUE, R228. -/
  | recceJobDue (j : Fin 32)
  /-- RECCE_JOB_START, R228. -/
  | recceJobStart (pa : Int) (pb : Int) (ognt : Bool)
  /-- RECCE_JOB_END, R226. -/
  | recceJobEnd (r : RecceResult)
  /-- RESULT_POST, R225. -/
  | resultPost
  /-- SYNRC_UNLOCK, R225. -/
  | synrcUnlock
  /-- SURVEY_STALE, R229. -/
  | surveyStale (span : Fin 32)
  /-- CX_REQ_ASSERT, R233. -/
  | cxReqAssert (i : Fin 2) (pri : Bool)
  /-- CX_PRI_ASSERT, R233. -/
  | cxPriAssert (i : Fin 2)
  /-- DEFERRAL_TIMEOUT, R233. -/
  | deferralTimeout (i : Fin 2)
  /-- CX_GNT_ASSERT, R233. -/
  | cxGntAssert (i : Fin 2)
  /-- CX_REQ_DEASSERT, R234. -/
  | cxReqDeassert (i : Fin 2)
  /-- CX_MAX_HOLD, R235. -/
  | cxMaxHold (i : Fin 2)
  /-- CX_OGNT_DEASSERT, R230. -/
  | cxOgntDeassert
  /-- OGRANT_TIMEOUT, R230. -/
  | ograntTimeout
  /-- SENSE_SLOT, R239. -/
  | senseSlot (a0 : SenseConv) (a1 : SenseConv)
  /-- SENSE_SEQUENCE_END, R243. -/
  | senseSequenceEnd
  /-- INJECTED_CONVERSION, R247. -/
  | injectedConversion (c : Fin 2) (a : SenseConv) (k : Fin 1536)
  /-- SNS_CAL_STEP, R248. -/
  | snsCalStep (c : Fin 2) (r : CalResult)
  /-- SNS_CAL_DUE, R248. -/
  | snsCalDue (c : Fin 2) (temp : Int)
  /-- CLR_FLOOR_TRIP, R187. -/
  | clrFloorTrip (d : Fin 256)
  /-- NRS_TRIP, R181. -/
  | nrsTrip (w : Fin 16)
  /-- EMS_TRIP, R181. -/
  | emsTrip (w : Fin 16)
  /-- SPUR_TRIP, R189. -/
  | spurTrip (step : Nat)
  /-- PROT_HOLD_RELEASE, R184. -/
  | protHoldRelease (kind : Fin 8) (cls : Fin 3) (target : Fin 256)
  /-- DATUM_TICK_TIMEOUT, R35. -/
  | datumTickTimeout
  /-- DATUM_RESTART, R180. -/
  | datumRestart
  /-- DATUM_RESTART_DONE, R180. -/
  | datumRestartDone
  /-- FAULT_EVENT, R288. -/
  | faultEvent (events : List FaultEv)
  /-- FAULT_CLEARANCE, R296. -/
  | faultClearance (source : Fin 512)
  /-- PAIR_INVALID, R287. -/
  | pairInvalid (source : Fin 512)
  /-- FAULT_REACTION, R290. -/
  | faultReaction
  /-- ESC_INTERVAL_END, R288. -/
  | escIntervalEnd (source : Fin 512)
  /-- ALERT_PULSE_END, R293. -/
  | alertPulseEnd
  /-- SYN_LOCK, R205. -/
  | synLock (syn : Fin 8)
  /-- SYN_SETTLED, R207. -/
  | synSettled (syn : Fin 8)
  /-- SYN_UNLOCK, R206. -/
  | synUnlock (syn : Fin 8)
  /-- LOCK_ATTEMPT_TIMEOUT, R206. -/
  | lockAttemptTimeout (syn : Fin 8)
  /-- TX_PENDING_TIMEOUT, R207. -/
  | txPendingTimeout (n : Fin 16)
  /-- REF_INVALID, R202. -/
  | refInvalid (second : Bool)
  /-- REF_REVERT, R202. -/
  | refRevert
  /-- HOLDOVER_LONG, R202. -/
  | holdoverLong
  /-- PPS_EDGE, R211. -/
  | ppsEdge (off : Fin 1536)
  /-- TDD_RESULT_TIMEOUT, R211. -/
  | tddResultTimeout
  /-- TDD_HOLDOVER_EXPIRY, R211. -/
  | tddHoldoverExpiry
  /-- TDD_STEP, R212. -/
  | tddStep
  /-- SEGMENT_START, R215. -/
  | segmentStart (w : Fin 16) (off : Fin 1536)
  /-- PATTERN_CHANGE, R214. -/
  | patternChange (w : Fin 16)
  /-- GUARD_WAIT_END, R217. -/
  | guardWaitEnd (w : Fin 16) (off : Fin 1536)
  /-- RFFE_SEQUENCE_START, R220. -/
  | rffeSequenceStart (master : Fin 4) (seq : Fin 16) (instant : Nat) (off : Fin 1536)
  /-- RFFE_SEQUENCE_END, R220. -/
  | rffeSequenceEnd (master : Fin 4) (data : Word) (parity : Bool)
  /-- RECORD_OFFER, R306. -/
  | recordOffer (r : Record)
  /-- RECORD_WRITE, R310. -/
  | recordWrite (failures : Nat)
  /-- DROPS_OFFER, R308. -/
  | dropsOffer
  /-- NONCE_LAPSE, R318. -/
  | nonceLapse
  /-- AUTH_BUSY_END, R319. -/
  | authBusyEnd
  /-- FI_UNLOCK_LAPSE, R298. -/
  | fiUnlockLapse
  /-- DRAM_UE, R286. -/
  | dramUe (ch : Fin 4) (entry : Option Nat)
  /-- DRAM_CMD_TIMEOUT, R286. -/
  | dramCmdTimeout (ch : Fin 4)
  /-- LOCKSTEP_MISMATCH, R34. -/
  | lockstepMismatch
  /-- FAILOVER_TAKEOVER, R259. -/
  | failoverTakeover
  /-- WARM_RESTART_DONE, R344. -/
  | warmRestartDone (ok : Bool)
  /-- VIN_VALID, R362. -/
  | vinValid
  /-- RAILS_READY, R362. -/
  | railsReady (sel : Fin 4)
  /-- VIN_LOSS, R362. -/
  | vinLoss
  /-- VIN_LOW, R362. -/
  | vinLow (mv : Fin 2700)
  /-- RESET_N_ASSERT, R366. -/
  | resetNAssert
  /-- RESET_N_RELEASE, R338. -/
  | resetNRelease (sel : Fin 4)
  /-- DATUM_ORDERED_START, R338. -/
  | datumOrderedStart (sel : Fin 4)
  /-- ROM_BOOT_DONE, R338. -/
  | romBootDone (ms : Nat) (trained : Nat) (ref1 : Nat) (ref2 : Nat) (mainOk : Bool) (spareOk : Bool)
  /-- IMAGE_VERIFY_DONE, R339. -/
  | imageVerifyDone (img : BootImage)
  /-- START_CAL_DONE, R341. -/
  | startCalDone (rx : List (Nat × CalResult)) (tx : List (Nat × CalResult)) (sns : List (Nat × CalResult))
  /-- SKETCH_ENTRY, R341. -/
  | sketchEntry
  /-- TRAINING_RAMP, R342. -/
  | trainingRamp
  /-- FULL_ENTRY, R343. -/
  | fullEntry
  /-- START_FAIL_TIMEOUT, R346. -/
  | startFailTimeout
  /-- FAIL_COUNT_CLEAR, R346. -/
  | failCountClear
  /-- FREEZE_N_ASSERT, R348. -/
  | freezeNAssert
  /-- PERST_N_ASSERT, R370. -/
  | perstNAssert
  /-- PERST_N_DEASSERT, R370. -/
  | perstNDeassert (width : Fin 5) (speed : Fin 5) (master : Bool)
  /-- PCI_LINK, R301. -/
  | pciLink
  /-- INSET_SEL, R350. -/
  | insetSel (region : Fin 256) (word : Nat)
  /-- INSET_READ, R350. -/
  | insetRead (raw : Word) (ue : Bool)
  /-- INSET_STAT, R350. -/
  | insetStat
  /-- EXTEST, R373. -/
  | extest (pins : List Bool) (data : List Bool)
  /-- SAMPLE_PRELOAD, R373. -/
  | samplePreload (pins : List Bool) (data : List Bool)
  /-- BYPASS, R373. -/
  | bypass (bits : List Bool)
  /-- TEST_LOGIC_RESET, R373. -/
  | testLogicReset
  /-- PERIODIC_REPLAN_DUE, R351. -/
  | periodicReplanDue
  /-- REPLAN_DONE, R351. -/
  | replanDone (used : List Nat)
  /-- AGE_CANARY, R352. -/
  | ageCanary (k : Fin 48)
  /-- RECAL_DUE, R55. -/
  | recalDue (n : Fin 16) (tx : Bool)
  /-- IMAGE_WRITE_DONE, R339. -/
  | imageWriteDone (img : BootImage)
  /-- COUNTER_WRAP, R325. -/
  | counterWrap (i : Fin 384) (n : Nat)
  /-- LINK_L0_RETURN, R370. -/
  | linkL0Return (width : Fin 5) (speed : Fin 5) (master : Bool)
  deriving DecidableEq, Repr

end Sys2Proof
end

