-- ==== Sys2Proof/Machine/Crypto.lean ====
section
/-!
DEFINITION. The checks over bytes that the chapters name: the CRC-32 and CRC-16 of 06_track_atlas_and_position.md R117, SHA-256
and HMAC-SHA-256 (16_field_book.md R319, 18_startup_freeze_ageing.md R339) and ECDSA over P-256 (R339). The spec names the last
three by their standards and does not print them: PRESUMED, log entry 10. Bytes are numbers below 256.
-/

namespace Sys2Proof.Machine

/-! ### CRC -/

/-- Eight steps of the reflected CRC-32 register. -/
def crc32Bits : Nat → Nat → Nat
  | 0, r => r
  | k + 1, r => crc32Bits k (if r % 2 = 1 then (r / 2) ^^^ 0xEDB88320 else r / 2)

/-- The CRC-32 register after a list of bytes. -/
def crc32From (r : Nat) (bs : List Nat) : Nat := bs.foldl (fun r b => crc32Bits 8 (r ^^^ b % 256)) r

/-- CRC-32 of R117. -/
def crc32 (bs : List Nat) : Nat := crc32From 0xFFFFFFFF bs ^^^ 0xFFFFFFFF

/-- Eight steps of the CRC-16 register. -/
def crc16Bits : Nat → Nat → Nat
  | 0, r => r
  | k + 1, r => crc16Bits k ((if 0x8000 ≤ r then (2 * r) ^^^ 0x1021 else 2 * r) % 0x10000)

/-- CRC-16 of R117: polynomial 0x1021, initial value 0xFFFF, not reflected, no final XOR. -/
def crc16 (bs : List Nat) : Nat := bs.foldl (fun r b => crc16Bits 8 (r ^^^ (b % 256) * 256)) 0xFFFF

/-- The four bytes of a word, least significant first. -/
def wordBytes (w : Word) : List Nat :=
  let n := w.toNat
  [n % 256, n / 256 % 256, n / 65536 % 256, n / 16777216 % 256]

/-- CRC-32 of a list of words, each as four bytes, least significant first (R280); 0 for an empty set. -/
def crcWords (ws : List Word) : Word := if ws.isEmpty then 0 else BitVec.ofNat 32 (crc32 (ws.flatMap wordBytes))

/-! ### SHA-256 -/

/-- Narrowing to 32 bits. -/
def low32 (n : Nat) : Nat := n % 2 ^ 32

/-- Exclusive or of a 32-bit value turned right by each of a list of amounts. -/
def turned (n : Nat) (by_ : List Nat) : Nat := by_.foldl (fun a k => a ^^^ (n / 2 ^ k + n % 2 ^ k * 2 ^ (32 - k))) 0

/-- The integer part of the `k`-th root of `n`, found bit by bit from bit `b` down. -/
def rootFrom (k n : Nat) : Nat → Nat → Nat
  | 0, r => r
  | b + 1, r => rootFrom k n b (if (r + 2 ^ b) ^ k ≤ n then r + 2 ^ b else r)

/-- The first 32 bits of the fractional part of the `k`-th root of `p`. -/
def rootFraction (k p : Nat) : Nat := low32 (rootFrom k (p * 2 ^ (32 * k)) 40 0)

/-- The primes below 312, of which there are 64. -/
def shaPrimes : List Nat := (List.range 312).filter fun p => decide (2 ≤ p) && (List.range p).all fun d => decide (d < 2) || p % d != 0

/-- The constants of the 64 steps, from the cube roots of the primes; the value before the first block, from the square roots of the first
eight, as its two halves. -/
def shaSteps : List Nat := shaPrimes.map (rootFraction 3)

/-- A hash value: its first four words and its last four. -/
structure ShaHash where
  upper : List Nat
  lower : List Nat
  deriving DecidableEq, Repr

def shaStart : ShaHash := ⟨(shaPrimes.take 4).map (rootFraction 2), ((shaPrimes.drop 4).take 4).map (rootFraction 2)⟩

/-- The schedule `w`, latest word first, after `k` more words. -/
def shaExtend : Nat → List Nat → List Nat
  | 0, w => w
  | k + 1, w =>
    let near := w.getD 1 0
    let far := w.getD 14 0
    shaExtend k (low32 ((turned near [17, 19] ^^^ near / 1024) + w.getD 6 0 + (turned far [7, 18] ^^^ far / 8) + w.getD 15 0) :: w)

/-- One step: every word moves on by a place, the one that leaves the lower half feeds both halves. -/
def shaStep (v : ShaHash) (add : Nat) : ShaHash :=
  let u := fun i => v.upper.getD i 0
  let l := fun i => v.lower.getD i 0
  let choice := (l 0 &&& l 1) + (maskOff (l 0) &&& l 2)
  let most := (u 0 &&& (u 1 ||| u 2)) ||| (u 1 &&& u 2)
  let t := l 3 + turned (l 0) [6, 11, 25] + choice + add
  ⟨low32 (t + turned (u 0) [2, 13, 22] + most) :: v.upper.take 3, low32 (u 3 + t) :: v.lower.take 3⟩
where
  /-- The 32 bits inverted. -/
  maskOff (n : Nat) : Nat := 2 ^ 32 - 1 - n

/-- The number that big-endian bytes spell. -/
def beNat (bs : List Nat) : Nat := bs.foldl (fun a b => a * 256 + b % 256) 0

/-- The big-endian bytes of a number. -/
def beBytes (n len : Nat) : List Nat := (List.range len).map fun i => n / 2 ^ (8 * (len - 1 - i)) % 256

/-- The hash value after a block of 64 bytes. -/
def shaAbsorb (v : ShaHash) (block : List Nat) : ShaHash :=
  let words := (List.range 16).map fun i => beNat ((block.drop (4 * i)).take 4)
  let sched := (shaExtend 48 words.reverse).reverse
  let w := ((shaSteps.zip sched).map fun p => p.1 + p.2).foldl shaStep v
  let sum := fun (a b : List Nat) => (a.zip b).map fun p => low32 (p.1 + p.2)
  ⟨sum v.upper w.upper, sum v.lower w.lower⟩

/-- SHA-256 of a list of bytes, as 32 bytes: the message is followed by a one bit, zeros, and its length in bits in the last eight bytes of
the last block. -/
def sha256 (m : List Nat) : List Nat :=
  let fill := (119 - m.length % 64) % 64
  let text := m ++ 0x80 :: (List.replicate fill 0 ++ beBytes (8 * m.length) 8)
  let v := (List.range (text.length / 64)).foldl (fun v i => shaAbsorb v ((text.drop (64 * i)).take 64)) shaStart
  (v.upper ++ v.lower).flatMap fun w => beBytes w 4

/-- HMAC-SHA-256 with a key of at most 64 bytes. -/
def hmac256 (key msg : List Nat) : List Nat :=
  let k := key ++ List.replicate (64 - key.length) 0
  sha256 (k.map (fun b => b ^^^ 0x5C) ++ sha256 (k.map (fun b => b ^^^ 0x36) ++ msg))

/-! ### ECDSA over P-256 -/

/-- The field prime of P-256. -/
def p256P : Nat := 0xFFFFFFFF00000001000000000000000000000000FFFFFFFFFFFFFFFFFFFFFFFF

/-- The group order of P-256. -/
def p256N : Nat := 0xFFFFFFFF00000000FFFFFFFFFFFFFFFFBCE6FAADA7179E84F3B9CAC2FC632551

/-- The constant b of P-256 (a = −3). -/
def p256B : Nat := 0x5AC635D8AA3A93E7B3EBBD55769886BC651D06B0CC53B0F63BCE3C3E27D2604B

/-- The base point of P-256. -/
def p256G : Nat × Nat :=
  (0x6B17D1F2E12C4247F8BCE6E563A440F277037D812DEB33A0F4A13945D898C296,
   0x4FE342E2FE1A7F9B8EE7EB4A7C0F9E162BCE33576B315ECECBB6406837BF51F5)

/-- Modular power, the exponent's bits taken from the top: `k` bits. -/
def powMod (b e m : Nat) : Nat → Nat
  | 0 => 1 % m
  | k + 1 => powMod (b * b % m) (e / 2) m k * (if e % 2 = 1 then b else 1) % m

/-- The inverse modulo a prime below 2^256. -/
def invMod (a p : Nat) : Nat := powMod (a % p) (p - 2) p 256

/-- A point of the curve; none is the point at infinity. -/
abbrev Point := Option (Nat × Nat)

/-- Point addition on P-256. -/
def p256Add (a b : Point) : Point :=
  match a, b with
  | none, q => q
  | q, none => q
  | some (x1, y1), some (x2, y2) =>
    if x1 = x2 ∧ (y1 + y2) % p256P = 0 then none
    else
      let l := if x1 = x2 then (3 * x1 * x1 + (p256P - 3)) * invMod (2 * y1) p256P % p256P
        else (y2 + p256P - y1) * invMod (x2 + p256P - x1) p256P % p256P
      let x3 := (l * l + 2 * p256P - x1 - x2) % p256P
      some (x3, (l * (x1 + p256P - x3) + p256P - y1) % p256P)

/-- Scalar multiplication: `k` bits of the scalar. -/
def p256Mul (n : Nat) (q : Point) : Nat → Point
  | 0 => none
  | k + 1 => p256Add (p256Mul (n / 2) (p256Add q q) k) (if n % 2 = 1 then q else none)

/-- A point lies on P-256. -/
def p256On (x y : Nat) : Bool :=
  decide (x < p256P) && decide (y < p256P) && decide (y * y % p256P = (x * x * x + (p256P - 3) * x + p256B) % p256P)

/-- ECDSA verification: the signature is r then s, the key X then Y, each 32 bytes big-endian; the digest is SHA-256. -/
def ecdsaVerify (pubkey sig digest : List Nat) : Bool :=
  let x := beNat (pubkey.take 32)
  let y := beNat ((pubkey.drop 32).take 32)
  let r := beNat (sig.take 32)
  let s := beNat ((sig.drop 32).take 32)
  let z := beNat digest
  if !p256On x y || r = 0 || s = 0 || p256N ≤ r || p256N ≤ s then false
  else
    let w := invMod s p256N
    match p256Add (p256Mul (z * w % p256N) (some p256G) 256) (p256Mul (r * w % p256N) (some (x, y)) 256) with
    | some (px, _) => px % p256N == r
    | none => false

end Sys2Proof.Machine
end

