-- ==== Sys2Proof/Config.lean ====
section
/-!
DEFINITION. What an implementation fixes and the free values: constants without a body, so that no proof can lean on a number.
Each is named in the assumption log.
-/

namespace Sys2Proof.Config

/-- The Datum core's random source (16_field_book.md R318), one word per draw: a free value, log entry 7. -/
opaque random : Nat → Word

/-- Level, in 1/512 dB, that a sense code of a forward or reflected detector stands for (09_network_protection.md R190): the spec states
return loss in dB and no law of the external detectors; a free value, log entry 67. -/
opaque detectorLevel : Nat → Int

/-- A subband sample of a TX lane's benchmark pilot (08_clearance_and_contour_supervision.md R161): by lane, subband, place in the lane's
sequence of period 2^31 − 1, and level in 1/256 dBFS; the spec gives neither the sequences' polynomial and seeds nor the law from chips to
samples: a free value, log entry 126. -/
opaque pilotSample : Nat → Nat → Nat → Int → Int × Int

/-- The sample that takes the place of a discarded one where its input has no accepted sample yet (12_sense_converters.md R241): the
spec names none; a free value, one per draw, log entry 80. -/
opaque senseSample : Nat → BitVec 16

/-- What the correction of an RX lane adds to the scaled code at an instant, with 16 fraction bits (02_lanes_and_converters.md R43): by lane,
instant, the coefficient sets in force and the lane's run-coded slice codes; the spec prints no law of it; a free value, log entry 122. -/
opaque correction : Nat → Nat → List (Nat × Nat) → List (Nat × Int × Int) → Int × Int

/-- The calibrated inverse of a lane's gain step, by lane, gain index and number of its calibrations, 16 fraction bits (R42): a free value,
log entry 122. -/
opaque stepInverse : Nat → Nat → Nat → Int

/-- Cycles of a block's clock in a grid tick, by block code and grid tick, where Table 1.11 gives no integral number or names no clock for
the block (counter event 0x01): a free value, log entry 82. -/
opaque blockCycles : Nat → Nat → Nat

/-- Place of a capture slot in DRAM (17_performance_counters.md Table 17.11, CAPTURE_STATUS words 7 to 10), which the spec leaves to the
part: a free value, log entry 84. -/
opaque captureMap : Nat → Word

/-- A captured sample that the environment did not present (R334): by grid tick of arming and key; a free value, log entry
84. -/
opaque captureSample : Nat → Nat → Word

/-- Samples that a capture with trigger 3 keeps after its trigger, until freeze stops it (R335): Table 18.5 gives a typical time only; a
free value, log entry 84. -/
opaque freezeSamples : Nat → Nat

/-- The DRAM channel of the Chart heap, which holds the Field Book's shadow (R310): the spec names none; a free value, log entry
130. -/
opaque heapChannel : Fin 4

/-- The dummy word that the service SPI returns before the first word read (R267): the spec gives it no value; a free value, one per
draw, log entry 7. -/
opaque spiDummy : Nat → Word

/-- Which T3 word of a block the scrubber reaches next (R279, R299): the spec gives no order of visit; a free value, one per
draw, log entries 7 and 32. -/
opaque scrubPick : Nat → Nat

/-- The ID and index words that name the contested target of an order which is no Legend element (R265): the spec gives such a target no
ID; free values, by target, log entry 42. -/
opaque targetId : Nat → BitVec 16

opaque targetIndex : Nat → BitVec 16

end Sys2Proof.Config
end

