-- ==== Sys2Proof/Machine/Regs.lean ====
section
/-!
DEFINITION. The register table of the part: for every register of spec/00 to 19 its BAR2 offset, strides and counts, and for
every field its bits, access code and reset value (the field tables of the chapters; 14_register_interface.md for the
common registers). `Reg` holds the registers, `Fd` the fields.
-/

namespace Sys2Proof.Machine

/-- Base access codes, 00_scope.md R17, Table 0.4. -/
inductive Acc where
  | rw | ro | rc | wp | rwe
  deriving DecidableEq, Repr

/-- One field of a register: its lowest bit, its width, its access code with the T3 and SW qualifiers, and its reset value. -/
structure FieldDesc where
  lsb : Nat
  width : Nat
  acc : Acc
  t3 : Bool
  sw : Bool
  reset : Nat
  deriving DecidableEq, Repr

/-- Registers whose reset value depends on the index: the table that gives it. -/
inductive ResetRule where
  | uniform
  | orderJ    -- CON.ORDER[j] resets to j, Table 7.11
  | mbcfg     -- MBX.MBCFG[m].LEVEL, Table 13.1
  | scfg      -- FLT.SCFG[s], Table 15.1 and Table 9.2
  | hold      -- FLT.HOLD[k], prot.hold and prot.retry
  | evsel     -- PMC.EVSEL[c], Table 17.1
  | blkId     -- BLK_ID, Table 14.2
  deriving DecidableEq, Repr

/-- A register, or an array of them with one or two indices: BAR2 offset of the first, stride and count of each index. -/
structure RegDesc where
  base : Nat
  stride : Nat
  count : Nat
  stride2 : Nat
  count2 : Nat
  rule : ResetRule
  fields : List FieldDesc
  deriving DecidableEq, Repr

/-- BAR2 offset of element (i, j) of a register. -/
def RegDesc.off (r : RegDesc) (i j : Nat) : Nat := r.base + r.stride * i + r.stride2 * j

/-- A named field: its register, lowest bit and width. -/
structure Fld where
  reg : RegDesc
  lsb : Nat
  width : Nat
  deriving DecidableEq, Repr

namespace Reg

/-- SYS.GT_SEC, 01_architecture_and_cadence.md Table 1.5. -/
def SYS_GT_SEC : RegDesc := ⟨0x40, 0x0, 1, 0, 1, .uniform, [
  ⟨0, 20, .ro, false, false, 0⟩]⟩
/-- SYS.OP_SEC, 01_architecture_and_cadence.md Table 1.6. -/
def SYS_OP_SEC : RegDesc := ⟨0x44, 0x0, 1, 0, 1, .uniform, [
  ⟨0, 32, .ro, false, false, 0⟩]⟩
/-- SYS.PWR_CYC, 01_architecture_and_cadence.md Table 1.7. -/
def SYS_PWR_CYC : RegDesc := ⟨0x48, 0x0, 1, 0, 1, .uniform, [
  ⟨0, 24, .ro, false, false, 0⟩]⟩
/-- SYS.SHEET_CNT, 01_architecture_and_cadence.md Table 1.8. -/
def SYS_SHEET_CNT : RegDesc := ⟨0x4c, 0x0, 1, 0, 1, .uniform, [
  ⟨0, 32, .ro, false, false, 0⟩]⟩
/-- LANE.CTL, 02_lanes_and_converters.md Table 2.10. -/
def LANE_CTL : RegDesc := ⟨0x4040, 0x400, 16, 0, 1, .uniform, [
  ⟨7, 1, .rwe, false, false, 0⟩,
  ⟨6, 1, .rwe, false, false, 0⟩,
  ⟨5, 1, .rwe, false, false, 0⟩,
  ⟨4, 1, .rwe, false, false, 0⟩,
  ⟨1, 1, .rw, true, false, 0⟩,
  ⟨0, 1, .rw, true, false, 0⟩]⟩
/-- LANE.RX_GAIN, 02_lanes_and_converters.md Table 2.11. -/
def LANE_RX_GAIN : RegDesc := ⟨0x4044, 0x400, 16, 0, 1, .uniform, [
  ⟨16, 6, .ro, false, false, 0⟩,
  ⟨8, 6, .rw, true, false, 0x27⟩,
  ⟨0, 6, .ro, false, false, 0⟩]⟩
/-- LANE.RX_FAST, 02_lanes_and_converters.md Table 2.12. -/
def LANE_RX_FAST : RegDesc := ⟨0x4048, 0x400, 16, 0, 1, .uniform, [
  ⟨19, 1, .rw, false, false, 1⟩,
  ⟨16, 3, .rw, false, false, 3⟩,
  ⟨12, 4, .rw, false, false, 6⟩,
  ⟨0, 12, .rw, false, false, 0x10⟩]⟩
/-- LANE.RX_STAT, 02_lanes_and_converters.md Table 2.13. -/
def LANE_RX_STAT : RegDesc := ⟨0x404c, 0x400, 16, 0, 1, .uniform, [
  ⟨7, 1, .rc, false, false, 0⟩,
  ⟨6, 1, .ro, false, false, 0⟩,
  ⟨5, 1, .rc, false, false, 0⟩,
  ⟨4, 1, .rc, false, false, 0⟩,
  ⟨0, 1, .rc, false, false, 0⟩]⟩
/-- LANE.RX_CLIPCNT, 02_lanes_and_converters.md Table 2.14. -/
def LANE_RX_CLIPCNT : RegDesc := ⟨0x4050, 0x400, 16, 0, 1, .uniform, [
  ⟨0, 32, .rc, false, false, 0⟩]⟩
/-- LANE.RX_PWR, 02_lanes_and_converters.md Table 2.15. -/
def LANE_RX_PWR : RegDesc := ⟨0x4054, 0x400, 16, 0, 1, .uniform, [
  ⟨16, 16, .ro, false, false, 0x8000⟩,
  ⟨0, 16, .ro, false, false, 0x8000⟩]⟩
/-- LANE.TX_ATTEN, 02_lanes_and_converters.md Table 2.16. -/
def LANE_TX_ATTEN : RegDesc := ⟨0x4058, 0x400, 16, 0, 1, .uniform, [
  ⟨0, 6, .rw, false, false, 0x3f⟩]⟩
/-- LANE.TX_MUTE, 02_lanes_and_converters.md Table 2.17. -/
def LANE_TX_MUTE : RegDesc := ⟨0x405c, 0x400, 16, 0, 1, .uniform, [
  ⟨9, 1, .ro, false, false, 0⟩,
  ⟨8, 1, .ro, false, false, 1⟩,
  ⟨5, 1, .ro, false, false, 0⟩,
  ⟨4, 1, .ro, true, false, 0⟩,
  ⟨3, 1, .ro, false, false, 0⟩,
  ⟨2, 1, .ro, false, false, 0⟩,
  ⟨1, 1, .ro, false, false, 1⟩,
  ⟨0, 1, .rw, false, false, 0⟩]⟩
/-- LANE.CORR_CTL, 02_lanes_and_converters.md Table 2.18. -/
def LANE_CORR_CTL : RegDesc := ⟨0x4064, 0x400, 16, 0, 1, .uniform, [
  ⟨8, 4, .rw, false, false, 0xf⟩,
  ⟨0, 4, .rw, false, false, 0xf⟩]⟩
/-- LANE.CAL_CTL, 02_lanes_and_converters.md Table 2.19. -/
def LANE_CAL_CTL : RegDesc := ⟨0x406c, 0x400, 16, 0, 1, .uniform, [
  ⟨1, 1, .wp, false, false, 0⟩,
  ⟨0, 1, .wp, false, false, 0⟩]⟩
/-- LANE.CAL_STAT, 02_lanes_and_converters.md Table 2.20. -/
def LANE_CAL_STAT : RegDesc := ⟨0x4070, 0x400, 16, 0, 1, .uniform, [
  ⟨16, 4, .ro, false, false, 0⟩,
  ⟨12, 4, .ro, false, false, 0⟩,
  ⟨1, 1, .ro, false, false, 0⟩,
  ⟨0, 1, .ro, false, false, 0⟩]⟩
/-- CHN.TBL_SEL, 03_channeliser_windows_routes.md Table 3.21. -/
def CHN_TBL_SEL : RegDesc := ⟨0xa040, 0x0, 1, 0, 1, .uniform, [
  ⟨28, 4, .rw, false, false, 0⟩,
  ⟨24, 4, .rw, false, false, 0⟩,
  ⟨23, 1, .rw, false, false, 0⟩,
  ⟨22, 1, .rw, false, false, 0⟩,
  ⟨0, 11, .rw, false, false, 0⟩]⟩
/-- CHN.TBL_DATA, 03_channeliser_windows_routes.md Table 3.22. -/
def CHN_TBL_DATA : RegDesc := ⟨0xa044, 0x0, 1, 0, 1, .uniform, [
  ⟨0, 32, .rw, false, false, 0⟩]⟩
/-- CHN.TBL_STAT, 03_channeliser_windows_routes.md Table 3.23. -/
def CHN_TBL_STAT : RegDesc := ⟨0xa048, 0x0, 1, 0, 1, .uniform, [
  ⟨2, 1, .rc, false, false, 0⟩,
  ⟨1, 1, .rc, false, false, 0⟩,
  ⟨0, 1, .rc, false, false, 0⟩]⟩
/-- CHN.WCTL, 03_channeliser_windows_routes.md Table 3.10. -/
def CHN_WCTL : RegDesc := ⟨0xa100, 0x40, 16, 0, 1, .uniform, [
  ⟨31, 1, .wp, false, false, 0⟩,
  ⟨29, 2, .rw, false, false, 1⟩,
  ⟨20, 4, .rwe, false, false, 0⟩,
  ⟨19, 1, .rwe, false, false, 0⟩,
  ⟨18, 1, .rwe, false, false, 0⟩,
  ⟨16, 2, .rwe, false, false, 0⟩,
  ⟨12, 1, .rwe, false, false, 0⟩,
  ⟨8, 2, .rwe, false, false, 0⟩,
  ⟨1, 1, .ro, true, false, 0⟩,
  ⟨0, 1, .rw, true, false, 0⟩]⟩
/-- CHN.WLANE, 03_channeliser_windows_routes.md Table 3.12. -/
def CHN_WLANE : RegDesc := ⟨0xa104, 0x40, 16, 0, 1, .uniform, [
  ⟨12, 4, .rwe, false, false, 0⟩,
  ⟨8, 4, .rwe, false, false, 0⟩,
  ⟨4, 4, .rwe, false, false, 0⟩,
  ⟨0, 4, .rwe, false, false, 0⟩]⟩
/-- CHN.WRX, 03_channeliser_windows_routes.md Table 3.13. -/
def CHN_WRX : RegDesc := ⟨0xa108, 0x40, 16, 0, 1, .uniform, [
  ⟨16, 11, .rwe, false, false, 0⟩,
  ⟨0, 11, .rwe, false, false, 0⟩]⟩
/-- CHN.WTX, 03_channeliser_windows_routes.md Table 3.14. -/
def CHN_WTX : RegDesc := ⟨0xa10c, 0x40, 16, 0, 1, .uniform, [
  ⟨0, 11, .rwe, false, false, 0⟩]⟩
/-- CHN.WEDGE_LO, 03_channeliser_windows_routes.md Table 3.15. -/
def CHN_WEDGE_LO : RegDesc := ⟨0xa110, 0x40, 16, 0, 1, .uniform, [
  ⟨0, 20, .rwe, false, false, 0⟩]⟩
/-- CHN.WEDGE_HI, 03_channeliser_windows_routes.md Table 3.15. -/
def CHN_WEDGE_HI : RegDesc := ⟨0xa114, 0x40, 16, 0, 1, .uniform, [
  ⟨0, 20, .rwe, false, false, 0⟩]⟩
/-- CHN.WDOM, 03_channeliser_windows_routes.md Table 3.16. -/
def CHN_WDOM : RegDesc := ⟨0xa118, 0x40, 16, 0, 1, .uniform, [
  ⟨0, 8, .rwe, false, false, 0⟩]⟩
/-- CHN.DOP_FREQ, 03_channeliser_windows_routes.md Table 3.17. -/
def CHN_DOP_FREQ : RegDesc := ⟨0xa11c, 0x40, 16, 0, 1, .uniform, [
  ⟨0, 18, .ro, false, false, 0⟩]⟩
/-- CHN.WSTAT, 03_channeliser_windows_routes.md Table 3.18. -/
def CHN_WSTAT : RegDesc := ⟨0xa120, 0x40, 16, 0, 1, .uniform, [
  ⟨16, 13, .ro, false, false, 0⟩,
  ⟨8, 4, .ro, false, false, 0⟩,
  ⟨5, 1, .ro, false, false, 0⟩,
  ⟨4, 1, .rc, false, false, 0⟩,
  ⟨3, 1, .ro, false, false, 0⟩,
  ⟨1, 1, .ro, false, false, 0⟩,
  ⟨0, 1, .ro, false, false, 0⟩]⟩
/-- CHN.BSEAL, 03_channeliser_windows_routes.md Table 3.19. -/
def CHN_BSEAL : RegDesc := ⟨0xa600, 0x8, 16, 4, 2, .uniform, [
  ⟨0, 32, .rw, true, false, 0⟩]⟩
/-- CHN.LPROF, 03_channeliser_windows_routes.md Table 3.20. -/
def CHN_LPROF : RegDesc := ⟨0xa700, 0x4, 16, 0, 1, .uniform, [
  ⟨7, 1, .ro, false, false, 0⟩,
  ⟨4, 2, .ro, false, false, 0⟩,
  ⟨3, 1, .ro, false, false, 0⟩,
  ⟨0, 2, .ro, false, false, 0⟩]⟩
/-- CAN.CTL, 04_echo_cancellation.md Table 4.8. -/
def CAN_CTL : RegDesc := ⟨0x10040, 0x0, 1, 0, 1, .uniform, [
  ⟨16, 4, .rw, true, false, 0xc⟩,
  ⟨1, 1, .rw, false, false, 1⟩,
  ⟨0, 1, .rw, true, false, 1⟩]⟩
/-- CAN.POOL_USED, 04_echo_cancellation.md Table 4.10. -/
def CAN_POOL_USED : RegDesc := ⟨0x10044, 0x0, 1, 0, 1, .uniform, [
  ⟨0, 23, .ro, false, false, 0⟩]⟩
/-- CAN.POOL_FREE, 04_echo_cancellation.md Table 4.10. -/
def CAN_POOL_FREE : RegDesc := ⟨0x10048, 0x0, 1, 0, 1, .uniform, [
  ⟨0, 23, .ro, false, false, 0x500000⟩]⟩
/-- CAN.LOAD, 04_echo_cancellation.md Table 4.11. -/
def CAN_LOAD : RegDesc := ⟨0x1004c, 0x0, 1, 0, 1, .uniform, [
  ⟨0, 11, .ro, false, false, 0x36⟩]⟩
/-- CAN.DIV_CFG, 04_echo_cancellation.md Table 4.12. -/
def CAN_DIV_CFG : RegDesc := ⟨0x10050, 0x0, 1, 0, 1, .uniform, [
  ⟨16, 8, .rw, true, false, 0x10⟩,
  ⟨12, 4, .rw, false, false, 2⟩,
  ⟨8, 4, .rw, false, false, 4⟩,
  ⟨4, 4, .rw, false, false, 3⟩]⟩
/-- CAN.CP_STAT, 04_echo_cancellation.md Table 4.13. -/
def CAN_CP_STAT : RegDesc := ⟨0x10054, 0x0, 1, 0, 1, .uniform, [
  ⟨16, 16, .ro, false, false, 0⟩,
  ⟨4, 4, .ro, false, false, 0⟩,
  ⟨2, 1, .ro, false, false, 0⟩,
  ⟨1, 1, .ro, false, false, 0⟩,
  ⟨0, 1, .ro, false, false, 0⟩]⟩
/-- CAN.AMAP_SEL, 04_echo_cancellation.md Table 4.14. -/
def CAN_AMAP_SEL : RegDesc := ⟨0x10058, 0x0, 1, 0, 1, .uniform, [
  ⟨0, 13, .rw, false, false, 0⟩]⟩
/-- CAN.AMAP_DATA, 04_echo_cancellation.md Table 4.14. -/
def CAN_AMAP_DATA : RegDesc := ⟨0x1005c, 0x0, 1, 0, 1, .uniform, [
  ⟨0, 32, .rw, false, true, 0⟩]⟩
/-- CAN.WBOOST, 04_echo_cancellation.md Table 4.15. -/
def CAN_WBOOST : RegDesc := ⟨0x10100, 0x4, 16, 0, 1, .uniform, [
  ⟨0, 8, .ro, false, false, 0x10⟩]⟩
/-- CAN.PCFG0, 04_echo_cancellation.md Table 4.16. -/
def CAN_PCFG0 : RegDesc := ⟨0x11000, 0x10, 256, 0, 1, .uniform, [
  ⟨31, 1, .rw, true, false, 0⟩,
  ⟨30, 1, .rwe, false, true, 0⟩,
  ⟨24, 4, .rwe, false, true, 0⟩,
  ⟨23, 1, .rwe, false, true, 0⟩,
  ⟨22, 1, .rwe, false, true, 0⟩,
  ⟨0, 11, .rwe, false, true, 0⟩]⟩
/-- CAN.PCFG1, 04_echo_cancellation.md Table 4.17. -/
def CAN_PCFG1 : RegDesc := ⟨0x11004, 0x10, 256, 0, 1, .uniform, [
  ⟨16, 11, .rwe, false, true, 0⟩,
  ⟨0, 11, .rwe, false, true, 0⟩]⟩
/-- CAN.PCFG2, 04_echo_cancellation.md Table 4.18. -/
def CAN_PCFG2 : RegDesc := ⟨0x11008, 0x10, 256, 0, 1, .uniform, [
  ⟨20, 10, .rwe, false, true, 0⟩,
  ⟨16, 4, .rwe, false, true, 0⟩,
  ⟨12, 3, .rwe, false, true, 2⟩,
  ⟨0, 5, .rw, false, true, 0x18⟩]⟩
/-- CAN.PCFG3, 04_echo_cancellation.md Table 4.19. -/
def CAN_PCFG3 : RegDesc := ⟨0x1100c, 0x10, 256, 0, 1, .uniform, [
  ⟨16, 16, .rw, false, true, 0x1000⟩,
  ⟨0, 6, .rw, false, true, 0x10⟩]⟩
/-- CAN.PSTAT, 04_echo_cancellation.md Table 4.20. -/
def CAN_PSTAT : RegDesc := ⟨0x12000, 0x10, 256, 0, 1, .uniform, [
  ⟨28, 4, .ro, false, false, 0⟩,
  ⟨23, 1, .ro, false, false, 0⟩,
  ⟨22, 1, .ro, false, false, 0⟩,
  ⟨21, 1, .ro, false, false, 0⟩,
  ⟨20, 1, .rc, false, false, 0⟩,
  ⟨19, 1, .rc, false, false, 0⟩,
  ⟨18, 1, .ro, false, false, 0⟩,
  ⟨17, 1, .ro, false, false, 0⟩]⟩
/-- CAN.PDEPTH, 04_echo_cancellation.md Table 4.21. -/
def CAN_PDEPTH : RegDesc := ⟨0x12004, 0x10, 256, 0, 1, .uniform, [
  ⟨16, 16, .ro, false, false, 0⟩,
  ⟨0, 16, .ro, false, false, 0⟩]⟩
/-- CAN.PROLL, 04_echo_cancellation.md Table 4.21. -/
def CAN_PROLL : RegDesc := ⟨0x12008, 0x10, 256, 0, 1, .uniform, [
  ⟨0, 16, .rc, false, false, 0⟩]⟩
/-- SVY.CTL, 05_surveyor_engines.md Table 5.7. -/
def SVY_CTL : RegDesc := ⟨0x18040, 0x0, 1, 0, 1, .uniform, [
  ⟨16, 1, .wp, false, false, 0⟩,
  ⟨8, 8, .rw, false, false, 0⟩,
  ⟨0, 1, .rw, false, false, 1⟩]⟩
/-- SVY.TICK_STAT, 05_surveyor_engines.md Table 5.8. -/
def SVY_TICK_STAT : RegDesc := ⟨0x18044, 0x0, 1, 0, 1, .uniform, [
  ⟨16, 16, .ro, false, false, 0⟩,
  ⟨8, 8, .ro, false, false, 0⟩,
  ⟨0, 8, .ro, false, false, 0⟩]⟩
/-- SVY.CLOSE_CNT, 05_surveyor_engines.md Table 5.9. -/
def SVY_CLOSE_CNT : RegDesc := ⟨0x18048, 0x0, 1, 0, 1, .uniform, [
  ⟨0, 32, .rc, false, false, 0⟩]⟩
/-- SVY.REEXEC_CNT, 05_surveyor_engines.md Table 5.9. -/
def SVY_REEXEC_CNT : RegDesc := ⟨0x1804c, 0x0, 1, 0, 1, .uniform, [
  ⟨0, 32, .rc, false, false, 0⟩]⟩
/-- SVY.SSTAT, 05_surveyor_engines.md Table 5.10. -/
def SVY_SSTAT : RegDesc := ⟨0x18050, 0x0, 1, 0, 1, .uniform, [
  ⟨31, 1, .ro, false, false, 1⟩,
  ⟨30, 1, .ro, false, false, 0⟩,
  ⟨16, 6, .ro, false, false, 0⟩,
  ⟨0, 9, .ro, false, false, 0⟩]⟩
/-- SVY.COVER, 05_surveyor_engines.md Table 5.11. -/
def SVY_COVER : RegDesc := ⟨0x18054, 0x0, 1, 0, 1, .uniform, [
  ⟨0, 32, .ro, false, false, 0xffffffff⟩]⟩
/-- SVY.TILES, 05_surveyor_engines.md Table 5.12. -/
def SVY_TILES : RegDesc := ⟨0x18058, 0x0, 1, 0, 1, .uniform, [
  ⟨16, 13, .ro, false, false, 0⟩,
  ⟨0, 13, .ro, false, false, 0⟩]⟩
/-- SVY.ENG_LOST, 05_surveyor_engines.md Table 5.13. -/
def SVY_ENG_LOST : RegDesc := ⟨0x18080, 0x4, 8, 0, 1, .uniform, [
  ⟨0, 32, .ro, false, false, 0⟩]⟩
/-- SVY.PSTATE, 05_surveyor_engines.md Table 5.14. -/
def SVY_PSTATE : RegDesc := ⟨0x18100, 0x10, 32, 0, 1, .uniform, [
  ⟨31, 1, .ro, false, false, 0⟩,
  ⟨30, 1, .ro, false, false, 0⟩,
  ⟨16, 4, .ro, false, false, 8⟩,
  ⟨0, 8, .ro, false, false, 0xff⟩]⟩
/-- SVY.PLOAD, 05_surveyor_engines.md Table 5.15. -/
def SVY_PLOAD : RegDesc := ⟨0x18104, 0x10, 32, 0, 1, .uniform, [
  ⟨16, 16, .ro, false, false, 0⟩,
  ⟨0, 16, .ro, false, false, 0⟩]⟩
/-- SVY.PMEM, 05_surveyor_engines.md Table 5.16. -/
def SVY_PMEM : RegDesc := ⟨0x18108, 0x10, 32, 0, 1, .uniform, [
  ⟨16, 15, .ro, false, false, 0x5000⟩,
  ⟨0, 15, .ro, false, false, 0⟩]⟩
/-- SVY.PECC, 05_surveyor_engines.md Table 5.17. -/
def SVY_PECC : RegDesc := ⟨0x1810c, 0x10, 32, 0, 1, .uniform, [
  ⟨16, 16, .rc, false, false, 0⟩,
  ⟨0, 16, .rc, false, false, 0⟩]⟩
/-- CON.CTL, 07_contour_engine.md Table 7.9. -/
def CON_CTL : RegDesc := ⟨0x20040, 0x0, 1, 0, 1, .uniform, [
  ⟨0, 1, .rw, true, false, 0⟩]⟩
/-- CON.SSTAT, 07_contour_engine.md Table 7.10. -/
def CON_SSTAT : RegDesc := ⟨0x20044, 0x0, 1, 0, 1, .uniform, [
  ⟨16, 16, .ro, false, false, 0⟩,
  ⟨8, 8, .ro, false, false, 0⟩,
  ⟨2, 1, .rc, false, false, 0⟩,
  ⟨1, 1, .rc, false, false, 0⟩]⟩
/-- CON.ORDER_LEN, 07_contour_engine.md Table 7.11. -/
def CON_ORDER_LEN : RegDesc := ⟨0x20048, 0x0, 1, 0, 1, .uniform, [
  ⟨0, 9, .rw, false, true, 0x100⟩]⟩
/-- CON.ST_SEL, 07_contour_engine.md Table 7.12. -/
def CON_ST_SEL : RegDesc := ⟨0x2004c, 0x0, 1, 0, 1, .uniform, [
  ⟨16, 11, .rw, false, false, 0⟩,
  ⟨0, 3, .rw, false, false, 0⟩]⟩
/-- CON.ST_DATA, 07_contour_engine.md Table 7.12. -/
def CON_ST_DATA : RegDesc := ⟨0x20050, 0x0, 1, 0, 1, .uniform, [
  ⟨0, 32, .ro, false, false, 0⟩]⟩
/-- CON.SUP_CTL, 08_clearance_and_contour_supervision.md Table 8.10. -/
def CON_SUP_CTL : RegDesc := ⟨0x20054, 0x0, 1, 0, 1, .uniform, [
  ⟨1, 1, .rw, true, false, 1⟩,
  ⟨0, 1, .rw, true, false, 1⟩]⟩
/-- CON.OSC_CFG, 08_clearance_and_contour_supervision.md Table 8.11. -/
def CON_OSC_CFG : RegDesc := ⟨0x20058, 0x0, 1, 0, 1, .uniform, [
  ⟨31, 1, .rw, true, false, 1⟩,
  ⟨16, 8, .rw, true, false, 0x30⟩,
  ⟨12, 2, .rw, true, false, 2⟩,
  ⟨0, 12, .rw, true, false, 0xd80⟩]⟩
/-- CON.WBASE, 07_contour_engine.md Table 7.14. -/
def CON_WBASE : RegDesc := ⟨0x20100, 0x4, 16, 0, 1, .uniform, [
  ⟨16, 16, .rw, false, false, 0⟩,
  ⟨0, 16, .rw, false, false, 0x60⟩]⟩
/-- CON.PCTL, 08_clearance_and_contour_supervision.md Table 8.12. -/
def CON_PCTL : RegDesc := ⟨0x20140, 0x8, 16, 0, 1, .uniform, [
  ⟨8, 5, .rw, false, false, 0x14⟩,
  ⟨0, 1, .rw, false, false, 1⟩]⟩
/-- CON.PSTAT, 08_clearance_and_contour_supervision.md Table 8.12. -/
def CON_PSTAT : RegDesc := ⟨0x20144, 0x8, 16, 0, 1, .uniform, [
  ⟨16, 16, .ro, false, false, 0x8000⟩,
  ⟨8, 8, .ro, false, false, 0⟩,
  ⟨0, 1, .ro, false, false, 0⟩]⟩
/-- CON.FSUM, 07_contour_engine.md Table 7.14. -/
def CON_FSUM : RegDesc := ⟨0x20200, 0x4, 48, 0, 1, .uniform, [
  ⟨0, 32, .ro, false, false, 0⟩]⟩
/-- CON.WLCTL, 08_clearance_and_contour_supervision.md Table 8.13. -/
def CON_WLCTL : RegDesc := ⟨0x202c0, 0x10, 16, 0, 1, .uniform, [
  ⟨2, 1, .rc, false, false, 0⟩,
  ⟨1, 1, .ro, false, false, 0⟩,
  ⟨0, 1, .wp, false, false, 0⟩]⟩
/-- CON.WLOOP, 08_clearance_and_contour_supervision.md Table 8.13. -/
def CON_WLOOP : RegDesc := ⟨0x202c4, 0x10, 16, 0, 1, .uniform, [
  ⟨16, 11, .ro, false, false, 0⟩,
  ⟨0, 11, .ro, false, false, 0⟩]⟩
/-- CON.WISO, 08_clearance_and_contour_supervision.md Table 8.13. -/
def CON_WISO : RegDesc := ⟨0x202c8, 0x10, 16, 0, 1, .uniform, [
  ⟨24, 8, .ro, false, false, 0⟩,
  ⟨16, 8, .ro, false, false, 0⟩,
  ⟨8, 8, .ro, false, false, 0⟩,
  ⟨0, 8, .ro, false, false, 0⟩]⟩
/-- CON.WOSC, 08_clearance_and_contour_supervision.md Table 8.13. -/
def CON_WOSC : RegDesc := ⟨0x202cc, 0x10, 16, 0, 1, .uniform, [
  ⟨16, 8, .ro, false, false, 1⟩,
  ⟨8, 8, .ro, false, false, 0⟩,
  ⟨1, 1, .ro, false, false, 0⟩,
  ⟨0, 1, .rc, false, false, 0⟩]⟩
/-- CON.ORDER, 07_contour_engine.md Table 7.11. -/
def CON_ORDER : RegDesc := ⟨0x20400, 0x4, 256, 0, 1, .orderJ, [
  ⟨0, 8, .rw, false, true, 0⟩]⟩
/-- CON.DCLR, 08_clearance_and_contour_supervision.md Table 8.14. -/
def CON_DCLR : RegDesc := ⟨0x20800, 0x8, 256, 0, 1, .uniform, [
  ⟨16, 16, .ro, false, false, 0x8000⟩,
  ⟨3, 1, .ro, false, false, 0⟩,
  ⟨2, 1, .ro, false, false, 0⟩,
  ⟨0, 2, .ro, false, false, 0⟩]⟩
/-- CON.DSUPST, 08_clearance_and_contour_supervision.md Table 8.14. -/
def CON_DSUPST : RegDesc := ⟨0x20804, 0x8, 256, 0, 1, .uniform, [
  ⟨31, 1, .ro, false, false, 0⟩,
  ⟨24, 6, .ro, false, false, 0⟩,
  ⟨16, 6, .ro, false, false, 0⟩,
  ⟨14, 2, .ro, false, false, 0⟩,
  ⟨8, 6, .ro, false, false, 0⟩,
  ⟨0, 8, .ro, false, false, 0⟩]⟩
/-- CON.DCTL, 07_contour_engine.md Table 7.15. -/
def CON_DCTL : RegDesc := ⟨0x21000, 0x10, 256, 0, 1, .uniform, [
  ⟨31, 1, .rw, true, false, 0⟩,
  ⟨30, 1, .rw, false, false, 1⟩,
  ⟨28, 2, .rw, false, false, 0⟩,
  ⟨16, 4, .ro, false, false, 0⟩,
  ⟨0, 16, .rw, false, false, 0⟩]⟩
/-- CON.GLIM, 07_contour_engine.md Table 7.16. -/
def CON_GLIM : RegDesc := ⟨0x21004, 0x10, 256, 0, 1, .uniform, [
  ⟨16, 16, .rw, true, false, 0⟩,
  ⟨0, 16, .rw, false, false, 0x8000⟩]⟩
/-- CON.GSAFE, 07_contour_engine.md Table 7.16. -/
def CON_GSAFE : RegDesc := ⟨0x21008, 0x10, 256, 0, 1, .uniform, [
  ⟨16, 16, .rw, true, false, 0xd800⟩,
  ⟨0, 16, .rw, false, false, 0x100⟩]⟩
/-- CON.GAPP, 07_contour_engine.md Table 7.17. -/
def CON_GAPP : RegDesc := ⟨0x2100c, 0x10, 256, 0, 1, .uniform, [
  ⟨16, 16, .ro, false, false, 0x8000⟩,
  ⟨15, 1, .ro, false, false, 1⟩,
  ⟨12, 3, .ro, false, false, 0⟩,
  ⟨8, 4, .ro, false, false, 0⟩,
  ⟨0, 8, .ro, false, false, 0⟩]⟩
/-- CON.CCFG0, 07_contour_engine.md Table 7.18. -/
def CON_CCFG0 : RegDesc := ⟨0x22000, 0x10, 1536, 0, 1, .uniform, [
  ⟨16, 16, .rw, false, false, 0⟩,
  ⟨0, 16, .rw, false, false, 0⟩]⟩
/-- CON.CCFG1, 07_contour_engine.md Table 7.18. -/
def CON_CCFG1 : RegDesc := ⟨0x22004, 0x10, 1536, 0, 1, .uniform, [
  ⟨16, 16, .rw, false, false, 0⟩,
  ⟨0, 16, .rw, false, false, 0⟩]⟩
/-- CON.CCFG2, 07_contour_engine.md Table 7.18. -/
def CON_CCFG2 : RegDesc := ⟨0x22008, 0x10, 1536, 0, 1, .uniform, [
  ⟨16, 16, .rw, false, false, 0⟩,
  ⟨0, 16, .rw, false, false, 0⟩]⟩
/-- CON.CCFG3, 07_contour_engine.md Table 7.18. -/
def CON_CCFG3 : RegDesc := ⟨0x2200c, 0x10, 1536, 0, 1, .uniform, [
  ⟨31, 1, .rw, false, false, 0⟩,
  ⟨24, 3, .rw, false, false, 0⟩,
  ⟨20, 3, .rw, false, false, 0⟩,
  ⟨16, 3, .rw, false, false, 0⟩,
  ⟨0, 15, .rw, false, false, 0x100⟩]⟩
/-- POS.CTL, 06_track_atlas_and_position.md Table 6.12. -/
def POS_CTL : RegDesc := ⟨0x28040, 0x0, 1, 0, 1, .uniform, [
  ⟨3, 1, .rw, true, false, 0⟩,
  ⟨2, 1, .rw, true, false, 0⟩,
  ⟨0, 2, .rwe, false, false, 0⟩]⟩
/-- POS.STAT, 06_track_atlas_and_position.md Table 6.13. -/
def POS_STAT : RegDesc := ⟨0x28044, 0x0, 1, 0, 1, .uniform, [
  ⟨16, 8, .ro, false, false, 0⟩,
  ⟨11, 1, .ro, false, false, 0⟩,
  ⟨10, 1, .rc, false, false, 0⟩,
  ⟨9, 1, .rc, false, false, 0⟩,
  ⟨8, 1, .rc, false, false, 0⟩,
  ⟨7, 1, .rc, false, false, 0⟩,
  ⟨6, 1, .ro, false, false, 0⟩,
  ⟨5, 1, .ro, false, false, 0⟩,
  ⟨4, 1, .rc, false, false, 0⟩,
  ⟨0, 4, .ro, false, false, 0⟩]⟩
/-- POS.ROUTE, 06_track_atlas_and_position.md Table 6.14. -/
def POS_ROUTE : RegDesc := ⟨0x28048, 0x0, 1, 0, 1, .uniform, [
  ⟨28, 1, .ro, false, false, 0⟩,
  ⟨16, 12, .ro, false, false, 0⟩,
  ⟨0, 16, .ro, false, false, 0⟩]⟩
/-- POS.CHAIN, 06_track_atlas_and_position.md Table 6.14. -/
def POS_CHAIN : RegDesc := ⟨0x2804c, 0x0, 1, 0, 1, .uniform, [
  ⟨0, 32, .ro, false, false, 0⟩]⟩
/-- POS.SIGMA, 06_track_atlas_and_position.md Table 6.14. -/
def POS_SIGMA : RegDesc := ⟨0x28050, 0x0, 1, 0, 1, .uniform, [
  ⟨0, 32, .ro, false, false, 0xffffffff⟩]⟩
/-- POS.SPEED, 06_track_atlas_and_position.md Table 6.14. -/
def POS_SPEED : RegDesc := ⟨0x28054, 0x0, 1, 0, 1, .uniform, [
  ⟨0, 32, .ro, false, false, 0⟩]⟩
/-- POS.LEAD, 06_track_atlas_and_position.md Table 6.14. -/
def POS_LEAD : RegDesc := ⟨0x28060, 0x0, 1, 0, 1, .uniform, [
  ⟨0, 32, .ro, false, false, 0⟩]⟩
/-- POS.WALK, 06_track_atlas_and_position.md Table 6.15. -/
def POS_WALK : RegDesc := ⟨0x28058, 0x0, 1, 0, 1, .uniform, [
  ⟨31, 1, .ro, false, false, 0⟩,
  ⟨24, 4, .ro, false, false, 0⟩,
  ⟨0, 21, .ro, false, false, 0⟩]⟩
/-- POS.ATLAS, 06_track_atlas_and_position.md Table 6.16. -/
def POS_ATLAS : RegDesc := ⟨0x2805c, 0x0, 1, 0, 1, .uniform, [
  ⟨5, 1, .ro, false, false, 0⟩,
  ⟨4, 1, .ro, false, false, 0⟩,
  ⟨3, 1, .ro, false, false, 0⟩,
  ⟨2, 1, .ro, false, false, 0⟩,
  ⟨1, 1, .ro, false, false, 0⟩,
  ⟨0, 1, .ro, false, false, 0⟩]⟩
/-- POS.TCFG, 06_track_atlas_and_position.md Table 6.17. -/
def POS_TCFG : RegDesc := ⟨0x28080, 0x8, 2, 0, 1, .uniform, [
  ⟨31, 1, .rw, false, false, 0⟩,
  ⟨30, 1, .rwe, false, true, 0⟩,
  ⟨29, 1, .ro, false, false, 0⟩,
  ⟨16, 11, .rwe, false, true, 0x64⟩,
  ⟨0, 8, .rwe, false, true, 0xa⟩]⟩
/-- POS.TDIAM, 06_track_atlas_and_position.md Table 6.18. -/
def POS_TDIAM : RegDesc := ⟨0x28084, 0x8, 2, 0, 1, .uniform, [
  ⟨16, 16, .rwe, false, true, 0x3980⟩,
  ⟨0, 16, .ro, false, false, 0x3980⟩]⟩
/-- POS.PRES, 06_track_atlas_and_position.md Table 6.19. -/
def POS_PRES : RegDesc := ⟨0x280a0, 0x4, 8, 0, 1, .uniform, [
  ⟨31, 1, .rw, false, true, 0⟩,
  ⟨30, 1, .rwe, false, true, 0⟩,
  ⟨29, 1, .rwe, false, true, 0⟩,
  ⟨28, 1, .ro, false, false, 0⟩,
  ⟨24, 4, .rwe, false, true, 2⟩,
  ⟨0, 24, .rwe, false, true, 0⟩]⟩
/-- POS.WREL, 06_track_atlas_and_position.md Table 6.20. -/
def POS_WREL : RegDesc := ⟨0x28100, 0x10, 16, 0, 1, .uniform, [
  ⟨16, 8, .ro, false, false, 0⟩,
  ⟨0, 8, .ro, false, false, 0⟩]⟩
/-- POS.WLIM, 06_track_atlas_and_position.md Table 6.20. -/
def POS_WLIM : RegDesc := ⟨0x28104, 0x10, 16, 0, 1, .uniform, [
  ⟨26, 1, .ro, false, false, 0⟩,
  ⟨25, 1, .ro, false, false, 0⟩,
  ⟨24, 1, .ro, false, false, 0⟩,
  ⟨8, 8, .ro, false, false, 0⟩,
  ⟨0, 8, .ro, false, false, 0x80⟩]⟩
/-- POS.WTAG, 06_track_atlas_and_position.md Table 6.21. -/
def POS_WTAG : RegDesc := ⟨0x28108, 0x10, 16, 4, 2, .uniform, [
  ⟨31, 1, .rw, true, false, 0⟩,
  ⟨16, 12, .rw, false, false, 0⟩,
  ⟨0, 12, .rw, false, false, 0⟩]⟩
/-- SYN.REF_CTL, 10_synthesisers_lane_states_tdd.md Table 10.15. -/
def SYN_REF_CTL : RegDesc := ⟨0x8040, 0x0, 1, 0, 1, .uniform, [
  ⟨10, 2, .rw, false, false, 0⟩,
  ⟨9, 1, .rw, true, false, 1⟩,
  ⟨8, 1, .rw, false, false, 1⟩]⟩
/-- SYN.REF_STAT, 10_synthesisers_lane_states_tdd.md Table 10.15. -/
def SYN_REF_STAT : RegDesc := ⟨0x8044, 0x0, 1, 0, 1, .uniform, [
  ⟨16, 16, .ro, false, false, 0⟩,
  ⟨10, 3, .ro, false, false, 0⟩,
  ⟨7, 3, .ro, false, false, 0⟩,
  ⟨4, 1, .ro, false, false, 0⟩,
  ⟨3, 1, .ro, false, false, 0⟩,
  ⟨2, 1, .ro, false, false, 0⟩,
  ⟨0, 2, .ro, false, false, 0⟩]⟩
/-- SYN.GSTAT, 10_synthesisers_lane_states_tdd.md Table 10.15. -/
def SYN_GSTAT : RegDesc := ⟨0x8048, 0x0, 1, 0, 1, .uniform, [
  ⟨1, 1, .rc, false, false, 0⟩,
  ⟨0, 1, .rc, false, false, 0⟩]⟩
/-- SYN.SCFG, 10_synthesisers_lane_states_tdd.md Table 10.15. -/
def SYN_SCFG : RegDesc := ⟨0x8080, 0x8, 8, 0, 1, .uniform, [
  ⟨0, 23, .rw, false, false, 0⟩]⟩
/-- SYN.SSTAT, 10_synthesisers_lane_states_tdd.md Table 10.15. -/
def SYN_SSTAT : RegDesc := ⟨0x8084, 0x8, 8, 0, 1, .uniform, [
  ⟨24, 8, .rc, false, false, 0⟩,
  ⟨2, 2, .ro, false, false, 0⟩,
  ⟨1, 1, .ro, false, false, 0⟩,
  ⟨0, 1, .ro, false, false, 0⟩]⟩
/-- SYN.LSRC, 10_synthesisers_lane_states_tdd.md Table 10.15. -/
def SYN_LSRC : RegDesc := ⟨0x8100, 0x8, 16, 0, 1, .uniform, [
  ⟨7, 1, .rwe, false, false, 0⟩,
  ⟨4, 3, .rwe, false, false, 0⟩,
  ⟨3, 1, .rwe, false, false, 0⟩,
  ⟨0, 3, .rwe, false, false, 0⟩]⟩
/-- SYN.LSTATE, 10_synthesisers_lane_states_tdd.md Table 10.15. -/
def SYN_LSTATE : RegDesc := ⟨0x8104, 0x8, 16, 0, 1, .uniform, [
  ⟨16, 12, .ro, false, false, 0⟩,
  ⟨8, 3, .ro, false, false, 0⟩,
  ⟨7, 1, .rw, false, false, 0⟩,
  ⟨4, 3, .ro, false, false, 0⟩,
  ⟨0, 3, .ro, false, false, 0⟩]⟩
/-- TDD.CTL, 10_synthesisers_lane_states_tdd.md Table 10.17. -/
def TDD_CTL : RegDesc := ⟨0x2c040, 0x0, 1, 0, 1, .uniform, [
  ⟨8, 5, .rw, false, false, 0⟩,
  ⟨1, 1, .rw, false, false, 0⟩,
  ⟨0, 1, .rw, true, false, 0⟩]⟩
/-- TDD.STAT, 10_synthesisers_lane_states_tdd.md Table 10.17. -/
def TDD_STAT : RegDesc := ⟨0x2c044, 0x0, 1, 0, 1, .uniform, [
  ⟨16, 16, .ro, false, false, 0⟩,
  ⟨0, 3, .ro, false, false, 0⟩]⟩
/-- TDD.FRAME, 10_synthesisers_lane_states_tdd.md Table 10.17. -/
def TDD_FRAME : RegDesc := ⟨0x2c048, 0x0, 1, 0, 1, .uniform, [
  ⟨0, 24, .ro, false, false, 0⟩]⟩
/-- TDD.TOFF, 10_synthesisers_lane_states_tdd.md Table 10.17. -/
def TDD_TOFF : RegDesc := ⟨0x2c04c, 0x0, 1, 0, 1, .uniform, [
  ⟨0, 32, .rw, false, false, 0⟩]⟩
/-- TDD.PPS_OFF, 10_synthesisers_lane_states_tdd.md Table 10.17. -/
def TDD_PPS_OFF : RegDesc := ⟨0x2c050, 0x0, 1, 0, 1, .uniform, [
  ⟨0, 32, .rw, false, false, 0⟩]⟩
/-- TDD.GUARD, 10_synthesisers_lane_states_tdd.md Table 10.17. -/
def TDD_GUARD : RegDesc := ⟨0x2c054, 0x0, 1, 0, 1, .uniform, [
  ⟨0, 16, .rw, true, false, 0x7d0⟩]⟩
/-- TDD.WTDD, 10_synthesisers_lane_states_tdd.md Table 10.17. -/
def TDD_WTDD : RegDesc := ⟨0x2c100, 0x4, 16, 0, 1, .uniform, [
  ⟨16, 12, .ro, false, false, 0⟩,
  ⟨1, 1, .ro, false, false, 0⟩,
  ⟨0, 1, .ro, false, false, 0⟩]⟩
/-- TDD.FCFG, 10_synthesisers_lane_states_tdd.md Table 10.17. -/
def TDD_FCFG : RegDesc := ⟨0x2c200, 0x8, 32, 0, 1, .uniform, [
  ⟨29, 3, .rw, false, true, 0⟩,
  ⟨28, 1, .rw, false, true, 0⟩,
  ⟨27, 1, .rw, false, false, 0⟩,
  ⟨26, 1, .ro, false, false, 0⟩,
  ⟨25, 1, .rc, false, false, 0⟩,
  ⟨16, 4, .rw, false, true, 0⟩,
  ⟨0, 15, .rw, false, true, 0⟩]⟩
/-- TDD.FTIM, 10_synthesisers_lane_states_tdd.md Table 10.17. -/
def TDD_FTIM : RegDesc := ⟨0x2c204, 0x8, 32, 0, 1, .uniform, [
  ⟨0, 15, .rw, false, true, 0⟩]⟩
/-- TDD.RCTL, 10_synthesisers_lane_states_tdd.md Table 10.17. -/
def TDD_RCTL : RegDesc := ⟨0x2c400, 0x20, 4, 0, 1, .uniform, [
  ⟨31, 1, .rw, false, false, 0⟩,
  ⟨30, 1, .wp, false, false, 0⟩,
  ⟨0, 14, .rw, false, false, 0x12⟩]⟩
/-- TDD.RSTAT, 10_synthesisers_lane_states_tdd.md Table 10.17. -/
def TDD_RSTAT : RegDesc := ⟨0x2c404, 0x20, 4, 0, 1, .uniform, [
  ⟨16, 8, .rc, false, false, 0⟩,
  ⟨8, 4, .ro, false, false, 0⟩,
  ⟨1, 1, .rc, false, false, 0⟩,
  ⟨0, 1, .ro, false, false, 0⟩]⟩
/-- TDD.RSEQ_SEL, 10_synthesisers_lane_states_tdd.md Table 10.17. -/
def TDD_RSEQ_SEL : RegDesc := ⟨0x2c408, 0x20, 4, 0, 1, .uniform, [
  ⟨0, 8, .rw, false, false, 0⟩]⟩
/-- TDD.RSEQ_DATA, 10_synthesisers_lane_states_tdd.md Table 10.17. -/
def TDD_RSEQ_DATA : RegDesc := ⟨0x2c40c, 0x20, 4, 0, 1, .uniform, [
  ⟨0, 32, .rw, false, true, 0⟩]⟩
/-- TDD.RDATA, 10_synthesisers_lane_states_tdd.md Table 10.17. -/
def TDD_RDATA : RegDesc := ⟨0x2c410, 0x20, 4, 0, 1, .uniform, [
  ⟨0, 32, .ro, false, false, 0⟩]⟩
/-- RCE.CTL, 11_recce_receiver_and_coexistence.md Table 11.11. -/
def RCE_CTL : RegDesc := ⟨0x2e040, 0x0, 1, 0, 1, .uniform, [
  ⟨4, 2, .rw, false, false, 0⟩,
  ⟨0, 1, .rw, true, false, 0⟩]⟩
/-- RCE.STAT, 11_recce_receiver_and_coexistence.md Table 11.11. -/
def RCE_STAT : RegDesc := ⟨0x2e044, 0x0, 1, 0, 1, .uniform, [
  ⟨16, 16, .ro, false, false, 0⟩,
  ⟨14, 2, .ro, false, false, 0⟩,
  ⟨8, 5, .ro, false, false, 0⟩,
  ⟨7, 1, .ro, false, false, 0⟩,
  ⟨0, 3, .ro, false, false, 0⟩]⟩
/-- RCE.LISTEN, 11_recce_receiver_and_coexistence.md Table 11.11. -/
def RCE_LISTEN : RegDesc := ⟨0x2e048, 0x0, 1, 0, 1, .uniform, [
  ⟨16, 16, .ro, false, false, 0x8000⟩]⟩
/-- RCE.JCFG0, 11_recce_receiver_and_coexistence.md Table 11.11. -/
def RCE_JCFG0 : RegDesc := ⟨0x2e100, 0x20, 32, 0, 1, .uniform, [
  ⟨28, 4, .rw, false, true, 0⟩,
  ⟨26, 2, .rw, false, true, 0⟩,
  ⟨24, 2, .rw, false, true, 0⟩,
  ⟨22, 2, .rw, false, true, 0⟩,
  ⟨19, 3, .rw, false, true, 2⟩,
  ⟨0, 16, .rw, false, true, 0⟩]⟩
/-- RCE.JCFG1, 11_recce_receiver_and_coexistence.md Table 11.11. -/
def RCE_JCFG1 : RegDesc := ⟨0x2e104, 0x20, 32, 0, 1, .uniform, [
  ⟨0, 23, .rw, false, true, 0⟩]⟩
/-- RCE.JRES0, 11_recce_receiver_and_coexistence.md Table 11.11. -/
def RCE_JRES0 : RegDesc := ⟨0x2e108, 0x20, 32, 0, 1, .uniform, [
  ⟨16, 16, .ro, false, false, 0x8000⟩,
  ⟨10, 6, .ro, false, false, 0⟩,
  ⟨0, 10, .ro, false, false, 0⟩]⟩
/-- RCE.JRES1, 11_recce_receiver_and_coexistence.md Table 11.11. -/
def RCE_JRES1 : RegDesc := ⟨0x2e10c, 0x20, 32, 0, 1, .uniform, [
  ⟨0, 24, .ro, false, false, 0⟩]⟩
/-- RCE.JRES2, 11_recce_receiver_and_coexistence.md Table 11.11. -/
def RCE_JRES2 : RegDesc := ⟨0x2e110, 0x20, 32, 0, 1, .uniform, [
  ⟨28, 4, .ro, false, false, 0⟩,
  ⟨26, 2, .ro, false, false, 0⟩,
  ⟨0, 16, .ro, false, false, 0⟩]⟩
/-- RCE.CXCFG, 11_recce_receiver_and_coexistence.md Table 11.11. -/
def RCE_CXCFG : RegDesc := ⟨0x2e600, 0x10, 2, 0, 1, .uniform, [
  ⟨31, 1, .rw, true, false, 0⟩,
  ⟨30, 1, .rw, false, true, 0⟩,
  ⟨29, 1, .rw, false, true, 1⟩,
  ⟨0, 16, .rw, false, true, 0⟩]⟩
/-- RCE.CXFR, 11_recce_receiver_and_coexistence.md Table 11.11. -/
def RCE_CXFR : RegDesc := ⟨0x2e604, 0x10, 2, 0, 1, .uniform, [
  ⟨0, 16, .rw, false, true, 0⟩]⟩
/-- RCE.CXSTAT, 11_recce_receiver_and_coexistence.md Table 11.11. -/
def RCE_CXSTAT : RegDesc := ⟨0x2e608, 0x10, 2, 0, 1, .uniform, [
  ⟨31, 1, .ro, false, false, 0⟩,
  ⟨30, 1, .ro, false, false, 0⟩,
  ⟨29, 1, .ro, false, false, 0⟩,
  ⟨28, 1, .ro, false, false, 0⟩,
  ⟨8, 8, .ro, false, false, 0⟩,
  ⟨0, 8, .rc, false, false, 0⟩]⟩
/-- SNS.CTL, 12_sense_converters.md Table 12.9. -/
def SNS_CTL : RegDesc := ⟨0x30040, 0x0, 1, 0, 1, .uniform, [
  ⟨3, 1, .wp, false, false, 0⟩,
  ⟨2, 1, .wp, false, false, 0⟩,
  ⟨1, 1, .wp, false, false, 0⟩,
  ⟨0, 1, .rw, true, false, 0⟩]⟩
/-- SNS.STAT, 12_sense_converters.md Table 12.9. -/
def SNS_STAT : RegDesc := ⟨0x30044, 0x0, 1, 0, 1, .uniform, [
  ⟨24, 8, .ro, false, false, 0⟩,
  ⟨16, 8, .rc, false, false, 0⟩,
  ⟨7, 1, .ro, false, false, 0⟩,
  ⟨6, 1, .ro, false, false, 0⟩,
  ⟨5, 1, .ro, false, false, 0⟩,
  ⟨4, 1, .ro, false, false, 0⟩,
  ⟨0, 4, .ro, false, false, 0⟩]⟩
/-- SNS.CHK, 12_sense_converters.md Table 12.9. -/
def SNS_CHK : RegDesc := ⟨0x30048, 0x0, 1, 0, 1, .uniform, [
  ⟨16, 16, .ro, false, false, 0⟩,
  ⟨0, 16, .ro, false, false, 0⟩]⟩
/-- SNS.CAL_STAT, 12_sense_converters.md Table 12.9. -/
def SNS_CAL_STAT : RegDesc := ⟨0x3004c, 0x0, 1, 0, 1, .uniform, [
  ⟨28, 4, .ro, false, false, 0⟩,
  ⟨24, 4, .ro, false, false, 0⟩]⟩
/-- SNS.INJ_REQ, 12_sense_converters.md Table 12.9. -/
def SNS_INJ_REQ : RegDesc := ⟨0x30050, 0x0, 1, 0, 1, .uniform, [
  ⟨31, 1, .wp, false, false, 0⟩,
  ⟨30, 1, .rw, false, false, 0⟩,
  ⟨0, 6, .rw, false, false, 0⟩]⟩
/-- SNS.OVR, 12_sense_converters.md Table 12.9. -/
def SNS_OVR : RegDesc := ⟨0x3005c, 0x0, 1, 0, 1, .uniform, [
  ⟨0, 32, .rc, false, false, 0⟩]⟩
/-- SNS.CAL_CFG, 12_sense_converters.md Table 12.9. -/
def SNS_CAL_CFG : RegDesc := ⟨0x30060, 0x0, 1, 0, 1, .uniform, [
  ⟨16, 16, .rw, false, true, 0x3c⟩,
  ⟨8, 8, .rw, false, true, 0xa⟩,
  ⟨0, 8, .rw, false, true, 0x18⟩]⟩
/-- SNS.INJ_RES, 12_sense_converters.md Table 12.9. -/
def SNS_INJ_RES : RegDesc := ⟨0x30054, 0x4, 2, 0, 1, .uniform, [
  ⟨31, 1, .rc, false, false, 0⟩,
  ⟨30, 1, .ro, false, false, 0⟩,
  ⟨29, 1, .ro, false, false, 0⟩,
  ⟨28, 1, .ro, false, false, 0⟩,
  ⟨16, 6, .ro, false, false, 0⟩,
  ⟨0, 16, .ro, false, false, 0⟩]⟩
/-- SNS.BSEAL, 12_sense_converters.md Table 12.9. -/
def SNS_BSEAL : RegDesc := ⟨0x30064, 0x4, 2, 0, 1, .uniform, [
  ⟨0, 32, .rw, true, false, 0⟩]⟩
/-- SNS.INJ_TIME, 12_sense_converters.md Table 12.9. -/
def SNS_INJ_TIME : RegDesc := ⟨0x30070, 0x4, 2, 0, 1, .uniform, [
  ⟨0, 20, .ro, false, false, 0⟩]⟩
/-- SNS.SEQ, 12_sense_converters.md Table 12.9. -/
def SNS_SEQ : RegDesc := ⟨0x30200, 0x200, 2, 0, 1, .uniform, [
  ⟨16, 8, .rw, false, true, 1⟩,
  ⟨8, 5, .rw, false, true, 2⟩,
  ⟨0, 1, .rw, false, true, 0⟩]⟩
/-- SNS.ENTRY, 12_sense_converters.md Table 12.9. -/
def SNS_ENTRY : RegDesc := ⟨0x30240, 0x200, 2, 4, 32, .uniform, [
  ⟨6, 1, .rw, false, true, 0⟩,
  ⟨0, 6, .rw, false, true, 0⟩]⟩
/-- SNS.FILT, 12_sense_converters.md Table 12.9. -/
def SNS_FILT : RegDesc := ⟨0x30300, 0x200, 2, 4, 32, .uniform, [
  ⟨4, 2, .rw, false, true, 0⟩,
  ⟨0, 3, .rw, false, true, 1⟩]⟩
/-- SNS.RES, 12_sense_converters.md Table 12.9. -/
def SNS_RES : RegDesc := ⟨0x30600, 0x4, 32, 0, 1, .uniform, [
  ⟨31, 1, .ro, false, false, 0⟩,
  ⟨30, 1, .ro, false, false, 0⟩,
  ⟨29, 1, .ro, false, false, 0⟩,
  ⟨28, 1, .ro, false, false, 0⟩,
  ⟨0, 16, .ro, false, false, 0⟩]⟩
/-- MBX.MBCFG, 13_chart_mailbox_protocol.md Table 13.17. -/
def MBX_MBCFG : RegDesc := ⟨0x1040, 0x4, 20, 0, 1, .mbcfg, [
  ⟨8, 2, .rw, false, false, 0⟩,
  ⟨1, 1, .rw, false, false, 1⟩,
  ⟨0, 1, .rw, true, false, 1⟩]⟩
/-- MBX.LOCK, 13_chart_mailbox_protocol.md Table 13.17. -/
def MBX_LOCK : RegDesc := ⟨0x10a0, 0x0, 1, 0, 1, .uniform, [
  ⟨31, 1, .ro, false, false, 0⟩,
  ⟨16, 5, .ro, false, false, 0⟩,
  ⟨0, 12, .ro, false, false, 0⟩]⟩
/-- MBX.NMASK, 13_chart_mailbox_protocol.md Table 13.17. -/
def MBX_NMASK : RegDesc := ⟨0x10a4, 0x0, 1, 0, 1, .uniform, [
  ⟨0, 16, .rw, false, false, 0xffff⟩]⟩
/-- MBX.CSTAT, 13_chart_mailbox_protocol.md Table 13.17. -/
def MBX_CSTAT : RegDesc := ⟨0x10a8, 0x0, 1, 0, 1, .uniform, [
  ⟨31, 1, .ro, false, false, 0⟩,
  ⟨30, 1, .ro, false, false, 0⟩,
  ⟨29, 1, .ro, false, false, 0⟩,
  ⟨16, 8, .ro, false, false, 0⟩,
  ⟨0, 16, .rc, false, false, 0⟩]⟩
/-- MBX.NQ, 13_chart_mailbox_protocol.md Table 13.17. -/
def MBX_NQ : RegDesc := ⟨0x10ac, 0x0, 1, 0, 1, .uniform, [
  ⟨16, 16, .rc, false, false, 0⟩,
  ⟨0, 7, .ro, false, false, 0⟩]⟩
/-- PCI.SPI_RD, 14_register_interface.md Table 14.7. -/
def PCI_SPI_RD : RegDesc := ⟨0x2040, 0x0, 1, 0, 1, .uniform, [
  ⟨0, 2, .rw, true, false, 2⟩]⟩
/-- PCI.LNK_STAT, 14_register_interface.md Table 14.7. -/
def PCI_LNK_STAT : RegDesc := ⟨0x2044, 0x0, 1, 0, 1, .uniform, [
  ⟨16, 4, .ro, false, false, 0⟩,
  ⟨0, 4, .ro, false, false, 0⟩]⟩
/-- DRC.CSTAT, 14_register_interface.md Table 14.8. -/
def DRC_CSTAT : RegDesc := ⟨0x3c100, 0x10, 4, 0, 1, .uniform, [
  ⟨31, 1, .ro, false, false, 0⟩,
  ⟨30, 1, .ro, false, false, 0⟩,
  ⟨29, 1, .ro, false, false, 0⟩,
  ⟨0, 1, .rw, false, false, 1⟩]⟩
/-- DRC.CECC, 14_register_interface.md Table 14.8. -/
def DRC_CECC : RegDesc := ⟨0x3c104, 0x10, 4, 0, 1, .uniform, [
  ⟨16, 16, .rc, false, false, 0⟩,
  ⟨0, 16, .rc, false, false, 0⟩]⟩
/-- FLT.CTL, 15_faults_redundancy_guarantees.md Table 15.11. -/
def FLT_CTL : RegDesc := ⟨0x34040, 0x0, 1, 0, 1, .uniform, [
  ⟨4, 2, .rw, true, false, 1⟩,
  ⟨0, 1, .rw, false, false, 1⟩]⟩
/-- FLT.STAT, 15_faults_redundancy_guarantees.md Table 15.11. -/
def FLT_STAT : RegDesc := ⟨0x34044, 0x0, 1, 0, 1, .uniform, [
  ⟨16, 16, .ro, false, false, 0⟩,
  ⟨12, 2, .ro, false, false, 0⟩,
  ⟨11, 1, .ro, false, false, 0⟩,
  ⟨0, 11, .ro, false, false, 0⟩]⟩
/-- FLT.ALERT, 15_faults_redundancy_guarantees.md Table 15.11. -/
def FLT_ALERT : RegDesc := ⟨0x34048, 0x0, 1, 0, 1, .uniform, [
  ⟨31, 1, .ro, false, false, 0⟩,
  ⟨30, 1, .ro, false, false, 0⟩,
  ⟨0, 1, .rw, false, false, 0⟩]⟩
/-- FLT.FIRST, 15_faults_redundancy_guarantees.md Table 15.11. -/
def FLT_FIRST : RegDesc := ⟨0x3404c, 0x0, 1, 0, 1, .uniform, [
  ⟨31, 1, .ro, false, false, 0⟩,
  ⟨24, 2, .ro, false, false, 0⟩,
  ⟨17, 1, .ro, false, false, 0⟩,
  ⟨16, 1, .ro, false, false, 0⟩,
  ⟨0, 10, .ro, false, false, 0⟩]⟩
/-- FLT.FIRST_SEC, 15_faults_redundancy_guarantees.md Table 15.11. -/
def FLT_FIRST_SEC : RegDesc := ⟨0x34050, 0x0, 1, 0, 1, .uniform, [
  ⟨0, 32, .ro, false, false, 0⟩]⟩
/-- FLT.FIRST_GT, 15_faults_redundancy_guarantees.md Table 15.11. -/
def FLT_FIRST_GT : RegDesc := ⟨0x34054, 0x0, 1, 0, 1, .uniform, [
  ⟨0, 20, .ro, false, false, 0⟩]⟩
/-- FLT.FIRST_PC, 15_faults_redundancy_guarantees.md Table 15.11. -/
def FLT_FIRST_PC : RegDesc := ⟨0x34058, 0x0, 1, 0, 1, .uniform, [
  ⟨0, 24, .ro, false, false, 0⟩]⟩
/-- FLT.FIRST_CNT, 15_faults_redundancy_guarantees.md Table 15.11. -/
def FLT_FIRST_CNT : RegDesc := ⟨0x3405c, 0x0, 1, 0, 1, .uniform, [
  ⟨0, 10, .ro, false, false, 0⟩]⟩
/-- FLT.FI_POLICY, 15_faults_redundancy_guarantees.md Table 15.11. -/
def FLT_FI_POLICY : RegDesc := ⟨0x34060, 0x0, 1, 0, 1, .uniform, [
  ⟨31, 1, .ro, false, false, 0⟩,
  ⟨0, 2, .rw, true, false, 1⟩]⟩
/-- FLT.FI_STAT, 15_faults_redundancy_guarantees.md Table 15.11. -/
def FLT_FI_STAT : RegDesc := ⟨0x34064, 0x0, 1, 0, 1, .uniform, [
  ⟨31, 1, .ro, false, false, 0⟩,
  ⟨16, 8, .ro, false, false, 0⟩,
  ⟨0, 10, .ro, false, false, 0⟩]⟩
/-- FLT.SNAP_CFG, 15_faults_redundancy_guarantees.md Table 15.11. -/
def FLT_SNAP_CFG : RegDesc := ⟨0x34068, 0x0, 1, 0, 1, .uniform, [
  ⟨31, 1, .rw, false, false, 0⟩,
  ⟨8, 6, .rw, false, false, 0⟩,
  ⟨0, 6, .rw, false, false, 0⟩]⟩
/-- FLT.SAMECYC, 15_faults_redundancy_guarantees.md Table 15.11. -/
def FLT_SAMECYC : RegDesc := ⟨0x34080, 0x4, 16, 0, 1, .uniform, [
  ⟨0, 32, .ro, false, false, 0⟩]⟩
/-- FLT.ACTIVE, 15_faults_redundancy_guarantees.md Table 15.11. -/
def FLT_ACTIVE : RegDesc := ⟨0x340c0, 0x4, 16, 0, 1, .uniform, [
  ⟨0, 32, .ro, false, false, 0⟩]⟩
/-- FLT.SCFG, 15_faults_redundancy_guarantees.md Table 15.11. -/
def FLT_SCFG : RegDesc := ⟨0x35000, 0x4, 512, 0, 1, .scfg, [
  ⟨30, 2, .rw, true, false, 0⟩,
  ⟨28, 2, .rw, true, false, 0⟩,
  ⟨27, 1, .rw, true, false, 0⟩,
  ⟨26, 1, .rw, true, false, 0⟩,
  ⟨25, 1, .rw, true, false, 0⟩,
  ⟨16, 8, .rw, true, false, 0⟩,
  ⟨0, 16, .rw, true, false, 0x1f40⟩]⟩
/-- FLT.SSTAT, 15_faults_redundancy_guarantees.md Table 15.11. -/
def FLT_SSTAT : RegDesc := ⟨0x35800, 0x4, 512, 0, 1, .uniform, [
  ⟨31, 1, .ro, false, false, 0⟩,
  ⟨30, 1, .ro, false, false, 0⟩,
  ⟨29, 1, .ro, false, false, 0⟩,
  ⟨28, 1, .ro, false, false, 0⟩,
  ⟨27, 1, .ro, false, false, 0⟩,
  ⟨26, 1, .ro, false, false, 0⟩,
  ⟨24, 2, .ro, false, false, 0⟩,
  ⟨16, 8, .ro, false, false, 0⟩,
  ⟨0, 16, .ro, false, false, 0⟩]⟩
/-- FLT.CLR_SEC, 15_faults_redundancy_guarantees.md Table 15.11. -/
def FLT_CLR_SEC : RegDesc := ⟨0x37000, 0x8, 512, 0, 1, .uniform, [
  ⟨0, 32, .ro, false, false, 0⟩]⟩
/-- FLT.CLR_GT, 15_faults_redundancy_guarantees.md Table 15.11. -/
def FLT_CLR_GT : RegDesc := ⟨0x37004, 0x8, 512, 0, 1, .uniform, [
  ⟨0, 20, .ro, false, false, 0⟩]⟩
/-- FLT.PCTL, 09_network_protection.md Table 9.9. -/
def FLT_PCTL : RegDesc := ⟨0x36000, 0x0, 1, 0, 1, .uniform, [
  ⟨1, 5, .rw, true, false, 0x1f⟩]⟩
/-- FLT.PSTAT, 09_network_protection.md Table 9.9. -/
def FLT_PSTAT : RegDesc := ⟨0x36004, 0x0, 1, 0, 1, .uniform, [
  ⟨31, 1, .ro, false, false, 0⟩,
  ⟨30, 1, .ro, false, false, 0⟩,
  ⟨21, 5, .ro, false, false, 0⟩,
  ⟨16, 5, .ro, false, false, 0⟩,
  ⟨0, 9, .ro, false, false, 0⟩]⟩
/-- FLT.THR_CLR, 09_network_protection.md Table 9.9. -/
def FLT_THR_CLR : RegDesc := ⟨0x36010, 0x0, 1, 0, 1, .uniform, [
  ⟨16, 16, .rw, true, false, 0x600⟩,
  ⟨0, 4, .rw, true, false, 2⟩]⟩
/-- FLT.THR_NRS, 09_network_protection.md Table 9.9. -/
def FLT_THR_NRS : RegDesc := ⟨0x36014, 0x0, 1, 0, 1, .uniform, [
  ⟨16, 16, .rw, true, false, 0x600⟩,
  ⟨0, 8, .rw, true, false, 8⟩]⟩
/-- FLT.THR_EMS, 09_network_protection.md Table 9.9. -/
def FLT_THR_EMS : RegDesc := ⟨0x36018, 0x0, 1, 0, 1, .uniform, [
  ⟨16, 16, .rw, true, false, 0x600⟩,
  ⟨0, 13, .rw, true, false, 0xa0⟩]⟩
/-- FLT.THR_SPUR, 09_network_protection.md Table 9.9. -/
def FLT_THR_SPUR : RegDesc := ⟨0x3601c, 0x0, 1, 0, 1, .uniform, [
  ⟨16, 16, .rw, true, false, 0xfc40⟩,
  ⟨0, 16, .rw, true, false, 0x1f40⟩]⟩
/-- FLT.THR_DONOR, 09_network_protection.md Table 9.9. -/
def FLT_THR_DONOR : RegDesc := ⟨0x36020, 0x0, 1, 0, 1, .uniform, [
  ⟨16, 16, .rw, true, false, 0xf880⟩,
  ⟨0, 4, .rw, true, false, 3⟩]⟩
/-- FLT.THR_REFL, 09_network_protection.md Table 9.9. -/
def FLT_THR_REFL : RegDesc := ⟨0x36024, 0x0, 1, 0, 1, .uniform, [
  ⟨16, 16, .rw, true, false, 0xc00⟩,
  ⟨0, 16, .rw, true, false, 0x1000⟩]⟩
/-- FLT.RETRY_WIN, 09_network_protection.md Table 9.9. -/
def FLT_RETRY_WIN : RegDesc := ⟨0x36028, 0x0, 1, 0, 1, .uniform, [
  ⟨0, 32, .rw, true, false, 0x75300⟩]⟩
/-- FLT.HOLD, 09_network_protection.md Table 9.9. -/
def FLT_HOLD : RegDesc := ⟨0x36040, 0x4, 8, 0, 1, .hold, [
  ⟨8, 24, .rw, true, false, 0⟩,
  ⟨0, 4, .rw, true, false, 0⟩]⟩
/-- FLT.WCFG, 09_network_protection.md Table 9.10. -/
def FLT_WCFG : RegDesc := ⟨0x36100, 0x20, 16, 0, 1, .uniform, [
  ⟨31, 1, .rw, false, true, 0⟩,
  ⟨30, 1, .rw, false, true, 0⟩,
  ⟨29, 1, .rw, false, true, 0⟩,
  ⟨16, 5, .rw, false, true, 0⟩]⟩
/-- FLT.WSTAT, 09_network_protection.md Table 9.10. -/
def FLT_WSTAT : RegDesc := ⟨0x36104, 0x20, 16, 0, 1, .uniform, [
  ⟨16, 16, .ro, false, false, 0⟩,
  ⟨9, 1, .ro, false, false, 0⟩,
  ⟨8, 1, .ro, true, false, 0⟩,
  ⟨0, 8, .ro, false, false, 0⟩]⟩
/-- FLT.WRETRY, 09_network_protection.md Table 9.10. -/
def FLT_WRETRY : RegDesc := ⟨0x36108, 0x20, 16, 0, 1, .uniform, [
  ⟨28, 4, .ro, false, false, 0⟩,
  ⟨24, 4, .ro, false, false, 0⟩,
  ⟨0, 24, .ro, false, false, 0⟩]⟩
/-- FLT.WDONOR, 09_network_protection.md Table 9.10. -/
def FLT_WDONOR : RegDesc := ⟨0x3610c, 0x20, 16, 0, 1, .uniform, [
  ⟨16, 16, .ro, false, false, 0x8000⟩,
  ⟨8, 8, .ro, false, false, 0⟩,
  ⟨0, 8, .ro, false, false, 0⟩]⟩
/-- FLT.WNRS, 09_network_protection.md Table 9.10. -/
def FLT_WNRS : RegDesc := ⟨0x36110, 0x20, 16, 0, 1, .uniform, [
  ⟨16, 16, .rw, false, false, 0x8000⟩]⟩
/-- FLT.WEMS, 09_network_protection.md Table 9.10. -/
def FLT_WEMS : RegDesc := ⟨0x36114, 0x20, 16, 0, 1, .uniform, [
  ⟨16, 16, .rw, false, false, 0x8000⟩,
  ⟨0, 16, .ro, false, false, 0xffff⟩]⟩
/-- FLT.LCFG, 09_network_protection.md Table 9.11. -/
def FLT_LCFG : RegDesc := ⟨0x36300, 0x8, 16, 0, 1, .uniform, [
  ⟨31, 1, .rw, false, true, 0⟩,
  ⟨30, 1, .rw, false, true, 0⟩,
  ⟨24, 5, .rw, false, true, 0⟩,
  ⟨16, 5, .rw, false, true, 0⟩,
  ⟨8, 5, .rw, false, true, 0⟩]⟩
/-- FLT.LSTAT, 09_network_protection.md Table 9.11. -/
def FLT_LSTAT : RegDesc := ⟨0x36304, 0x8, 16, 0, 1, .uniform, [
  ⟨16, 16, .ro, false, false, 0x8000⟩,
  ⟨9, 1, .ro, false, false, 0⟩,
  ⟨8, 1, .ro, false, false, 0⟩,
  ⟨6, 1, .ro, false, false, 0⟩,
  ⟨5, 1, .ro, false, false, 0⟩,
  ⟨4, 1, .ro, false, false, 0⟩,
  ⟨0, 4, .ro, false, false, 0⟩]⟩
/-- FLT.GCFG, 09_network_protection.md Table 9.11. -/
def FLT_GCFG : RegDesc := ⟨0x36400, 0x8, 16, 0, 1, .uniform, [
  ⟨12, 3, .rw, false, true, 0⟩,
  ⟨8, 4, .rw, false, true, 1⟩,
  ⟨0, 5, .rw, false, true, 9⟩]⟩
/-- FLT.GSTAT, 09_network_protection.md Table 9.11. -/
def FLT_GSTAT : RegDesc := ⟨0x36404, 0x8, 16, 0, 1, .uniform, [
  ⟨16, 16, .ro, false, false, 0⟩,
  ⟨0, 11, .ro, false, false, 0⟩]⟩
/-- FLT.DSTAT, 09_network_protection.md Table 9.11. -/
def FLT_DSTAT : RegDesc := ⟨0x36800, 0x4, 256, 0, 1, .uniform, [
  ⟨16, 16, .ro, false, false, 0⟩,
  ⟨9, 1, .ro, false, false, 0⟩,
  ⟨8, 1, .ro, false, false, 0⟩,
  ⟨4, 4, .ro, false, false, 0⟩,
  ⟨1, 1, .ro, false, false, 0⟩,
  ⟨0, 1, .ro, false, false, 0⟩]⟩
/-- FBK.STAT, 16_field_book.md Table 16.11. -/
def FBK_STAT : RegDesc := ⟨0x38040, 0x0, 1, 0, 1, .uniform, [
  ⟨30, 2, .ro, false, false, 0⟩,
  ⟨29, 1, .ro, false, false, 0⟩,
  ⟨28, 1, .ro, false, false, 0⟩,
  ⟨27, 1, .ro, false, false, 0⟩,
  ⟨0, 9, .ro, false, false, 0⟩]⟩
/-- FBK.NEXT_SEQ, 16_field_book.md Table 16.11. -/
def FBK_NEXT_SEQ : RegDesc := ⟨0x38044, 0x0, 1, 0, 1, .uniform, [
  ⟨0, 32, .ro, false, false, 0⟩]⟩
/-- FBK.OLDEST_SEQ, 16_field_book.md Table 16.11. -/
def FBK_OLDEST_SEQ : RegDesc := ⟨0x38048, 0x0, 1, 0, 1, .uniform, [
  ⟨0, 32, .ro, false, false, 0⟩]⟩
/-- FBK.RETAINED, 16_field_book.md Table 16.11. -/
def FBK_RETAINED : RegDesc := ⟨0x3804c, 0x0, 1, 0, 1, .uniform, [
  ⟨0, 17, .ro, false, false, 0⟩]⟩
/-- FBK.OVW, 16_field_book.md Table 16.11. -/
def FBK_OVW : RegDesc := ⟨0x38050, 0x4, 4, 0, 1, .uniform, [
  ⟨0, 32, .ro, false, false, 0⟩]⟩
/-- FBK.DROP, 16_field_book.md Table 16.11. -/
def FBK_DROP : RegDesc := ⟨0x38060, 0x4, 4, 0, 1, .uniform, [
  ⟨0, 32, .ro, false, false, 0⟩]⟩
/-- FBK.COAL, 16_field_book.md Table 16.11. -/
def FBK_COAL : RegDesc := ⟨0x38070, 0x0, 1, 0, 1, .uniform, [
  ⟨0, 32, .ro, false, false, 0⟩]⟩
/-- FBK.CLR_TOTAL, 16_field_book.md Table 16.11. -/
def FBK_CLR_TOTAL : RegDesc := ⟨0x38074, 0x0, 1, 0, 1, .uniform, [
  ⟨0, 32, .ro, false, false, 0⟩]⟩
/-- FBK.RETRIES, 16_field_book.md Table 16.11. -/
def FBK_RETRIES : RegDesc := ⟨0x38078, 0x0, 1, 0, 1, .uniform, [
  ⟨0, 32, .ro, false, false, 0⟩]⟩
/-- FBK.CRC_CNT, 16_field_book.md Table 16.11. -/
def FBK_CRC_CNT : RegDesc := ⟨0x3807c, 0x0, 1, 0, 1, .uniform, [
  ⟨0, 32, .ro, false, false, 0⟩]⟩
/-- FBK.CAUSE, 16_field_book.md Table 16.11. -/
def FBK_CAUSE : RegDesc := ⟨0x38080, 0x0, 1, 0, 1, .uniform, [
  ⟨30, 2, .ro, false, false, 0⟩,
  ⟨28, 2, .ro, false, false, 0⟩,
  ⟨0, 17, .ro, false, false, 0⟩]⟩
/-- FBK.LRR_STAT, 16_field_book.md Table 16.11. -/
def FBK_LRR_STAT : RegDesc := ⟨0x38084, 0x0, 1, 0, 1, .uniform, [
  ⟨4, 5, .ro, false, false, 0⟩,
  ⟨0, 4, .ro, false, false, 0⟩]⟩
/-- FBK.CURSOR, 16_field_book.md Table 16.11. -/
def FBK_CURSOR : RegDesc := ⟨0x38088, 0x0, 1, 0, 1, .uniform, [
  ⟨0, 32, .rw, false, false, 0⟩]⟩
/-- FBK.AP_CTL, 16_field_book.md Table 16.11. -/
def FBK_AP_CTL : RegDesc := ⟨0x3808c, 0x0, 1, 0, 1, .uniform, [
  ⟨0, 1, .rw, false, false, 1⟩]⟩
/-- FBK.AP_STAT, 16_field_book.md Table 16.11. -/
def FBK_AP_STAT : RegDesc := ⟨0x38090, 0x0, 1, 0, 1, .uniform, [
  ⟨3, 1, .ro, false, false, 0⟩,
  ⟨2, 1, .ro, false, false, 0⟩,
  ⟨1, 1, .ro, false, false, 0⟩,
  ⟨0, 1, .ro, false, false, 0⟩]⟩
/-- FBK.AP, 16_field_book.md Table 16.11. -/
def FBK_AP : RegDesc := ⟨0x380c0, 0x4, 16, 0, 1, .uniform, [
  ⟨0, 32, .ro, false, false, 0⟩]⟩
/-- FBK.LRR, 16_field_book.md Table 16.11. -/
def FBK_LRR : RegDesc := ⟨0x38400, 0x40, 16, 4, 16, .uniform, [
  ⟨0, 32, .ro, false, false, 0⟩]⟩
/-- PMC.CTL, 17_performance_counters.md Table 17.10. -/
def PMC_CTL : RegDesc := ⟨0x3a040, 0x0, 1, 0, 1, .uniform, [
  ⟨31, 1, .rw, false, false, 0⟩,
  ⟨30, 1, .rw, false, false, 0⟩,
  ⟨29, 1, .wp, false, false, 0⟩,
  ⟨27, 2, .rw, false, false, 0⟩,
  ⟨0, 16, .rw, false, false, 0x1f40⟩]⟩
/-- PMC.STAT, 17_performance_counters.md Table 17.10. -/
def PMC_STAT : RegDesc := ⟨0x3a044, 0x0, 1, 0, 1, .uniform, [
  ⟨31, 1, .ro, false, false, 0⟩,
  ⟨30, 1, .ro, false, false, 0⟩,
  ⟨29, 1, .ro, false, false, 0⟩]⟩
/-- PMC.DSEQ, 17_performance_counters.md Table 17.10. -/
def PMC_DSEQ : RegDesc := ⟨0x3a048, 0x0, 1, 0, 1, .uniform, [
  ⟨0, 32, .ro, false, false, 0⟩]⟩
/-- PMC.DLOST, 17_performance_counters.md Table 17.10. -/
def PMC_DLOST : RegDesc := ⟨0x3a04c, 0x0, 1, 0, 1, .uniform, [
  ⟨16, 16, .rc, false, false, 0⟩,
  ⟨0, 16, .rc, false, false, 0⟩]⟩
/-- PMC.HR_SIZE, 17_performance_counters.md Table 17.10. -/
def PMC_HR_SIZE : RegDesc := ⟨0x3a058, 0x0, 1, 0, 1, .uniform, [
  ⟨0, 16, .rw, false, false, 0x10⟩]⟩
/-- PMC.HR_WR, 17_performance_counters.md Table 17.10. -/
def PMC_HR_WR : RegDesc := ⟨0x3a05c, 0x0, 1, 0, 1, .uniform, [
  ⟨0, 16, .ro, false, false, 0⟩]⟩
/-- PMC.HR_RD, 17_performance_counters.md Table 17.10. -/
def PMC_HR_RD : RegDesc := ⟨0x3a060, 0x0, 1, 0, 1, .uniform, [
  ⟨0, 16, .rw, false, false, 0⟩]⟩
/-- PMC.DR_CTL, 17_performance_counters.md Table 17.10. -/
def PMC_DR_CTL : RegDesc := ⟨0x3a06c, 0x0, 1, 0, 1, .uniform, [
  ⟨0, 2, .rw, false, false, 3⟩]⟩
/-- PMC.HR_BASE_LO, 17_performance_counters.md Table 17.10. -/
def PMC_HR_BASE_LO : RegDesc := ⟨0x3a050, 0x0, 1, 0, 1, .uniform, [
  ⟨0, 32, .rw, false, false, 0⟩]⟩
/-- PMC.HR_BASE_HI, 17_performance_counters.md Table 17.10. -/
def PMC_HR_BASE_HI : RegDesc := ⟨0x3a054, 0x0, 1, 0, 1, .uniform, [
  ⟨0, 32, .rw, false, false, 0⟩]⟩
/-- PMC.HR_WB_LO, 17_performance_counters.md Table 17.10. -/
def PMC_HR_WB_LO : RegDesc := ⟨0x3a064, 0x0, 1, 0, 1, .uniform, [
  ⟨0, 32, .rw, false, false, 0⟩]⟩
/-- PMC.HR_WB_HI, 17_performance_counters.md Table 17.10. -/
def PMC_HR_WB_HI : RegDesc := ⟨0x3a068, 0x0, 1, 0, 1, .uniform, [
  ⟨0, 32, .rw, false, false, 0⟩]⟩
/-- PMC.DR_WR, 17_performance_counters.md Table 17.10. -/
def PMC_DR_WR : RegDesc := ⟨0x3a070, 0x0, 1, 0, 1, .uniform, [
  ⟨0, 12, .ro, false, false, 0⟩]⟩
/-- PMC.DR_RD, 17_performance_counters.md Table 17.10. -/
def PMC_DR_RD : RegDesc := ⟨0x3a074, 0x0, 1, 0, 1, .uniform, [
  ⟨0, 12, .rw, false, false, 0⟩]⟩
/-- PMC.ARANGE_LO, 17_performance_counters.md Table 17.10. -/
def PMC_ARANGE_LO : RegDesc := ⟨0x3a100, 0x8, 8, 0, 1, .uniform, [
  ⟨0, 32, .rw, false, false, 0⟩]⟩
/-- PMC.ARANGE_HI, 17_performance_counters.md Table 17.10. -/
def PMC_ARANGE_HI : RegDesc := ⟨0x3a104, 0x8, 8, 0, 1, .uniform, [
  ⟨0, 32, .rw, false, false, 0⟩]⟩
/-- PMC.BW, 17_performance_counters.md Table 17.10. -/
def PMC_BW : RegDesc := ⟨0x3a200, 0x4, 54, 0, 1, .uniform, [
  ⟨16, 16, .ro, false, false, 0⟩,
  ⟨0, 16, .ro, false, false, 0⟩]⟩
/-- PMC.EVSEL, 17_performance_counters.md Table 17.10. -/
def PMC_EVSEL : RegDesc := ⟨0x3a400, 0x10, 384, 0, 1, .evsel, [
  ⟨31, 1, .rw, false, false, 0⟩,
  ⟨16, 8, .rw, false, false, 0⟩,
  ⟨8, 4, .ro, false, false, 0⟩,
  ⟨0, 8, .ro, false, false, 0⟩]⟩
/-- PMC.FILT, 17_performance_counters.md Table 17.10. -/
def PMC_FILT : RegDesc := ⟨0x3a404, 0x10, 384, 0, 1, .uniform, [
  ⟨27, 5, .rw, false, false, 0x1f⟩,
  ⟨21, 6, .rw, false, false, 0x3f⟩,
  ⟨20, 1, .rw, false, false, 1⟩,
  ⟨15, 5, .rw, false, false, 0⟩,
  ⟨12, 3, .rw, false, false, 0⟩,
  ⟨11, 1, .rw, false, false, 0⟩,
  ⟨0, 10, .rw, false, false, 0x3ff⟩]⟩
/-- PMC.VAL_LO, 17_performance_counters.md Table 17.10. -/
def PMC_VAL_LO : RegDesc := ⟨0x3a408, 0x10, 384, 0, 1, .uniform, [
  ⟨0, 32, .ro, false, false, 0⟩]⟩
/-- PMC.VAL_HI, 17_performance_counters.md Table 17.10. -/
def PMC_VAL_HI : RegDesc := ⟨0x3a40c, 0x10, 384, 0, 1, .uniform, [
  ⟨16, 1, .rc, false, false, 0⟩,
  ⟨0, 16, .ro, false, false, 0⟩]⟩
/-- FRZ.CTL, 18_startup_freeze_ageing.md Table 18.15. -/
def FRZ_CTL : RegDesc := ⟨0x3e040, 0x0, 1, 0, 1, .uniform, [
  ⟨0, 1, .rw, true, false, 1⟩]⟩
/-- FRZ.STAT, 18_startup_freeze_ageing.md Table 18.15. -/
def FRZ_STAT : RegDesc := ⟨0x3e044, 0x0, 1, 0, 1, .uniform, [
  ⟨28, 4, .ro, false, false, 0⟩,
  ⟨16, 10, .ro, false, false, 0⟩,
  ⟨0, 16, .ro, false, false, 0⟩]⟩
/-- FRZ.LAST_SEC, 18_startup_freeze_ageing.md Table 18.15. -/
def FRZ_LAST_SEC : RegDesc := ⟨0x3e048, 0x0, 1, 0, 1, .uniform, [
  ⟨0, 32, .ro, false, false, 0⟩]⟩
/-- FRZ.LAST_GT, 18_startup_freeze_ageing.md Table 18.15. -/
def FRZ_LAST_GT : RegDesc := ⟨0x3e04c, 0x0, 1, 0, 1, .uniform, [
  ⟨0, 20, .ro, false, false, 0⟩]⟩
/-- AGE.CTL, 18_startup_freeze_ageing.md Table 18.15. -/
def AGE_CTL : RegDesc := ⟨0x3e840, 0x0, 1, 0, 1, .uniform, [
  ⟨1, 1, .wp, false, false, 0⟩,
  ⟨0, 1, .rw, false, false, 1⟩]⟩
/-- AGE.STAT, 18_startup_freeze_ageing.md Table 18.15. -/
def AGE_STAT : RegDesc := ⟨0x3e844, 0x0, 1, 0, 1, .uniform, [
  ⟨16, 16, .ro, false, false, 0⟩,
  ⟨0, 1, .ro, false, false, 0⟩]⟩
/-- AGE.NEXT, 18_startup_freeze_ageing.md Table 18.15. -/
def AGE_NEXT : RegDesc := ⟨0x3e848, 0x0, 1, 0, 1, .uniform, [
  ⟨0, 32, .ro, false, false, 0⟩]⟩
/-- AGE.MON, 18_startup_freeze_ageing.md Table 18.15. -/
def AGE_MON : RegDesc := ⟨0x3e880, 0x4, 8, 0, 1, .uniform, [
  ⟨16, 16, .ro, false, false, 0⟩,
  ⟨0, 1, .rc, false, false, 0⟩]⟩
/-- AGE.CANARY_LO, 18_startup_freeze_ageing.md Table 18.15. -/
def AGE_CANARY_LO : RegDesc := ⟨0x3e8a0, 0x0, 1, 0, 1, .uniform, [
  ⟨0, 32, .rc, false, false, 0⟩]⟩
/-- AGE.CANARY_HI, 18_startup_freeze_ageing.md Table 18.15. -/
def AGE_CANARY_HI : RegDesc := ⟨0x3e8a4, 0x0, 1, 0, 1, .uniform, [
  ⟨0, 16, .rc, false, false, 0⟩]⟩
/-- PWR.SVC, 18_startup_freeze_ageing.md Table 18.15. -/
def PWR_SVC : RegDesc := ⟨0x3f040, 0x0, 1, 0, 1, .uniform, [
  ⟨0, 3, .ro, false, false, 0⟩]⟩
/-- PWR.START, 18_startup_freeze_ageing.md Table 18.15. -/
def PWR_START : RegDesc := ⟨0x3f044, 0x0, 1, 0, 1, .uniform, [
  ⟨28, 4, .ro, false, false, 0⟩,
  ⟨24, 4, .ro, false, false, 0⟩,
  ⟨0, 16, .ro, false, false, 0⟩]⟩
/-- PWR.VCORE, 18_startup_freeze_ageing.md Table 18.15. -/
def PWR_VCORE : RegDesc := ⟨0x3f048, 0x0, 1, 0, 1, .uniform, [
  ⟨0, 8, .rw, true, false, 0⟩]⟩
/-- PWR.VIN, 18_startup_freeze_ageing.md Table 18.15. -/
def PWR_VIN : RegDesc := ⟨0x3f04c, 0x0, 1, 0, 1, .uniform, [
  ⟨16, 1, .ro, false, false, 0⟩,
  ⟨0, 16, .ro, false, false, 0⟩]⟩
/-- SYS.DEV_ID, 14_register_interface.md R285. -/
def SYS_DEV_ID : RegDesc := ⟨0x50, 0, 1, 0, 1, .uniform, [⟨0, 32, .ro, false, false, 0x4816B100⟩]⟩
/-- SYS.SERIAL_LO, R285: loaded from fuses (0 here, DESIGN CHOICE, log entry 5). -/
def SYS_SERIAL_LO : RegDesc := ⟨0x54, 0, 1, 0, 1, .uniform, [⟨0, 32, .ro, false, false, 0⟩]⟩
/-- SYS.SERIAL_HI, R285: loaded from fuses (0 here, DESIGN CHOICE, log entry 5). -/
def SYS_SERIAL_HI : RegDesc := ⟨0x58, 0, 1, 0, 1, .uniform, [⟨0, 32, .ro, false, false, 0⟩]⟩

/-- Base offset of register set i of Table 15.1: SYS, MBX, PCI, LANE[0]-LANE[15], SYN, CHN, CAN, SVY, CON, POS, TDD, RCE, SNS,
FLT, FBK, PMC, DRC, FRZ, AGE, PWR (i = 0-34). -/
def setBase (i : Nat) : Nat :=
  if i < 3 then i * 0x1000
  else if i < 19 then 0x4000 + (i - 3) * 0x400
  else [0x8000, 0xA000, 0x10000, 0x18000, 0x20000, 0x28000, 0x2C000, 0x2E000, 0x30000, 0x34000, 0x38000, 0x3A000, 0x3C000,
    0x3E000, 0x3E800, 0x3F000].getD (i - 19) 0

/-- BLK_ID of register set i, 14_register_interface.md Table 14.5. -/
def BLK_ID (i : Nat) : RegDesc := ⟨setBase i + 0, 0, 1, 0, 1, .blkId, [⟨24, 8, .ro, false, false, 0⟩, ⟨16, 8, .ro, false, false, 0⟩, ⟨8, 8, .ro, false, false, 1⟩]⟩
/-- BLK_STAT of register set i, 14_register_interface.md Table 14.5. -/
def BLK_STAT (i : Nat) : RegDesc := ⟨setBase i + 4, 0, 1, 0, 1, .uniform, [⟨31, 1, .ro, false, false, 0⟩, ⟨30, 1, .ro, false, false, 0⟩, ⟨29, 1, .ro, false, false, 0⟩, ⟨4, 1, .rc, false, false, 0⟩, ⟨3, 1, .rc, false, false, 0⟩, ⟨2, 1, .rc, false, false, 0⟩, ⟨1, 1, .rc, false, false, 0⟩, ⟨0, 1, .rc, false, false, 0⟩]⟩
/-- SEAL of register set i, 14_register_interface.md Table 14.5. -/
def SEAL (i : Nat) : RegDesc := ⟨setBase i + 8, 0, 1, 0, 1, .uniform, [⟨0, 32, .rw, true, false, 0⟩]⟩
/-- SEAL_CTL of register set i, 14_register_interface.md Table 14.5. -/
def SEAL_CTL (i : Nat) : RegDesc := ⟨setBase i + 12, 0, 1, 0, 1, .uniform, [⟨0, 1, .rw, false, false, 0⟩]⟩
/-- SWEEP of register set i, 14_register_interface.md Table 14.5. -/
def SWEEP (i : Nat) : RegDesc := ⟨setBase i + 16, 0, 1, 0, 1, .uniform, [⟨0, 32, .ro, false, false, 0⟩]⟩
/-- SWEEP_CNT of register set i, 14_register_interface.md Table 14.5. -/
def SWEEP_CNT (i : Nat) : RegDesc := ⟨setBase i + 20, 0, 1, 0, 1, .uniform, [⟨0, 32, .ro, false, false, 0⟩]⟩
/-- WIGN_ADDR of register set i, 14_register_interface.md Table 14.5. -/
def WIGN_ADDR (i : Nat) : RegDesc := ⟨setBase i + 24, 0, 1, 0, 1, .uniform, [⟨28, 4, .ro, false, false, 0⟩, ⟨0, 18, .ro, false, false, 0⟩]⟩
/-- VOTE_ADDR of register set i, 14_register_interface.md Table 14.5. -/
def VOTE_ADDR (i : Nat) : RegDesc := ⟨setBase i + 28, 0, 1, 0, 1, .uniform, [⟨0, 18, .ro, false, false, 0⟩]⟩
/-- VOTE_CNT of register set i, 14_register_interface.md Table 14.5. -/
def VOTE_CNT (i : Nat) : RegDesc := ⟨setBase i + 32, 0, 1, 0, 1, .uniform, [⟨0, 32, .rc, false, false, 0⟩]⟩
/-- ACC_ADDR of register set i, 14_register_interface.md Table 14.5. -/
def ACC_ADDR (i : Nat) : RegDesc := ⟨setBase i + 36, 0, 1, 0, 1, .uniform, [⟨28, 4, .ro, false, false, 0⟩, ⟨24, 4, .ro, false, false, 0⟩, ⟨23, 1, .ro, false, false, 0⟩, ⟨0, 18, .ro, false, false, 0⟩]⟩

end Reg

/-! ### Fields -/

namespace Fd

def SYS_GT_SEC_GT_IN_SEC : Fld := ⟨Reg.SYS_GT_SEC, 0, 20⟩
def SYS_OP_SEC_OP_SEC : Fld := ⟨Reg.SYS_OP_SEC, 0, 32⟩
def SYS_PWR_CYC_PWR_CYC : Fld := ⟨Reg.SYS_PWR_CYC, 0, 24⟩
def SYS_SHEET_CNT_SHEET : Fld := ⟨Reg.SYS_SHEET_CNT, 0, 32⟩
def LANE_CTL_TX_INV : Fld := ⟨Reg.LANE_CTL, 7, 1⟩
def LANE_CTL_RX_INV : Fld := ⟨Reg.LANE_CTL, 6, 1⟩
def LANE_CTL_TX_IQSWAP : Fld := ⟨Reg.LANE_CTL, 5, 1⟩
def LANE_CTL_RX_IQSWAP : Fld := ⟨Reg.LANE_CTL, 4, 1⟩
def LANE_CTL_TX_EN : Fld := ⟨Reg.LANE_CTL, 1, 1⟩
def LANE_CTL_RX_EN : Fld := ⟨Reg.LANE_CTL, 0, 1⟩
def LANE_RX_GAIN_APPLIED : Fld := ⟨Reg.LANE_RX_GAIN, 16, 6⟩
def LANE_RX_GAIN_LIMIT : Fld := ⟨Reg.LANE_RX_GAIN, 8, 6⟩
def LANE_RX_GAIN_DEMAND : Fld := ⟨Reg.LANE_RX_GAIN, 0, 6⟩
def LANE_RX_FAST_EN : Fld := ⟨Reg.LANE_RX_FAST, 19, 1⟩
def LANE_RX_FAST_MAXSTEP : Fld := ⟨Reg.LANE_RX_FAST, 16, 3⟩
def LANE_RX_FAST_STEP : Fld := ⟨Reg.LANE_RX_FAST, 12, 4⟩
def LANE_RX_FAST_THRESH : Fld := ⟨Reg.LANE_RX_FAST, 0, 12⟩
def LANE_RX_STAT_CORR_STALE : Fld := ⟨Reg.LANE_RX_STAT, 7, 1⟩
def LANE_RX_STAT_CORR_HOLD : Fld := ⟨Reg.LANE_RX_STAT, 6, 1⟩
def LANE_RX_STAT_FA_LIMIT : Fld := ⟨Reg.LANE_RX_STAT, 5, 1⟩
def LANE_RX_STAT_FAST : Fld := ⟨Reg.LANE_RX_STAT, 4, 1⟩
def LANE_RX_STAT_CLIP : Fld := ⟨Reg.LANE_RX_STAT, 0, 1⟩
def LANE_RX_CLIPCNT_TICKS : Fld := ⟨Reg.LANE_RX_CLIPCNT, 0, 32⟩
def LANE_RX_PWR_PEAK : Fld := ⟨Reg.LANE_RX_PWR, 16, 16⟩
def LANE_RX_PWR_MEAN : Fld := ⟨Reg.LANE_RX_PWR, 0, 16⟩
def LANE_TX_ATTEN_ATTEN : Fld := ⟨Reg.LANE_TX_ATTEN, 0, 6⟩
def LANE_TX_MUTE_RAMPING : Fld := ⟨Reg.LANE_TX_MUTE, 9, 1⟩
def LANE_TX_MUTE_MUTED : Fld := ⟨Reg.LANE_TX_MUTE, 8, 1⟩
def LANE_TX_MUTE_SRC_FRZ : Fld := ⟨Reg.LANE_TX_MUTE, 5, 1⟩
def LANE_TX_MUTE_SRC_DATUM : Fld := ⟨Reg.LANE_TX_MUTE, 4, 1⟩
def LANE_TX_MUTE_SRC_FLT : Fld := ⟨Reg.LANE_TX_MUTE, 3, 1⟩
def LANE_TX_MUTE_SRC_CAL : Fld := ⟨Reg.LANE_TX_MUTE, 2, 1⟩
def LANE_TX_MUTE_SRC_STATE : Fld := ⟨Reg.LANE_TX_MUTE, 1, 1⟩
def LANE_TX_MUTE_SRC_FW : Fld := ⟨Reg.LANE_TX_MUTE, 0, 1⟩
def LANE_CORR_CTL_TX_EN_MASK : Fld := ⟨Reg.LANE_CORR_CTL, 8, 4⟩
def LANE_CORR_CTL_RX_EN_MASK : Fld := ⟨Reg.LANE_CORR_CTL, 0, 4⟩
def LANE_CAL_CTL_TX_START : Fld := ⟨Reg.LANE_CAL_CTL, 1, 1⟩
def LANE_CAL_CTL_RX_START : Fld := ⟨Reg.LANE_CAL_CTL, 0, 1⟩
def LANE_CAL_STAT_TX_RESULT : Fld := ⟨Reg.LANE_CAL_STAT, 16, 4⟩
def LANE_CAL_STAT_RX_RESULT : Fld := ⟨Reg.LANE_CAL_STAT, 12, 4⟩
def LANE_CAL_STAT_TX_BUSY : Fld := ⟨Reg.LANE_CAL_STAT, 1, 1⟩
def LANE_CAL_STAT_RX_BUSY : Fld := ⟨Reg.LANE_CAL_STAT, 0, 1⟩
def CHN_TBL_SEL_KIND : Fld := ⟨Reg.CHN_TBL_SEL, 28, 4⟩
def CHN_TBL_SEL_WIN : Fld := ⟨Reg.CHN_TBL_SEL, 24, 4⟩
def CHN_TBL_SEL_BANK : Fld := ⟨Reg.CHN_TBL_SEL, 23, 1⟩
def CHN_TBL_SEL_EDGE : Fld := ⟨Reg.CHN_TBL_SEL, 22, 1⟩
def CHN_TBL_SEL_INDEX : Fld := ⟨Reg.CHN_TBL_SEL, 0, 11⟩
def CHN_TBL_DATA_DATA : Fld := ⟨Reg.CHN_TBL_DATA, 0, 32⟩
def CHN_TBL_STAT_WRAP : Fld := ⟨Reg.CHN_TBL_STAT, 2, 1⟩
def CHN_TBL_STAT_RANGE : Fld := ⟨Reg.CHN_TBL_STAT, 1, 1⟩
def CHN_TBL_STAT_ACT_WR : Fld := ⟨Reg.CHN_TBL_STAT, 0, 1⟩
def CHN_WCTL_SWAP : Fld := ⟨Reg.CHN_WCTL, 31, 1⟩
def CHN_WCTL_SWAP_ALIGN : Fld := ⟨Reg.CHN_WCTL, 29, 2⟩
def CHN_WCTL_LINK_W : Fld := ⟨Reg.CHN_WCTL, 20, 4⟩
def CHN_WCTL_LINK_EN : Fld := ⟨Reg.CHN_WCTL, 19, 1⟩
def CHN_WCTL_TDD_UL : Fld := ⟨Reg.CHN_WCTL, 18, 1⟩
def CHN_WCTL_TRIM : Fld := ⟨Reg.CHN_WCTL, 16, 2⟩
def CHN_WCTL_PROTO : Fld := ⟨Reg.CHN_WCTL, 12, 1⟩
def CHN_WCTL_PROFILE : Fld := ⟨Reg.CHN_WCTL, 8, 2⟩
def CHN_WCTL_DATUM_DIS : Fld := ⟨Reg.CHN_WCTL, 1, 1⟩
def CHN_WCTL_EN : Fld := ⟨Reg.CHN_WCTL, 0, 1⟩
def CHN_WLANE_TX_B : Fld := ⟨Reg.CHN_WLANE, 12, 4⟩
def CHN_WLANE_TX_A : Fld := ⟨Reg.CHN_WLANE, 8, 4⟩
def CHN_WLANE_RX_B : Fld := ⟨Reg.CHN_WLANE, 4, 4⟩
def CHN_WLANE_RX_A : Fld := ⟨Reg.CHN_WLANE, 0, 4⟩
def CHN_WRX_COUNT : Fld := ⟨Reg.CHN_WRX, 16, 11⟩
def CHN_WRX_RX_FIRST : Fld := ⟨Reg.CHN_WRX, 0, 11⟩
def CHN_WTX_TX_FIRST : Fld := ⟨Reg.CHN_WTX, 0, 11⟩
def CHN_WEDGE_LO_EDGE : Fld := ⟨Reg.CHN_WEDGE_LO, 0, 20⟩
def CHN_WEDGE_HI_EDGE : Fld := ⟨Reg.CHN_WEDGE_HI, 0, 20⟩
def CHN_WDOM_DOMAIN : Fld := ⟨Reg.CHN_WDOM, 0, 8⟩
def CHN_DOP_FREQ_FREQ : Fld := ⟨Reg.CHN_DOP_FREQ, 0, 18⟩
def CHN_WSTAT_DELAY : Fld := ⟨Reg.CHN_WSTAT, 16, 13⟩
def CHN_WSTAT_ERR : Fld := ⟨Reg.CHN_WSTAT, 8, 4⟩
def CHN_WSTAT_TDD_IDLE : Fld := ⟨Reg.CHN_WSTAT, 5, 1⟩
def CHN_WSTAT_SWAP_REF : Fld := ⟨Reg.CHN_WSTAT, 4, 1⟩
def CHN_WSTAT_SWAP_PEND : Fld := ⟨Reg.CHN_WSTAT, 3, 1⟩
def CHN_WSTAT_ACT_BANK : Fld := ⟨Reg.CHN_WSTAT, 1, 1⟩
def CHN_WSTAT_RUNNING : Fld := ⟨Reg.CHN_WSTAT, 0, 1⟩
def CHN_BSEAL_SEAL : Fld := ⟨Reg.CHN_BSEAL, 0, 32⟩
def CHN_LPROF_TX_PROTO : Fld := ⟨Reg.CHN_LPROF, 7, 1⟩
def CHN_LPROF_TX_PROFILE : Fld := ⟨Reg.CHN_LPROF, 4, 2⟩
def CHN_LPROF_RX_PROTO : Fld := ⟨Reg.CHN_LPROF, 3, 1⟩
def CHN_LPROF_RX_PROFILE : Fld := ⟨Reg.CHN_LPROF, 0, 2⟩
def CAN_CTL_CUT : Fld := ⟨Reg.CAN_CTL, 16, 4⟩
def CAN_CTL_CP_EN : Fld := ⟨Reg.CAN_CTL, 1, 1⟩
def CAN_CTL_DIV_EN : Fld := ⟨Reg.CAN_CTL, 0, 1⟩
def CAN_POOL_USED_USED : Fld := ⟨Reg.CAN_POOL_USED, 0, 23⟩
def CAN_POOL_FREE_FREE : Fld := ⟨Reg.CAN_POOL_FREE, 0, 23⟩
def CAN_LOAD_PLANNED : Fld := ⟨Reg.CAN_LOAD, 0, 11⟩
def CAN_DIV_CFG_D1_MARGIN : Fld := ⟨Reg.CAN_DIV_CFG, 16, 8⟩
def CAN_DIV_CFG_D1_SHEETS : Fld := ⟨Reg.CAN_DIV_CFG, 12, 4⟩
def CAN_DIV_CFG_D2_SHEETS : Fld := ⟨Reg.CAN_DIV_CFG, 8, 4⟩
def CAN_DIV_CFG_ROLL_LIMIT : Fld := ⟨Reg.CAN_DIV_CFG, 4, 4⟩
def CAN_CP_STAT_GEN : Fld := ⟨Reg.CAN_CP_STAT, 16, 16⟩
def CAN_CP_STAT_CH_LOST : Fld := ⟨Reg.CAN_CP_STAT, 4, 4⟩
def CAN_CP_STAT_AREA : Fld := ⟨Reg.CAN_CP_STAT, 2, 1⟩
def CAN_CP_STAT_WRITING : Fld := ⟨Reg.CAN_CP_STAT, 1, 1⟩
def CAN_CP_STAT_VALID : Fld := ⟨Reg.CAN_CP_STAT, 0, 1⟩
def CAN_AMAP_SEL_INDEX : Fld := ⟨Reg.CAN_AMAP_SEL, 0, 13⟩
def CAN_AMAP_DATA_DATA : Fld := ⟨Reg.CAN_AMAP_DATA, 0, 32⟩
def CAN_WBOOST_BOOST : Fld := ⟨Reg.CAN_WBOOST, 0, 8⟩
def CAN_PCFG0_EN : Fld := ⟨Reg.CAN_PCFG0, 31, 1⟩
def CAN_PCFG0_BASIS : Fld := ⟨Reg.CAN_PCFG0, 30, 1⟩
def CAN_PCFG0_WIN : Fld := ⟨Reg.CAN_PCFG0, 24, 4⟩
def CAN_PCFG0_RXB : Fld := ⟨Reg.CAN_PCFG0, 23, 1⟩
def CAN_PCFG0_TXB : Fld := ⟨Reg.CAN_PCFG0, 22, 1⟩
def CAN_PCFG0_FIRST : Fld := ⟨Reg.CAN_PCFG0, 0, 11⟩
def CAN_PCFG1_COUNT : Fld := ⟨Reg.CAN_PCFG1, 16, 11⟩
def CAN_PCFG1_TAPS : Fld := ⟨Reg.CAN_PCFG1, 0, 11⟩
def CAN_PCFG2_LAG0 : Fld := ⟨Reg.CAN_PCFG2, 20, 10⟩
def CAN_PCFG2_WEXP : Fld := ⟨Reg.CAN_PCFG2, 16, 4⟩
def CAN_PCFG2_UPD : Fld := ⟨Reg.CAN_PCFG2, 12, 3⟩
def CAN_PCFG2_LSH : Fld := ⟨Reg.CAN_PCFG2, 0, 5⟩
def CAN_PCFG3_MU : Fld := ⟨Reg.CAN_PCFG3, 16, 16⟩
def CAN_PCFG3_DSH : Fld := ⟨Reg.CAN_PCFG3, 0, 6⟩
def CAN_PSTAT_ERR : Fld := ⟨Reg.CAN_PSTAT, 28, 4⟩
def CAN_PSTAT_FROZEN : Fld := ⟨Reg.CAN_PSTAT, 23, 1⟩
def CAN_PSTAT_RESTORE : Fld := ⟨Reg.CAN_PSTAT, 22, 1⟩
def CAN_PSTAT_CUT : Fld := ⟨Reg.CAN_PSTAT, 21, 1⟩
def CAN_PSTAT_SAT : Fld := ⟨Reg.CAN_PSTAT, 20, 1⟩
def CAN_PSTAT_DIV : Fld := ⟨Reg.CAN_PSTAT, 19, 1⟩
def CAN_PSTAT_HOLD : Fld := ⟨Reg.CAN_PSTAT, 18, 1⟩
def CAN_PSTAT_ACTIVE : Fld := ⟨Reg.CAN_PSTAT, 17, 1⟩
def CAN_PDEPTH_DEPTH_MIN : Fld := ⟨Reg.CAN_PDEPTH, 16, 16⟩
def CAN_PDEPTH_DEPTH_MEAN : Fld := ⟨Reg.CAN_PDEPTH, 0, 16⟩
def CAN_PROLL_ROLLCNT : Fld := ⟨Reg.CAN_PROLL, 0, 16⟩
def SVY_CTL_FENCE : Fld := ⟨Reg.SVY_CTL, 16, 1⟩
def SVY_CTL_FENCE_ID : Fld := ⟨Reg.SVY_CTL, 8, 8⟩
def SVY_CTL_SCRUB_EN : Fld := ⟨Reg.SVY_CTL, 0, 1⟩
def SVY_TICK_STAT_ISSUED : Fld := ⟨Reg.SVY_TICK_STAT, 16, 16⟩
def SVY_TICK_STAT_MISSING : Fld := ⟨Reg.SVY_TICK_STAT, 8, 8⟩
def SVY_TICK_STAT_REEXEC : Fld := ⟨Reg.SVY_TICK_STAT, 0, 8⟩
def SVY_CLOSE_CNT_COUNT : Fld := ⟨Reg.SVY_CLOSE_CNT, 0, 32⟩
def SVY_REEXEC_CNT_COUNT : Fld := ⟨Reg.SVY_REEXEC_CNT, 0, 32⟩
def SVY_SSTAT_COVER_ALL : Fld := ⟨Reg.SVY_SSTAT, 31, 1⟩
def SVY_SSTAT_COVER_BUSY : Fld := ⟨Reg.SVY_SSTAT, 30, 1⟩
def SVY_SSTAT_PARTIES_LOST : Fld := ⟨Reg.SVY_SSTAT, 16, 6⟩
def SVY_SSTAT_ENG_LOST : Fld := ⟨Reg.SVY_SSTAT, 0, 9⟩
def SVY_COVER_PARTY : Fld := ⟨Reg.SVY_COVER, 0, 32⟩
def SVY_TILES_ISSUED : Fld := ⟨Reg.SVY_TILES, 16, 13⟩
def SVY_TILES_COMPLETED : Fld := ⟨Reg.SVY_TILES, 0, 13⟩
def SVY_ENG_LOST_LOST : Fld := ⟨Reg.SVY_ENG_LOST, 0, 32⟩
def SVY_PSTATE_LOST : Fld := ⟨Reg.SVY_PSTATE, 31, 1⟩
def SVY_PSTATE_RESTORING : Fld := ⟨Reg.SVY_PSTATE, 30, 1⟩
def SVY_PSTATE_ENG_LIVE : Fld := ⟨Reg.SVY_PSTATE, 16, 4⟩
def SVY_PSTATE_ENG_MASK : Fld := ⟨Reg.SVY_PSTATE, 0, 8⟩
def SVY_PLOAD_CMAX : Fld := ⟨Reg.SVY_PLOAD, 16, 16⟩
def SVY_PLOAD_BUSY_MAX : Fld := ⟨Reg.SVY_PLOAD, 0, 16⟩
def SVY_PMEM_RING_LOW : Fld := ⟨Reg.SVY_PMEM, 16, 15⟩
def SVY_PMEM_COEF_HIGH : Fld := ⟨Reg.SVY_PMEM, 0, 15⟩
def SVY_PECC_UE : Fld := ⟨Reg.SVY_PECC, 16, 16⟩
def SVY_PECC_CE : Fld := ⟨Reg.SVY_PECC, 0, 16⟩
def CON_CTL_EN : Fld := ⟨Reg.CON_CTL, 0, 1⟩
def CON_SSTAT_LAST_CYCLE : Fld := ⟨Reg.CON_SSTAT, 16, 16⟩
def CON_SSTAT_APPENDED : Fld := ⟨Reg.CON_SSTAT, 8, 8⟩
def CON_SSTAT_DUP : Fld := ⟨Reg.CON_SSTAT, 2, 1⟩
def CON_SSTAT_UNL : Fld := ⟨Reg.CON_SSTAT, 1, 1⟩
def CON_ORDER_LEN_LEN : Fld := ⟨Reg.CON_ORDER_LEN, 0, 9⟩
def CON_ST_SEL_CONTOUR : Fld := ⟨Reg.CON_ST_SEL, 16, 11⟩
def CON_ST_SEL_WORD : Fld := ⟨Reg.CON_ST_SEL, 0, 3⟩
def CON_ST_DATA_DATA : Fld := ⟨Reg.CON_ST_DATA, 0, 32⟩
def CON_SUP_CTL_LOSS_EN : Fld := ⟨Reg.CON_SUP_CTL, 1, 1⟩
def CON_SUP_CTL_PLAUS_EN : Fld := ⟨Reg.CON_SUP_CTL, 0, 1⟩
def CON_OSC_CFG_EN : Fld := ⟨Reg.CON_OSC_CFG, 31, 1⟩
def CON_OSC_CFG_GROW : Fld := ⟨Reg.CON_OSC_CFG, 16, 8⟩
def CON_OSC_CFG_COUNT : Fld := ⟨Reg.CON_OSC_CFG, 12, 2⟩
def CON_OSC_CFG_FLOOR : Fld := ⟨Reg.CON_OSC_CFG, 0, 12⟩
def CON_WBASE_BASE : Fld := ⟨Reg.CON_WBASE, 16, 16⟩
def CON_WBASE_TXREF : Fld := ⟨Reg.CON_WBASE, 0, 16⟩
def CON_PCTL_DEPTH : Fld := ⟨Reg.CON_PCTL, 8, 5⟩
def CON_PCTL_EN : Fld := ⟨Reg.CON_PCTL, 0, 1⟩
def CON_PSTAT_LEVEL : Fld := ⟨Reg.CON_PSTAT, 16, 16⟩
def CON_PSTAT_RUN : Fld := ⟨Reg.CON_PSTAT, 8, 8⟩
def CON_PSTAT_ACTIVE : Fld := ⟨Reg.CON_PSTAT, 0, 1⟩
def CON_FSUM_FLAGGED : Fld := ⟨Reg.CON_FSUM, 0, 32⟩
def CON_WLCTL_LOOP_ERR : Fld := ⟨Reg.CON_WLCTL, 2, 1⟩
def CON_WLCTL_LOOP_BUSY : Fld := ⟨Reg.CON_WLCTL, 1, 1⟩
def CON_WLCTL_LOOP_START : Fld := ⟨Reg.CON_WLCTL, 0, 1⟩
def CON_WLOOP_LAG_B : Fld := ⟨Reg.CON_WLOOP, 16, 11⟩
def CON_WLOOP_LAG_A : Fld := ⟨Reg.CON_WLOOP, 0, 11⟩
def CON_WISO_BB : Fld := ⟨Reg.CON_WISO, 24, 8⟩
def CON_WISO_AB : Fld := ⟨Reg.CON_WISO, 16, 8⟩
def CON_WISO_BA : Fld := ⟨Reg.CON_WISO, 8, 8⟩
def CON_WISO_AA : Fld := ⟨Reg.CON_WISO, 0, 8⟩
def CON_WOSC_LG : Fld := ⟨Reg.CON_WOSC, 16, 8⟩
def CON_WOSC_DOM : Fld := ⟨Reg.CON_WOSC, 8, 8⟩
def CON_WOSC_CLOSED : Fld := ⟨Reg.CON_WOSC, 1, 1⟩
def CON_WOSC_FIRED : Fld := ⟨Reg.CON_WOSC, 0, 1⟩
def CON_ORDER_DOMAIN : Fld := ⟨Reg.CON_ORDER, 0, 8⟩
def CON_DCLR_CLR : Fld := ⟨Reg.CON_DCLR, 16, 16⟩
def CON_DCLR_BOUND : Fld := ⟨Reg.CON_DCLR, 3, 1⟩
def CON_DCLR_BRANCH : Fld := ⟨Reg.CON_DCLR, 2, 1⟩
def CON_DCLR_SRC : Fld := ⟨Reg.CON_DCLR, 0, 2⟩
def CON_DSUPST_OSC_CLOSED : Fld := ⟨Reg.CON_DSUPST, 31, 1⟩
def CON_DSUPST_FROZEN : Fld := ⟨Reg.CON_DSUPST, 24, 6⟩
def CON_DSUPST_LOST : Fld := ⟨Reg.CON_DSUPST, 16, 6⟩
def CON_DSUPST_STATE : Fld := ⟨Reg.CON_DSUPST, 14, 2⟩
def CON_DSUPST_IMPL : Fld := ⟨Reg.CON_DSUPST, 8, 6⟩
def CON_DSUPST_CNT : Fld := ⟨Reg.CON_DSUPST, 0, 8⟩
def CON_DCTL_EN : Fld := ⟨Reg.CON_DCTL, 31, 1⟩
def CON_DCTL_RELIEF_EN : Fld := ⟨Reg.CON_DCTL, 30, 1⟩
def CON_DCTL_MODE : Fld := ⟨Reg.CON_DCTL, 28, 2⟩
def CON_DCTL_WIN : Fld := ⟨Reg.CON_DCTL, 16, 4⟩
def CON_DCTL_GFIX : Fld := ⟨Reg.CON_DCTL, 0, 16⟩
def CON_GLIM_GMAX : Fld := ⟨Reg.CON_GLIM, 16, 16⟩
def CON_GLIM_GMIN : Fld := ⟨Reg.CON_GLIM, 0, 16⟩
def CON_GSAFE_SAFE : Fld := ⟨Reg.CON_GSAFE, 16, 16⟩
def CON_GSAFE_UP_RATE : Fld := ⟨Reg.CON_GSAFE, 0, 16⟩
def CON_GAPP_APPLIED : Fld := ⟨Reg.CON_GAPP, 16, 16⟩
def CON_GAPP_CLOSED : Fld := ⟨Reg.CON_GAPP, 15, 1⟩
def CON_GAPP_SEL : Fld := ⟨Reg.CON_GAPP, 12, 3⟩
def CON_GAPP_TICK : Fld := ⟨Reg.CON_GAPP, 8, 4⟩
def CON_GAPP_POS : Fld := ⟨Reg.CON_GAPP, 0, 8⟩
def CON_CCFG0_SP : Fld := ⟨Reg.CON_CCFG0, 16, 16⟩
def CON_CCFG0_KP : Fld := ⟨Reg.CON_CCFG0, 0, 16⟩
def CON_CCFG1_KI : Fld := ⟨Reg.CON_CCFG1, 16, 16⟩
def CON_CCFG1_KD : Fld := ⟨Reg.CON_CCFG1, 0, 16⟩
def CON_CCFG2_ALPHA : Fld := ⟨Reg.CON_CCFG2, 16, 16⟩
def CON_CCFG2_KT : Fld := ⟨Reg.CON_CCFG2, 0, 16⟩
def CON_CCFG3_EN : Fld := ⟨Reg.CON_CCFG3, 31, 1⟩
def CON_CCFG3_SHP : Fld := ⟨Reg.CON_CCFG3, 24, 3⟩
def CON_CCFG3_SHI : Fld := ⟨Reg.CON_CCFG3, 20, 3⟩
def CON_CCFG3_SHD : Fld := ⟨Reg.CON_CCFG3, 16, 3⟩
def CON_CCFG3_RATE : Fld := ⟨Reg.CON_CCFG3, 0, 15⟩
def POS_CTL_WALK_EN : Fld := ⟨Reg.POS_CTL, 3, 1⟩
def POS_CTL_DOP_EN : Fld := ⟨Reg.POS_CTL, 2, 1⟩
def POS_CTL_MODE : Fld := ⟨Reg.POS_CTL, 0, 2⟩
def POS_STAT_REJ_CNT : Fld := ⟨Reg.POS_STAT, 16, 8⟩
def POS_STAT_PORTAL : Fld := ⟨Reg.POS_STAT, 11, 1⟩
def POS_STAT_ENTRY_BAD : Fld := ⟨Reg.POS_STAT, 10, 1⟩
def POS_STAT_LEARN : Fld := ⟨Reg.POS_STAT, 9, 1⟩
def POS_STAT_DOP_CLAMP : Fld := ⟨Reg.POS_STAT, 8, 1⟩
def POS_STAT_FIX_REJ : Fld := ⟨Reg.POS_STAT, 7, 1⟩
def POS_STAT_ZONE_SCAN : Fld := ⟨Reg.POS_STAT, 6, 1⟩
def POS_STAT_SINGLE : Fld := ⟨Reg.POS_STAT, 5, 1⟩
def POS_STAT_SLIP : Fld := ⟨Reg.POS_STAT, 4, 1⟩
def POS_STAT_STATE : Fld := ⟨Reg.POS_STAT, 0, 4⟩
def POS_ROUTE_SENSE : Fld := ⟨Reg.POS_ROUTE, 28, 1⟩
def POS_ROUTE_REGION : Fld := ⟨Reg.POS_ROUTE, 16, 12⟩
def POS_ROUTE_ROUTE : Fld := ⟨Reg.POS_ROUTE, 0, 16⟩
def POS_CHAIN_CHAIN : Fld := ⟨Reg.POS_CHAIN, 0, 32⟩
def POS_SIGMA_SIGMA : Fld := ⟨Reg.POS_SIGMA, 0, 32⟩
def POS_SPEED_SPEED : Fld := ⟨Reg.POS_SPEED, 0, 32⟩
def POS_LEAD_LEAD : Fld := ⟨Reg.POS_LEAD, 0, 32⟩
def POS_WALK_VALID : Fld := ⟨Reg.POS_WALK, 31, 1⟩
def POS_WALK_ZREG : Fld := ⟨Reg.POS_WALK, 24, 4⟩
def POS_WALK_ENTRY : Fld := ⟨Reg.POS_WALK, 0, 21⟩
def POS_ATLAS_MIRROR_LOST : Fld := ⟨Reg.POS_ATLAS, 5, 1⟩
def POS_ATLAS_SW_PEND : Fld := ⟨Reg.POS_ATLAS, 4, 1⟩
def POS_ATLAS_LOADING : Fld := ⟨Reg.POS_ATLAS, 3, 1⟩
def POS_ATLAS_S1_VALID : Fld := ⟨Reg.POS_ATLAS, 2, 1⟩
def POS_ATLAS_S0_VALID : Fld := ⟨Reg.POS_ATLAS, 1, 1⟩
def POS_ATLAS_ACT_SLOT : Fld := ⟨Reg.POS_ATLAS, 0, 1⟩
def POS_TCFG_EN : Fld := ⟨Reg.POS_TCFG, 31, 1⟩
def POS_TCFG_INV : Fld := ⟨Reg.POS_TCFG, 30, 1⟩
def POS_TCFG_FAULT : Fld := ⟨Reg.POS_TCFG, 29, 1⟩
def POS_TCFG_PPR : Fld := ⟨Reg.POS_TCFG, 16, 11⟩
def POS_TCFG_FILT : Fld := ⟨Reg.POS_TCFG, 0, 8⟩
def POS_TDIAM_NOM : Fld := ⟨Reg.POS_TDIAM, 16, 16⟩
def POS_TDIAM_LEARNT : Fld := ⟨Reg.POS_TDIAM, 0, 16⟩
def POS_PRES_EN : Fld := ⟨Reg.POS_PRES, 31, 1⟩
def POS_PRES_POL : Fld := ⟨Reg.POS_PRES, 30, 1⟩
def POS_PRES_TRACK : Fld := ⟨Reg.POS_PRES, 29, 1⟩
def POS_PRES_STATE : Fld := ⟨Reg.POS_PRES, 28, 1⟩
def POS_PRES_FILT : Fld := ⟨Reg.POS_PRES, 24, 4⟩
def POS_PRES_OFFSET : Fld := ⟨Reg.POS_PRES, 0, 24⟩
def POS_WREL_ISO : Fld := ⟨Reg.POS_WREL, 16, 8⟩
def POS_WREL_GREL : Fld := ⟨Reg.POS_WREL, 0, 8⟩
def POS_WLIM_REQ_BANK : Fld := ⟨Reg.POS_WLIM, 26, 1⟩
def POS_WLIM_REQ_TOL : Fld := ⟨Reg.POS_WLIM, 25, 1⟩
def POS_WLIM_REQ_REGION : Fld := ⟨Reg.POS_WLIM, 24, 1⟩
def POS_WLIM_LIMGAIN : Fld := ⟨Reg.POS_WLIM, 8, 8⟩
def POS_WLIM_LIMOUT : Fld := ⟨Reg.POS_WLIM, 0, 8⟩
def POS_WTAG_VALID : Fld := ⟨Reg.POS_WTAG, 31, 1⟩
def POS_WTAG_REG_B : Fld := ⟨Reg.POS_WTAG, 16, 12⟩
def POS_WTAG_REG_A : Fld := ⟨Reg.POS_WTAG, 0, 12⟩
def SYN_REF_CTL_SYNC_SEL : Fld := ⟨Reg.SYN_REF_CTL, 10, 2⟩
def SYN_REF_CTL_REF2_EN : Fld := ⟨Reg.SYN_REF_CTL, 9, 1⟩
def SYN_REF_CTL_REVERT : Fld := ⟨Reg.SYN_REF_CTL, 8, 1⟩
def SYN_REF_STAT_HOLD_SEC : Fld := ⟨Reg.SYN_REF_STAT, 16, 16⟩
def SYN_REF_STAT_REF2_FREQ : Fld := ⟨Reg.SYN_REF_STAT, 10, 3⟩
def SYN_REF_STAT_REF_FREQ : Fld := ⟨Reg.SYN_REF_STAT, 7, 3⟩
def SYN_REF_STAT_CK_LOCK : Fld := ⟨Reg.SYN_REF_STAT, 4, 1⟩
def SYN_REF_STAT_REF2_OK : Fld := ⟨Reg.SYN_REF_STAT, 3, 1⟩
def SYN_REF_STAT_REF_OK : Fld := ⟨Reg.SYN_REF_STAT, 2, 1⟩
def SYN_REF_STAT_SEL : Fld := ⟨Reg.SYN_REF_STAT, 0, 2⟩
def SYN_GSTAT_FREQ_ERR : Fld := ⟨Reg.SYN_GSTAT, 1, 1⟩
def SYN_GSTAT_MAP_ERR : Fld := ⟨Reg.SYN_GSTAT, 0, 1⟩
def SYN_SCFG_FREQ : Fld := ⟨Reg.SYN_SCFG, 0, 23⟩
def SYN_SSTAT_RELOCKS : Fld := ⟨Reg.SYN_SSTAT, 24, 8⟩
def SYN_SSTAT_STATE : Fld := ⟨Reg.SYN_SSTAT, 2, 2⟩
def SYN_SSTAT_SETTLED : Fld := ⟨Reg.SYN_SSTAT, 1, 1⟩
def SYN_SSTAT_LOCK : Fld := ⟨Reg.SYN_SSTAT, 0, 1⟩
def SYN_LSRC_TX_V : Fld := ⟨Reg.SYN_LSRC, 7, 1⟩
def SYN_LSRC_TX_SYN : Fld := ⟨Reg.SYN_LSRC, 4, 3⟩
def SYN_LSRC_RX_V : Fld := ⟨Reg.SYN_LSRC, 3, 1⟩
def SYN_LSRC_RX_SYN : Fld := ⟨Reg.SYN_LSRC, 0, 3⟩
def SYN_LSTATE_PEND_T : Fld := ⟨Reg.SYN_LSTATE, 16, 12⟩
def SYN_LSTATE_RX_STATE : Fld := ⟨Reg.SYN_LSTATE, 8, 3⟩
def SYN_LSTATE_TX_REQ : Fld := ⟨Reg.SYN_LSTATE, 7, 1⟩
def SYN_LSTATE_CAUSE : Fld := ⟨Reg.SYN_LSTATE, 4, 3⟩
def SYN_LSTATE_TX_STATE : Fld := ⟨Reg.SYN_LSTATE, 0, 3⟩
def TDD_CTL_JOB : Fld := ⟨Reg.TDD_CTL, 8, 5⟩
def TDD_CTL_SRC : Fld := ⟨Reg.TDD_CTL, 1, 1⟩
def TDD_CTL_EN : Fld := ⟨Reg.TDD_CTL, 0, 1⟩
def TDD_STAT_ERR : Fld := ⟨Reg.TDD_STAT, 16, 16⟩
def TDD_STAT_STATE : Fld := ⟨Reg.TDD_STAT, 0, 3⟩
def TDD_FRAME_PHASE : Fld := ⟨Reg.TDD_FRAME, 0, 24⟩
def TDD_TOFF_OFFSET : Fld := ⟨Reg.TDD_TOFF, 0, 32⟩
def TDD_PPS_OFF_OFFSET : Fld := ⟨Reg.TDD_PPS_OFF, 0, 32⟩
def TDD_GUARD_NS : Fld := ⟨Reg.TDD_GUARD, 0, 16⟩
def TDD_WTDD_REGION : Fld := ⟨Reg.TDD_WTDD, 16, 12⟩
def TDD_WTDD_ACTIVE : Fld := ⟨Reg.TDD_WTDD, 1, 1⟩
def TDD_WTDD_PAT_VALID : Fld := ⟨Reg.TDD_WTDD, 0, 1⟩
def TDD_FCFG_FUNC : Fld := ⟨Reg.TDD_FCFG, 29, 3⟩
def TDD_FCFG_POL : Fld := ⟨Reg.TDD_FCFG, 28, 1⟩
def TDD_FCFG_LEVEL : Fld := ⟨Reg.TDD_FCFG, 27, 1⟩
def TDD_FCFG_FORCED : Fld := ⟨Reg.TDD_FCFG, 26, 1⟩
def TDD_FCFG_GUARD_HIT : Fld := ⟨Reg.TDD_FCFG, 25, 1⟩
def TDD_FCFG_TARGET : Fld := ⟨Reg.TDD_FCFG, 16, 4⟩
def TDD_FCFG_ADV : Fld := ⟨Reg.TDD_FCFG, 0, 15⟩
def TDD_FTIM_HOLD : Fld := ⟨Reg.TDD_FTIM, 0, 15⟩
def TDD_RCTL_EN : Fld := ⟨Reg.TDD_RCTL, 31, 1⟩
def TDD_RCTL_SW_TRIG : Fld := ⟨Reg.TDD_RCTL, 30, 1⟩
def TDD_RCTL_DIV : Fld := ⟨Reg.TDD_RCTL, 0, 14⟩
def TDD_RSTAT_LATE : Fld := ⟨Reg.TDD_RSTAT, 16, 8⟩
def TDD_RSTAT_SEQ : Fld := ⟨Reg.TDD_RSTAT, 8, 4⟩
def TDD_RSTAT_PARITY : Fld := ⟨Reg.TDD_RSTAT, 1, 1⟩
def TDD_RSTAT_BUSY : Fld := ⟨Reg.TDD_RSTAT, 0, 1⟩
def TDD_RSEQ_SEL_INDEX : Fld := ⟨Reg.TDD_RSEQ_SEL, 0, 8⟩
def TDD_RSEQ_DATA_DATA : Fld := ⟨Reg.TDD_RSEQ_DATA, 0, 32⟩
def TDD_RDATA_DATA : Fld := ⟨Reg.TDD_RDATA, 0, 32⟩
def RCE_CTL_OSHARE : Fld := ⟨Reg.RCE_CTL, 4, 2⟩
def RCE_CTL_EN : Fld := ⟨Reg.RCE_CTL, 0, 1⟩
def RCE_STAT_LOAD : Fld := ⟨Reg.RCE_STAT, 16, 16⟩
def RCE_STAT_AERIAL : Fld := ⟨Reg.RCE_STAT, 14, 2⟩
def RCE_STAT_JOB : Fld := ⟨Reg.RCE_STAT, 8, 5⟩
def RCE_STAT_SURVEY : Fld := ⟨Reg.RCE_STAT, 7, 1⟩
def RCE_STAT_STATE : Fld := ⟨Reg.RCE_STAT, 0, 3⟩
def RCE_LISTEN_PWR : Fld := ⟨Reg.RCE_LISTEN, 16, 16⟩
def RCE_JCFG0_KIND : Fld := ⟨Reg.RCE_JCFG0, 28, 4⟩
def RCE_JCFG0_RET : Fld := ⟨Reg.RCE_JCFG0, 26, 2⟩
def RCE_JCFG0_AERIAL : Fld := ⟨Reg.RCE_JCFG0, 24, 2⟩
def RCE_JCFG0_SCS : Fld := ⟨Reg.RCE_JCFG0, 22, 2⟩
def RCE_JCFG0_SSBP : Fld := ⟨Reg.RCE_JCFG0, 19, 3⟩
def RCE_JCFG0_PERIOD : Fld := ⟨Reg.RCE_JCFG0, 0, 16⟩
def RCE_JCFG1_FREQ : Fld := ⟨Reg.RCE_JCFG1, 0, 23⟩
def RCE_JRES0_LEVEL : Fld := ⟨Reg.RCE_JRES0, 16, 16⟩
def RCE_JRES0_SSB : Fld := ⟨Reg.RCE_JRES0, 10, 6⟩
def RCE_JRES0_IDENT : Fld := ⟨Reg.RCE_JRES0, 0, 10⟩
def RCE_JRES1_PHASE : Fld := ⟨Reg.RCE_JRES1, 0, 24⟩
def RCE_JRES2_STATUS : Fld := ⟨Reg.RCE_JRES2, 28, 4⟩
def RCE_JRES2_AERIAL : Fld := ⟨Reg.RCE_JRES2, 26, 2⟩
def RCE_JRES2_COUNT : Fld := ⟨Reg.RCE_JRES2, 0, 16⟩
def RCE_CXCFG_EN : Fld := ⟨Reg.RCE_CXCFG, 31, 1⟩
def RCE_CXCFG_DEFER : Fld := ⟨Reg.RCE_CXCFG, 30, 1⟩
def RCE_CXCFG_RCE_SKIP : Fld := ⟨Reg.RCE_CXCFG, 29, 1⟩
def RCE_CXCFG_WMASK : Fld := ⟨Reg.RCE_CXCFG, 0, 16⟩
def RCE_CXFR_FMASK : Fld := ⟨Reg.RCE_CXFR, 0, 16⟩
def RCE_CXSTAT_REQ : Fld := ⟨Reg.RCE_CXSTAT, 31, 1⟩
def RCE_CXSTAT_PRI : Fld := ⟨Reg.RCE_CXSTAT, 30, 1⟩
def RCE_CXSTAT_GNT : Fld := ⟨Reg.RCE_CXSTAT, 29, 1⟩
def RCE_CXSTAT_DEFERRING : Fld := ⟨Reg.RCE_CXSTAT, 28, 1⟩
def RCE_CXSTAT_DEFER_T : Fld := ⟨Reg.RCE_CXSTAT, 8, 8⟩
def RCE_CXSTAT_COUNT : Fld := ⟨Reg.RCE_CXSTAT, 0, 8⟩
def SNS_CTL_CAL1 : Fld := ⟨Reg.SNS_CTL, 3, 1⟩
def SNS_CTL_CAL0 : Fld := ⟨Reg.SNS_CTL, 2, 1⟩
def SNS_CTL_SWAP : Fld := ⟨Reg.SNS_CTL, 1, 1⟩
def SNS_CTL_EN : Fld := ⟨Reg.SNS_CTL, 0, 1⟩
def SNS_STAT_LAST_END : Fld := ⟨Reg.SNS_STAT, 24, 8⟩
def SNS_STAT_INJ_DROP : Fld := ⟨Reg.SNS_STAT, 16, 8⟩
def SNS_STAT_CAL1_BUSY : Fld := ⟨Reg.SNS_STAT, 7, 1⟩
def SNS_STAT_CAL0_BUSY : Fld := ⟨Reg.SNS_STAT, 6, 1⟩
def SNS_STAT_SWAP_PEND : Fld := ⟨Reg.SNS_STAT, 5, 1⟩
def SNS_STAT_ACT_BANK : Fld := ⟨Reg.SNS_STAT, 4, 1⟩
def SNS_STAT_ERR : Fld := ⟨Reg.SNS_STAT, 0, 4⟩
def SNS_CHK_SA1 : Fld := ⟨Reg.SNS_CHK, 16, 16⟩
def SNS_CHK_SA0 : Fld := ⟨Reg.SNS_CHK, 0, 16⟩
def SNS_CAL_STAT_SA1 : Fld := ⟨Reg.SNS_CAL_STAT, 28, 4⟩
def SNS_CAL_STAT_SA0 : Fld := ⟨Reg.SNS_CAL_STAT, 24, 4⟩
def SNS_INJ_REQ_GO : Fld := ⟨Reg.SNS_INJ_REQ, 31, 1⟩
def SNS_INJ_REQ_CONV : Fld := ⟨Reg.SNS_INJ_REQ, 30, 1⟩
def SNS_INJ_REQ_INPUT : Fld := ⟨Reg.SNS_INJ_REQ, 0, 6⟩
def SNS_OVR_INPUT : Fld := ⟨Reg.SNS_OVR, 0, 32⟩
def SNS_CAL_CFG_IVL : Fld := ⟨Reg.SNS_CAL_CFG, 16, 16⟩
def SNS_CAL_CFG_TEMP : Fld := ⟨Reg.SNS_CAL_CFG, 8, 8⟩
def SNS_CAL_CFG_CHK_TOL : Fld := ⟨Reg.SNS_CAL_CFG, 0, 8⟩
def SNS_INJ_RES_DONE : Fld := ⟨Reg.SNS_INJ_RES, 31, 1⟩
def SNS_INJ_RES_OVR : Fld := ⟨Reg.SNS_INJ_RES, 30, 1⟩
def SNS_INJ_RES_CAL_DELAYED : Fld := ⟨Reg.SNS_INJ_RES, 29, 1⟩
def SNS_INJ_RES_FLT : Fld := ⟨Reg.SNS_INJ_RES, 28, 1⟩
def SNS_INJ_RES_INPUT : Fld := ⟨Reg.SNS_INJ_RES, 16, 6⟩
def SNS_INJ_RES_CODE : Fld := ⟨Reg.SNS_INJ_RES, 0, 16⟩
def SNS_BSEAL_SEAL : Fld := ⟨Reg.SNS_BSEAL, 0, 32⟩
def SNS_INJ_TIME_GT : Fld := ⟨Reg.SNS_INJ_TIME, 0, 20⟩
def SNS_SEQ_ROUNDS : Fld := ⟨Reg.SNS_SEQ, 16, 8⟩
def SNS_SEQ_LEN : Fld := ⟨Reg.SNS_SEQ, 8, 5⟩
def SNS_SEQ_SCS : Fld := ⟨Reg.SNS_SEQ, 0, 1⟩
def SNS_ENTRY_USED : Fld := ⟨Reg.SNS_ENTRY, 6, 1⟩
def SNS_ENTRY_INPUT : Fld := ⟨Reg.SNS_ENTRY, 0, 6⟩
def SNS_FILT_NOTCH : Fld := ⟨Reg.SNS_FILT, 4, 2⟩
def SNS_FILT_ORDER : Fld := ⟨Reg.SNS_FILT, 0, 3⟩
def SNS_RES_VALID : Fld := ⟨Reg.SNS_RES, 31, 1⟩
def SNS_RES_OVR : Fld := ⟨Reg.SNS_RES, 30, 1⟩
def SNS_RES_CHK_ERR : Fld := ⟨Reg.SNS_RES, 29, 1⟩
def SNS_RES_SETTLING : Fld := ⟨Reg.SNS_RES, 28, 1⟩
def SNS_RES_CODE : Fld := ⟨Reg.SNS_RES, 0, 16⟩
def MBX_MBCFG_LEVEL : Fld := ⟨Reg.MBX_MBCFG, 8, 2⟩
def MBX_MBCFG_IRQ_EN : Fld := ⟨Reg.MBX_MBCFG, 1, 1⟩
def MBX_MBCFG_EN : Fld := ⟨Reg.MBX_MBCFG, 0, 1⟩
def MBX_LOCK_HELD : Fld := ⟨Reg.MBX_LOCK, 31, 1⟩
def MBX_LOCK_HOLDER : Fld := ⟨Reg.MBX_LOCK, 16, 5⟩
def MBX_LOCK_LEASE_LEFT : Fld := ⟨Reg.MBX_LOCK, 0, 12⟩
def MBX_NMASK_EN : Fld := ⟨Reg.MBX_NMASK, 0, 16⟩
def MBX_CSTAT_READY : Fld := ⟨Reg.MBX_CSTAT, 31, 1⟩
def MBX_CSTAT_PAIR : Fld := ⟨Reg.MBX_CSTAT, 30, 1⟩
def MBX_CSTAT_STANDBY : Fld := ⟨Reg.MBX_CSTAT, 29, 1⟩
def MBX_CSTAT_FAILOVERS : Fld := ⟨Reg.MBX_CSTAT, 16, 8⟩
def MBX_CSTAT_ABORTED : Fld := ⟨Reg.MBX_CSTAT, 0, 16⟩
def MBX_NQ_LOST : Fld := ⟨Reg.MBX_NQ, 16, 16⟩
def MBX_NQ_DEPTH : Fld := ⟨Reg.MBX_NQ, 0, 7⟩
def PCI_SPI_RD_LEVEL : Fld := ⟨Reg.PCI_SPI_RD, 0, 2⟩
def PCI_LNK_STAT_WIDTH : Fld := ⟨Reg.PCI_LNK_STAT, 16, 4⟩
def PCI_LNK_STAT_SPEED : Fld := ⟨Reg.PCI_LNK_STAT, 0, 4⟩
def DRC_CSTAT_LOST : Fld := ⟨Reg.DRC_CSTAT, 31, 1⟩
def DRC_CSTAT_SELF_REFRESH : Fld := ⟨Reg.DRC_CSTAT, 30, 1⟩
def DRC_CSTAT_TRAINED : Fld := ⟨Reg.DRC_CSTAT, 29, 1⟩
def DRC_CSTAT_SCRUB_EN : Fld := ⟨Reg.DRC_CSTAT, 0, 1⟩
def DRC_CECC_UE : Fld := ⟨Reg.DRC_CECC, 16, 16⟩
def DRC_CECC_CE : Fld := ⟨Reg.DRC_CECC, 0, 16⟩
def FLT_CTL_FF_MIN : Fld := ⟨Reg.FLT_CTL, 4, 2⟩
def FLT_CTL_LOG_NOTE : Fld := ⟨Reg.FLT_CTL, 0, 1⟩
def FLT_STAT_FLT_MUTE : Fld := ⟨Reg.FLT_STAT, 16, 16⟩
def FLT_STAT_WORST : Fld := ⟨Reg.FLT_STAT, 12, 2⟩
def FLT_STAT_ANY_REACT : Fld := ⟨Reg.FLT_STAT, 11, 1⟩
def FLT_STAT_LATCHED : Fld := ⟨Reg.FLT_STAT, 0, 11⟩
def FLT_ALERT_PULSE : Fld := ⟨Reg.FLT_ALERT, 31, 1⟩
def FLT_ALERT_PIN : Fld := ⟨Reg.FLT_ALERT, 30, 1⟩
def FLT_ALERT_SW : Fld := ⟨Reg.FLT_ALERT, 0, 1⟩
def FLT_FIRST_VALID : Fld := ⟨Reg.FLT_FIRST, 31, 1⟩
def FLT_FIRST_SEV : Fld := ⟨Reg.FLT_FIRST, 24, 2⟩
def FLT_FIRST_PATH : Fld := ⟨Reg.FLT_FIRST, 17, 1⟩
def FLT_FIRST_INJ : Fld := ⟨Reg.FLT_FIRST, 16, 1⟩
def FLT_FIRST_SOURCE : Fld := ⟨Reg.FLT_FIRST, 0, 10⟩
def FLT_FIRST_SEC_OP_SEC : Fld := ⟨Reg.FLT_FIRST_SEC, 0, 32⟩
def FLT_FIRST_GT_GT : Fld := ⟨Reg.FLT_FIRST_GT, 0, 20⟩
def FLT_FIRST_PC_PWR_CYC : Fld := ⟨Reg.FLT_FIRST_PC, 0, 24⟩
def FLT_FIRST_CNT_COUNT : Fld := ⟨Reg.FLT_FIRST_CNT, 0, 10⟩
def FLT_FI_POLICY_FI_LOCK : Fld := ⟨Reg.FLT_FI_POLICY, 31, 1⟩
def FLT_FI_POLICY_POLICY : Fld := ⟨Reg.FLT_FI_POLICY, 0, 2⟩
def FLT_FI_STAT_UNLOCKED : Fld := ⟨Reg.FLT_FI_STAT, 31, 1⟩
def FLT_FI_STAT_COUNT : Fld := ⟨Reg.FLT_FI_STAT, 16, 8⟩
def FLT_FI_STAT_LEFT : Fld := ⟨Reg.FLT_FI_STAT, 0, 10⟩
def FLT_SNAP_CFG_EN : Fld := ⟨Reg.FLT_SNAP_CFG, 31, 1⟩
def FLT_SNAP_CFG_INPUT1 : Fld := ⟨Reg.FLT_SNAP_CFG, 8, 6⟩
def FLT_SNAP_CFG_INPUT0 : Fld := ⟨Reg.FLT_SNAP_CFG, 0, 6⟩
def FLT_SAMECYC_SRC : Fld := ⟨Reg.FLT_SAMECYC, 0, 32⟩
def FLT_ACTIVE_SRC : Fld := ⟨Reg.FLT_ACTIVE, 0, 32⟩
def FLT_SCFG_BASE : Fld := ⟨Reg.FLT_SCFG, 30, 2⟩
def FLT_SCFG_SCOPE : Fld := ⟨Reg.FLT_SCFG, 28, 2⟩
def FLT_SCFG_AUTO_REC : Fld := ⟨Reg.FLT_SCFG, 27, 1⟩
def FLT_SCFG_FRZ : Fld := ⟨Reg.FLT_SCFG, 26, 1⟩
def FLT_SCFG_SNAP : Fld := ⟨Reg.FLT_SCFG, 25, 1⟩
def FLT_SCFG_N : Fld := ⟨Reg.FLT_SCFG, 16, 8⟩
def FLT_SCFG_W : Fld := ⟨Reg.FLT_SCFG, 0, 16⟩
def FLT_SSTAT_ACTIVE : Fld := ⟨Reg.FLT_SSTAT, 31, 1⟩
def FLT_SSTAT_LATCHED : Fld := ⟨Reg.FLT_SSTAT, 30, 1⟩
def FLT_SSTAT_ESC : Fld := ⟨Reg.FLT_SSTAT, 29, 1⟩
def FLT_SSTAT_REACT : Fld := ⟨Reg.FLT_SSTAT, 28, 1⟩
def FLT_SSTAT_INJ : Fld := ⟨Reg.FLT_SSTAT, 27, 1⟩
def FLT_SSTAT_PATH : Fld := ⟨Reg.FLT_SSTAT, 26, 1⟩
def FLT_SSTAT_SEV : Fld := ⟨Reg.FLT_SSTAT, 24, 2⟩
def FLT_SSTAT_CNT : Fld := ⟨Reg.FLT_SSTAT, 16, 8⟩
def FLT_SSTAT_TOTAL : Fld := ⟨Reg.FLT_SSTAT, 0, 16⟩
def FLT_CLR_SEC_OP_SEC : Fld := ⟨Reg.FLT_CLR_SEC, 0, 32⟩
def FLT_CLR_GT_GT : Fld := ⟨Reg.FLT_CLR_GT, 0, 20⟩
def FLT_PCTL_EN : Fld := ⟨Reg.FLT_PCTL, 1, 5⟩
def FLT_PSTAT_RESTART : Fld := ⟨Reg.FLT_PSTAT, 31, 1⟩
def FLT_PSTAT_HOSTSTOP : Fld := ⟨Reg.FLT_PSTAT, 30, 1⟩
def FLT_PSTAT_WIN : Fld := ⟨Reg.FLT_PSTAT, 21, 5⟩
def FLT_PSTAT_LANE : Fld := ⟨Reg.FLT_PSTAT, 16, 5⟩
def FLT_PSTAT_DOM : Fld := ⟨Reg.FLT_PSTAT, 0, 9⟩
def FLT_THR_CLR_FLOOR : Fld := ⟨Reg.FLT_THR_CLR, 16, 16⟩
def FLT_THR_CLR_SHEETS : Fld := ⟨Reg.FLT_THR_CLR, 0, 4⟩
def FLT_THR_NRS_MAX : Fld := ⟨Reg.FLT_THR_NRS, 16, 16⟩
def FLT_THR_NRS_SHEETS : Fld := ⟨Reg.FLT_THR_NRS, 0, 8⟩
def FLT_THR_EMS_OVER : Fld := ⟨Reg.FLT_THR_EMS, 16, 16⟩
def FLT_THR_EMS_REV : Fld := ⟨Reg.FLT_THR_EMS, 0, 13⟩
def FLT_THR_SPUR_LIMIT : Fld := ⟨Reg.FLT_THR_SPUR, 16, 16⟩
def FLT_THR_SPUR_REV : Fld := ⟨Reg.FLT_THR_SPUR, 0, 16⟩
def FLT_THR_DONOR_MIN : Fld := ⟨Reg.FLT_THR_DONOR, 16, 16⟩
def FLT_THR_DONOR_MISSES : Fld := ⟨Reg.FLT_THR_DONOR, 0, 4⟩
def FLT_THR_REFL_RL_MIN : Fld := ⟨Reg.FLT_THR_REFL, 16, 16⟩
def FLT_THR_REFL_FWD_MIN : Fld := ⟨Reg.FLT_THR_REFL, 0, 16⟩
def FLT_RETRY_WIN_SHEETS : Fld := ⟨Reg.FLT_RETRY_WIN, 0, 32⟩
def FLT_HOLD_HOLD : Fld := ⟨Reg.FLT_HOLD, 8, 24⟩
def FLT_HOLD_LIMIT : Fld := ⟨Reg.FLT_HOLD, 0, 4⟩
def FLT_WCFG_DONOR_EN : Fld := ⟨Reg.FLT_WCFG, 31, 1⟩
def FLT_WCFG_UL : Fld := ⟨Reg.FLT_WCFG, 30, 1⟩
def FLT_WCFG_EMS_EN : Fld := ⟨Reg.FLT_WCFG, 29, 1⟩
def FLT_WCFG_DONOR_JOB : Fld := ⟨Reg.FLT_WCFG, 16, 5⟩
def FLT_WSTAT_HOLD_LEFT : Fld := ⟨Reg.FLT_WSTAT, 16, 16⟩
def FLT_WSTAT_LATCHED : Fld := ⟨Reg.FLT_WSTAT, 9, 1⟩
def FLT_WSTAT_STOPPED : Fld := ⟨Reg.FLT_WSTAT, 8, 1⟩
def FLT_WSTAT_REASON : Fld := ⟨Reg.FLT_WSTAT, 0, 8⟩
def FLT_WRETRY_KIND : Fld := ⟨Reg.FLT_WRETRY, 28, 4⟩
def FLT_WRETRY_N : Fld := ⟨Reg.FLT_WRETRY, 24, 4⟩
def FLT_WRETRY_TRIPS : Fld := ⟨Reg.FLT_WRETRY, 0, 24⟩
def FLT_WDONOR_RSRP : Fld := ⟨Reg.FLT_WDONOR, 16, 16⟩
def FLT_WDONOR_MISSES : Fld := ⟨Reg.FLT_WDONOR, 8, 8⟩
def FLT_WDONOR_GOOD : Fld := ⟨Reg.FLT_WDONOR, 0, 8⟩
def FLT_WNRS_K : Fld := ⟨Reg.FLT_WNRS, 16, 16⟩
def FLT_WEMS_M : Fld := ⟨Reg.FLT_WEMS, 16, 16⟩
def FLT_WEMS_AGE : Fld := ⟨Reg.FLT_WEMS, 0, 16⟩
def FLT_LCFG_REFL_EN : Fld := ⟨Reg.FLT_LCFG, 31, 1⟩
def FLT_LCFG_PA_VALID : Fld := ⟨Reg.FLT_LCFG, 30, 1⟩
def FLT_LCFG_PA_FEC : Fld := ⟨Reg.FLT_LCFG, 24, 5⟩
def FLT_LCFG_SNS_REFL : Fld := ⟨Reg.FLT_LCFG, 16, 5⟩
def FLT_LCFG_SNS_FWD : Fld := ⟨Reg.FLT_LCFG, 8, 5⟩
def FLT_LSTAT_RL : Fld := ⟨Reg.FLT_LSTAT, 16, 16⟩
def FLT_LSTAT_LATCHED : Fld := ⟨Reg.FLT_LSTAT, 9, 1⟩
def FLT_LSTAT_MUTED : Fld := ⟨Reg.FLT_LSTAT, 8, 1⟩
def FLT_LSTAT_HOST : Fld := ⟨Reg.FLT_LSTAT, 6, 1⟩
def FLT_LSTAT_SPUR : Fld := ⟨Reg.FLT_LSTAT, 5, 1⟩
def FLT_LSTAT_REFL : Fld := ⟨Reg.FLT_LSTAT, 4, 1⟩
def FLT_LSTAT_N : Fld := ⟨Reg.FLT_LSTAT, 0, 4⟩
def FLT_GCFG_SCS : Fld := ⟨Reg.FLT_GCFG, 12, 3⟩
def FLT_GCFG_SLOTS : Fld := ⟨Reg.FLT_GCFG, 8, 4⟩
def FLT_GCFG_THRESH : Fld := ⟨Reg.FLT_GCFG, 0, 5⟩
def FLT_GSTAT_DUTY : Fld := ⟨Reg.FLT_GSTAT, 16, 16⟩
def FLT_GSTAT_OPEN : Fld := ⟨Reg.FLT_GSTAT, 0, 11⟩
def FLT_DSTAT_HOLD_LEFT : Fld := ⟨Reg.FLT_DSTAT, 16, 16⟩
def FLT_DSTAT_LATCHED : Fld := ⟨Reg.FLT_DSTAT, 9, 1⟩
def FLT_DSTAT_CLOSED : Fld := ⟨Reg.FLT_DSTAT, 8, 1⟩
def FLT_DSTAT_N : Fld := ⟨Reg.FLT_DSTAT, 4, 4⟩
def FLT_DSTAT_CLR : Fld := ⟨Reg.FLT_DSTAT, 1, 1⟩
def FLT_DSTAT_OSC : Fld := ⟨Reg.FLT_DSTAT, 0, 1⟩
def FBK_STAT_LEVEL : Fld := ⟨Reg.FBK_STAT, 30, 2⟩
def FBK_STAT_RO_DEG : Fld := ⟨Reg.FBK_STAT, 29, 1⟩
def FBK_STAT_FULL : Fld := ⟨Reg.FBK_STAT, 28, 1⟩
def FBK_STAT_DROPPING : Fld := ⟨Reg.FBK_STAT, 27, 1⟩
def FBK_STAT_DEPTH : Fld := ⟨Reg.FBK_STAT, 0, 9⟩
def FBK_NEXT_SEQ_SEQ : Fld := ⟨Reg.FBK_NEXT_SEQ, 0, 32⟩
def FBK_OLDEST_SEQ_SEQ : Fld := ⟨Reg.FBK_OLDEST_SEQ, 0, 32⟩
def FBK_RETAINED_COUNT : Fld := ⟨Reg.FBK_RETAINED, 0, 17⟩
def FBK_OVW_COUNT : Fld := ⟨Reg.FBK_OVW, 0, 32⟩
def FBK_DROP_COUNT : Fld := ⟨Reg.FBK_DROP, 0, 32⟩
def FBK_COAL_COUNT : Fld := ⟨Reg.FBK_COAL, 0, 32⟩
def FBK_CLR_TOTAL_COUNT : Fld := ⟨Reg.FBK_CLR_TOTAL, 0, 32⟩
def FBK_RETRIES_COUNT : Fld := ⟨Reg.FBK_RETRIES, 0, 32⟩
def FBK_CRC_CNT_COUNT : Fld := ⟨Reg.FBK_CRC_CNT, 0, 32⟩
def FBK_CAUSE_LEVEL : Fld := ⟨Reg.FBK_CAUSE, 30, 2⟩
def FBK_CAUSE_KIND : Fld := ⟨Reg.FBK_CAUSE, 28, 2⟩
def FBK_CAUSE_SLOT : Fld := ⟨Reg.FBK_CAUSE, 0, 17⟩
def FBK_LRR_STAT_USED : Fld := ⟨Reg.FBK_LRR_STAT, 4, 5⟩
def FBK_LRR_STAT_NEXT : Fld := ⟨Reg.FBK_LRR_STAT, 0, 4⟩
def FBK_CURSOR_SEQ : Fld := ⟨Reg.FBK_CURSOR, 0, 32⟩
def FBK_AP_CTL_AUTO : Fld := ⟨Reg.FBK_AP_CTL, 0, 1⟩
def FBK_AP_STAT_BAD : Fld := ⟨Reg.FBK_AP_STAT, 3, 1⟩
def FBK_AP_STAT_SKIPPED : Fld := ⟨Reg.FBK_AP_STAT, 2, 1⟩
def FBK_AP_STAT_END : Fld := ⟨Reg.FBK_AP_STAT, 1, 1⟩
def FBK_AP_STAT_VALID : Fld := ⟨Reg.FBK_AP_STAT, 0, 1⟩
def FBK_AP_WORD : Fld := ⟨Reg.FBK_AP, 0, 32⟩
def FBK_LRR_WORD : Fld := ⟨Reg.FBK_LRR, 0, 32⟩
def PMC_CTL_RUN : Fld := ⟨Reg.PMC_CTL, 31, 1⟩
def PMC_CTL_USER_EN : Fld := ⟨Reg.PMC_CTL, 30, 1⟩
def PMC_CTL_CLEAR : Fld := ⟨Reg.PMC_CTL, 29, 1⟩
def PMC_CTL_DEST : Fld := ⟨Reg.PMC_CTL, 27, 2⟩
def PMC_CTL_IVL : Fld := ⟨Reg.PMC_CTL, 0, 16⟩
def PMC_STAT_DUMPING : Fld := ⟨Reg.PMC_STAT, 31, 1⟩
def PMC_STAT_HR_FULL : Fld := ⟨Reg.PMC_STAT, 30, 1⟩
def PMC_STAT_DR_LOST : Fld := ⟨Reg.PMC_STAT, 29, 1⟩
def PMC_DSEQ_SEQ : Fld := ⟨Reg.PMC_DSEQ, 0, 32⟩
def PMC_DLOST_HOST : Fld := ⟨Reg.PMC_DLOST, 16, 16⟩
def PMC_DLOST_DRAM : Fld := ⟨Reg.PMC_DLOST, 0, 16⟩
def PMC_HR_SIZE_RECORDS : Fld := ⟨Reg.PMC_HR_SIZE, 0, 16⟩
def PMC_HR_WR_INDEX : Fld := ⟨Reg.PMC_HR_WR, 0, 16⟩
def PMC_HR_RD_INDEX : Fld := ⟨Reg.PMC_HR_RD, 0, 16⟩
def PMC_DR_CTL_CH : Fld := ⟨Reg.PMC_DR_CTL, 0, 2⟩
def PMC_HR_BASE_LO_ADDR : Fld := ⟨Reg.PMC_HR_BASE_LO, 0, 32⟩
def PMC_HR_BASE_HI_ADDR : Fld := ⟨Reg.PMC_HR_BASE_HI, 0, 32⟩
def PMC_HR_WB_LO_ADDR : Fld := ⟨Reg.PMC_HR_WB_LO, 0, 32⟩
def PMC_HR_WB_HI_ADDR : Fld := ⟨Reg.PMC_HR_WB_HI, 0, 32⟩
def PMC_DR_WR_INDEX : Fld := ⟨Reg.PMC_DR_WR, 0, 12⟩
def PMC_DR_RD_INDEX : Fld := ⟨Reg.PMC_DR_RD, 0, 12⟩
def PMC_ARANGE_LO_ADDR : Fld := ⟨Reg.PMC_ARANGE_LO, 0, 32⟩
def PMC_ARANGE_HI_ADDR : Fld := ⟨Reg.PMC_ARANGE_HI, 0, 32⟩
def PMC_BW_PEAK : Fld := ⟨Reg.PMC_BW, 16, 16⟩
def PMC_BW_MEAN : Fld := ⟨Reg.PMC_BW, 0, 16⟩
def PMC_EVSEL_EN : Fld := ⟨Reg.PMC_EVSEL, 31, 1⟩
def PMC_EVSEL_EVENT : Fld := ⟨Reg.PMC_EVSEL, 16, 8⟩
def PMC_EVSEL_INST : Fld := ⟨Reg.PMC_EVSEL, 8, 4⟩
def PMC_EVSEL_BLOCK : Fld := ⟨Reg.PMC_EVSEL, 0, 8⟩
def PMC_FILT_LVL : Fld := ⟨Reg.PMC_FILT, 27, 5⟩
def PMC_FILT_MST : Fld := ⟨Reg.PMC_FILT, 21, 6⟩
def PMC_FILT_PARTY_ALL : Fld := ⟨Reg.PMC_FILT, 20, 1⟩
def PMC_FILT_PARTY : Fld := ⟨Reg.PMC_FILT, 15, 5⟩
def PMC_FILT_RANGE : Fld := ⟨Reg.PMC_FILT, 12, 3⟩
def PMC_FILT_RANGE_EN : Fld := ⟨Reg.PMC_FILT, 11, 1⟩
def PMC_FILT_CLASS : Fld := ⟨Reg.PMC_FILT, 0, 10⟩
def PMC_VAL_LO_VALUE : Fld := ⟨Reg.PMC_VAL_LO, 0, 32⟩
def PMC_VAL_HI_WRAP : Fld := ⟨Reg.PMC_VAL_HI, 16, 1⟩
def PMC_VAL_HI_VALUE : Fld := ⟨Reg.PMC_VAL_HI, 0, 16⟩
def FRZ_CTL_PIN_EN : Fld := ⟨Reg.FRZ_CTL, 0, 1⟩
def FRZ_STAT_CAUSE : Fld := ⟨Reg.FRZ_STAT, 28, 4⟩
def FRZ_STAT_WHO : Fld := ⟨Reg.FRZ_STAT, 16, 10⟩
def FRZ_STAT_TXMASK : Fld := ⟨Reg.FRZ_STAT, 0, 16⟩
def FRZ_LAST_SEC_OP_SEC : Fld := ⟨Reg.FRZ_LAST_SEC, 0, 32⟩
def FRZ_LAST_GT_GT : Fld := ⟨Reg.FRZ_LAST_GT, 0, 20⟩
def AGE_CTL_NOW : Fld := ⟨Reg.AGE_CTL, 1, 1⟩
def AGE_CTL_EN : Fld := ⟨Reg.AGE_CTL, 0, 1⟩
def AGE_STAT_PLANS : Fld := ⟨Reg.AGE_STAT, 16, 16⟩
def AGE_STAT_BUSY : Fld := ⟨Reg.AGE_STAT, 0, 1⟩
def AGE_NEXT_OP_SEC : Fld := ⟨Reg.AGE_NEXT, 0, 32⟩
def AGE_MON_USED : Fld := ⟨Reg.AGE_MON, 16, 16⟩
def AGE_MON_ALARM : Fld := ⟨Reg.AGE_MON, 0, 1⟩
def AGE_CANARY_LO_FIRED : Fld := ⟨Reg.AGE_CANARY_LO, 0, 32⟩
def AGE_CANARY_HI_FIRED : Fld := ⟨Reg.AGE_CANARY_HI, 0, 16⟩
def PWR_SVC_STATE : Fld := ⟨Reg.PWR_SVC, 0, 3⟩
def PWR_START_REASON : Fld := ⟨Reg.PWR_START, 28, 4⟩
def PWR_START_FAILS : Fld := ⟨Reg.PWR_START, 24, 4⟩
def PWR_START_SKETCH_MS : Fld := ⟨Reg.PWR_START, 0, 16⟩
def PWR_VCORE_TRIM : Fld := ⟨Reg.PWR_VCORE, 0, 8⟩
def PWR_VIN_LOW : Fld := ⟨Reg.PWR_VIN, 16, 1⟩
def PWR_VIN_MV : Fld := ⟨Reg.PWR_VIN, 0, 16⟩
def BLK_STAT_ARMED (i : Nat) : Fld := ⟨Reg.BLK_STAT i, 31, 1⟩
def BLK_STAT_HOLD (i : Nat) : Fld := ⟨Reg.BLK_STAT i, 30, 1⟩
def BLK_STAT_SWEEP_VALID (i : Nat) : Fld := ⟨Reg.BLK_STAT i, 29, 1⟩
def BLK_STAT_SEAL_ERR (i : Nat) : Fld := ⟨Reg.BLK_STAT i, 4, 1⟩
def BLK_STAT_VOTE (i : Nat) : Fld := ⟨Reg.BLK_STAT i, 3, 1⟩
def BLK_STAT_ACC_ERR (i : Nat) : Fld := ⟨Reg.BLK_STAT i, 2, 1⟩
def BLK_STAT_HOLD_TO (i : Nat) : Fld := ⟨Reg.BLK_STAT i, 1, 1⟩
def BLK_STAT_WIGN (i : Nat) : Fld := ⟨Reg.BLK_STAT i, 0, 1⟩
def SEAL_SEAL (i : Nat) : Fld := ⟨Reg.SEAL i, 0, 32⟩
def SEAL_CTL_HOLD (i : Nat) : Fld := ⟨Reg.SEAL_CTL i, 0, 1⟩
def SWEEP_CRC (i : Nat) : Fld := ⟨Reg.SWEEP i, 0, 32⟩
def SWEEP_CNT_PASSES (i : Nat) : Fld := ⟨Reg.SWEEP_CNT i, 0, 32⟩
def WIGN_ADDR_MASTER (i : Nat) : Fld := ⟨Reg.WIGN_ADDR i, 28, 4⟩
def WIGN_ADDR_OFFSET (i : Nat) : Fld := ⟨Reg.WIGN_ADDR i, 0, 18⟩
def VOTE_ADDR_OFFSET (i : Nat) : Fld := ⟨Reg.VOTE_ADDR i, 0, 18⟩
def VOTE_CNT_COUNT (i : Nat) : Fld := ⟨Reg.VOTE_CNT i, 0, 32⟩
def ACC_ADDR_MASTER (i : Nat) : Fld := ⟨Reg.ACC_ADDR i, 28, 4⟩
def ACC_ADDR_KIND (i : Nat) : Fld := ⟨Reg.ACC_ADDR i, 24, 4⟩
def ACC_ADDR_WRITE (i : Nat) : Fld := ⟨Reg.ACC_ADDR i, 23, 1⟩
def ACC_ADDR_OFFSET (i : Nat) : Fld := ⟨Reg.ACC_ADDR i, 0, 18⟩

end Fd

/-! ### The registers of each block, for lookup by offset -/

/-- The registers of SYS, common ones apart. -/
def regsSys : List RegDesc := [
  Reg.SYS_GT_SEC, Reg.SYS_OP_SEC, Reg.SYS_PWR_CYC, Reg.SYS_SHEET_CNT, Reg.SYS_DEV_ID, Reg.SYS_SERIAL_LO, Reg.SYS_SERIAL_HI]

/-- The registers of MBX, common ones apart. -/
def regsMbx : List RegDesc := [
  Reg.MBX_MBCFG, Reg.MBX_LOCK, Reg.MBX_NMASK, Reg.MBX_CSTAT, Reg.MBX_NQ]

/-- The registers of PCI, common ones apart. -/
def regsPci : List RegDesc := [
  Reg.PCI_SPI_RD, Reg.PCI_LNK_STAT]

/-- The registers of LANE, common ones apart. -/
def regsLane : List RegDesc := [
  Reg.LANE_CTL, Reg.LANE_RX_GAIN, Reg.LANE_RX_FAST, Reg.LANE_RX_STAT, Reg.LANE_RX_CLIPCNT, Reg.LANE_RX_PWR, Reg.LANE_TX_ATTEN, Reg.LANE_TX_MUTE, Reg.LANE_CORR_CTL, Reg.LANE_CAL_CTL, Reg.LANE_CAL_STAT]

/-- The registers of SYN, common ones apart. -/
def regsSyn : List RegDesc := [
  Reg.SYN_REF_CTL, Reg.SYN_REF_STAT, Reg.SYN_GSTAT, Reg.SYN_SCFG, Reg.SYN_SSTAT, Reg.SYN_LSRC, Reg.SYN_LSTATE]

/-- The registers of CHN, common ones apart. -/
def regsChn : List RegDesc := [
  Reg.CHN_TBL_SEL, Reg.CHN_TBL_DATA, Reg.CHN_TBL_STAT, Reg.CHN_WCTL, Reg.CHN_WLANE, Reg.CHN_WRX, Reg.CHN_WTX, Reg.CHN_WEDGE_LO, Reg.CHN_WEDGE_HI, Reg.CHN_WDOM, Reg.CHN_DOP_FREQ, Reg.CHN_WSTAT, Reg.CHN_BSEAL, Reg.CHN_LPROF]

/-- The registers of CAN, common ones apart. -/
def regsCan : List RegDesc := [
  Reg.CAN_CTL, Reg.CAN_POOL_USED, Reg.CAN_POOL_FREE, Reg.CAN_LOAD, Reg.CAN_DIV_CFG, Reg.CAN_CP_STAT, Reg.CAN_AMAP_SEL, Reg.CAN_AMAP_DATA, Reg.CAN_WBOOST, Reg.CAN_PCFG0, Reg.CAN_PCFG1, Reg.CAN_PCFG2, Reg.CAN_PCFG3, Reg.CAN_PSTAT, Reg.CAN_PDEPTH, Reg.CAN_PROLL]

/-- The registers of SVY, common ones apart. -/
def regsSvy : List RegDesc := [
  Reg.SVY_CTL, Reg.SVY_TICK_STAT, Reg.SVY_CLOSE_CNT, Reg.SVY_REEXEC_CNT, Reg.SVY_SSTAT, Reg.SVY_COVER, Reg.SVY_TILES, Reg.SVY_ENG_LOST, Reg.SVY_PSTATE, Reg.SVY_PLOAD, Reg.SVY_PMEM, Reg.SVY_PECC]

/-- The registers of CON, common ones apart. -/
def regsCon : List RegDesc := [
  Reg.CON_CTL, Reg.CON_SSTAT, Reg.CON_ORDER_LEN, Reg.CON_ST_SEL, Reg.CON_ST_DATA, Reg.CON_SUP_CTL, Reg.CON_OSC_CFG, Reg.CON_WBASE, Reg.CON_PCTL, Reg.CON_PSTAT, Reg.CON_FSUM, Reg.CON_WLCTL, Reg.CON_WLOOP, Reg.CON_WISO, Reg.CON_WOSC, Reg.CON_ORDER, Reg.CON_DCLR, Reg.CON_DSUPST, Reg.CON_DCTL, Reg.CON_GLIM, Reg.CON_GSAFE, Reg.CON_GAPP, Reg.CON_CCFG0, Reg.CON_CCFG1, Reg.CON_CCFG2, Reg.CON_CCFG3]

/-- The registers of POS, common ones apart. -/
def regsPos : List RegDesc := [
  Reg.POS_CTL, Reg.POS_STAT, Reg.POS_ROUTE, Reg.POS_CHAIN, Reg.POS_SIGMA, Reg.POS_SPEED, Reg.POS_LEAD, Reg.POS_WALK, Reg.POS_ATLAS, Reg.POS_TCFG, Reg.POS_TDIAM, Reg.POS_PRES, Reg.POS_WREL, Reg.POS_WLIM, Reg.POS_WTAG]

/-- The registers of TDD, common ones apart. -/
def regsTdd : List RegDesc := [
  Reg.TDD_CTL, Reg.TDD_STAT, Reg.TDD_FRAME, Reg.TDD_TOFF, Reg.TDD_PPS_OFF, Reg.TDD_GUARD, Reg.TDD_WTDD, Reg.TDD_FCFG, Reg.TDD_FTIM, Reg.TDD_RCTL, Reg.TDD_RSTAT, Reg.TDD_RSEQ_SEL, Reg.TDD_RSEQ_DATA, Reg.TDD_RDATA]

/-- The registers of RCE, common ones apart. -/
def regsRce : List RegDesc := [
  Reg.RCE_CTL, Reg.RCE_STAT, Reg.RCE_LISTEN, Reg.RCE_JCFG0, Reg.RCE_JCFG1, Reg.RCE_JRES0, Reg.RCE_JRES1, Reg.RCE_JRES2, Reg.RCE_CXCFG, Reg.RCE_CXFR, Reg.RCE_CXSTAT]

/-- The registers of SNS, common ones apart. -/
def regsSns : List RegDesc := [
  Reg.SNS_CTL, Reg.SNS_STAT, Reg.SNS_CHK, Reg.SNS_CAL_STAT, Reg.SNS_INJ_REQ, Reg.SNS_OVR, Reg.SNS_CAL_CFG, Reg.SNS_INJ_RES, Reg.SNS_BSEAL, Reg.SNS_INJ_TIME, Reg.SNS_SEQ, Reg.SNS_ENTRY, Reg.SNS_FILT, Reg.SNS_RES]

/-- The registers of FLT, common ones apart. -/
def regsFlt : List RegDesc := [
  Reg.FLT_CTL, Reg.FLT_STAT, Reg.FLT_ALERT, Reg.FLT_FIRST, Reg.FLT_FIRST_SEC, Reg.FLT_FIRST_GT, Reg.FLT_FIRST_PC, Reg.FLT_FIRST_CNT, Reg.FLT_FI_POLICY, Reg.FLT_FI_STAT, Reg.FLT_SNAP_CFG, Reg.FLT_SAMECYC, Reg.FLT_ACTIVE, Reg.FLT_SCFG, Reg.FLT_SSTAT, Reg.FLT_CLR_SEC, Reg.FLT_CLR_GT, Reg.FLT_PCTL, Reg.FLT_PSTAT, Reg.FLT_THR_CLR, Reg.FLT_THR_NRS, Reg.FLT_THR_EMS, Reg.FLT_THR_SPUR, Reg.FLT_THR_DONOR, Reg.FLT_THR_REFL, Reg.FLT_RETRY_WIN, Reg.FLT_HOLD, Reg.FLT_WCFG, Reg.FLT_WSTAT, Reg.FLT_WRETRY, Reg.FLT_WDONOR, Reg.FLT_WNRS, Reg.FLT_WEMS, Reg.FLT_LCFG, Reg.FLT_LSTAT, Reg.FLT_GCFG, Reg.FLT_GSTAT, Reg.FLT_DSTAT]

/-- The registers of FBK, common ones apart. -/
def regsFbk : List RegDesc := [
  Reg.FBK_STAT, Reg.FBK_NEXT_SEQ, Reg.FBK_OLDEST_SEQ, Reg.FBK_RETAINED, Reg.FBK_OVW, Reg.FBK_DROP, Reg.FBK_COAL, Reg.FBK_CLR_TOTAL, Reg.FBK_RETRIES, Reg.FBK_CRC_CNT, Reg.FBK_CAUSE, Reg.FBK_LRR_STAT, Reg.FBK_CURSOR, Reg.FBK_AP_CTL, Reg.FBK_AP_STAT, Reg.FBK_AP, Reg.FBK_LRR]

/-- The registers of PMC, common ones apart. -/
def regsPmc : List RegDesc := [
  Reg.PMC_CTL, Reg.PMC_STAT, Reg.PMC_DSEQ, Reg.PMC_DLOST, Reg.PMC_HR_SIZE, Reg.PMC_HR_WR, Reg.PMC_HR_RD, Reg.PMC_DR_CTL, Reg.PMC_HR_BASE_LO, Reg.PMC_HR_BASE_HI, Reg.PMC_HR_WB_LO, Reg.PMC_HR_WB_HI, Reg.PMC_DR_WR, Reg.PMC_DR_RD, Reg.PMC_ARANGE_LO, Reg.PMC_ARANGE_HI, Reg.PMC_BW, Reg.PMC_EVSEL, Reg.PMC_FILT, Reg.PMC_VAL_LO, Reg.PMC_VAL_HI]

/-- The registers of DRC, common ones apart. -/
def regsDrc : List RegDesc := [
  Reg.DRC_CSTAT, Reg.DRC_CECC]

/-- The registers of FRZ, common ones apart. -/
def regsFrz : List RegDesc := [
  Reg.FRZ_CTL, Reg.FRZ_STAT, Reg.FRZ_LAST_SEC, Reg.FRZ_LAST_GT]

/-- The registers of AGE, common ones apart. -/
def regsAge : List RegDesc := [
  Reg.AGE_CTL, Reg.AGE_STAT, Reg.AGE_NEXT, Reg.AGE_MON, Reg.AGE_CANARY_LO, Reg.AGE_CANARY_HI]

/-- The registers of PWR, common ones apart. -/
def regsPwr : List RegDesc := [
  Reg.PWR_SVC, Reg.PWR_START, Reg.PWR_VCORE, Reg.PWR_VIN]

/-- The common registers of register set i (Table 14.4). -/
def regsCommon (i : Nat) : List RegDesc :=
  [Reg.BLK_ID i, Reg.BLK_STAT i, Reg.SEAL i, Reg.SEAL_CTL i, Reg.SWEEP i, Reg.SWEEP_CNT i, Reg.WIGN_ADDR i, Reg.VOTE_ADDR i,
   Reg.VOTE_CNT i, Reg.ACC_ADDR i]

/-- The register set (Table 15.1) whose range holds a BAR2 offset of the privileged view, Table 14.2. -/
def setOf (off : Nat) : Nat :=
  if off < 0x1000 then 0
  else if off < 0x2000 then 1
  else if off < 0x4000 then 2
  else if off < 0x8000 then 3 + (off - 0x4000) / 0x400
  else if off < 0xA000 then 19
  else if off < 0x10000 then 20
  else if off < 0x18000 then 21
  else if off < 0x20000 then 22
  else if off < 0x28000 then 23
  else if off < 0x2C000 then 24
  else if off < 0x2E000 then 25
  else if off < 0x30000 then 26
  else if off < 0x34000 then 27
  else if off < 0x38000 then 28
  else if off < 0x3A000 then 29
  else if off < 0x3C000 then 30
  else if off < 0x3E000 then 31
  else if off < 0x3E800 then 32
  else if off < 0x3F000 then 33
  else 34

/-- The registers of a register set's block, common ones apart. -/
def regsOfSet (i : Nat) : List RegDesc :=
  if i = 0 then regsSys else if i = 1 then regsMbx else if i = 2 then regsPci else if i < 19 then regsLane
  else if i = 19 then regsSyn else if i = 20 then regsChn else if i = 21 then regsCan else if i = 22 then regsSvy
  else if i = 23 then regsCon else if i = 24 then regsPos else if i = 25 then regsTdd else if i = 26 then regsRce
  else if i = 27 then regsSns else if i = 28 then regsFlt else if i = 29 then regsFbk else if i = 30 then regsPmc
  else if i = 31 then regsDrc else if i = 32 then regsFrz else if i = 33 then regsAge else regsPwr

/-- Code of Table 14.2 of a register set's block. -/
def blockCode (i : Nat) : Nat := if i < 3 then i + 1 else if i < 19 then 4 else i - 14

/-- The indices (i, j) of the element of `r` that lies at `off`, if one does. -/
def RegDesc.at? (r : RegDesc) (off : Nat) : Option (Nat × Nat) :=
  if off < r.base then none
  else
    let d := off - r.base
    let i := if r.stride = 0 then 0 else d / r.stride
    let e := d - r.stride * i
    let j := if r.stride2 = 0 then 0 else e / r.stride2
    if i < r.count ∧ j < r.count2 ∧ d = r.stride * i + r.stride2 * j then some (i, j) else none

/-- A register found at an offset, with its indices. -/
structure RegAt where
  reg : RegDesc
  i : Nat
  j : Nat
  deriving DecidableEq, Repr

/-- The first register of a list that lies at an offset. -/
def findIn : List RegDesc → Nat → Option RegAt
  | [], _ => none
  | r :: rs, off =>
    match r.at? off with
    | some (i, j) => some ⟨r, i, j⟩
    | none => findIn rs off

/-- The register at a BAR2 offset of the privileged view; none where the offset names no register (R272). -/
def findReg (off : Nat) : Option RegAt :=
  if off < 0x40000 then
    let s := setOf off
    if off - Reg.setBase s < 0x40 then findIn (regsCommon s) off else findIn (regsOfSet s) off
  else none

/-- The reset word made of the fields' own reset values. -/
def resetFields : List FieldDesc → Nat
  | [] => 0
  | f :: fs => f.reset * 2 ^ f.lsb + resetFields fs

/-- Base severity of a fault source at reset (0 NOTE, 1 MINOR, 2 SEVERE, 3 CRITICAL): Table 15.1 and the tables it names. -/
def sourceBase (s : Nat) : Nat :=
  if s < 64 then [0, 1, 1, 2].getD (s % 4) 0
  else if s < 239 then [1, 0, 0, 2, 1].getD ((s - 64) % 5) 0
  else if s < 320 then
    [0, 1, 0, 2, 1, 2, 1, 0, 1, 1, 1, 2, 1, 2, 0, 1, 0, 1, 2, 1, 0, 0, 1, 1, 1, 0, 0, 1, 1, 2, 1, 2, 1, 2, 1, 1,
     0, 1, 0, 1, 0, 0, 1, 1, 1, 0, 2, 2, 2, 2, 0, 1, 0, 0, 0, 0, 0, 1, 0, 0, 2, 2, 1, 1, 0, 1, 0, 0, 1,
     1, 1, 1, 1, 1, 0, 2, 0, 0, 0, 0, 0].getD (s - 239) 0
  else if s < 480 then 0
  else [2, 2, 1, 2, 3, 3, 0, 3, 1, 1, 1, 1, 2, 1, 3, 3, 1, 2].getD (s - 480) 0

/-- Scope of a fault source at reset (0 NONE, 1 TARGET, 2 ALL): Table 15.1 and Table 18.11. -/
def sourceScope (s : Nat) : Nat :=
  if 64 ≤ s ∧ s < 239 then (if (s - 64) % 5 = 3 then 1 else 0)
  else if s = 242 ∨ s = 244 then 1
  else if s = 487 ∨ s = 492 ∨ s = 494 ∨ s = 495 then 2
  else if 480 ≤ s ∧ s ≤ 488 then 1
  else 0

/-- FLT.SCFG[s] at reset, Table 15.11. -/
def scfgReset (s : Nat) : Nat :=
  sourceBase s * 2 ^ 30 + sourceScope s * 2 ^ 28 +
    (if s < 480 then (if sourceBase s = 1 then 8 else 0) * 2 ^ 16 + 8000 else 0)

/-- MBX.MBCFG[m].LEVEL at reset, Table 13.1: 3 host-privileged, 2 host-user, 1 maintainer. -/
def mbLevelReset (m : Nat) : Nat := if m = 0 then 3 else if m < 16 then 2 else 1

/-- Block code and instance of performance counter c, Table 17.1. Which of C376-C383 belongs to FRZ, AGE or PWR is not
stated: DESIGN CHOICE, log entry 6. -/
def evselReset (c : Nat) : Nat :=
  if c < 8 then 0x01 else if c < 24 then 0x02 else if c < 40 then 0x03
  else if c < 168 then ((c - 40) / 8) * 256 + 0x04
  else if c < 176 then 0x05 else if c < 192 then 0x06 else if c < 216 then 0x07
  else if c < 280 then 0x08
  else if c < 296 then 0x09 else if c < 304 then 0x0A else if c < 312 then 0x0B else if c < 320 then 0x0C
  else if c < 328 then 0x0D else if c < 336 then 0x0E else if c < 344 then 0x0F
  else if c < 376 then ((c - 344) / 8) * 256 + 0x11
  else if c < 379 then 0x12 else if c < 382 then 0x13 else 0x14

/-- prot.hold and prot.retry defaults, Table 9.7: FLT.HOLD[k] at reset. -/
def holdReset (k : Nat) : Nat :=
  [80, 80, 0, 8000, 8000, 8000, 0, 8000].getD k 0 * 2 ^ 8 + [3, 5, 0, 3, 2, 3, 0, 3].getD k 0

/-- BLK_ID of register set i, Table 14.5. -/
def blkIdReset (i : Nat) : Nat := blockCode i * 2 ^ 24 + (if 3 ≤ i ∧ i < 19 then i - 3 else 0) * 2 ^ 16 + 0x0100

/-- Reset value of the register element at `p`, lying at `off`. -/
def RegAt.reset (p : RegAt) (off : Nat) : Nat :=
  match p.reg.rule with
  | .uniform => resetFields p.reg.fields
  | .orderJ => p.i
  | .mbcfg => mbLevelReset p.i * 2 ^ 8 + 3
  | .scfg => scfgReset p.i
  | .hold => holdReset p.i
  | .evsel => evselReset p.i
  | .blkId => blkIdReset (setOf off)

/-- What a BAR2 offset of the privileged view holds at reset; 0 where it names no register (R272). -/
def resetAt (off : Nat) : Nat :=
  match findReg off with
  | some p => p.reset off
  | none => 0

end Sys2Proof.Machine
end

