-- ==== Sys2Proof/Machine/State.lean ====
section
/-!
DEFINITION. The state of the block: every register of the map (one sparse store), and what the chapters give the machine
beside the registers, as plain data, one record per subsystem; the queue of waiting commands; the state after reset.
A sparse map is a list of (key, value) pairs, keys rising, no pair equal to the default that an unlisted key reads as.
-/

namespace Sys2Proof.Machine

/-- What stops the machine with a fault. -/
inductive Fault where
  /-- Raised by no command of this model: every fault of Table 15.1 is an effect on the state. Safe. -/
  | none
  deriving DecidableEq, Repr

/-- Why a command has no meaning. -/
inductive Refusal where
  /-- Raised by an arm of `exec` whose row has no meaning yet. Safe. -/
  | notModelled (mnemonic : String)
  deriving DecidableEq, Repr

/-! ### Time (01_architecture_and_cadence.md) -/

/-- Grid ticks since the sheet counter was last cleared, operating seconds and power cycles (R6, R27, R28). -/
structure Time where
  /-- Grid ticks since the boundary at which the sheet counter was cleared (R6). -/
  gt : Nat
  /-- Sheet boundaries already run: SHEET_BOUNDARY at grid tick 80 k has been taken for every k below it. -/
  sheetsRun : Nat
  /-- Live operating-second counter (R27). -/
  opSec : Nat
  /-- The operating second last stored in MRAM (R27). -/
  mramSec : Nat
  /-- Live power-cycle count, 24 bits, saturating (R27). -/
  pwrCyc : Nat
  /-- Grid tick at which the current operating second began. -/
  secBase : Nat
  deriving DecidableEq, Repr

/-! ### Mailboxes and firmware (13_chart_mailbox_protocol.md) -/

/-- An accepted command (R253): its header fields, payload, and the mailbox level at its acceptance. -/
structure Command where
  opcode : Nat
  tag : Nat
  len : Nat
  flags : Nat
  payload : List Word
  level : Nat
  /-- Grid tick of acceptance. -/
  acceptedAt : Nat
  /-- FBK.NEXT_SEQ at acceptance (R320). -/
  bookSeq : Nat
  /-- Firmware or the Datum core has started it, and at which grid tick. -/
  started : Bool
  startedAt : Nat
  /-- It has been answered ACCEPTED; its outcome follows as EARLY_DONE (R258). -/
  early : Bool
  /-- It is to carry FO: re-executed after a failover (R259). -/
  fo : Bool
  deriving DecidableEq, Repr

/-- A response, waiting to be posted (R254, R256). -/
structure Response where
  /-- The command it answers. -/
  cmd : Command
  status : Nat
  tag : Nat
  flags : Nat
  payload : List Word
  /-- Grid tick of completion. -/
  doneAt : Nat
  /-- Grid tick from which it may be posted (R256). -/
  postAt : Nat
  deriving DecidableEq, Repr

/-- One staged or ordered Legend element: ID, index, value (R262). -/
structure Elem where
  id : Nat
  idx : Nat
  val : Word
  deriving DecidableEq, Repr

/-- One mailbox page and its queue (Tables 13.2 to 13.4). -/
structure Mailbox where
  /-- CMD[i]: sparse, default 0. -/
  cmd : List (Nat × Word)
  /-- RSP words. -/
  rsp : List Word
  tokens : Nat
  queued : Nat
  acceptCnt : Word
  rspCnt : Word
  rspValid : Bool
  cmdBusy : Bool
  dbOvf : Bool
  /-- Mailbox level at the acceptance of the command being copied. -/
  copyLevel : Nat
  /-- Grid tick of that acceptance. -/
  copyAt : Nat
  /-- FBK.NEXT_SEQ at that acceptance. -/
  copyBook : Nat
  /-- Accepted commands without a completed response, oldest first. -/
  queue : List Command
  /-- Completed responses not yet copied into RSP, in order of completion. -/
  waiting : List Response
  /-- The staging set of this mailbox (R263). -/
  staging : List Elem
  /-- Level that an MB_LEVEL sets once its response is posted, with that response's mailbox and tag. -/
  levelPending : List (Nat × Nat × Nat)
  deriving DecidableEq, Repr

/-- A notification (R261): code, sequence, words from 2, and the tick from which it may be posted. -/
structure Notification where
  code : Nat
  seq : Nat
  stamp : Stamp
  content : List Word
  postAt : Nat
  deriving DecidableEq, Repr

/-- The MB15 notification queue and sequence (R260, R261), held in the always-on domain. -/
structure Notices where
  /-- Next number of the 32-bit notification sequence. -/
  seq : Nat
  /-- Raised, not yet at their posting time. -/
  raised : List Notification
  /-- The queue of up to 64. -/
  queue : List Notification
  /-- The next notification posted carries LOST. -/
  lost : Bool
  deriving DecidableEq, Repr

/-- A Legend set checked and waiting for its boundary (R263), or an immediate order of the current sheet (R264, R265). -/
structure Order where
  mb : Nat
  tag : Nat
  opcode : Nat
  flags : Nat
  fo : Bool
  payload : List Word
  elems : List Elem
  /-- Sheet at whose opening boundary it takes effect. -/
  sheet : Nat
  restrictive : Bool
  /-- It changes nothing and is no order (R264). -/
  same : Bool
  deriving DecidableEq, Repr

/-- An order that took effect before the end of its sheet (R265): what it targeted and what its undoing writes back. -/
structure Done where
  mb : Nat
  tag : Nat
  opcode : Nat
  restrictive : Bool
  /-- Targets: key and value ordered. -/
  targets : List (Nat × Nat)
  /-- Register bits before the order: offset, mask of the bits, and word. -/
  undo : List (Nat × Nat × Word)
  payload : List Word
  deriving DecidableEq, Repr

/-- A Chart capture (R34, R259): taken at a sheet boundary, at a grid tick; the register store and the Legend of that boundary,
the staging sets and the lock. -/
structure Capture where
  at_ : Nat
  csr : List (Nat × Word)
  legend : List (Nat × Word)
  orders : List Order
  staging : List (Nat × List Elem)
  lockHolder : Option Nat
  leaseEnd : Nat
  /-- Bank tables of the windows with their pending and applied copies, the allocation map, RFFE words. -/
  tables : List (Nat × Word)
  pendTab : List (Nat × Word)
  applTab : List (Nat × Word)
  amap : List (Nat × Word)
  words : List (Nat × Word)
  deriving DecidableEq, Repr

/-- Chart firmware: Legend, orders of the sheet, lock, notifications. -/
structure Firmware where
  /-- Legend values in force, key 65536 ID + index; an unlisted element has its default (R262). -/
  legend : List (Nat × Word)
  /-- Sets waiting for a boundary. -/
  orders : List Order
  /-- Immediate orders of the current sheet. -/
  dones : List Done
  /-- The maintenance lock: holder (R266). -/
  lockHolder : Option Nat
  /-- Operating second at which the lease ends. -/
  leaseEnd : Nat
  notices : Notices
  /-- Boot image in use: 0 A, 1 B (Table 13.8, IDENTIFY). -/
  bootImage : Nat
  /-- FW_VERSION and SECVER of the image booted (Table 18.3); 0 before an image is verified. -/
  version : Word
  secver : Word
  /-- The latest captures, newest first, at most two (R34). -/
  captures : List Capture
  deriving DecidableEq, Repr

/-! ### Fault collector (15_faults_redundancy_guarantees.md) -/

/-- A reaction of the collector (R290, R291): due at a grid tick, in force until released. -/
structure Reaction where
  source : Nat
  sev : Nat
  lanes : Nat
  domains : Nat
  /-- Grid tick t + 2 at whose boundary it takes effect. -/
  dueAt : Nat
  inForce : Bool
  deriving DecidableEq, Repr

/-- An armed injection (Table 15.4). -/
structure Injection where
  code : Nat
  inst : Nat
  bits : Nat
  source : Nat
  deriving DecidableEq, Repr

/-- The collector beyond its registers. -/
structure Collector where
  /-- Open counting intervals: source and the grid tick of their end, fixed as they open (R288); sparse. -/
  intervals : List (Nat × Nat)
  /-- Reactions posted and held. -/
  reactions : List Reaction
  /-- Grid tick at which the ALERT_N pulse ends, if one runs (R293). -/
  alertEnd : Option Nat
  /-- Operating second at which the injection unlock ends (R298). -/
  unlockEnd : Option Nat
  /-- Injections armed and not yet checked (R299). -/
  armed : List Injection
  /-- Sources whose pair returns to healthy at the next grid tick boundary (R182, R378). -/
  pulsing : List Nat
  /-- A source with FRZ = 1 has requested freeze (R294), its number. -/
  freezeReq : Option Nat
  /-- Snapshot conversions requested under R294 and not yet queued: converter and input. -/
  snapReq : List (Nat × Nat)
  deriving DecidableEq, Repr

/-! ### Field Book (16_field_book.md) -/

/-- A record waiting in the staging FIFO (R307): the record, how many offers it holds, the last stamp and severity, and the type
folded; `drops` marks the DROPS entry of R308. -/
structure Staged where
  record : Record
  count : Nat
  last : Stamp
  lastSev : Nat
  folded : Nat
  drops : Bool
  deriving DecidableEq, Repr

/-- A retained record: its slot, its 16 words, and whether its stored copy is bad (R315, R317). -/
structure Kept where
  slot : Nat
  words : List Word
  bad : Bool
  deriving DecidableEq, Repr

/-- One bank of the aperture (R316): cursor, AUTO, AP_STAT bits, the latched words. -/
structure Aperture where
  cursor : Nat
  auto : Bool
  stat : Nat
  words : List Word
  deriving DecidableEq, Repr

/-- A live nonce (R318): its two words and the operating second at which it lapses. -/
structure Nonce where
  lo : Word
  hi : Word
  lapseAt : Nat
  deriving DecidableEq, Repr

/-- The Field Book beyond its registers. -/
structure Book where
  /-- 0 main, 1 spare, 2 last-resort ring. -/
  level : Nat
  main : List Kept
  spare : List Kept
  ring : List Kept
  fifo : List Staged
  nextSeq : Nat
  /-- BASE of R312. -/
  base : Nat
  ovw : List (Nat × Nat)
  drop : List (Nat × Nat)
  coal : Nat
  clrTotal : Nat
  retries : Nat
  crcCnt : Nat
  /-- CAUSE register: level, kind, slot. -/
  cause : Nat
  /-- Drops since the last DROPS record, by severity, with the stamps of the first and last. -/
  dropped : List (Nat × Nat)
  firstDrop : Option Stamp
  lastDrop : Option Stamp
  /-- FBK_OVW has been raised in this sheet (Table 16.9). -/
  ovwRaised : Bool
  /-- FBK_FILL stands (Table 16.9). -/
  fillRaised : Bool
  /-- The DRAM shadow holds the records (R310); false once lost. -/
  shadow : List Kept
  /-- The 32-byte book key. -/
  key : List Byte
  nonce : Option Nonce
  /-- Operating second until which FB_NONCE answers BUSY (R319). -/
  authBusyUntil : Option Nat
  /-- Banks 0-3, sparse. -/
  apertures : List (Nat × Aperture)
  deriving DecidableEq, Repr

/-! ### Register integrity (14_register_interface.md) -/

/-- The sweeper and seal checker of one register set (R280 to R283). -/
structure Sweeper where
  /-- Grid tick at which SEAL_CTL.HOLD was set. -/
  holdAt : Nat
  /-- Content of the sweep set was written during the running pass (R281). -/
  dirty : Bool
  /-- The last completed pass differed from SEAL (R282). -/
  mismatched : Bool
  /-- The present mismatch has been raised. -/
  found : Bool
  deriving DecidableEq, Repr

/-- A bank seal's latest usable CRC (R281), if a pass has completed since the last write to the bank. -/
structure Integrity where
  /-- Per register set, sparse. -/
  sweepers : List (Nat × Sweeper)
  /-- Latest CRC of CHN bank seals: key 2 window + bank. -/
  chnBank : List (Nat × Word)
  /-- CHN banks written since the running pass began. -/
  chnDirty : List Nat
  /-- Latest CRC of SNS bank seals: key bank. -/
  snsBank : List (Nat × Word)
  snsDirty : List Nat
  /-- CHN bank seals armed by their first write (R75), and armed seals whose last pass differed. -/
  chnArmed : List Nat
  chnBad : List Nat
  /-- Of those, the banks whose present mismatch has been raised. -/
  chnFound : List Nat
  deriving DecidableEq, Repr

/-! ### Outputs -/

/-- A command on an RFFE bus (R219): the SCLK cycle of its sequence at which it begins, its OP of Table 10.10, slave address, register address,
the data bytes it writes, and its bytes. -/
structure BusCommand where
  cycle : Nat
  op : Nat
  sa : Nat
  addr : Nat
  data : List Nat
  bytes : Nat
  deriving DecidableEq, Repr

/-- What the block drives or returns to the outside. -/
structure Outputs where
  /-- Data of the last CSR read. -/
  readData : Word
  /-- Words shifted out by the last service SPI transaction. -/
  spiOut : List Word
  /-- MSI-X messages sent, by vector; sparse. -/
  msix : List (Nat × Nat)
  /-- Posted writes to host memory of the latest dump, export or capture read: byte address and words. -/
  host : List (Nat × List Word)
  /-- Bits shifted out of TDO by the latest JTAG operation, first first. -/
  tdo : List Bool
  /-- Transmit subband samples of the latest grid tick (R24), key 2048 TX lane + subband; a direct window's stream at subband 0. -/
  tx : List (Nat × List (Int × Int))
  /-- The streams that leave stage 14, and the codes of the DAC slices (R44), both by TX lane over the latest grid tick. -/
  stream : List (Nat × List (Int × Int))
  dac : List (Nat × List (Int × Int))
  /-- Commands of the latest sequence that began on each RFFE master. -/
  rffe : List (Nat × List BusCommand)
  deriving DecidableEq, Repr

/-! ### The state -/

/-! ### Lanes, synthesisers, clocks, TDD and RFFE (02_lanes_and_converters.md, 10_synthesisers_lane_states_tdd.md) -/

/-- One lane pair beyond its registers. -/
structure LaneExt where
  /-- Fast-attack reductions since the last DEMAND write (R41), and those of the current sheet (R48). -/
  fastSum : Nat
  fastCnt : Nat
  /-- Grid tick at whose boundary the latest reduction took effect (R49). -/
  reducedAt : Option Nat
  /-- The index in effect in the latest grid tick that ended (R48). -/
  index : Nat
  /-- Clipped instants of the current sheet (R47). -/
  clips : Nat
  /-- Sum and highest of the sample powers of the current sheet (R380), and the sum at stage 13 (Table 7.2). -/
  power : Nat
  peak : Nat
  sent : Nat
  /-- Mean composite power at stage 13 of the closed sheet, 1/256 dBFS (Table 7.2). -/
  sentLevel : Int
  /-- Consecutive sheets in which the RX estimators held, and the TX estimators, which hold on between their turns where their latest
  observed sheet held (R45, R46). -/
  holdRx : Nat
  holdTx : Nat
  heldTx : Bool
  /-- Consecutive sheets for which a kind has been disabled in CORR_CTL: kinds 0-3 RX, 4-7 TX, sparse (R46). -/
  off : List (Nat × Nat)
  /-- The coefficients in force, by kind: how many sets its estimator and foreground calibrations have formed, sparse; their values are free
  (log entry 122). -/
  coefs : List (Nat × Nat)
  /-- Die temperature near the lane, °C, at the latest set of a kind's coefficients; key 9 at the latest of the RX side, 10 of the TX side
  (R46). -/
  warm : List (Nat × Int)
  /-- Operating seconds at which the latest foreground calibrations of the RX and of the TX side ended (R55). -/
  calRx : Nat
  calTx : Nat
  /-- The last TX calibration that ran ended RANGE, NO_LOCK or LEVEL (R56). -/
  calFailed : Bool
  /-- The synthesiser of a calibrating side lost lock during the run: bit 0 RX, bit 1 TX (Table 10.11). -/
  calLost : Nat
  /-- Grid tick of acceptance of the TX request that waits (Table 10.4). -/
  pendFrom : Nat
  /-- The lane waits after a lock loss, without timeout. -/
  pendLoss : Bool
  /-- Attenuation in effect (R51). -/
  attenNow : Nat
  /-- Sheets for which the lane's pilot has run (R159). -/
  pilotRun : Nat
  /-- Stream sample at which the lane's output ended when it last left ACTIVE (R216). -/
  endedAt : Option Nat
  deriving DecidableEq, Repr

/-- One lane synthesiser beyond its registers. -/
structure SynExt where
  /-- Grid tick in which LOCK set. -/
  lockAt : Nat
  /-- Failed attempts of the running lock sequence. -/
  fails : Nat
  /-- The sequence was started by an SCFG write (R206). -/
  cold : Bool
  deriving DecidableEq, Repr

/-- A LANE_TX that waits (R209): mailbox, command, lanes asked on, lanes timed out, lanes that entered TDD_WAIT, and whether a
boundary has passed. -/
structure LaneWait where
  mb : Nat
  cmd : Command
  asked : Nat
  timedOut : Nat
  waited : Nat
  taken : Bool
  deriving DecidableEq, Repr

/-- A LANE_TUNE that waits. -/
structure TuneWait where
  mb : Nat
  cmd : Command
  syn : Nat
  deriving DecidableEq, Repr

/-- A LANE_CONFIG accepted, taking effect at the next grid tick boundary (R210). -/
structure ConfigWait where
  mb : Nat
  cmd : Command
  lane : Nat
  deriving DecidableEq, Repr

/-- An in-service calibration commanded by CAL_START (R336): mailbox, command, lane, sides still to run, results so far. -/
structure CalWait where
  mb : Nat
  cmd : Command
  lane : Nat
  sides : Nat
  deriving DecidableEq, Repr

/-- Lanes and synthesisers. -/
structure Lanes where
  ext : List (Nat × LaneExt)
  /-- RX lanes that were ON at the boundary of the running grid tick, a mask: the others deliver zeros at stage 6 (R206, R208). -/
  rxLive : Nat
  /-- TX lanes whose last mute source has cleared and whose unmute ramp has not begun (R53). -/
  unmute : Nat
  /-- Lane sides whose foreground calibration firmware has scheduled (R46, R55), a mask: RX in bits 0-15, TX in bits 16-31. -/
  calDue : Nat
  /-- Corrected rails of each RX lane over the latest grid tick (R43). -/
  rails : List (Nat × List (Int × Int))
  /-- Die temperature near each lane, and at key 16 near the sense converters, °C, at the latest sheet boundary; sparse (R46, R248). -/
  die : List (Nat × Int)
  syn : List (Nat × SynExt)
  waits : List LaneWait
  tunes : List TuneWait
  configs : List ConfigWait
  cals : List CalWait
  deriving DecidableEq, Repr

/-- Reference inputs and CKPLL beyond REF_STAT (R201, R202). -/
structure Ref where
  /-- Consecutive sheets for which REFIN has been valid. -/
  validSheets : Nat
  /-- Grid tick at which holdover was entered. -/
  holdAt : Nat
  deriving DecidableEq, Repr

/-- A TDD pattern descriptor (Table 10.7): the words of its 32 bytes. -/
abbrev Pattern := List Word

/-- One window's frame-timing state beyond WTDD (R214, R215, R217). -/
structure PairExt where
  /-- Descriptor in force. -/
  pattern : Pattern
  /-- A changed descriptor that waits for its first period start, its region, and the stream sample of the region change. -/
  next : Option (Pattern × Nat × Nat)
  /-- The window is the active member (WTDD.ACTIVE). -/
  active : Bool
  /-- DL role at the ROLE output of the pair (downlink member's record). -/
  dlRole : Bool
  /-- A role change waits for the guard (R217). -/
  rolePend : Bool
  /-- PA_EN outputs of the pair whose assertion waits for the guard, a mask. -/
  paHeld : Nat
  /-- Stream samples at which the PA_ENs become inactive, of the role instant at TXOUT, at which a role change may come, and at which the last
  ROLE output changes. -/
  paOffAt : Nat
  roleDue : Nat
  roleMin : Nat
  roleAt : Nat
  deriving DecidableEq, Repr

/-- A sequence queued or running on an RFFE master (R220): its number, its event's stream sample, the stream sample at which it
began to run, and its BEAM_SET. -/
structure RffeJob where
  seq : Nat
  instant : Nat
  begun : Option Nat
  beam : Option (Nat × Command)
  deriving DecidableEq, Repr

/-- A BEAM_SET that waits for its effect time (R221). -/
structure BeamWait where
  mb : Nat
  cmd : Command
  master : Nat
  seq : Nat
  /-- Stream sample of the effect time. -/
  instant : Nat
  deriving DecidableEq, Repr

/-- Frame timing and front-end control. -/
structure Tdd where
  /-- The phase in force at stream sample t is (phase0 + t) mod 9,830,400. -/
  phase0 : Nat
  /-- Samples of a result still to be slewed in (R212). -/
  slew : Int
  /-- The last result that waits for one that agrees. -/
  last : Option Nat
  /-- Grid tick at which the last result arrived, and the sheets in HOLDOVER began. -/
  lastAt : Nat
  holdAt : Nat
  /-- A step: the new phase0, the stream sample from which it applies, and the one from which TX gates are closed. -/
  step : Option (Nat × Nat × Nat)
  /-- PPS: stream sample of the last edge; it was valid. -/
  ppsLast : Option Nat
  pairs : List (Nat × PairExt)
  /-- RFFE sequence words, key 256 m + index, sparse with default 0. -/
  words : List (Nat × Word)
  rffe : List (Nat × List RffeJob)
  beams : List BeamWait
  /-- TX lanes that entered and that left ACTIVE at the latest boundary, as masks. -/
  entered : Nat
  left : Nat
  deriving DecidableEq, Repr

/-! ### Windows (03_channeliser_windows_routes.md) -/

/-- A swap that awaits its boundary (R73): the window written, SWAP_ALIGN, and for a linked swap its partner. -/
structure SwapWait where
  win : Nat
  align : Nat
  partner : Option Nat
  deriving DecidableEq, Repr

/-- A WIN_ENABLE that waits for its boundary, or for the coverage test of the paths it bound (R77, R115). -/
structure WinWait where
  mb : Nat
  cmd : Command
  enable : Bool
  mask : Nat
  /-- Its changes are in effect and it waits for the coverage test. -/
  covering : Bool
  deriving DecidableEq, Repr

/-- A BANK_APPLY that runs (R78): windows whose swap is still to be requested, those requested, those swapped. -/
structure BankWait where
  mb : Nat
  cmd : Command
  toRequest : Nat
  requested : Nat
  swapped : Nat
  deriving DecidableEq, Repr

/-- The windows that a BANK_APPLY names. -/
def BankWait.named (a : BankWait) : Nat := a.toRequest ||| a.requested ||| a.swapped

/-- One gate (R193 to R196): open, active grid ticks since its last firing, the sum of |z|² over the last tick and over the sheet,
open and active ticks of the sheet, and the sums of the latest closed sheets with their samples and whether the sheet was closed for
at least half. -/
structure Gate where
  isOpen : Bool
  since : Nat
  last : Nat
  sheetSum : Nat
  sheetLen : Nat
  openTicks : Nat
  activeTicks : Nat
  sheets : List (Nat × Nat × Bool)
  deriving DecidableEq, Repr

/-- Windows beyond their registers. Table keys: 2048 × table + index, where table is 10 w + 5 bank + kind for bank tables and
5 w + kind for pending and applied copies; kind 0 route, 1 mask, 2 low trim, 3 high trim, 4 direct FIR. -/
structure Windows where
  /-- Bank tables, sparse, default 0 (R74). -/
  tables : List (Nat × Word)
  /-- Pending copies loaded by command, and applied copies (R77, R78). -/
  pendTab : List (Nat × Word)
  applTab : List (Nat × Word)
  /-- Windows that have bound, as a mask; windows whose enable awaits its boundary. -/
  bound : Nat
  binding : Nat
  /-- Stream sample, counted as `1536 × gt`, from which what a lane's bank gives rests on history since its load (R66), key 2 n for TX lane
  n, 2 n + 1 for RX lane n. -/
  fresh : List (Nat × Nat)
  /-- Banks that firmware has built and whose tag awaits a CRC (R135), key 2 w + b. -/
  preps : List Nat
  swaps : List SwapWait
  /-- Windows whose last requested swap was refused, as a mask. -/
  refused : Nat
  enables : List WinWait
  applies : List BankWait
  /-- Doppler phase (R71), 40 bits, per window, and the DOP_FREQ in effect (R72). -/
  phase : List (Nat × Nat)
  dopNow : List (Nat × Nat)
  /-- Routed samples before stage 11, newest first, key 2048 TX lane + transmit subband (R70); the stream before the FIR of a direct
  window, newest first, by RX lane. -/
  trimHist : List (Nat × List (Int × Int))
  firHist : List (Nat × List (Int × Int))
  /-- Gates, key 2048 w + i. -/
  gates : List (Nat × Gate)
  deriving DecidableEq, Repr

/-! ### Feedback cancellation and surveyors (04_echo_cancellation.md, 05_surveyor_engines.md) -/

/-- One row of a bound path (R91 to R98). -/
structure RowX where
  /-- Coefficients, 24-bit rails, tap 0 first; taps beyond the list are 0. -/
  coef : List (Int × Int)
  /-- The normaliser in force: sk and sh, and the one that governs from grid tick 1. -/
  sk : Int
  sh : Int
  skNext : Int
  shNext : Int
  /-- Sums of the running sheet: reference squares of grid ticks 16-79, receive and residual power. -/
  sumsq : Nat
  pr : Nat
  pz : Nat
  /-- A rail saturated in the running sheet. -/
  satNow : Bool
  /-- Coefficient energy at the last sheet boundary. -/
  energy : Nat
  /-- Consecutive sheets for which D1 and D2 held. -/
  d1 : Nat
  d2 : Nat
  /-- Depth of the last closed sheet, and that of the image last loaded, 1/256 dB. -/
  depth : Int
  imageDepth : Int
  /-- The row's reload is awaited, and its transmit subband is closed from a grid tick on (R97, R98); it is reloaded and reopens at the next
  grid tick boundary. -/
  restoring : Bool
  shutAt : Nat
  reopen : Bool
  frozen : Bool
  /-- Sheets at which the running cut and halved step end, where they run. -/
  cutEnd : Option Nat
  halfEnd : Option Nat
  /-- Ceiling of the cut that runs (R149). -/
  cutVal : Int
  /-- Sheets of its latest rollbacks. -/
  rolls : List Nat
  deriving DecidableEq, Repr

/-- One reference sample (R81): linear and cubic rails, and whether the lane was RAMPING at its emission instant (R92). -/
structure RefSample where
  ri : Int
  rq : Int
  ci : Int
  cq : Int
  ramp : Bool
  deriving DecidableEq, Repr

/-- A bound path: the grid tick since which its contributions and reference samples count; the geometry it bound with: PCFG0 to PCFG2, the
profile of its window, its lanes (R85, R88). -/
structure PathX where
  since : Nat
  cfg : List Nat
  prof : Nat
  rx : Nat
  tx : Nat
  deriving DecidableEq, Repr

/-- A run of coefficients resident in a party: an allocation map entry, or a row group moved there by R114. -/
structure Run where
  party : Nat
  entry : Nat
  path : Nat
  row : Nat
  rows : Nat
  unit : Nat
  units : Nat
  deriving DecidableEq, Repr

/-- A reference ring in a party's SRAM (R102), filled from grid tick `since` on (R113, R114). -/
structure RefRing where
  party : Nat
  lane : Nat
  cubic : Bool
  sub : Nat
  depth : Nat
  unit : Nat
  since : Nat
  deriving DecidableEq, Repr

/-- The 32 bytes of a row's state: one half of a unit (R102). -/
structure RowUnit where
  party : Nat
  path : Nat
  row : Nat
  unit : Nat
  half : Nat
  deriving DecidableEq, Repr

/-- One piece of a tile (R104): its party, allocation map entry, path, first row of its row group, rows, tap block, and whether it is late. -/
structure Piece where
  party : Nat
  entry : Nat
  path : Nat
  row : Nat
  rows : Nat
  block : Nat
  tap : Nat
  taps : Nat
  late : Bool
  deriving DecidableEq, Repr

/-- A checkpoint image (R94): its generation and area, the rows with their coefficients and depth, and the path words recorded. -/
structure Image where
  gen : Nat
  rows : List (Nat × List (Int × Int) × Int)
  cfg : List (Nat × List Word)
  /-- DRAM channel of each row's run. -/
  chan : List (Nat × Nat)
  /-- CRC-32 of each run, key 32 entry + party. -/
  crc : List (Nat × Nat)
  deriving DecidableEq, Repr

/-- A checkpoint generation being written (R94): its number, area and start sheet; the rows still to be copied, how many have their turn in
a grid tick, and those copied. -/
structure Generation where
  gen : Nat
  area : Nat
  start : Nat
  left : List Nat
  per : Nat
  rows : List (Nat × List (Int × Int) × Int)
  deriving DecidableEq, Repr

/-- A PATH_ENABLE that waits (R99): for the bind boundary, the coverage test or the sheet boundary of its disables. -/
structure PathWait where
  mb : Nat
  cmd : Command
  enable : Bool
  paths : List Nat
  bound : Bool
  deriving DecidableEq, Repr

/-- Paths, the pool, checkpoints. -/
structure Canceller where
  /-- Allocation map words, sparse, default 0. -/
  amap : List (Nat × Word)
  paths : List (Nat × PathX)
  /-- Rows of bound paths: key 2048 path + row; an unlisted row has coefficients 0. -/
  rows : List (Nat × RowX)
  /-- Paths whose enable awaits its grid tick boundary, and whose disable awaits its sheet boundary. -/
  binding : List Nat
  unbinding : List Nat
  waits : List PathWait
  /-- Paths whose skipped update sets PSTAT.HOLD. -/
  held : List Nat
  imageA : Option Image
  imageB : Option Image
  writing : Option Generation
  genCount : Nat
  /-- The latest start kept DRAM content: a path that binds loads its rows from the latest complete image (R345). -/
  fromImage : Bool
  /-- References, newest first: key 2048 TX lane + transmit subband (R81). -/
  refs : List (Nat × List RefSample)
  /-- Contributions of rows for the grid tick that runs (R90), key 2048 path + row; residuals of the grid tick before the one that
  runs (R91), key 2048 RX lane + receive subband. -/
  est : List (Nat × List (Int × Int))
  zPrev : List (Nat × List (Int × Int))
  /-- Windows that ran and were not idle, and RX lanes that clipped, in the grid tick before the one that runs, masks (R92). -/
  prevRan : Nat
  prevClip : Nat
  /-- Windows that began or ceased to run within the grid tick that runs, a mask (R92). -/
  broke : Nat
  /-- POOL_FREE as latched by the last read of POOL_USED (R85). -/
  freeLatch : Nat
  deriving DecidableEq, Repr

/-- Surveyor engines. -/
structure Survey where
  runs : List Run
  rings : List RefRing
  rowUnits : List RowUnit
  /-- Resident pieces issued in this tick and not accepted, in the order of their parties' queues (R106); issued count, tiles issued. -/
  todo : List Piece
  issued : Nat
  tiles : Nat
  /-- Pieces of the previous tick listed for re-execution, and those whose updates of that tick are skipped. -/
  relist : List Piece
  skipped : List Piece
  /-- Pieces whose time to complete has passed in this tick: a late completion of one is no duplicate (R109). -/
  overdue : List Piece
  /-- Pieces in flight, by engine, and whether each is a re-execution. -/
  flight : List (Nat × Piece × Bool)
  /-- The global queue of stateless pieces of this tick, those listed for re-execution, and the measurements lost in this sheet (R107, R110). -/
  posts : List Post
  repost : List Post
  lostMeas : List PostSrc
  /-- Word at which the scrubber of every party stands (R113). -/
  scrubAt : Nat
  reexecNow : Nat
  /-- The running tick has been closed. -/
  closed : Bool
  /-- Busy cycles per engine in the tick. -/
  busy : List (Nat × Nat)
  /-- Open intervals of uncorrectable errors per party: start tick and count. -/
  ue : List (Nat × Nat × Nat)
  /-- Paths bound since the last coverage test. -/
  fresh : List Nat
  deriving DecidableEq, Repr

/-! ### Position (06_track_atlas_and_position.md) -/

/-- An atlas slot (R119): the image's bytes by offset (sparse, default 0), the channels of its primary and mirror copy, the copies
whose channel is lost (bit 0 primary, bit 1 mirror), and the entries whose copies fail their read (index, mask of copies). -/
structure Slot where
  image : List (Nat × Byte)
  mirror : List (Nat × Byte)
  chP : Nat
  chM : Nat
  lost : Nat
  bad : List (Nat × Nat)
  deriving DecidableEq, Repr

/-- A command that waits for the position block. -/
structure PosWait where
  mb : Nat
  cmd : Command
  deriving DecidableEq, Repr

/-- The distances of one sheet, 1/65,536 mm (R122, R123): accepted, of channel 0, of channel 1; and the channels' counts. -/
structure OdoStep where
  ds : Int
  ds0 : Int
  ds1 : Int
  n0 : Int
  n1 : Int
  deriving DecidableEq, Repr

/-- The last applied fix, for the learning of diameters (R126): route, chainage in mm, σ in mm, the channels' distance counters at
its stamp, and whether neither SLIP nor FAULT has occurred since. -/
structure LearnFix where
  route : Nat
  chain : Int
  sigma : Nat
  cum0 : Int
  cum1 : Int
  clean : Bool
  deriving DecidableEq, Repr

/-- A position hypothesis (R128): route, position, sense of travel, covering entry. -/
structure Hyp where
  route : Nat
  x : Int
  up : Bool
  entry : Option Nat
  deriving DecidableEq, Repr

/-- One track of trackside mode (R136); position and σ in 1/65,536 mm, speed in mm/s. -/
structure Track where
  occupied : Bool
  /-- First contact. -/
  first : Bool
  x : Int
  s : Nat
  speed : Int
  rej : Nat
  /-- Offset (mm) and sheet of the latest assertion. -/
  lastAssert : Option (Int × Nat)
  /-- Sheet of the latest assertion standing or PASSAGE. -/
  quietFrom : Nat
  deriving DecidableEq, Repr

/-- A filtered tacho rail (R122): its output, and for how many ns the pin has stood against it. -/
structure TachoRail where
  out : Bool
  held : Nat
  deriving DecidableEq, Repr

/-- A tacho channel's two rails. -/
structure Tacho where
  a : TachoRail
  b : TachoRail
  deriving DecidableEq, Repr

/-- Position, atlas and walker. -/
structure Position where
  slot0 : Slot
  slot1 : Slot
  /-- The ATLAS_LOAD that runs. -/
  load : Option PosWait
  /-- ATLAS_SWITCH commands that wait for the sheet boundary. -/
  switches : List PosWait
  /-- POS_FIX and PASSAGE commands that wait for the sheet boundary. -/
  fixes : List PosWait
  /-- PRESENCE assertions that wait for the sheet boundary. -/
  asserted : List Nat
  /-- x, signed, and σ, 1/65,536 mm (R124). -/
  x : Int
  s : Nat
  /-- The covering entry. -/
  entry : Option Nat
  /-- The second hypothesis of UNSURE. -/
  alt : Option Hyp
  /-- The POS_ROUTE list. -/
  routes : List Nat
  /-- Distances of the latest sheets, newest first, at most 16,000. -/
  steps : List OdoStep
  /-- The channels' distances since the mode left 0. -/
  cum0 : Int
  cum1 : Int
  learn : Option LearnFix
  /-- Regions of Z (R131). -/
  zone : List Nat
  /-- Entries traced so far of the zone and of the announcement span (R140). -/
  scanned : Nat
  ahead : Nat
  /-- Regions announced in the span (R135). -/
  announced : List Nat
  track0 : Track
  track1 : Track
  /-- Per PRESENCE input: sheets for which the pin has stood against PRES.STATE. -/
  presHold : List (Nat × Nat)
  tacho0 : Tacho
  tacho1 : Tacho
  /-- An entry read in the zone or the announcement span failed in both copies (R129). -/
  spanBad : Bool
  deriving DecidableEq, Repr

/-! ### Contour engine and supervision (07_contour_engine.md, 08_clearance_and_contour_supervision.md) -/

/-- One contour (R145, R170 to R172): the state of the law, the sticky flags of word 5 (bits 0-5), what the last evaluation was, and
the counts of supervision. -/
structure ContourX where
  i : Int
  df : Int
  mprev : Int
  r : Int
  spprev : Int
  v : Int
  e : Int
  aref : Int
  flags : Nat
  isInit : Bool
  miss : Bool
  sel : Bool
  ramping : Bool
  /-- Enabled at the last evaluation. -/
  live : Bool
  /-- The last measurement that was not missing, since initialisation. -/
  raw : Option Int
  lost : Nat
  frozen : Nat
  impl : Nat
  /-- Lowest and highest APPLIED over the sheets counted toward FROZEN. -/
  lo : Int
  hi : Int
  deriving DecidableEq, Repr

/-- One domain of the contour engine. -/
structure DomX where
  /-- Initialised (R150); the next evaluation initialises it again. -/
  ready : Bool
  restart : Bool
  /-- Tracking reference a of the two latest evaluations, and the applied gains they formed. -/
  a1 : Int
  a2 : Int
  ap1 : Int
  ap2 : Int
  /-- RX index at the two latest boundaries, and the isolation term of the last evaluation. -/
  x1 : Int
  x2 : Int
  iso : Int
  /-- Relief term in force during the running sheet. -/
  rel : Int
  /-- The fixed candidate, and the MODE and GFIX it was formed under (R168). -/
  rf : Option Int
  mode : Nat
  gfix : Int
  /-- Held value of HOLD and RAMP, consecutive good sheets of GUARD, contours that brought the domain to HOLD. -/
  h : Int
  good : Nat
  seen : Nat
  /-- The INO contour's own supervision (R174): state, sheets in it, held value, good sheets. -/
  inoState : Nat
  inoCnt : Nat
  inoH : Int
  inoGood : Nat
  /-- The gain formed and the grid tick at which it applies. -/
  pend : Option (Int × Nat)
  /-- Sketch or training ceiling (R341, R342). -/
  ceil : Option Int
  /-- Consecutive sheets, of the running eight, in which R342 held. -/
  trainOk : Nat
  /-- Highest and lowest APPLIED of the running sheet. -/
  hiG : Int
  loG : Int
  /-- Lowest per-subband power of the latest eight sheets (R159), 1/256 dBFS, newest first; none for a sheet without an open subband. -/
  floors : List (Option Int)
  /-- What was summed over the latest sheets, newest first, at most 1,024 (R159, R160). -/
  hist : List DomainSum
  /-- SAFE as latched at the latest sheet boundary (R152). -/
  safe : Int
  /-- The tracking reference at the latest survey (R186). -/
  aSurvey : Int
  deriving DecidableEq, Repr

/-- What held in the running sheet, as masks: windows that ran in every tick, were not idle in some tick, had an unmuted TX lane in
some tick; domains that were open in some tick, and that in some tick met no condition of R172. -/
structure SheetMasks where
  ran : Nat
  busy : Nat
  unmuted : Nat
  opened : Nat
  counted : Nat
  /-- RX and TX lanes whose synthesiser had lost lock in some tick (R206). -/
  rxLost : Nat
  txLost : Nat
  /-- TX lanes whose pilot was on in every tick (R161). -/
  pilot : Nat
  deriving DecidableEq, Repr

/-- A DOMAIN_MODE that waits for the sheet boundary (R169). -/
structure ModeWait where
  mb : Nat
  cmd : Command
  deriving DecidableEq, Repr

/-- A LOOP_MEASURE that runs (R336): its windows still measuring, all its windows, and those that failed. -/
structure LoopWait where
  mb : Nat
  cmd : Command
  left : Nat
  wins : Nat
  failed : Nat
  deriving DecidableEq, Repr

/-- Contour engine. -/
structure Contours where
  ct : List (Nat × ContourX)
  dom : List (Nat × DomX)
  masks : SheetMasks
  /-- State words 1-5 latched by the last read of word 0, and the contour they belong to (R157). -/
  latch : List Word
  latchOf : Nat
  /-- What was summed for each domain in the running sheet (R143, R159). -/
  sums : List (Nat × DomainSum)
  /-- Level of a domain's pilot on a TX lane, 1/256 dBFS, key 256 lane + domain (R161). -/
  pilots : List (Nat × Int)
  modes : List ModeWait
  /-- Oscillation detections: domain, the grid tick of the closure, and the growth in 1/16 dB (R166). -/
  osc : List (Nat × Nat × Int)
  /-- Residual power per domain and branch over the latest grid ticks, newest first; none where the tick breaks the chain (R165).
  Key 2 d + branch. -/
  power : List (Nat × List (Option Nat))
  /-- Domains that met the cases of R378 in the running sheet, as masks: flag, missing, unlisted. -/
  flagCase : Nat
  missCase : Nat
  unlistedCase : Nat
  /-- Loop-lag measurements that run: window, start sheet, and whether the window stopped or a pilot was not active meanwhile; windows
  for which one has completed. -/
  loops : List (Nat × Nat × Bool)
  loopDone : Nat
  /-- Completion cycle and appended domains of the running sheet, which SSTAT shows in the next. -/
  lastCycle : Nat
  appended : Nat
  /-- LOOP_MEASURE commands that wait (R336). -/
  measures : List LoopWait
  /-- Lower APPLIED - LIMIT of the RX lanes of each window, 512 per dB, as it stood when the closed sheet ended (R147). -/
  inoRef : List (Nat × Int)
  /-- What the evaluation of the running sheet left for the DEMAND writes of the following boundary: RX lane, lowest v, and whether DEMAND may
  not exceed APPLIED; none where no evaluation ran (R148, R174). -/
  inoLow : List (Nat × Int × Bool)
  deriving DecidableEq, Repr

/-! ### Network protection (09_network_protection.md) -/

/-- A protective restriction held (R178, R184): kind; class 0 domain, 1 window, 2 TX lane; target; grid tick of the trip; n; latched
or not; the lanes that tripped together on a spurious step (R189); it is in force; the sheet at which its lane unmutes, the PA enable
already on (R190). -/
structure Restriction where
  kind : Nat
  cls : Nat
  target : Nat
  since : Nat
  n : Nat
  latched : Bool
  group : Nat
  inForce : Bool
  unmuteAt : Option Nat
  deriving DecidableEq, Repr

/-- A PROT_RELEASE that waits for the sheet boundary of its release, or a PROT_STOP for its grid tick boundary. -/
structure ProtWait where
  mb : Nat
  cmd : Command
  deriving DecidableEq, Repr

/-- Network protection beyond its registers. -/
structure Prot where
  /-- The Datum core is restarting (R180). -/
  datumDown : Bool
  held : List Restriction
  /-- Trips counted in the retry window: kind, class, target, grid tick (R184). -/
  trips : List (Nat × Nat × Nat × Nat)
  /-- Consecutive counted sheets below the clearance floor, per domain; above the noise-raise threshold, per window; surveys and
  sweeps over the limit, per span (2 w + side) and per step. -/
  clrRun : List (Nat × Nat)
  nrsRun : List (Nat × Nat)
  emsRun : List (Nat × Nat)
  spurRun : List (Nat × Nat)
  /-- P_span − limit of each span surveyed, 1/16 dB, key 2 w + side. -/
  spans : List (Nat × Int)
  /-- Level last measured in each spurious step above the limit, 1/16 dBm. -/
  spurs : List (Nat × Int)
  stops : List ProtWait
  releases : List ProtWait
  /-- Walker requests in force: REASON bits 0-2 per window. -/
  walker : List (Nat × Nat)
  /-- Donor (0), span (1) and step (2) results that arrived during a Datum restart, in order: job, span or step, and value. -/
  backlog : List (Nat × Nat × Option Int)
  /-- Targets that Chart stopped for PROT_STOP during a Datum restart (Table 13.15): class, target, and WCTL.EN or SRC_FW before. -/
  standIn : List (Nat × Nat × Bool)
  /-- Consecutive sheets of correct grid ticks since a grid-tick trip (R192). -/
  goodTicks : Nat
  deriving DecidableEq, Repr

/-! ### Coexistence links (11_recce_receiver_and_coexistence.md) -/

/-- An inbound link (R231 to R235): the grid tick of the assertion of CX_REQ[i], none while it is deasserted; windows blanked, windows
to be blanked at B0, windows deferred; B0; the boundary of the last blank; the stream sample from which CX_GNT asserts; the request
has ended and the blanks lift at the next grid tick boundary; CX_LONG has been raised for it. -/
structure CxLink where
  since : Option Nat
  blanks : Nat
  atB0 : Nat
  deferred : Nat
  b0 : Nat
  grantAt : Option Nat
  lifting : Bool
  long : Bool
  deriving DecidableEq, Repr

/-! ### Recce receiver (11_recce_receiver_and_coexistence.md) -/

/-- One host job beyond its registers (R224, R227): tracking, consecutive NOT_FOUND results, the aerial of its last run (0 none), the
stream sample of the last burst found, and the sheet of its latest due. -/
structure JobX where
  tracking : Bool
  misses : Nat
  aerial : Nat
  burst : Option Nat
  lastDue : Option Nat
  deriving DecidableEq, Repr

/-- Waiting work (R228): class; kind 0 host job, 1 adjacent survey, 2 spurious step; job, span (2 w + side) or step (lower edge, kHz);
the sheet from which it is due. -/
structure RceWork where
  cls : Nat
  kind : Nat
  idx : Nat
  due : Nat
  deriving DecidableEq, Repr

/-- The work in progress (Table 11.4): stream samples at which its tuning, its preamble and its measurement interval begin and the interval
ends, and at which CX_OREQ rises; the aerial; whether the work asks for the shared aerial, uses it, or awaits its grant; the job's
configuration at the start (KIND, RET, FREQ), and whether a coexistence request met the interval. -/
structure RceRun where
  work : RceWork
  tuneAt : Nat
  preAt : Nat
  openAt : Nat
  endAt : Nat
  reqAt : Nat
  aerial : Nat
  uses : Bool
  shared : Bool
  waitGrant : Bool
  jkind : Nat
  ret : Nat
  freq : Nat
  cx : Bool
  deriving DecidableEq, Repr

/-- A result in processing (R225): its work, status and values, and the grid tick at which the measurement ended. -/
structure RceDone where
  work : RceWork
  jkind : Nat
  status : Nat
  level : Int
  ssb : Nat
  ident : Nat
  phase : Nat
  burst : Nat
  aerial : Nat
  endAt : Nat
  deriving DecidableEq, Repr

/-- The Recce receiver beyond its registers. -/
structure Recce where
  jobs : List (Nat × JobX)
  waiting : List RceWork
  cur : Option RceRun
  done : List RceDone
  /-- Sheets at which each span and each spurious step was last measured. -/
  spans : List (Nat × Nat)
  steps : List (Nat × Nat)
  /-- RET of the last host job; the frequency at which SYNRC is locked, kHz (Table 11.4). -/
  ret : Nat
  freq : Option Nat
  /-- Level of CX_OGNT at the opening of the grid tick (R230). -/
  ognt : Bool
  /-- JRES1 and JRES2 of each job's latest result, which a read of JRES0 latches (R225). -/
  live : List (Nat × Word × Word)
  deriving DecidableEq, Repr

/-! ### Sense converters (12_sense_converters.md) -/

/-- One input beyond its registers (R241 to R244): over-ranged in this sheet; samples accepted in this sheet and in earlier ones, newest
first; the first accepted sample of its history; the y0 and y1 of earlier sheets, newest first; sequences since the history began. -/
structure SnsInput where
  ovr : Bool
  now : List Nat
  hist : List Nat
  first : Option Nat
  y0 : List Int
  y1 : List Int
  seqs : Nat
  deriving DecidableEq, Repr

/-- One converter (R241, R242, R247, R248): the sum of its SNS_CHK samples in this sequence; its next sample is discarded; queued
injected conversions (input, requested by the collector, grid tick of the request); one has run in this spare slot; steps left of its
calibration, a step of it failed, grid tick and die temperature at which the last one ended, a step has run in this gap and the grid tick
in which it ended, a step failed in the running sheet. -/
structure SnsConv where
  chkSum : Nat
  drop : Bool
  queue : List (Nat × Bool × Nat)
  spareUsed : Bool
  calLeft : Nat
  calBad : Bool
  calAt : Nat
  calTemp : Int
  stepped : Bool
  stepAt : Nat
  failed : Bool
  deriving DecidableEq, Repr

/-- The sense converters beyond their registers: a sequence runs, its round and slot, the position whose over-range was met by an
insertion in this round; the sequence of this sheet has ended; its results, input and RES word. -/
structure Sense where
  active : Bool
  round : Nat
  slot : Nat
  ins : Option Nat
  ended : Bool
  staged : List (Nat × Word)
  inputs : List (Nat × SnsInput)
  convs : List (Nat × SnsConv)
  deriving DecidableEq, Repr

/-! ### Performance counters, capture, DRAM channels (17_performance_counters.md, 14_register_interface.md R286) -/

/-- A dump record being written (R331): for the host ring its slot and words, for the DRAM ring its channel, slot and words, and the
wrap counts it carries. -/
structure Dump where
  host : Option (Nat × List Word)
  dram : Option (Nat × Nat × List Word)
  wraps : List (Nat × Nat)
  deriving DecidableEq, Repr

/-- Performance counters beyond their registers (R325 to R332): live counts; the enabled counters in force with EVSEL and FILT; ARANGE in
force; RUN in force; wraps not yet dumped; counters whose wrap has not been raised; the latest snapshot; bytes per sheet and port
(sheet, port, bytes); CLEAR awaits its boundary; CLR flags of the next host and DRAM records; dumps dropped since the previous record
of each ring; the record being written; last DSEQ of the DRAM ring and its records by slot. -/
structure Perf where
  cnt : List (Nat × Nat)
  sel : List (Nat × Word × Word)
  ranges : List (Nat × Nat)
  run : Bool
  wraps : List (Nat × Nat)
  wrapped : List Nat
  snap : List (Nat × Nat)
  bytes : List (Nat × Nat × Nat)
  clearing : Bool
  clrHost : Bool
  clrDram : Bool
  lostHost : Nat
  lostDram : Nat
  writing : Option Dump
  drSeq : Nat
  ring : List (Nat × List Word)
  deriving DecidableEq, Repr

/-- The capture (R334, R335): state of CAPTURE_STATUS (0 idle, 1 armed, 2 running, 3 done, 4 aborted); the command that armed it; word 1
of CAPTURE_ARM (lanes), trigger, source, OP_SEC and GT of the stamp, samples per lane and before the trigger; grid tick of arming, and at
which trigger 2 or 3 was met; the trigger's grid tick and stamp; samples held per lane; index of the trigger sample; the samples kept, key
134,217,728 × slot + index. -/
structure SampleCapture where
  state : Nat
  cmd : Option (Nat × Command)
  lanes : Word
  trigger : Nat
  source : Nat
  opSec : Nat
  gt : Nat
  len : Nat
  pre : Nat
  armAt : Nat
  hit : Option Nat
  trigAt : Nat
  trigStamp : Stamp
  held : Nat
  index : Nat
  data : List (Nat × Word)
  deriving DecidableEq, Repr

/-! ### Start-up, freeze, ageing, power, ports (18_startup_freeze_ageing.md, 19_balls_electrical_package.md) -/

/-- Start-up and freeze: VIN is valid; PWR_GOOD; RESET_N is asserted; the device is frozen; phase of the start (0 none runs, 1 ROM boot, 2
images, 3 start calibration, 4 isolation measurement); images still to try; BOOT_SEL; kind of the start (0 VIN, 1 RESET_N, 2 Datum);
milliseconds before the sheet counter was cleared; the last reset ended a freeze; the start failed its 5 s; sketch configuration; sheets at
which TRAINING and FULL began; FULL has been entered since the start; sheet of the last training ramp; service state before a warm restart;
commands answered ABORTED by the last reset; a warm restart runs, and RESTART ordered it; no image passed, so that the Datum ROM serves; the
IMAGE_WRITE that runs; fuses: hash of the key and SECVER_MIN. -/
structure Startup where
  vin : Bool
  good : Bool
  inReset : Bool
  frozen : Bool
  phase : Nat
  order : List Nat
  bootSel : Nat
  kind : Nat
  preMs : Nat
  afterFreeze : Bool
  failed : Bool
  sketch : SketchConfig
  trainAt : Nat
  fullAt : Nat
  wasFull : Bool
  rampAt : Nat
  before : Nat
  aborted : Nat
  warm : Bool
  ordered : Bool
  noImage : Bool
  writing : Option (Nat × Command)
  keyHash : List Byte
  secverMin : Nat
  deriving DecidableEq, Repr

/-- Ageing (R351 to R355): operating second of the last re-plan; kind of the one that runs (0 start, 1 periodic, 2 commanded); a periodic
one waits for FULL; AGE_REPLAN commands that wait; B_w in Q1.15 scale per window; readings of DEPTH_MEAN of the period, key 65,536 w +
value + 32,768 with its count; canaries that fired in the period, a mask; USED of the last
re-plan; consecutive re-plans with small drift; history, oldest first. -/
structure Ageing where
  lastPlan : Nat
  running : Option Nat
  waiting : Bool
  waits : List (Nat × Command)
  base : List (Nat × Int)
  depth : List (Nat × Nat)
  fired : Nat
  used : List Nat
  calm : Nat
  history : List (List Word)
  deriving DecidableEq, Repr

/-- The test access port (R350, R373): instruction register; inset region, word and uncorrectable words met; boundary-scan register;
EXTEST drives it. -/
structure Tap where
  ir : Nat
  region : Nat
  word : Nat
  bad : Nat
  scan : List Bool
  driving : Bool
  deriving DecidableEq, Repr

/-- PCIe endpoint (R370): PERST_N counts as asserted; the link is in L0; bus mastering is enabled. -/
structure PciPort where
  perst : Bool
  l0 : Bool
  master : Bool
  deriving DecidableEq, Repr


/-- The state of the block. -/
structure State where
  /-- CSR store: BAR2 offset of the privileged view and word; an unlisted offset holds its reset value. -/
  csr : List (Nat × Word)
  time : Time
  /-- Mailboxes by number, sparse. -/
  mbox : List (Nat × Mailbox)
  fw : Firmware
  flt : Collector
  book : Book
  integ : Integrity
  out : Outputs
  lane : Lanes
  ref : Ref
  tdd : Tdd
  win : Windows
  can : Canceller
  svy : Survey
  pos : Position
  con : Contours
  prot : Prot
  /-- Inbound coexistence links. -/
  cx : List (Nat × CxLink)
  rce : Recce
  sns : Sense
  pmc : Perf
  capt : SampleCapture
  /-- Intervals of uncorrectable errors per DRAM channel: grid tick of the first, and count (R286). -/
  dram : List (Nat × Nat × Nat)
  /-- Sheets of the running patrol scrub pass of each DRAM channel; sparse (R286). -/
  patrol : List (Nat × Nat)
  start : Startup
  age : Ageing
  tap : Tap
  pci : PciPort
  /-- The Chart pair that fails has stopped, and the standby takes over at the next sheet boundary: grid tick of the mismatch. -/
  failAt : Option Nat
  /-- Grid tick from which MBX.CSTAT.READY sets (R259). -/
  readyAt : Option Nat
  /-- The model's own: counts the free values drawn (DESIGN CHOICE, log entry 7). -/
  draws : Nat
  /-- Commands waiting, first in first out. -/
  pending : List Instr
  deriving DecidableEq, Repr

/-- A mailbox after reset: four free tokens, nothing queued (Table 13.4). -/
def Mailbox.reset : Mailbox :=
  { cmd := [], rsp := [], tokens := 4, queued := 0, acceptCnt := 0, rspCnt := 0, rspValid := false, cmdBusy := false,
    dbOvf := false, copyLevel := 0, copyAt := 0, copyBook := 0, queue := [], waiting := [], staging := [],
    levelPending := [] }

def Aperture.reset : Aperture := { cursor := 0, auto := true, stat := 0, words := List.replicate 16 0 }

def Sweeper.reset : Sweeper := { holdAt := 0, dirty := false, mismatched := false, found := false }

def Firmware.reset : Firmware :=
  { legend := [], orders := [], dones := [], lockHolder := none, leaseEnd := 0,
    notices := { seq := 0, raised := [], queue := [], lost := false }, bootImage := 0, version := 0, secver := 0, captures := [] }

def Collector.reset : Collector :=
  { intervals := [], reactions := [], alertEnd := none, unlockEnd := none, armed := [],
    pulsing := [], freezeReq := none, snapReq := [] }

def Book.reset : Book :=
  { level := 0, main := [], spare := [], ring := [], fifo := [], nextSeq := 0, base := 0, ovw := [], drop := [], coal := 0,
    clrTotal := 0, retries := 0, crcCnt := 0, cause := 0, dropped := [], firstDrop := none, lastDrop := none,
    ovwRaised := false, fillRaised := false, shadow := [], key := List.replicate 32 0xFF, nonce := none,
    authBusyUntil := none, apertures := [] }

def LaneExt.reset : LaneExt :=
  { fastSum := 0, fastCnt := 0, reducedAt := none, index := 0, clips := 0, power := 0, peak := 0, sent := 0, sentLevel := -32768,
    holdRx := 0, holdTx := 0, heldTx := false, off := [], coefs := [], warm := [], calRx := 0, calTx := 0, calFailed := false, calLost := 0, pendFrom := 0,
    pendLoss := false, attenNow := 63, pilotRun := 0, endedAt := none }

def SynExt.reset : SynExt := { lockAt := 0, fails := 0, cold := false }

def Lanes.reset : Lanes :=
  { ext := [], rxLive := 0, unmute := 0, calDue := 0, rails := [], die := [], syn := [], waits := [], tunes := [], configs := [],
    cals := [] }

def PairExt.reset : PairExt :=
  { pattern := [], next := none, active := false, dlRole := false, rolePend := false, paHeld := 0, paOffAt := 0, roleDue := 0,
    roleMin := 0, roleAt := 0 }

def Tdd.reset : Tdd :=
  { phase0 := 0, slew := 0, last := none, lastAt := 0, holdAt := 0, step := none, ppsLast := none, pairs := [], words := [],
    rffe := [], beams := [], entered := 0, left := 0 }

def Windows.reset : Windows :=
  { tables := [], pendTab := [], applTab := [], bound := 0, binding := 0, fresh := [], preps := [], swaps := [], refused := 0,
    enables := [], applies := [], phase := [], dopNow := [], trimHist := [], firHist := [], gates := [] }

def Gate.reset : Gate :=
  { isOpen := false, since := 0, last := 0, sheetSum := 0, sheetLen := 0, openTicks := 0, activeTicks := 0, sheets := [] }

def RowX.reset : RowX :=
  { coef := [], sk := 0, sh := 0, skNext := 0, shNext := 0, sumsq := 0, pr := 0, pz := 0, satNow := false, energy := 0,
    d1 := 0, d2 := 0, depth := 0, imageDepth := 0, restoring := false, shutAt := 0, reopen := false, frozen := false, cutEnd := none,
    halfEnd := none, cutVal := 0, rolls := [] }

def Canceller.reset : Canceller :=
  { amap := [], paths := [], rows := [], binding := [], unbinding := [], waits := [], held := [], imageA := none, imageB := none,
    writing := none, genCount := 0, fromImage := false, refs := [], est := [], zPrev := [], prevRan := 0, prevClip := 0, broke := 0,
    freeLatch := 5242880 }

def Survey.reset : Survey :=
  { runs := [], rings := [], rowUnits := [], todo := [], issued := 0, tiles := 0, relist := [], skipped := [], overdue := [], flight := [],
    posts := [], repost := [], lostMeas := [], scrubAt := 0, reexecNow := 0, closed := false, busy := [], ue := [], fresh := [] }

def Tacho.reset : Tacho := ⟨⟨false, 0⟩, ⟨false, 0⟩⟩

def Slot.reset (p m : Nat) : Slot := { image := [], mirror := [], chP := p, chM := m, lost := 0, bad := [] }

def Track.reset : Track :=
  { occupied := false, first := false, x := 0, s := 0, speed := 0, rej := 0, lastAssert := none, quietFrom := 0 }

def Position.reset : Position :=
  { slot0 := Slot.reset 0 2, slot1 := Slot.reset 1 3, load := none, switches := [], fixes := [], asserted := [], x := 0, s := 0,
    entry := none, alt := none, routes := [], steps := [], cum0 := 0, cum1 := 0, learn := none, zone := [], scanned := 0, ahead := 0,
    announced := [], tacho0 := Tacho.reset, tacho1 := Tacho.reset, spanBad := false, track0 := Track.reset, track1 := Track.reset, presHold := [] }

def ContourX.reset : ContourX :=
  { i := 0, df := 0, mprev := 0, r := 0, spprev := 0, v := 0, e := 0, aref := 0, flags := 0, isInit := false, miss := false,
    sel := false, ramping := false, live := false, raw := none, lost := 0, frozen := 0, impl := 0, lo := 0, hi := 0 }

def DomX.reset : DomX :=
  { ready := false, restart := false, a1 := 0, a2 := 0, ap1 := 0, ap2 := 0, x1 := 0, x2 := 0, iso := 0, rel := 0, rf := none,
    mode := 0, gfix := 0, h := 0, good := 0, seen := 0, inoState := 0, inoCnt := 0, inoH := 0, inoGood := 0, pend := none,
    ceil := none, trainOk := 0, hiG := -32768, loG := -32768, floors := [], hist := [], safe := -10240, aSurvey := 0 }

def Contours.reset : Contours :=
  { ct := [], dom := [], masks := { ran := 0xFFFF, busy := 0, unmuted := 0, opened := 0, counted := 0, rxLost := 0, txLost := 0, pilot := 0xFFFF },
    latch := [], latchOf := 0, sums := [], pilots := [], modes := [],
    osc := [], power := [], flagCase := 0, missCase := 0, unlistedCase := 0, loops := [], loopDone := 0,
    lastCycle := 0, appended := 0, measures := [], inoRef := [], inoLow := [] }

def Prot.reset : Prot :=
  { datumDown := false, held := [], trips := [], clrRun := [], nrsRun := [], emsRun := [], spurRun := [], spans := [], spurs := [],
    stops := [], releases := [], walker := [], backlog := [], standIn := [], goodTicks := 0 }

def CxLink.reset : CxLink :=
  { since := none, blanks := 0, atB0 := 0, deferred := 0, b0 := 0, grantAt := none, lifting := false, long := false }

def JobX.reset : JobX := { tracking := false, misses := 0, aerial := 0, burst := none, lastDue := none }

def Recce.reset : Recce :=
  { jobs := [], waiting := [], cur := none, done := [], spans := [], steps := [], ret := 0, freq := none, ognt := false, live := [] }

def SnsInput.reset : SnsInput := { ovr := false, now := [], hist := [], first := none, y0 := [], y1 := [], seqs := 0 }

def SnsConv.reset : SnsConv :=
  { chkSum := 0, drop := false, queue := [], spareUsed := false, calLeft := 0, calBad := false, calAt := 0, calTemp := 0, stepped := false,
    stepAt := 0,
    failed := false }

def Sense.reset : Sense :=
  { active := false, round := 0, slot := 0, ins := none, ended := false, staged := [], inputs := [], convs := [] }

def Perf.reset : Perf :=
  { cnt := [], sel := [], ranges := [], run := false, wraps := [], wrapped := [], snap := [], bytes := [], clearing := false,
    clrHost := false, clrDram := false, lostHost := 0, lostDram := 0, writing := none, drSeq := 0, ring := [] }

def SampleCapture.reset : SampleCapture :=
  { state := 0, cmd := none, lanes := 0, trigger := 0, source := 0, opSec := 0, gt := 0, len := 0, pre := 0, armAt := 0, hit := none,
    trigAt := 0, trigStamp := ⟨0, 0, 0⟩, held := 0, index := 0, data := [] }

def SketchConfig.reset : SketchConfig := { windows := 0, rx := 0, tx := 0, regs := [], tables := [], region := [] }

def Startup.reset : Startup :=
  { vin := true, good := true, inReset := false, frozen := false, phase := 1, order := [], bootSel := 0, kind := 1, preMs := 0,
    afterFreeze := false, failed := false, sketch := SketchConfig.reset, trainAt := 0, fullAt := 0, wasFull := false, rampAt := 0,
    before := 0, aborted := 0,
    warm := false, ordered := false, noImage := false, writing := none, keyHash := List.replicate 32 0, secverMin := 0 }

def Ageing.reset : Ageing :=
  { lastPlan := 0, running := none, waiting := false, waits := [], base := [], depth := [], fired := 0, used := [], calm := 0, history := [] }

def Tap.reset : Tap := { ir := 0xFF, region := 0, word := 0, bad := 0, scan := [], driving := false }


/-- The block right after reset: every register at its reset value, every mailbox with its tokens, an empty Field Book in the
factory format, nothing pending. -/
def State.reset : State :=
  { csr := []
    time := { gt := 0, sheetsRun := 0, opSec := 0, mramSec := 0, pwrCyc := 0, secBase := 0 }
    mbox := []
    fw := Firmware.reset
    flt := Collector.reset
    book := Book.reset
    integ := { sweepers := [], chnBank := [], chnDirty := [], snsBank := [], snsDirty := [], chnArmed := [], chnBad := [], chnFound := [] }
    out := { readData := 0, spiOut := [], msix := [], host := [], tdo := [], tx := [], stream := [], dac := [], rffe := [] }
    lane := Lanes.reset
    ref := { validSheets := 0, holdAt := 0 }
    tdd := Tdd.reset
    win := Windows.reset
    can := Canceller.reset
    svy := Survey.reset
    pos := Position.reset
    con := Contours.reset
    prot := Prot.reset
    cx := []
    rce := Recce.reset
    sns := Sense.reset
    pmc := Perf.reset
    capt := SampleCapture.reset
    dram := []
    patrol := []
    start := Startup.reset
    age := Ageing.reset
    tap := Tap.reset
    pci := { perst := true, l0 := false, master := false }
    failAt := none
    readyAt := none
    draws := 0
    pending := [] }

end Sys2Proof.Machine
end

