-- ==== Sys2Proof/Machine/Ops.lean ====
section
/-!
DEFINITION. The named operations that every meaning is written with: sparse maps, the register store and its fields, exact
arithmetic with explicit narrowing (00_scope.md R20, R21), time, and the outcome of a command.
-/

namespace Sys2Proof.Machine

/-! ### Sparse maps: (key, value) pairs, keys rising, no pair equal to the default -/

/-- The value at a key; the default where the key is not listed. -/
def mapGet {α : Type} (d : α) : List (Nat × α) → Nat → α
  | [], _ => d
  | (k, v) :: m, x => if k = x then v else mapGet d m x

/-- The map without a key. -/
def mapErase {α : Type} : List (Nat × α) → Nat → List (Nat × α)
  | [], _ => []
  | (k, v) :: m, x => if k = x then mapErase m x else (k, v) :: mapErase m x

/-- The map with a pair put before the first larger key. -/
def mapInsert {α : Type} : List (Nat × α) → Nat → α → List (Nat × α)
  | [], x, y => [(x, y)]
  | (k, v) :: m, x, y => if x < k then (x, y) :: (k, v) :: m else (k, v) :: mapInsert m x y

/-- The map with a key's value replaced; a value equal to the default is not listed. -/
def mapSet {α : Type} [DecidableEq α] (d : α) (m : List (Nat × α)) (x : Nat) (y : α) : List (Nat × α) :=
  if y = d then mapErase m x else mapInsert (mapErase m x) x y

/-- The keys strictly rise and are all at least `lo`. -/
def mapSorted {α : Type} : List (Nat × α) → Nat → Bool
  | [], _ => true
  | (k, _) :: m, lo => decide (lo ≤ k) && mapSorted m (k + 1)

/-! ### Exact arithmetic with explicit narrowing (R20, R21, Table 0.5) -/

/-- `rnd(a, n)`: a / 2^n rounded to nearest, ties away from zero. -/
def rnd (a : Int) (n : Nat) : Int :=
  if n = 0 then a
  else if 0 ≤ a then (a + 2 ^ (n - 1)) / 2 ^ n
  else -((-a + 2 ^ (n - 1)) / 2 ^ n)

/-- `clamp(a, lo, hi)`. -/
def clampI (a lo hi : Int) : Int := min (max a lo) hi

/-- `sat(a, w)`: clamped to the two's-complement range of w bits. -/
def sat (a : Int) (w : Nat) : Int := clampI a (-(2 ^ (w - 1))) (2 ^ (w - 1) - 1)

/-- `usat(a, w)`: clamped to 0 … 2^w − 1. -/
def usat (a : Int) (w : Nat) : Int := clampI a 0 (2 ^ w - 1)

/-- `a >> n`: arithmetic right shift, rounding toward −∞. -/
def shr (a : Int) (n : Nat) : Int := a / 2 ^ n

/-- a / b rounded to nearest, ties away from zero (R21), for b > 0. -/
def divRnd (a b : Int) : Int :=
  if b = 0 then 0
  else if 0 ≤ a then (2 * a + b) / (2 * b)
  else -((2 * (-a) + b) / (2 * b))

/-- The integer that a field of `w` bits spells in two's complement. -/
def signed (w : Nat) (v : Nat) : Int :=
  let u := v % 2 ^ w
  if 2 * u < 2 ^ w then (u : Int) else (u : Int) - 2 ^ w

/-- The `w` bits of an integer in two's complement. -/
def bitsOf (w : Nat) (v : Int) : Nat := (v % 2 ^ w).toNat

/-- Bit `b` of a mask. -/
def bit (m b : Nat) : Bool := m.testBit b

/-- Bits [hi:lo] of a number. -/
def bitsAt (v hi lo : Nat) : Nat := v / 2 ^ lo % 2 ^ (hi + 1 - lo)

/-- Bits [hi:lo] of a word. -/
def wbits (v : Word) (hi lo : Nat) : Nat := bitsAt v.toNat hi lo

/-- A word from a number, narrowed to 32 bits. -/
def wd (n : Nat) : Word := BitVec.ofNat 32 n

/-- A word from an integer, narrowed to 32 bits. -/
def wdI (n : Int) : Word := BitVec.ofInt 32 n

/-- A mask without the bits of another. -/
def maskClear (a b : Nat) : Nat := a - (a &&& b)

/-- 0 or 1. -/
def b2n (b : Bool) : Nat := if b then 1 else 0

/-- The indices below `n` whose bit is set in a mask, ascending. -/
def maskList (m n : Nat) : List Nat := (List.range n).filter fun b => m.testBit b

/-- The mask with the bits of a list set. -/
def listMask : List Nat → Nat
  | [] => 0
  | b :: bs => 2 ^ b ||| listMask bs

/-- Run a state change once for each element of a list, in order. -/
def forEach {α σ : Type} (l : List α) (s : σ) (f : σ → α → σ) : σ := l.foldl f s

/-- Element `i` of a list of words; 0 beyond its end. -/
def nth (l : List Word) (i : Nat) : Word := l.getD i 0

/-! ### The register store -/

/-- The word of the register store at a BAR2 offset. -/
def State.reg (s : State) (off : Nat) : Word := mapGet (wd (resetAt off)) s.csr off

/-- The register store with one word replaced, in canonical form. -/
def State.setReg (s : State) (off : Nat) (v : Word) : State :=
  { s with csr := mapSet (wd (resetAt off)) s.csr off v }

/-- The `width` bits at `lsb` of a word. -/
def getBits (v : Word) (lsb width : Nat) : Nat := v.toNat / 2 ^ lsb % 2 ^ width

/-- The word with those bits replaced by the low bits of a number. -/
def setBits (v : Word) (lsb width x : Nat) : Word :=
  wd (v.toNat - getBits v lsb width * 2 ^ lsb + x % 2 ^ width * 2 ^ lsb)

/-- The value of field `f` of register element (i, j). -/
def State.get (s : State) (f : Fld) (i : Nat := 0) (j : Nat := 0) : Nat :=
  getBits (s.reg (f.reg.off i j)) f.lsb f.width

/-- The field, as a signed number. -/
def State.getI (s : State) (f : Fld) (i : Nat := 0) (j : Nat := 0) : Int := signed f.width (s.get f i j)

/-- The field, as a flag. -/
def State.getB (s : State) (f : Fld) (i : Nat := 0) (j : Nat := 0) : Bool := s.get f i j != 0

/-- The state with a field written (narrowed to its width). -/
def State.set (s : State) (f : Fld) (v : Nat) (i : Nat := 0) (j : Nat := 0) : State :=
  s.setReg (f.reg.off i j) (setBits (s.reg (f.reg.off i j)) f.lsb f.width v)

/-- The state with a field written from a signed number. -/
def State.setI (s : State) (f : Fld) (v : Int) (i : Nat := 0) (j : Nat := 0) : State :=
  s.set f (bitsOf f.width v) i j

/-- The state with a flag field written. -/
def State.setB (s : State) (f : Fld) (v : Bool) (i : Nat := 0) (j : Nat := 0) : State :=
  s.set f (b2n v) i j

/-- A counting field increased, saturating at all ones. -/
def State.addSat (s : State) (f : Fld) (n : Nat) (i : Nat := 0) (j : Nat := 0) : State :=
  s.set f (min (s.get f i j + n) (2 ^ f.width - 1)) i j

/-- A counting field increased, wrapping. -/
def State.addWrap (s : State) (f : Fld) (n : Nat) (i : Nat := 0) (j : Nat := 0) : State :=
  s.set f (s.get f i j + n) i j

/-! ### Time -/

/-- Grid tick within the current operating second (Table 1.5). -/
def State.gtInSec (s : State) : Nat := (s.time.gt - s.time.secBase) % 640000

/-- The sheet in progress: sheets are 80 grid ticks (R6). -/
def State.sheet (s : State) : Nat := s.time.gt / 80

/-- A read of SYS.GT_SEC latches SYS.OP_SEC, SYS.PWR_CYC and SYS.SHEET_CNT (R28). -/
def State.latchTime (s : State) : State :=
  ((s.set Fd.SYS_OP_SEC_OP_SEC s.time.opSec).set Fd.SYS_PWR_CYC_PWR_CYC s.time.pwrCyc).set Fd.SYS_SHEET_CNT_SHEET s.sheet

/-- What recurs every `n` sheets is due at the present grid tick: the sheet boundary where SHEET, counted before its wrap at 2^32, is a
multiple of `n` (R29). -/
def State.everySheets (s : State) (n : Nat) : Bool := decide (s.time.gt % 80 = 0) && decide (s.sheet % 2 ^ 32 % n = 0)

/-- The stamp of the present grid tick. -/
def State.stamp (s : State) : Stamp := ⟨s.time.opSec, s.gtInSec, s.time.pwrCyc⟩

/-- The sheet boundary of the present grid tick waits for its capture: `sheetsRun` counts the boundaries run up to it. -/
def State.sheetDue (s : State) : Bool := decide (s.time.gt % 80 = 0) && decide (s.time.sheetsRun ≤ s.sheet)

/-- Grid tick 1 of the sheet that the sheet boundary of the next capture opens (R256): the present one while its boundary waits. -/
def State.chartPostTick (s : State) : Nat := if s.sheetDue then s.sheet * 80 + 1 else (s.sheet + 1) * 80 + 1

/-! ### Free values, mailboxes -/

/-- The mailbox with a number. -/
def State.mb (s : State) (m : Nat) : Mailbox := mapGet Mailbox.reset s.mbox m

/-- The state with a mailbox replaced. -/
def State.setMb (s : State) (m : Nat) (b : Mailbox) : State := { s with mbox := mapSet Mailbox.reset s.mbox m b }

/-- A command's outcome. -/
abbrev Out := Host.Outcome State Fault Refusal

/-- A command's effect leaves the queue of commands as it stood; the queue is the step's. -/
def State.keepQueue (s : State) : Out → Out
  | .next t => .next { t with pending := s.pending }
  | .fault f => .fault f
  | .refused r => .refused r

/-- A command's effect leaves the queue and the timebase as they stood: time moves at its boundaries, and with a reset or a start. -/
def State.keepTime (s : State) : Out → Out
  | .next t => .next { t with pending := s.pending, time := s.time }
  | .fault f => .fault f
  | .refused r => .refused r

/-- The rails are good, RESET_N is released and the device is not frozen. -/
def State.alive (s : State) : Bool := s.start.good && !s.start.inReset && !s.start.frozen

/-- A command of a device that runs; without good rails, in reset and in freeze it has no effect (R348, R362, R366). -/
def State.whenLive (s : State) (o : Out) : Out := if s.alive then s.keepTime o else .next s

/-- A command of a device that runs, which moves the timebase. -/
def State.whenLiveTimed (s : State) (o : Out) : Out := if s.alive then s.keepQueue o else .next s

end Sys2Proof.Machine
end

