-- ==== Sys2Proof/Machine/Perf.lean ====
section
/-!
DEFINITION. Event counting for the performance counters (17_performance_counters.md R325, R328, R329): the shared operation that the
steps of every block call where one of its events of Table 17.2 occurs.
-/

namespace Sys2Proof.Machine

/-- The attributes an event carries (R329): FILT.LVL bit of the level, FILT.MST bit of the master, party, address, class. -/
structure EventAttr where
  lvl : Option Nat
  mst : Option Nat
  party : Option Nat
  addr : Option Nat
  cls : Option Nat
  deriving DecidableEq, Repr

/-- An event without attributes. -/
def EventAttr.bare : EventAttr := ⟨none, none, none, none, none⟩

/-- An event passes FILT (R329); one without an attribute passes its test only while the field admits everything. -/
def EventAttr.passes (a : EventAttr) (f : Word) (ranges : List (Nat × Nat)) : Bool :=
  let lvl := match a.lvl with
    | some l => bit (wbits f 31 27) l
    | none => wbits f 31 27 == 0x1F
  let mst := match a.mst with
    | some m => bit (wbits f 26 21) m && (m != 0 || bit f.toNat 20 || a.party == some (wbits f 19 15))
    | none => wbits f 26 21 == 0x3F
  let addr := !bit f.toNat 11 || match a.addr with
    | some x => match ranges[wbits f 14 12]? with
      | some r => decide (r.1 ≤ x ∧ x < r.2)
      | none => false
    | none => false
  let cls := match a.cls with
    | some c => bit (wbits f 9 0) c
    | none => wbits f 9 0 == 0x3FF
  lvl && mst && addr && cls

/-- The instance of a counter within its block: LANE instance, DRC channel, SVY party; 0 elsewhere. -/
def counterInst (i : Nat) : Nat :=
  if 216 ≤ i ∧ i < 280 then (i - 216) / 2 else evselReset i / 256

/-- Add events to a counter, modulo 2^48; a wrap sets VAL_HI.WRAP, adds to the dump wrap count and is yet to be raised (R325). -/
def State.addCounter (s : State) (i n : Nat) : State :=
  let v := mapGet 0 s.pmc.cnt i + n
  let s := { s with pmc := { s.pmc with cnt := mapSet 0 s.pmc.cnt i (v % 2 ^ 48) } }
  if v < 2 ^ 48 then s
  else
    let p := { s.pmc with
      wraps := mapSet 0 s.pmc.wraps i (mapGet 0 s.pmc.wraps i + v / 2 ^ 48)
      wrapped := s.pmc.wrapped ++ [i] }
    ({ s with pmc := p }).setB Fd.PMC_VAL_HI_WRAP true i

/-- Count `n` events of a code in an instance of a block, in every counter that selects them. -/
def State.count (s : State) (block inst code n : Nat) (a : EventAttr := EventAttr.bare) : State :=
  if !s.pmc.run || n == 0 then s
  else
    forEach s.pmc.sel s fun s e =>
      if decide (e.1 < 384) && evselReset e.1 % 256 == block && counterInst e.1 == inst && wbits e.2.1 23 16 == code &&
        a.passes e.2.2 s.pmc.ranges then s.addCounter e.1 n else s

/-- A code that a block's counters define (Table 17.2). -/
def eventDefined (block code : Nat) : Bool :=
  if code ≤ 6 then true
  else if code ≤ 9 then block == 2 || block == 3 || block == 4 || block == 8 || block == 0x11
  else if code = 0x10 ∨ code = 0x11 then block == 2 || block == 4 || block == 7 || block == 8 || block == 9 || block == 0x11
  else if code = 0x12 then block == 2 || block == 4 || block == 8
  else code == 0x13 && block == 8

/-- Block code and instance to which a fault source belongs (Table 15.1); instance 32 where a survey party is not named by the source. -/
def sourceBlock (src : Nat) : Nat × Nat :=
  if src < 64 then (4, src / 4)
  else if src < 239 then
    let i := (src - 64) / 5
    (blockCode i, if 3 ≤ i ∧ i < 19 then i - 3 else if blockCode i = 8 then 32 else 0)
  else if src = 240 then (6, 0)
  else if src ≤ 245 then (7, 0)
  else if src ≤ 252 then (8, 32)
  else if src ≤ 258 then (0x0A, 0)
  else if src ≤ 265 then (9, 0)
  else if src ≤ 270 then (5, 0)
  else if src ≤ 274 then (0x0B, 0)
  else if src ≤ 279 then (0x0C, 0)
  else if src ≤ 284 then (0x0D, 0)
  else if src ≤ 288 then (0x11, src - 285)
  else if src = 289 then (0x0E, 0)
  else if src = 290 then (3, 0)
  else if src ≤ 303 then (0x0F, 0)
  else if src ≤ 307 then (0x10, 0)
  else if src ≤ 311 then (0x14, 0)
  else if src ≤ 314 then (0x13, 0)
  else if src = 489 ∨ src = 490 then (1, 0)
  else if src ≤ 492 then (0x0E, 0)
  else if src = 495 then (0x12, 0)
  else (0x14, 0)

end Sys2Proof.Machine
end

