-- ==== Sys2Proof/Machine/LegendTable.lean ====
section
/-!
DEFINITION. The Legend (13_chart_mailbox_protocol.md R262, R381, Table 13.18): every parameter with its ID, array length, type,
range, sense, write level, apply class and default, as the chapters' parameter tables give them.
-/

namespace Sys2Proof.Machine

/-- The type of a Legend parameter word (R262). -/
inductive LegendType where
  | u32 | s32 | q15
  deriving DecidableEq, Repr

/-- One Legend parameter: Table 13.18 and the parameter table of its chapter. Sense 0 none, 1 a decrease restricts, 2 an increase
restricts. Level 0 none, 1 maintainer, 2 host-user, 3 host-privileged. Class 0 SHEET, 1 BANK, 2 RWE, 3 FW. -/
structure LegendParam where
  id : Nat
  len : Nat
  typ : LegendType
  min : Int
  max : Int
  sense : Nat
  level : Nat
  cls : Nat
  name : String
  deriving DecidableEq, Repr

/-- Groups 0x0 to 0x2 of Table 13.10. -/
def legendSystem : List LegendParam := [
  ⟨0x0040, 1, .u32, 1, 7, 0, 3, 3, "start.fail_limit"⟩,
  ⟨0x0041, 1, .u32, 1, 256, 1, 3, 3, "start.ramp_rate"⟩,
  ⟨0x0042, 1, .u32, 8000, 96000, 0, 3, 3, "start.train_max"⟩,
  ⟨0x0043, 1, .s32, -80, -30, 0, 3, 3, "sketch.pilot_level"⟩,
  ⟨0x1018, 1, .u32, 24, 2000, 0, 3, 3, "lane.recal_interval"⟩,
  ⟨0x1040, 1, .u32, 16, 640, 0, 3, 0, "syn.settle"⟩,
  ⟨0x1041, 1, .u32, 1, 7, 0, 3, 0, "syn.relock_tries"⟩,
  ⟨0x1042, 1, .u32, 0, 1, 0, 3, 0, "ref.revert"⟩,
  ⟨0x1043, 1, .u32, 8000, 4800000, 0, 3, 0, "ref.revert_sheets"⟩,
  ⟨0x1140, 16, .u32, 0, 10000, 0, 3, 3, "chn.max_through"⟩,
  ⟨0x2200, 1, .u32, 0, 1, 2, 3, 3, "svy.cover_req"⟩]

/-- Group 0x3 of Table 13.10. -/
def legendContour : List LegendParam := [
  ⟨0x3000, 1536, .q15, -32768, 32767, 1, 3, 0, "contour.sp"⟩,
  ⟨0x3001, 1536, .u32, 0, 1, 0, 3, 0, "contour.en"⟩,
  ⟨0x3010, 1536, .q15, 0, 32767, 0, 3, 0, "contour.kp"⟩,
  ⟨0x3011, 1536, .q15, 0, 32767, 0, 3, 0, "contour.ki"⟩,
  ⟨0x3012, 1536, .q15, 0, 32767, 0, 3, 0, "contour.kd"⟩,
  ⟨0x3013, 1536, .q15, 0, 32767, 0, 3, 0, "contour.alpha"⟩,
  ⟨0x3014, 1536, .q15, 0, 32767, 0, 3, 0, "contour.kt"⟩,
  ⟨0x3015, 1536, .u32, 0, 1911, 0, 3, 0, "contour.shift"⟩,
  ⟨0x3016, 1536, .u32, 1, 32767, 0, 3, 0, "contour.rate"⟩,
  ⟨0x3080, 256, .u32, 0, 1, 1, 3, 0, "domain.en"⟩,
  ⟨0x3081, 256, .s32, -32768, 32767, 1, 3, 0, "domain.gmax"⟩,
  ⟨0x3082, 256, .s32, -32768, 32767, 0, 3, 0, "domain.gmin"⟩,
  ⟨0x3083, 256, .s32, -32768, 32767, 1, 3, 0, "domain.safe"⟩,
  ⟨0x3084, 256, .u32, 1, 32767, 1, 3, 0, "domain.up_rate"⟩,
  ⟨0x3085, 256, .u32, 0, 1, 2, 3, 0, "domain.relief_en"⟩,
  ⟨0x3086, 256, .u32, 0, 255, 0, 3, 0, "domain.order"⟩,
  ⟨0x3090, 16, .s32, -32768, 32767, 2, 3, 0, "window.base"⟩,
  ⟨0x30A0, 1, .u32, 1, 255, 0, 3, 0, "sup.lost_sheets"⟩,
  ⟨0x30A1, 1, .u32, 2, 255, 0, 3, 0, "sup.frozen_sheets"⟩,
  ⟨0x30A2, 1, .u32, 1, 32767, 0, 3, 0, "sup.frozen_move"⟩,
  ⟨0x30A3, 1, .u32, 0, 255, 0, 3, 0, "sup.hold_sheets"⟩,
  ⟨0x30A4, 1, .u32, 1, 32767, 0, 3, 0, "sup.safe_rate"⟩,
  ⟨0x30A5, 1, .u32, 1, 255, 0, 3, 0, "sup.plaus_sheets"⟩,
  ⟨0x30A6, 6, .q15, 0, 32767, 0, 3, 0, "sup.plaus_tol"⟩,
  ⟨0x30A7, 1, .u32, 1, 255, 0, 3, 0, "sup.plaus_max"⟩,
  ⟨0x30A8, 1, .u32, 1, 32767, 0, 3, 0, "sup.mode_rate"⟩,
  ⟨0x30A9, 1, .s32, -19968, 0, 0, 3, 0, "sup.ino_safe"⟩,
  ⟨0x30B0, 16, .u32, 10, 30, 0, 3, 0, "pilot.depth"⟩,
  ⟨0x30B1, 1, .u32, 16, 1024, 0, 3, 0, "clr.pilot_sheets"⟩,
  ⟨0x30B2, 1, .u32, 1, 255, 0, 3, 0, "clr.traffic_sheets"⟩,
  ⟨0x30B3, 1, .u32, 0, 30, 0, 3, 0, "clr.traffic_min"⟩,
  ⟨0x30B4, 1, .u32, 1, 64, 0, 3, 0, "clr.lags"⟩]

/-- Group 0x4 of Table 13.10. -/
def legendPosition : List LegendParam := [
  ⟨0x4010, 1, .u32, 0, 1000000, 2, 3, 0, "pos.lead_margin"⟩,
  ⟨0x4011, 1, .u32, 100000, 20000000, 0, 3, 0, "pos.prep_dist"⟩,
  ⟨0x4012, 1, .u32, 100, 100000, 2, 3, 0, "pos.dist_err"⟩,
  ⟨0x4013, 1, .u32, 1000, 200000, 0, 3, 0, "pos.slip_rel"⟩,
  ⟨0x4014, 1, .u32, 0, 1000, 0, 3, 0, "pos.slip_abs"⟩,
  ⟨0x4015, 1, .u32, 0, 100000, 2, 3, 0, "pos.relief_s1"⟩,
  ⟨0x4016, 1, .u32, 1, 1000000, 2, 3, 0, "pos.relief_s2"⟩,
  ⟨0x4017, 1, .u32, 1, 15, 0, 3, 0, "pos.gate_rej"⟩,
  ⟨0x4018, 1, .u32, 100000, 100000000, 0, 3, 0, "pos.learn_dist"⟩,
  ⟨0x4019, 1, .u32, 10, 10000, 0, 3, 0, "pos.learn_sf"⟩,
  ⟨0x401A, 1, .u32, 1000, 10000000, 0, 3, 0, "pos.dop_smax"⟩,
  ⟨0x401B, 1, .u32, 1, 80000, 0, 3, 0, "pos.dop_slew"⟩,
  ⟨0x401C, 1, .u32, 100, 100000, 0, 3, 0, "pos.pres_sigma"⟩,
  ⟨0x401D, 1, .u32, 1000, 500000, 0, 3, 0, "pos.pass_err"⟩,
  ⟨0x401E, 2, .s32, -100000, 100000, 0, 3, 0, "pos.pass_v0"⟩,
  ⟨0x401F, 1, .u32, 0, 200000, 0, 3, 0, "pos.pass_vtol"⟩]

/-- Group 0x5 of Table 13.10. -/
def legendProtection : List LegendParam := [
  ⟨0x5000, 1, .u32, 0, 62, 2, 3, 0, "prot.enable"⟩,
  ⟨0x5001, 1, .q15, 0, 7680, 2, 3, 0, "prot.clr_floor"⟩,
  ⟨0x5002, 1, .u32, 1, 15, 1, 3, 0, "prot.clr_sheets"⟩,
  ⟨0x5003, 1, .q15, 256, 5120, 1, 3, 0, "prot.nrs_max"⟩,
  ⟨0x5004, 1, .u32, 1, 255, 1, 3, 0, "prot.nrs_sheets"⟩,
  ⟨0x5005, 1, .q15, 0, 5120, 1, 3, 0, "prot.ems_over"⟩,
  ⟨0x5006, 1, .u32, 16, 8000, 0, 3, 0, "prot.survey_rev"⟩,
  ⟨0x5007, 1, .s32, -1600, 0, 1, 3, 0, "prot.spur_limit"⟩,
  ⟨0x5008, 1, .u32, 800, 64000, 0, 3, 0, "prot.spur_rev"⟩,
  ⟨0x5009, 1, .s32, -2240, -1280, 2, 3, 0, "prot.donor_min"⟩,
  ⟨0x500A, 1, .u32, 1, 15, 1, 3, 0, "prot.donor_misses"⟩,
  ⟨0x500B, 1, .q15, 1024, 10240, 2, 3, 0, "prot.rl_min"⟩,
  ⟨0x500C, 1, .u32, 0, 65535, 1, 3, 0, "prot.fwd_min"⟩,
  ⟨0x500D, 8, .u32, 0, 0xffffff, 2, 3, 0, "prot.hold"⟩,
  ⟨0x500E, 8, .u32, 0, 15, 0, 3, 0, "prot.retry"⟩,
  ⟨0x500F, 1, .u32, 8000, 28800000, 2, 3, 0, "prot.retry_win"⟩,
  ⟨0x5010, 16, .s32, -640, 960, 1, 3, 0, "prot.donor_rs"⟩,
  ⟨0x5011, 16, .u32, 0, 320, 1, 3, 0, "prot.donor_nf"⟩,
  ⟨0x5012, 16, .s32, -320, 960, 2, 3, 0, "prot.ul_gain"⟩,
  ⟨0x5013, 16, .s32, -1600, 0, 1, 3, 0, "prot.ems_limit"⟩,
  ⟨0x5014, 16, .u32, 200, 20000, 0, 3, 0, "prot.ems_span"⟩,
  ⟨0x5020, 16, .u32, 3, 20, 2, 3, 0, "gate.thresh"⟩,
  ⟨0x5021, 16, .u32, 1, 8, 1, 3, 0, "gate.slots"⟩,
  ⟨0x5022, 16, .u32, 0, 4, 0, 3, 0, "gate.scs"⟩,
  ⟨0x5023, 1, .u32, 8, 1024, 0, 3, 0, "gate.floor_sheets"⟩]

/-- Groups 0x6 to 0xB of Table 13.10. -/
def legendRest : List LegendParam := [
  ⟨0x6000, 64, .u32, 0, 0xffffffff, 0, 3, 3, "rce.job"⟩,
  ⟨0x6001, 1, .u32, 0, 2, 0, 3, 0, "rce.oshare"⟩,
  ⟨0x6002, 1, .u32, 50, 5000, 0, 3, 0, "rce.ogrant_to"⟩,
  ⟨0x6003, 1, .u32, 0, 255, 0, 3, 0, "rce.oreq_adv"⟩,
  ⟨0x6040, 1, .u32, 0, 1, 0, 3, 0, "tdd.src"⟩,
  ⟨0x6041, 1, .s32, -5000000, 5000000, 0, 3, 0, "tdd.toff"⟩,
  ⟨0x6042, 1, .u32, 0, 999999999, 0, 3, 0, "tdd.pps_off"⟩,
  ⟨0x6043, 1, .u32, 20, 2000, 0, 3, 0, "tdd.agree"⟩,
  ⟨0x6044, 1, .u32, 50, 5000, 0, 3, 0, "tdd.step_max"⟩,
  ⟨0x6045, 1, .u32, 800, 4800000, 0, 3, 0, "tdd.hold_sheets"⟩,
  ⟨0x6046, 1, .u32, 500, 20000, 2, 3, 0, "tdd.guard"⟩,
  ⟨0x6060, 2, .u32, 0, 65535, 2, 3, 0, "cx.wmask"⟩,
  ⟨0x6061, 2, .u32, 0, 65535, 0, 3, 0, "cx.fmask"⟩,
  ⟨0x6062, 2, .u32, 0, 1, 1, 3, 0, "cx.defer"⟩,
  ⟨0x6063, 2, .u32, 0, 1, 0, 3, 0, "cx.rce_skip"⟩,
  ⟨0x6064, 1, .u32, 8000, 4800000, 0, 3, 0, "cx.max_hold"⟩,
  ⟨0x7000, 1, .u32, 1, 1440, 0, 3, 0, "sns.cal_ivl"⟩,
  ⟨0x7001, 1, .u32, 1, 50, 0, 3, 0, "sns.cal_temp"⟩,
  ⟨0x7002, 1, .u32, 1, 255, 0, 3, 0, "sns.chk_tol"⟩,
  ⟨0x7010, 65, .u32, 0, 0xffffffff, 0, 3, 1, "sns.bank"⟩,
  ⟨0x8000, 480, .u32, 1, 2936012799, 0, 3, 0, "fault.scfg"⟩,
  ⟨0x8001, 32, .u32, 0, 499, 2, 3, 0, "fault.priv_sev"⟩,
  ⟨0x8002, 1, .u32, 0, 2147499839, 0, 3, 0, "fault.snap"⟩,
  ⟨0x8003, 1, .u32, 0, 3, 0, 3, 0, "fault.ff_min"⟩,
  ⟨0x8004, 1, .u32, 0, 3, 0, 3, 0, "fault.notify"⟩,
  ⟨0x8005, 1, .u32, 0, 1, 0, 3, 0, "fault.log_note"⟩,
  ⟨0x9000, 1, .u32, 1, 7, 0, 3, 3, "fbk.verify_tries"⟩,
  ⟨0x9001, 1, .u32, 1, 3, 0, 3, 3, "fbk.protect_sev"⟩,
  ⟨0x9002, 1, .u32, 10, 600, 0, 3, 3, "fbk.nonce_life"⟩,
  ⟨0x9003, 1, .u32, 50, 100, 0, 3, 3, "fbk.fill_warn"⟩,
  ⟨0xB000, 1, .u32, 1, 255, 0, 3, 3, "age.canary_fires"⟩,
  ⟨0xB001, 1, .q15, 0, 3072, 1, 3, 3, "age.depth_tol"⟩,
  ⟨0xB002, 1, .u32, 500, 1000, 0, 3, 3, "age.warn"⟩,
  ⟨0xB010, 16, .q15, 0, 3072, 0, 0, 3, "age.clr_margin"⟩,
  ⟨0xB011, 8, .u32, 0, 65535, 0, 0, 3, "age.used"⟩,
  ⟨0xB012, 1, .s32, -2147483648, 2147483647, 0, 0, 3, "age.vmargin"⟩]

/-- Every parameter of the Legend. -/
def legendTable : List LegendParam := legendSystem ++ legendContour ++ legendPosition ++ legendProtection ++ legendRest

/-- The parameter with an ID. -/
def findParam (id : Nat) : Option LegendParam := legendTable.find? fun p => p.id == id

/-- The default of element `i` of parameter `id`. -/
def legendDefaultI (id i : Nat) : Int :=
  match id with
  | 0x3000 => [7680, -6656, -3072, 512, 0, -7680].getD (i % 6) 0
  | 0x3086 => (i : Int)
  | 0x30A6 => [1536, 3072, 3072, 1536, 3072, 6144].getD i 0
  | 0x500D => [80, 80, 0, 8000, 8000, 8000, 0, 8000].getD i 0
  | 0x500E => [3, 5, 0, 3, 2, 3, 0, 3].getD i 0
  | 0x8000 => (scfgReset i : Int)
  | 0x8001 => ((sourceBase (480 + i) + 16 * sourceScope (480 + i) : Nat) : Int)
  | 0x0040 => 3
  | 0x0041 => 8
  | 0x0042 => 64000
  | 0x0043 => -60
  | 0x1018 => 168
  | 0x1040 => 64
  | 0x1041 => 3
  | 0x1042 => 1
  | 0x1043 => 80000
  | 0x2200 => 1
  | 0x3010 => 8192
  | 0x3011 => 8192
  | 0x3013 => 16384
  | 0x3014 => 16384
  | 0x3016 => 256
  | 0x3082 => -32768
  | 0x3083 => -10240
  | 0x3084 => 256
  | 0x3085 => 1
  | 0x30A0 => 8
  | 0x30A1 => 16
  | 0x30A2 => 1536
  | 0x30A3 => 16
  | 0x30A4 => 512
  | 0x30A5 => 80
  | 0x30A7 => 8
  | 0x30A8 => 256
  | 0x30A9 => -9216
  | 0x30B0 => 20
  | 0x30B1 => 128
  | 0x30B2 => 8
  | 0x30B3 => 6
  | 0x30B4 => 16
  | 0x4010 => 10000
  | 0x4011 => 2000000
  | 0x4012 => 5000
  | 0x4013 => 20000
  | 0x4014 => 5
  | 0x4015 => 2000
  | 0x4016 => 20000
  | 0x4017 => 3
  | 0x4018 => 1000000
  | 0x4019 => 500
  | 0x401A => 100000
  | 0x401B => 200
  | 0x401C => 2000
  | 0x401D => 50000
  | 0x401F => 55556
  | 0x5000 => 62
  | 0x5001 => 1536
  | 0x5002 => 2
  | 0x5003 => 1536
  | 0x5004 => 8
  | 0x5005 => 1536
  | 0x5006 => 160
  | 0x5007 => -960
  | 0x5008 => 8000
  | 0x5009 => -1920
  | 0x500A => 3
  | 0x500B => 3072
  | 0x500C => 4096
  | 0x500F => 480000
  | 0x5010 => 240
  | 0x5011 => 80
  | 0x5013 => -480
  | 0x5014 => 5000
  | 0x5020 => 9
  | 0x5021 => 1
  | 0x5023 => 64
  | 0x6002 => 500
  | 0x6003 => 20
  | 0x6043 => 200
  | 0x6044 => 300
  | 0x6045 => 80000
  | 0x6046 => 2000
  | 0x6063 => 1
  | 0x6064 => 80000
  | 0x7000 => 60
  | 0x7001 => 10
  | 0x7002 => 24
  | 0x8003 => 1
  | 0x8004 => 2
  | 0x8005 => 1
  | 0x9000 => 3
  | 0x9001 => 3
  | 0x9002 => 60
  | 0x9003 => 90
  | 0xB000 => 1
  | 0xB001 => 1536
  | 0xB002 => 800
  | _ => 0

/-- The default as a Legend word. -/
def legendDefault (id i : Nat) : Word := wdI (legendDefaultI id i)

/-- The key of a Legend element in the store. -/
def legendKey (id i : Nat) : Nat := id * 65536 + i

/-- The Legend word in force for an element. -/
def State.leg (s : State) (id : Nat) (i : Nat := 0) : Word :=
  mapGet (legendDefault id i) s.fw.legend (legendKey id i)

/-- The Legend value in force, as a number (u32 parameters). -/
def State.legN (s : State) (id : Nat) (i : Nat := 0) : Nat := (s.leg id i).toNat

/-- The Legend value in force, as a signed number (s32 and q15 parameters; q15 words hold their sign extension). -/
def State.legI (s : State) (id : Nat) (i : Nat := 0) : Int := (s.leg id i).toInt

/-- The state with a Legend element in force. -/
def State.setLeg (s : State) (id i : Nat) (v : Word) : State :=
  { s with fw := { s.fw with legend := mapSet (legendDefault id i) s.fw.legend (legendKey id i) v } }

/-- Sense of an element: contour.sp restricts by an increase at index 6 d (CLR) and by a decrease elsewhere (Table 13.18). -/
def LegendParam.senseAt (p : LegendParam) (i : Nat) : Nat := if p.id = 0x3000 ∧ i % 6 = 0 then 2 else p.sense

/-- A parameter word's value under its type. -/
def LegendParam.value (p : LegendParam) (v : Word) : Int :=
  match p.typ with
  | .u32 => (v.toNat : Int)
  | .s32 => v.toInt
  | .q15 => signed 16 v.toNat

/-- Bit-mask parameters (R381): prot.enable and cx.wmask, of sense 2. -/
def LegendParam.isMask (p : LegendParam) : Bool := p.id == 0x5000 || p.id == 0x6060

/-- A change of an element from `old` to `new` moves in the restrictive direction of its sense (R264, R381). -/
def LegendParam.restricts (p : LegendParam) (i : Nat) (old new : Word) : Bool :=
  if p.isMask then decide (old.toNat &&& new.toNat = old.toNat)
  else if p.senseAt i = 1 then decide (p.value new < p.value old)
  else if p.senseAt i = 2 then decide (p.value old < p.value new)
  else false

/-- A word is a value its parameter's type and range admit (R262 and the parameter tables). -/
def LegendParam.admits (p : LegendParam) (i : Nat) (v : Word) : Bool :=
  let inRange := decide (p.min ≤ p.value v) && decide (p.value v ≤ p.max)
  match p.typ with
  | .q15 => inRange && decide (v.toInt = signed 16 v.toNat)
  | .s32 => inRange
  | .u32 =>
    inRange &&
      (if p.id = 0x3015 then decide (v.toNat &&& 0x777 = v.toNat)
       else if p.id = 0x5000 then decide (v.toNat &&& 0x3E = v.toNat)
       else if p.id = 0x6000 then decide (i % 2 = 0) || decide (v = 0) || (decide (380000 ≤ v.toNat) && decide (v.toNat ≤ 7200000))
       else if p.id = 0x7010 then decide (i < 63) || decide (v = 0)
       else if p.id = 0x8000 then decide (v.toNat &&& 0x01000000 = 0) && decide (1 ≤ wbits v 15 0) && decide (wbits v 31 30 < 3) &&
         decide (wbits v 29 28 < 3)
       else if p.id = 0x8001 then decide (v.toNat &&& 0x1F3 = v.toNat) && decide (wbits v 5 4 < 3) &&
         decide (sourceBase (480 + i) ≤ wbits v 1 0)
       else if p.id = 0x8002 then decide (v.toNat &&& 0x80003F3F = v.toNat)
       else true)

end Sys2Proof.Machine
end

