-- ==== Sys2Proof/Machine/Flags.lean ====
section
/-!
DEFINITION. The flags that steps raise: notifications (13_chart_mailbox_protocol.md R261), the offer of a record to the Field
Book's staging FIFO (16_field_book.md R306 to R309), and the fault collector's events, clearances, reactions and releases
(15_faults_redundancy_guarantees.md R287 to R297), as shared operations.
-/

namespace Sys2Proof.Machine

/-! ### Notifications -/

/-- Raise a notification (R261): it takes the next sequence number and waits for its posting time, unless MBX.NMASK disables
its code. -/
def State.notify (s : State) (code : Nat) (content : List Word) (postAt : Nat) : State :=
  if bit (s.get Fd.MBX_NMASK_EN) (code - 0xF0) then
    let n := s.fw.notices
    let e : Notification := ⟨code, n.seq, s.stamp, content, postAt⟩
    { s with fw := { s.fw with notices := { n with seq := (n.seq + 1) % 2 ^ 32, raised := n.raised ++ [e] } } }
  else s

/-- Raise a notification of the Datum core or of the collector, posted within one grid tick of its event (R261). -/
def State.notifyNow (s : State) (code : Nat) (content : List Word) : State := s.notify code content s.time.gt

/-- Raise a notification of the Chart firmware, posted as a Chart response is (R256, R261). -/
def State.notifyChart (s : State) (code : Nat) (content : List Word) : State := s.notify code content s.chartPostTick

/-! ### Collector events, the record apart -/

/-- 10.3 ms of the ALERT_N pulse (R293), in grid ticks. -/
def alertTicks : Nat := 6592

/-- Start or restart the ALERT_N pulse; FLT.ALERT.SW is set at each pulse start (R293). -/
def State.alertPulse (s : State) : State :=
  let s := { s with flt := { s.flt with alertEnd := some (s.time.gt + alertTicks) } }
  (s.setB Fd.FLT_ALERT_SW true).setB Fd.FLT_ALERT_PULSE true

/-- TX lanes and domains of the reaction to an event of a source (R290). -/
def reactionScope (scope sev lanes domains : Nat) : Nat × Nat :=
  if sev = 3 then
    (if scope = 0 then 0 else if scope = 1 ∧ lanes ≠ 0 then lanes else 0xFFFF, 0)
  else if sev = 2 then
    (0, if scope = 0 then 0 else if scope = 1 then domains else 2 ^ 256 - 1)
  else (0, 0)

/-- Counting interval of a source is open (R288). -/
def State.intervalOpen (s : State) (src : Nat) : Bool :=
  match mapGet none (s.flt.intervals.map fun p => (p.1, some p.2)) src with
  | some e => decide (s.time.gt < e)
  | none => false

/-- A counting interval of a source opens; ESC falls. -/
def State.openInterval (s : State) (src : Nat) : State :=
  State.setB { s with flt := { s.flt with intervals := mapInsert (mapErase s.flt.intervals src) src (s.time.gt + 80 * s.get Fd.FLT_SCFG_W src) } }
    Fd.FLT_SSTAT_ESC false src

/-- Severity of a source before escalation. SVY_ENG is SEVERE from the 17th lost engine on (R112). -/
def State.baseSev (s : State) (src : Nat) : Nat :=
  let base := s.get Fd.FLT_SCFG_BASE src
  if src = 248 ∧ 17 ≤ s.get Fd.SVY_SSTAT_ENG_LOST then max base 2 else base

/-- An event of a counted source has brought CNT to N: ESC is set. -/
def State.escalate (s : State) (src : Nat) (yes : Bool) : State := if yes then s.setB Fd.FLT_SSTAT_ESC true src else s

/-- Count an event of a counted source in its interval (R288): the interval, CNT, ESC and the effective severity. -/
def State.countEvent (s : State) (src : Nat) : State × Nat :=
  let base := s.baseSev src
  if 480 ≤ src then (s, base)
  else
    let n := s.get Fd.FLT_SCFG_N src
    let cnt := if s.intervalOpen src then min (s.get Fd.FLT_SSTAT_CNT src + 1) 255 else 1
    let esc := decide (n ≠ 0 ∧ n ≤ cnt)
    (((if s.intervalOpen src then s else s.openInterval src).set Fd.FLT_SSTAT_CNT cnt src).escalate src esc, if esc then 2 else base)

/-- What the collector did with one event: its effective severity, and the lane and domain masks of its reaction. -/
structure EventResult where
  ev : FaultEv
  sev : Nat
  lanes : Nat
  domains : Nat
  snap : Bool
  deriving DecidableEq, Repr

/-- SSTAT of the source of an event, and the count of fault events of its block (R289). -/
def State.markSource (s : State) (e : FaultEv) (sev : Nat) : State :=
  let src := e.source
  let s := ((s.setB Fd.FLT_SSTAT_ACTIVE true src).setB Fd.FLT_SSTAT_LATCHED true src).set Fd.FLT_SSTAT_SEV sev src
  let s := (s.setB Fd.FLT_SSTAT_INJ e.inj src).setB Fd.FLT_SSTAT_PATH e.path src
  let s := if 480 ≤ src then s else s.addSat Fd.FLT_SSTAT_TOTAL 1 src
  s.count (sourceBlock src).1 (sourceBlock src).2 6 1

/-- An event of the source that an armed capture with trigger 2 waits for (R334). -/
def State.hitCapture (s : State) (src : Nat) : State :=
  if decide (s.capt.state = 1 ∧ s.capt.trigger = 2 ∧ s.capt.source = src) && s.capt.hit.isNone then
    { s with capt := { s.capt with hit := some s.time.gt } } else s

/-- Post the reaction of an event for grid tick t + 2 (R290); a CRITICAL event starts the ALERT_N pulse (R293). -/
def State.postReaction (s : State) (src sev : Nat) (sc : Nat × Nat) : State :=
  let s := if sc.1 = 0 ∧ sc.2 = 0 then s else
    { s with flt := { s.flt with reactions := s.flt.reactions ++ [⟨src, sev, sc.1, sc.2, s.time.gt + 2, false⟩] } }
  if sev = 3 then s.alertPulse else s

/-- A freeze request of a source with FRZ = 1 (R294). -/
def State.askFreeze (s : State) (src : Nat) (yes : Bool) : State :=
  if yes then { s with flt := { s.flt with freezeReq := some (s.flt.freezeReq.getD src) } } else s

/-- The snapshot conversions of an event of a source with SNAP = 1 (R294). -/
def State.requestSnap (s : State) (yes : Bool) : State :=
  if yes then
    { s with flt := { s.flt with snapReq := s.flt.snapReq ++
        [(0, s.get Fd.FLT_SNAP_CFG_INPUT0), (1, s.get Fd.FLT_SNAP_CFG_INPUT1)] } } else s

/-- The FAULT notification of an event (R261). -/
def State.notifyFault (s : State) (e : FaultEv) (sev lanes : Nat) : State :=
  if s.legN 0x8004 ≤ sev then
    s.notifyNow 0xF3 [wd (e.source + sev * 2 ^ 24 + b2n e.path * 2 ^ 30 + 2 ^ 31), s.reg (Reg.FLT_SSTAT.off e.source 0), wd lanes]
  else s

/-- One event in the collector, its record apart: counting, SSTAT, the reaction posted for grid tick t + 2, ALERT_N, freeze
request, snapshot request and FAULT notification (R288 to R297). -/
def State.collectOne (s : State) (e : FaultEv) : State × EventResult :=
  let src := e.source
  let sev := (s.countEvent src).2
  let sc := reactionScope (s.get Fd.FLT_SCFG_SCOPE src) sev e.lanes e.domains
  let frz := s.getB Fd.FLT_SCFG_FRZ src && decide (2 ≤ sev)
  let snap := s.getB Fd.FLT_SCFG_SNAP src && s.getB Fd.FLT_SNAP_CFG_EN && decide (2 ≤ sev)
  let s := (((s.countEvent src).1.markSource e sev).hitCapture src).postReaction src sev sc
  (((s.askFreeze src frz).requestSnap snap).notifyFault e sev sc.1, ⟨e, sev, sc.1, sc.2, snap⟩)

/-- The events of one cycle through the collector, their records apart. -/
def State.collectAll (s : State) : List FaultEv → State × List EventResult
  | [] => (s, [])
  | e :: es =>
    let (s, r) := s.collectOne e
    let (s, rs) := s.collectAll es
    (s, r :: rs)

/-- The first of a cycle's events by the rule of R295: the highest severity, and on equal severity the lowest source. -/
def firstOf : List EventResult → Option EventResult
  | [] => none
  | r :: rs =>
    match firstOf rs with
    | none => some r
    | some q => if q.sev < r.sev ∨ (q.sev = r.sev ∧ r.ev.source ≤ q.ev.source) then some r else some q

/-- The FIRST registers take the first of a cycle's `n` events (R295). -/
def State.writeFirst (s : State) (n : Nat) (r : EventResult) : State :=
  let s := ((s.setB Fd.FLT_FIRST_VALID true).set Fd.FLT_FIRST_SEV r.sev).setB Fd.FLT_FIRST_PATH r.ev.path
  let s := (s.setB Fd.FLT_FIRST_INJ r.ev.inj).set Fd.FLT_FIRST_SOURCE r.ev.source
  let s := (s.set Fd.FLT_FIRST_SEC_OP_SEC s.time.opSec).set Fd.FLT_FIRST_GT_GT s.gtInSec
  (s.set Fd.FLT_FIRST_PC_PWR_CYC s.time.pwrCyc).set Fd.FLT_FIRST_CNT_COUNT n

/-- SAMECYC takes every source of a cycle (R295). -/
def State.writeSamecyc (s : State) (rs : List EventResult) : State :=
  forEach rs s fun s q =>
    s.set Fd.FLT_SAMECYC_SRC (s.get Fd.FLT_SAMECYC_SRC (q.ev.source / 32) ||| 2 ^ (q.ev.source % 32)) (q.ev.source / 32)

/-- First-fault capture of a cycle (R295). -/
def State.captureFirst (s : State) (rs : List EventResult) : State :=
  if s.getB Fd.FLT_FIRST_VALID then s
  else
    match firstOf (rs.filter fun r => decide (s.get Fd.FLT_CTL_FF_MIN ≤ r.sev)) with
    | none => s
    | some r => (s.writeFirst rs.length r).writeSamecyc rs

/-! ### The staging FIFO -/

/-- The type that a waiting record folds: its own, or for REPEAT the type folded (R307). -/
def Staged.kind (e : Staged) : Nat := if e.record.typ = 3 then e.folded else e.record.typ

/-- Records of these types fold (R307): FAULT_EVENT, FAULT_CLEAR, REPEAT. -/
def foldable (typ : Nat) : Bool := typ == 1 || typ == 2 || typ == 3

/-- Does a waiting record take this offer by folding? -/
def Staged.takes (e : Staged) (r : Record) : Bool :=
  !e.drops && foldable e.record.typ && foldable r.typ && e.record.source == r.source && e.kind == r.typ

/-- A waiting record with an offer folded in (R307). -/
def Staged.fold (e : Staged) (r : Record) : Staged :=
  { e with
    record := { e.record with typ := 3, sev := max e.record.sev r.sev }
    count := e.count + 1
    last := r.stamp
    lastSev := r.sev
    folded := e.kind }

/-- Fold an offer into the first waiting record that takes it. -/
def foldInto : List Staged → Record → Option (List Staged)
  | [], _ => none
  | e :: es, r =>
    if e.takes r then some (e.fold r :: es)
    else match foldInto es r with
      | some es' => some (e :: es')
      | none => none

/-- Waiting records, the DROPS entry apart. -/
def fifoDepth (l : List Staged) : Nat := (l.filter fun e => !e.drops).length

/-- The lowest severity among waiting records other than the DROPS entry. -/
def lowestSev (l : List Staged) : Nat := (l.filter fun e => !e.drops).foldl (fun a e => min a e.record.sev) 3

/-- Take the newest waiting record of a severity out: it and the rest. -/
def takeNewest (l : List Staged) (sev : Nat) : Option (Staged × List Staged) :=
  let rec go : List Staged → Option (Staged × List Staged)
    | [] => none
    | e :: es => if !e.drops && e.record.sev == sev then some (e, es) else
      match go es with
      | some (x, r) => some (x, e :: r)
      | none => none
  match go l.reverse with
  | some (x, r) => some (x, r.reverse)
  | none => none

/-- Count a dropped offer (R308, R312): FBK.DROP of its severity and the drops since the last DROPS record. True where it is
the first drop after a DROPS record. -/
def State.countDrop (s : State) (sev : Nat) (st : Stamp) : State × Bool :=
  let b := s.book
  let isFirst := b.firstDrop.isNone
  ({ s with book := { b with
      drop := mapSet 0 b.drop sev (mapGet 0 b.drop sev + 1)
      dropped := mapSet 0 b.dropped sev (mapGet 0 b.dropped sev + 1)
      firstDrop := some (b.firstDrop.getD st)
      lastDrop := some st } }, isFirst)

/-- Raise a source whose offer is met otherwise (R309): the collector's work without a record. -/
def State.raiseNoRecord (s : State) (src : Nat) : State :=
  let (s, rs) := s.collectAll [⟨src, false, false, 0, 0⟩]
  s.captureFirst rs

/-- The pair of a momentary source returns to healthy at the next grid tick boundary. -/
def State.toPulse (s : State) (src : Nat) : State :=
  { s with flt := { s.flt with pulsing := if s.flt.pulsing.contains src then s.flt.pulsing else src :: s.flt.pulsing } }

/-- A momentary event of a source whose offer is met otherwise (R309; log entry 9). -/
def State.pulseNoRecord (s : State) (src : Nat) : State := (s.raiseNoRecord src).toPulse src

/-- Count a drop and raise FBK_DROP for the first after a DROPS record (R308). -/
def State.dropOffer (s : State) (sev : Nat) (st : Stamp) : State :=
  let (s, isFirst) := s.countDrop sev st
  if isFirst then s.pulseNoRecord 296 else s

/-- Offer a record to the staging FIFO: folded, entered, displacing a lower one, or dropped (R306 to R308). -/
def State.offer (s : State) (r : Record) : State :=
  match foldInto s.book.fifo r with
  | some l => { s with book := { s.book with fifo := l, coal := (s.book.coal + 1) % 2 ^ 32 } }
  | none =>
    let e : Staged := ⟨r, 1, r.stamp, r.sev, r.typ, false⟩
    if fifoDepth s.book.fifo < 256 then { s with book := { s.book with fifo := s.book.fifo ++ [e] } }
    else if r.sev = 3 ∧ lowestSev s.book.fifo < 3 then
      match takeNewest s.book.fifo (lowestSev s.book.fifo) with
      | some (v, rest) =>
        let s := { s with book := { s.book with fifo := rest ++ [e] } }
        s.dropOffer v.record.sev v.record.stamp
      | none => s.dropOffer r.sev r.stamp
    else s.dropOffer r.sev r.stamp

/-- The ten payload words of a 40-byte payload given as one little-endian number. -/
def payloadWords (p : Nat) : List Word := (List.range 10).map fun i => wd (p / 2 ^ (32 * i))

/-- Payload of FAULT_EVENT and FAULT_CLEAR (Table 16.3). -/
def faultPayload (lanes domains cnt : Nat) (snap : Bool) (gt : Nat) : List Word :=
  payloadWords (lanes % 2 ^ 16 + domains % 2 ^ 256 * 2 ^ 16 + cnt % 256 * 2 ^ 272 + b2n snap * 2 ^ 280 +
    (if snap then gt else 0) * 2 ^ 288)

/-- Sources for which no FAULT_EVENT or FAULT_CLEAR record is made: protection (Table 16.2) and the Field Book's (R309). -/
def noFaultRecord (src : Nat) : Bool := (480 ≤ src && src ≤ 488) || (296 ≤ src && src ≤ 303)

/-- The order flag of an event in its cycle (R295). -/
def orderFlag (rs : List EventResult) (r : EventResult) : Nat :=
  if rs.length ≤ 1 then 0
  else match firstOf rs with
    | some q => if q.ev.source = r.ev.source then 1 else 2
    | none => 2

/-- Insert by ascending source, the event with order flag 1 first (R306). -/
def offerOrder (rs : List EventResult) : List EventResult :=
  let key := fun r => if orderFlag rs r = 1 then 0 else r.ev.source + 1
  let rec ins (r : EventResult) : List EventResult → List EventResult
    | [] => [r]
    | q :: qs => if key r ≤ key q then r :: q :: qs else q :: ins r qs
  rs.foldr ins []

/-- Offer the record of an event (R297). -/
def State.offerEvent (s : State) (rs : List EventResult) (r : EventResult) : State :=
  if noFaultRecord r.ev.source then s
  else if r.sev = 0 ∧ s.getB Fd.FLT_CTL_LOG_NOTE = false then s
  else
    s.offer ⟨1, r.ev.source, r.sev, orderFlag rs r, r.ev.path, r.ev.inj, s.stamp,
      faultPayload r.lanes r.domains (s.get Fd.FLT_SSTAT_CNT r.ev.source) r.snap s.gtInSec⟩

/-- The events of one collector cycle: counted, captured, offered (R287 to R297). An injected event also raises FLT_FI (R299). -/
def State.raiseCycle (s : State) (evs : List FaultEv) : State :=
  let fi := evs.any (·.inj)
  let evs := if fi then evs ++ [⟨289, false, false, 0, 0⟩] else evs
  let (s, rs) := s.collectAll evs
  let s := if fi then s.toPulse 289 else s
  let s := s.captureFirst rs
  forEach (offerOrder rs) s fun s r => s.offerEvent rs r

/-- A lasting condition of a source, naming TX lanes and domains: an event where its pair was healthy; a source that holds error
raises one event (R287). -/
def State.raiseOn (s : State) (src lanes domains : Nat) : State :=
  if s.getB Fd.FLT_SSTAT_ACTIVE src then s else s.raiseCycle [⟨src, false, false, lanes, domains⟩]

/-- A lasting condition of a source without targets. -/
def State.raise (s : State) (src : Nat) : State := s.raiseOn src 0 0

/-- A momentary event of a source: its pair returns to healthy at the next grid tick boundary (R182, R378; for other sources
DESIGN CHOICE, log entry 9). -/
def State.pulseInj (s : State) (src : Nat) (inj : Bool) (lanes domains : Nat) : State :=
  (s.raiseCycle [⟨src, inj, false, lanes, domains⟩]).toPulse src

/-- A momentary event that names targets. -/
def State.pulseOn (s : State) (src lanes domains : Nat) : State := s.pulseInj src false lanes domains

/-- A momentary event without targets. -/
def State.pulse (s : State) (src : Nat) : State := s.pulseOn src 0 0

/-! ### Clearances, reactions, releases -/

/-- ACTIVE of a source falls and CLR_AT is stamped (R296). -/
def State.markClear (s : State) (src : Nat) : State :=
  ((s.setB Fd.FLT_SSTAT_ACTIVE false src).set Fd.FLT_CLR_SEC_OP_SEC s.time.opSec src).set Fd.FLT_CLR_GT_GT s.gtInSec src

/-- The FAULT notification of a clearance (R261). -/
def State.notifyClear (s : State) (src sev lanes : Nat) : State :=
  if s.legN 0x8004 ≤ sev then
    s.notifyNow 0xF3 [wd (src + sev * 2 ^ 24 + b2n (s.getB Fd.FLT_SSTAT_PATH src) * 2 ^ 30),
      s.reg (Reg.FLT_SSTAT.off src 0), wd lanes] else s

/-- The FAULT_CLEAR record of a clearance (R297). -/
def State.offerClear (s : State) (src sev lanes domains : Nat) : State :=
  if noFaultRecord src || (sev == 0 && !s.getB Fd.FLT_CTL_LOG_NOTE) then s
  else s.offer ⟨2, src, sev, 0, s.getB Fd.FLT_SSTAT_PATH src, s.getB Fd.FLT_SSTAT_INJ src, s.stamp,
    faultPayload lanes domains (s.get Fd.FLT_SSTAT_CNT src) false 0⟩

/-- A clearance of a source (R296, R297): ACTIVE falls, CLR_AT is stamped, the record is offered, the notification raised. -/
def State.clearSource (s : State) (src : Nat) : State :=
  if s.getB Fd.FLT_SSTAT_ACTIVE src then
    let sev := s.get Fd.FLT_SSTAT_SEV src
    let held := s.flt.reactions.filter fun r => r.source == src
    let lanes := held.foldl (fun a r => a ||| r.lanes) 0
    let domains := held.foldl (fun a r => a ||| r.domains) 0
    ((s.markClear src).notifyClear src sev lanes).offerClear src sev lanes domains
  else s

/-- At a grid tick boundary the pairs of momentary events return to healthy. -/
def State.clearPulses (s : State) : State :=
  let l := s.flt.pulsing
  let s := { s with flt := { s.flt with pulsing := [] } }
  forEach l s fun s src => s.clearSource src

/-- TX lanes on which a CRITICAL reaction is held in force (FLT.STAT.FLT_MUTE, R291). -/
def State.fltMute (s : State) : Nat :=
  s.flt.reactions.foldl (fun a r => if r.inForce && r.sev == 3 then a ||| r.lanes else a) 0

/-- Domains on which a SEVERE reaction's SAFE ceiling is in force (R291). -/
def State.safeCeil (s : State) : Nat :=
  s.flt.reactions.foldl (fun a r => if r.inForce && r.sev == 2 then a ||| r.domains else a) 0

/-- A TX lane's MUTED flag from its sources (Table 2.17), with the ramps of R52 and R53: a hard source (SRC_FLT, SRC_DATUM,
SRC_FRZ) cuts at once, a soft one ramps, and where the last source clears the unmute ramp waits for a boundary. -/
def State.updateMuted (s : State) (n : Nat) : State :=
  let src := (s.reg (Reg.LANE_TX_MUTE.off n 0)).toNat % 64
  let was := s.getB Fd.LANE_TX_MUTE_MUTED n
  let now := decide (src ≠ 0)
  let s := s.setB Fd.LANE_TX_MUTE_MUTED now n
  let rest := maskClear s.lane.unmute (2 ^ n)
  if now then
    let s := { s with lane := { s.lane with unmute := rest } }
    if was then (if src / 8 = 0 then s else s.setB Fd.LANE_TX_MUTE_RAMPING false n)
    else s.setB Fd.LANE_TX_MUTE_RAMPING (decide (src / 8 = 0)) n
  else if was then { s with lane := { s.lane with unmute := rest + 2 ^ n } } else s

/-- Bring SRC_FLT of every TX lane in line with the held reactions (R291). -/
def State.syncFltMute (s : State) : State :=
  forEach (List.range 16) s fun s n => (s.setB Fd.LANE_TX_MUTE_SRC_FLT (bit s.fltMute n) n).updateMuted n

/-- The gain of a domain lowered to its SAFE gain, where it stands above (R291). -/
def State.capToSafe (s : State) (d : Nat) : State :=
  s.setI Fd.CON_GAPP_APPLIED (min (s.getI Fd.CON_GAPP_APPLIED d) (mapGet DomX.reset s.con.dom d).safe) d

/-- Put the reactions that are due by grid tick `t` in force: SRC_FLT on the lanes of CRITICAL ones, the SAFE ceiling on the domains of
SEVERE ones (R290, R291). -/
def State.applyReactionsBy (s : State) (t : Nat) : State :=
  let due := s.flt.reactions.filter fun r => !r.inForce && decide (r.dueAt ≤ t)
  if due.isEmpty then s
  else
    let rs := s.flt.reactions.map fun r => if r.dueAt ≤ t then { r with inForce := true } else r
    let s := { s with flt := { s.flt with reactions := rs } }
    let s := forEach due s fun s r => s.setB Fd.FLT_SSTAT_REACT true r.source
    let s := s.syncFltMute
    forEach due s fun s r =>
      if r.sev = 2 then forEach (maskList r.domains 256) s fun s d =>
        let s := s.capToSafe d
        s.set Fd.CON_GAPP_SEL 2 d
      else s

/-- The reactions due at the running grid tick. -/
def State.applyReactions (s : State) : State := s.applyReactionsBy s.time.gt

/-- Release the held reactions of a source (R292): SRC_FLT and the SAFE ceiling go where no other reaction holds the target. A reaction
posted for a later grid tick is not held yet, and stays. -/
def State.releaseReactions (s : State) (src : Nat) : State :=
  let s := { s with flt := { s.flt with reactions := s.flt.reactions.filter fun r => r.source != src || !r.inForce } }
  (s.setB Fd.FLT_SSTAT_REACT false src).syncFltMute

/-- Is a reaction of the source held or posted? -/
def State.hasReaction (s : State) (src : Nat) : Bool := s.flt.reactions.any fun r => r.source == src

/-- A COMMAND record (Tables 16.2 and 16.3): mailbox, tag, opcode, status, role, other mailbox and tag, first contested ID and
index, payload words 1-6. -/
def State.commandRecord (s : State) (mb tag opcode status role oMb oTag id idx : Nat) (payload : List Word) : State :=
  let head := mb + tag * 2 ^ 8 + opcode * 2 ^ 16 + status * 2 ^ 24
  let w1 := role + oMb * 2 ^ 8 + oTag * 2 ^ 16
  let w2 := id + idx * 2 ^ 16
  let ws := [wd head, wd w1, wd w2] ++ ((payload ++ List.replicate 6 0).take 6) ++ [0]
  s.offer ⟨6, 0x3FF, if status = 0x0C ∨ status = 0x0E then 1 else 0, 0, false, false, s.stamp, ws⟩

end Sys2Proof.Machine
end

