-- ==== Sys2Proof/Machine/Operands.lean ====
section
/-!
DEFINITION. Commands and their operands (13_chart_mailbox_protocol.md): the opcode table with level, length and executor, the
order of checks of R257, the taking of a command from a mailbox, its completion (R254 to R258), and the arbitration of orders
from two masters (R264, R265).
-/

namespace Sys2Proof.Machine

/-! ### Opcodes -/

/-- Opcodes that some chapter defines (Table 13.7 and the command tables). -/
def opcodeDefined (op : Nat) : Bool :=
  op ≤ 0x05 || (0x10 ≤ op && op ≤ 0x15) || (0x20 ≤ op && op ≤ 0x25) || (0x30 ≤ op && op ≤ 0x45) || op == 0x48 || op == 0x49 ||
    (0x50 ≤ op && op ≤ 0x53) || (0x5C ≤ op && op ≤ 0x5E) || (0x60 ≤ op && op ≤ 0x66) || (0x70 ≤ op && op ≤ 0x77) ||
    (0xE0 ≤ op && op ≤ 0xE4)

/-- Commands that the Datum core executes: 0x60-0x6F, 0x52 and 0x5C-0x5E (Table 13.7, Table 16.5). -/
def datumOpcode (op : Nat) : Bool := (0x60 ≤ op && op ≤ 0x6F) || op == 0x52 || (0x5C ≤ op && op ≤ 0x5E)

/-- Commands that honour EARLY (R257's flags; R78, R334, Table 18.9). -/
def honoursEarly (op : Nat) : Bool :=
  op == 0x20 || op == 0x3C || op == 0x3D || op == 0x3E || op == 0x11 || op == 0x13 || op == 0x35 || op == 0x40 || op == 0x73

/-- Level of a command (1 maintainer, 2 host-user, 3 host-privileged). SET and STAGE need the write level of their IDs. -/
def opcodeLevel (op : Nat) : Nat :=
  if op ≤ 0x01 ∨ op = 0x04 ∨ op = 0x14 ∨ op = 0x49 ∨ op = 0x50 ∨ op = 0x51 ∨ op = 0x53 ∨ op = 0x61 ∨ op = 0x70 ∨ op = 0x71
     ∨ (0xE0 ≤ op ∧ op ≤ 0xE2) ∨ op = 0xE4 ∨ op = 0x11 ∨ op = 0x12 then 1
  else if op = 0x10 ∨ op = 0x15 ∨ op = 0x22 ∨ op = 0x36 ∨ op = 0x3A ∨ op = 0x43 ∨ op = 0x60 ∨ op = 0x63 ∨ op = 0x74 ∨ op = 0x77
  then 2
  else 3

/-- Payload word `i` of a command, counted from 1 as the command tables count. -/
def Command.word (c : Command) (i : Nat) : Word := nth c.payload (i - 1)

/-- LENGTH is the command's (check 2 of R257). -/
def lengthOk (c : Command) : Bool :=
  let op := c.opcode
  let l := c.len
  if op = 0x00 then true
  else if op = 0x02 ∨ op = 0x03 ∨ op = 0x05 then l == 1
  else if op = 0x10 ∨ op = 0x51 ∨ op = 0x61 ∨ op = 0x65 ∨ op = 0x66 ∨ op = 0x77 ∨ op = 0x31 then l == 2
  else if op = 0x11 ∨ op = 0x12 then decide (2 ≤ l) && l == wbits (c.word 2) 5 0 + 2
  else if op = 0x15 then l == 1
  else if op = 0x20 then l == 3
  else if op = 0x23 then l == 5
  else if op = 0x24 then decide (1 ≤ l) && l == (c.word 1).toNat + 1
  else if op = 0x25 then l == 6
  else if op = 0x30 then l == 8
  else if op = 0x32 ∨ op = 0x34 then decide (2 ≤ l) && l == wbits (c.word 2) 5 0 + 2
  else if op = 0x33 then l == 33
  else if op = 0x35 ∨ op = 0x36 ∨ op = 0x3A then l == 1
  else if op = 0x37 then l == 5
  else if op = 0x38 then decide (2 ≤ l) && l == 2 * wbits (c.word 2) 4 0 + 2
  else if op = 0x39 then l == 16
  else if op = 0x40 then l == 6
  else if op = 0x42 then l == 5
  else if op = 0x44 ∨ op = 0x45 then l == 1
  else if op = 0x48 then l == 4
  else if op = 0x53 then l == 1
  else if op = 0x5C then l == 4
  else if op = 0x5D then l == 6
  else if op = 0x5E then l == 10
  else if op = 0x62 then l == 3
  else if op = 0x64 then l == 1
  else if op = 0x70 ∨ op = 0x72 ∨ op = 0x76 then l == 1
  else if op = 0x73 then l == 3
  else if op = 0xE0 ∨ op = 0xE1 then l == 1
  else if op = 0x3B ∨ op = 0x3C ∨ op = 0x3D then l == 2
  else if op = 0x3E then l == 3
  else if op = 0x3F then l == 5
  else l == 0

/-! ### Taking and completing commands -/

/-- Is the party that executes an opcode serving (R22, R34, R180, STATUS.READY; Table 13.15 for PROT_STOP during a Datum restart)? -/
def State.serves (s : State) (op : Nat) : Bool :=
  if datumOpcode op && !(op == 0x61 && s.prot.datumDown) then !s.prot.datumDown else s.getB Fd.MBX_CSTAT_READY

/-- The oldest accepted command of a mailbox that has not started (R255). -/
def State.oldest (s : State) (m : Nat) : Option Command := (s.mb m).queue.find? fun c => !c.started

/-- Apply a change to the first element that satisfies a test. -/
def changeFirst {α : Type} (p : α → Bool) (f : α → List α) : List α → List α
  | [] => []
  | x :: xs => if p x then f x ++ xs else x :: changeFirst p f xs

/-- Mark the oldest unstarted command as started. -/
def State.startOldest (s : State) (m : Nat) : State :=
  let b := s.mb m
  s.setMb m { b with queue := changeFirst (fun c => !c.started) (fun c => [{ c with started := true, startedAt := s.time.gt }]) b.queue }

/-- The started command of a mailbox with an opcode and tag. -/
def isStarted (op tag : Nat) (c : Command) : Bool := c.started && c.opcode == op && c.tag == tag

/-- Flags of a response (Table 13.5): FO, TRUNC, DATUM. -/
def responseFlags (c : Command) (datum : Bool) (payload : List Word) : Nat :=
  b2n c.fo + (if 63 < payload.length then 4 else 0) + (if datum then 8 else 0)

/-- The COMMAND record of a completed command with a role, where `yes`: 0 for one with FBREC, 4 for a clear (Table 16.3, R321). -/
def State.recordIf (s : State) (yes : Bool) (role m : Nat) (c : Command) (status : Nat) : State :=
  if yes then s.commandRecord m c.tag c.opcode status role 0 0 0 0 c.payload else s

/-- Complete a command with a status and payload (R255, R256, R258): one response, held for the Chart capture or, for the Datum
core, posted at once; or the EARLY_DONE notification where ACCEPTED was already answered. With FBREC, its COMMAND record. -/
def State.complete (s : State) (m : Nat) (c : Command) (status : Nat) (payload : List Word := []) : State :=
  let b := s.mb m
  let datum := datumOpcode c.opcode && !(c.opcode == 0x61 && s.prot.datumDown)
  let at_ := if datum then s.time.gt + 1 else s.chartPostTick
  let q := changeFirst (isStarted c.opcode c.tag) (fun _ => []) b.queue
  let s :=
    if c.early then
      (s.setMb m { b with queue := q }).notify 0xF0 ([wd m, wd c.tag, wd status] ++ payload) at_
    else
      s.setMb m { b with
        queue := q
        waiting := b.waiting ++ [⟨c, status, c.tag, responseFlags c datum payload, payload.take 63, s.time.gt, at_⟩] }
  (s.recordIf (bit c.flags 1) 0 m c status).recordIf (c.opcode == 0x5C || c.opcode == 0x5D) 4 m c status

/-- Answer ACCEPTED to a command with EARLY that passed its checks (R258); it stays started until its outcome. -/
def State.acceptEarly (s : State) (m : Nat) (c : Command) : State :=
  if bit c.flags 0 && honoursEarly c.opcode && !c.early then
    let b := s.mb m
    s.setMb m { b with
      queue := changeFirst (isStarted c.opcode c.tag) (fun c => [{ c with early := true }]) b.queue
      waiting := b.waiting ++ [⟨c, 0x01, c.tag, responseFlags c false [], [], s.time.gt, s.chartPostTick⟩] }
  else s

/-- The command as it stands in the queue after `acceptEarly`. -/
def Command.accepted (c : Command) : Command :=
  if bit c.flags 0 && honoursEarly c.opcode then { c with early := true, started := true } else { c with started := true }

/-- Another mailbox holds the maintenance lock (R266). -/
def State.lockedFor (s : State) (m : Nat) : Bool :=
  match s.fw.lockHolder with
  | some h => h != m
  | none => false

/-- Checks 1 to 4 of R257 in their order; the status of the first failure. `level` is the level the command needs, `permissive`
whether it is a permissive order. -/
def State.checkCommand (s : State) (m : Nat) (c : Command) (level : Nat) (permissive : Bool) : Option Nat :=
  if !opcodeDefined c.opcode then some 0x02
  else if !lengthOk c || decide (63 < c.len) then some 0x03
  else if c.flags / 4 ≠ 0 then some 0x04
  else if c.level < level then some 0x05
  else if permissive && s.lockedFor m then some 0x0B
  else none

/-- Answer BAD_OPCODE to a command at the head of the unstarted commands whose opcode is not defined (R253, R257). -/
def State.drainUndefined : Nat → State → Nat → State
  | 0, s, _ => s
  | k + 1, s, m =>
    match s.oldest m with
    | some c => if opcodeDefined c.opcode || !s.serves c.opcode then s
      else ((s.startOldest m).complete m c 0x02).drainUndefined k m
    | none => s

/-- The Datum ROM serves MB0 and MB16 only where no image passed (R347). -/
def State.romServes (s : State) (m : Nat) : Bool := !s.start.noImage || m == 0 || m == 16

/-- Run a command row: where the oldest unstarted command of the mailbox has the row's opcode and its executor serves, it starts,
`body` executes it, and undefined opcodes behind it are answered; otherwise nothing happens. -/
def State.runCommand (s : State) (m op : Nat) (body : State → Command → State) : State :=
  if s.serves op && s.romServes m then
    match s.oldest m with
    | some c =>
      if c.opcode = op then (body (s.startOldest m) { c with started := true, startedAt := s.time.gt }).drainUndefined 4 m else s
    | none => s
  else s

/-- Commands that COMPASS serves (R347). -/
def compassOpcode (op : Nat) : Bool :=
  [0x01, 0x04, 0x10, 0x15, 0x50, 0x51, 0x53, 0x63, 0x71, 0x72, 0x73, 0x74, 0x77].contains op

/-- A command of the windows, paths and lanes addresses one that the sketch configuration does not name (R341); PROT_STOP, which the
Datum core executes, is none of these. -/
def State.beyondSketch (s : State) (c : Command) : Bool :=
  let k := s.start.sketch
  let op := c.opcode
  let lanes := k.rx ||| k.tx
  if op = 0x30 ∨ (0x32 ≤ op ∧ op ≤ 0x34) ∨ op = 0x36 then !bit k.windows (wbits (c.word 1) 3 0)
  else if op = 0x31 ∨ op = 0x35 ∨ op = 0x44 then maskClear (wbits (c.word 1) 15 0) k.windows ≠ 0
  else if 0x37 ≤ op ∧ op ≤ 0x3A then true
  else if op = 0x3C then maskClear (wbits (c.word 1) 15 0) k.tx ≠ 0
  else if op = 0x3F ∨ op = 0x45 then !bit lanes (wbits (c.word 1) 3 0)
  else false

/-- The service state does not serve the command (R341, R347): COMPASS has its list, CAL only what sketch service has set up. -/
def State.unserved (s : State) (c : Command) : Bool :=
  (s.get Fd.PWR_SVC_STATE == 6 && !compassOpcode c.opcode) || (s.get Fd.PWR_SVC_STATE == 1 && s.beyondSketch c)

/-- The latest response of a mailbox refuses the payload of a command (check 5 of R257). -/
def State.payloadRefused (s : State) (m : Nat) (c : Command) : Bool :=
  match (s.mb m).waiting.getLast? with
  | some r => r.tag == c.tag && (r.status == 0x04 || r.status == 0x0D)
  | none => false

/-- A command whose checks 1 to 4 are followed by `body`, which makes the payload and state checks and executes it; a command that the
service state does not serve answers STATE once its payload has passed. -/
def State.checked (s : State) (m : Nat) (c : Command) (level : Nat) (permissive : Bool) (body : State → State) : State :=
  match s.checkCommand m c level permissive with
  | some st => s.complete m c st
  | none => if s.unserved c && !(body s).payloadRefused m c then s.complete m c 0x07 else body s

/-! ### Orders of two masters (R264, R265) -/

/-- Two target lists set a common target to different values. -/
def contradict (a b : List (Nat × Nat)) : Bool := a.any fun p => b.any fun q => p.1 == q.1 && p.2 != q.2

/-- The first contested target of two target lists. -/
def contested (a b : List (Nat × Nat)) : Nat :=
  match a.find? fun p => b.any fun q => p.1 == q.1 && p.2 != q.2 with
  | some p => p.1
  | none => 0

/-- Does the order of mailbox `m` win over one of mailbox `o`, both permissive (R265 item 3)? -/
def State.winsPermissive (s : State) (m o : Nat) : Bool :=
  match s.fw.lockHolder with
  | some h => if h = m then true else if h = o then false else decide (m < o)
  | none => decide (m < o)

/-- The held EARLY_DONE notification of a mailbox's command. -/
def State.heldDone (s : State) (m tag : Nat) (n : Notification) : Bool :=
  n.code == 0xF0 && n.content.take 2 == [wd m, wd tag] && decide (s.time.gt < n.postAt)

/-- Give a held response the status CONFLICT (R265), if it has not been posted; where ACCEPTED was answered, the outcome that the
held EARLY_DONE notification reports (DEDUCED, log entry 13). -/
def State.turnConflict (s : State) (m tag : Nat) : State :=
  let b := s.mb m
  if s.fw.notices.raised.any (s.heldDone m tag) then
    { s with fw := { s.fw with notices := { s.fw.notices with
        raised := changeFirst (s.heldDone m tag) (fun n => [{ n with content := [wd m, wd tag, 0x0C] }]) s.fw.notices.raised } } }
  else
    s.setMb m { b with
      waiting := changeFirst (fun r => r.tag == tag && decide (s.time.gt < r.postAt))
        (fun r => [{ r with status := 0x0C, payload := [] }]) b.waiting }

/-- The first contested ID and its index (R265): those of a Legend element; for the target of another command the spec names none. -/
def contestedWords (key : Nat) : Nat × Nat :=
  if key / 65536 < 0xF000 then (key / 65536, key % 65536) else ((Config.targetId key).toNat, (Config.targetIndex key).toNat)

/-- Record a contradiction: a COMMAND record of winner and loser, and the CONFLICT notification (R265 item 5). -/
def State.noteConflict (s : State) (wMb wTag wOp lMb lTag lOp key : Nat) : State :=
  let p := contestedWords key
  let s := s.commandRecord wMb wTag wOp 0x00 1 lMb lTag p.1 p.2 []
  let s := s.commandRecord lMb lTag lOp 0x0C 2 wMb wTag p.1 p.2 []
  s.notifyChart 0xF8 [wd wMb, wd wTag, wd lMb, wd lTag, wd p.1, wd p.2]

/-- Take a command out of every list of commands that wait on an event of the hardware. -/
def State.dropWaits (s : State) (m tag : Nat) : State :=
  let keep := fun (mb : Nat) (c : Command) => !(mb == m && c.tag == tag)
  { s with
    lane := { s.lane with
      waits := s.lane.waits.filter fun w => keep w.mb w.cmd
      tunes := s.lane.tunes.filter fun w => keep w.mb w.cmd
      configs := s.lane.configs.filter fun w => keep w.mb w.cmd }
    can := { s.can with waits := s.can.waits.filter fun w => keep w.mb w.cmd }
    win := { s.win with enables := s.win.enables.filter fun w => keep w.mb w.cmd }
    tdd := { s.tdd with beams := s.tdd.beams.filter fun w => keep w.mb w.cmd }
    con := { s.con with modes := s.con.modes.filter fun w => keep w.mb w.cmd } }

/-- Undo an order that took effect earlier in the sheet: the register bits it changed are written back, what it still waits for
is dropped, and it completes CONFLICT, or its held response becomes CONFLICT. -/
def State.undoOrder (s : State) (d : Done) : State :=
  let s := forEach d.undo s fun s p =>
    s.setReg p.1 (wd (maskClear (s.reg p.1).toNat p.2.1 + (p.2.2.toNat &&& p.2.1)))
  let s := { s with fw := { s.fw with dones := s.fw.dones.filter fun x => !(x.mb == d.mb && x.tag == d.tag) } }
  let s := s.dropWaits d.mb d.tag
  match (s.mb d.mb).queue.find? (isStarted d.opcode d.tag) with
  | some c => s.complete d.mb c 0x0C
  | none => s.turnConflict d.mb d.tag

/-- Resolve a new immediate order against the orders that took effect in this sheet. True where the new order loses. -/
def State.arbitrate (s : State) (m : Nat) (c : Command) (restrictive : Bool) (targets : List (Nat × Nat)) : State × Bool :=
  let rivals := s.fw.dones.filter fun d => d.mb != m && contradict d.targets targets
  match rivals.find? fun d => !restrictive && (d.restrictive || !s.winsPermissive m d.mb) with
  | some d => (s.noteConflict d.mb d.tag d.opcode m c.tag c.opcode (contested targets d.targets), true)
  | none =>
    (forEach (rivals.filter fun d => !d.restrictive) s fun s d =>
      (s.undoOrder d).noteConflict m c.tag c.opcode d.mb d.tag d.opcode (contested targets d.targets), false)

/-- Remember an immediate order of this sheet; `bits` names the register bits it changes, by offset and mask. -/
def State.remember (s : State) (m : Nat) (c : Command) (restrictive : Bool) (targets : List (Nat × Nat))
    (bits : List (Nat × Nat)) : State :=
  let d : Done := ⟨m, c.tag, c.opcode, restrictive, targets, bits.map fun o => (o.1, o.2, s.reg o.1), c.payload⟩
  { s with fw := { s.fw with dones := s.fw.dones ++ [d] } }

/-- Execute an immediate order: arbitrated against the sheet's earlier orders; a loser completes CONFLICT, a winner is remembered
with the register bits of its undoing, and runs. -/
def State.asOrder (s : State) (m : Nat) (c : Command) (restrictive : Bool) (targets : List (Nat × Nat))
    (bits : List (Nat × Nat)) (run : State → State) : State :=
  let (s, lost) := s.arbitrate m c restrictive targets
  if lost then s.complete m c 0x0C
  else run (s.remember m c restrictive targets bits)

/-- The key of a command target in R265: an ID above the Legend's, from the opcode, and the target's index. -/
def targetKey (op idx : Nat) : Nat := (0xF000 + op) * 65536 + idx

end Sys2Proof.Machine
end

