-- ==== Sys2Proof/Machine/Book.lean ====
section
/-!
DEFINITION. The Field Book (16_field_book.md): the writer and its regions, degradation, the aperture, and the Field Book
commands with their authorisation.
-/

namespace Sys2Proof.Machine

/-! ### Records as words (Table 16.1) -/

/-- SEQ of a retained record. -/
def Kept.seq (k : Kept) : Nat := (nth k.words 0).toNat

/-- Severity of a retained record. -/
def Kept.sev (k : Kept) : Nat := wbits (nth k.words 1) 11 10

/-- TYPE of a retained record. -/
def Kept.typ (k : Kept) : Nat := wbits (nth k.words 1) 23 16

/-- The CRC of a record's words: bytes 0-19 and 24-63. -/
def recordCrc (ws : List Word) : Word := crcWords (ws.take 5 ++ ws.drop 6)

/-- The 16 words of a record written with a SEQ; `spare` and `lrr` mark the region. -/
def recordWords (r : Record) (seq : Nat) (spare lrr : Bool) : List Word :=
  let w1 := r.source % 1024 + r.sev * 2 ^ 10 + r.order * 2 ^ 12 + b2n r.path * 2 ^ 14 + b2n r.inj * 2 ^ 15 + r.typ * 2 ^ 16 +
    b2n spare * 2 ^ 24 + b2n lrr * 2 ^ 25
  let head := [wd seq, wd w1, wd r.stamp.opSec, wd r.stamp.pwrCyc, wd r.stamp.gt]
  let pay := (r.payload ++ List.replicate 10 0).take 10
  head ++ [crcWords (head ++ pay)] ++ pay

/-- The record that a waiting entry is written as: REPEAT takes its counts and last stamp (Table 16.3). -/
def Staged.final (e : Staged) : Record :=
  if e.record.typ = 3 then
    { e.record with payload := [wd e.count, wd e.last.opSec, wd e.last.gt, wd e.folded, wd e.lastSev] }
  else e.record

/-! ### Regions and counts -/

/-- Slots of a region: main, spare, last-resort ring. -/
def regionSlots (level : Nat) : Nat := if level = 0 then 98304 else if level = 1 then 1024 else 16

/-- The records of a region. -/
def Book.region (b : Book) (level : Nat) : List Kept := if level = 0 then b.main else if level = 1 then b.spare else b.ring

/-- The book with a region's records replaced. -/
def Book.setRegion (b : Book) (level : Nat) (l : List Kept) : Book :=
  if level = 0 then { b with main := l } else if level = 1 then { b with spare := l } else { b with ring := l }

/-- Every retained record, main first. -/
def Book.all (b : Book) : List Kept := b.main ++ b.spare ++ b.ring

/-- The region in use is full (R311). -/
def Book.full (b : Book) : Bool := decide (regionSlots b.level ≤ (b.region b.level).length)

/-- `a` is at or before `b` in SEQ order, modulo 2^32 over a span of 2^31 (R306). -/
def seqLe (a b : Nat) : Bool := decide ((b + 2 ^ 32 - a) % 2 ^ 32 < 2 ^ 31)

/-- The lowest slot below `n` that no record of a list holds. -/
def freeSlot (l : List Kept) (n : Nat) : Nat :=
  match (List.range n).find? fun i => !(l.any fun k => k.slot == i) with
  | some i => i
  | none => 0

/-- May a record be taken as a victim (R311)? -/
def State.mayReplace (s : State) (k : Kept) : Bool :=
  k.typ != 8 && k.typ != 9 && decide (k.sev < s.legN 0x9001)

/-- The victim of R311: the oldest of the lowest severity among those that may be replaced; the ring replaces its oldest (R314). -/
def State.victim (s : State) : Option Kept :=
  let l := s.book.region s.book.level
  if s.book.level = 2 then l.head?
  else
    let c := l.filter fun k => s.mayReplace k
    let m := c.foldl (fun a k => min a k.sev) 3
    c.find? fun k => k.sev == m

/-- FIELD_BOOK notification (Table 16.8). -/
def State.bookNotice (s : State) (event seq : Nat) : State :=
  s.notifyChart 0xF9 [wd event, wd seq, wd s.book.all.length]

/-- Count a victim: OVW of its severity, and FBK_OVW at most once per sheet (R311, Table 16.9). -/
def State.countVictim (s : State) (sev : Nat) : State :=
  let raised := s.book.ovwRaised
  let s := { s with book := { s.book with ovw := mapSet 0 s.book.ovw sev (mapGet 0 s.book.ovw sev + 1), ovwRaised := true } }
  if raised then s else s.pulseNoRecord 297

/-- FBK_FILL when the main region stands above fbk.fill_warn (Tables 16.7 and 16.9). -/
def State.checkFill (s : State) : State :=
  let above := decide (s.legN 0x9003 * 98304 < 100 * s.book.main.length)
  if above && !s.book.fillRaised then
    let s := { s with book := { s.book with fillRaised := true } }
    (s.raiseNoRecord 303).bookNotice 3 s.book.nextSeq
  else if !above && s.book.fillRaised then { s with book := { s.book with fillRaised := false } }.clearSource 303
  else s

/-- Put a record into the region in use under the next SEQ (R310, R311): the state and the SEQ, or none where no record qualifies
as a victim. -/
def State.place (s : State) (r : Record) : Option (State × Nat × Nat) :=
  let b := s.book
  let lv := b.level
  let put := fun (s : State) (slot : Nat) (l shadow : List Kept) =>
    let seq := s.book.nextSeq
    let k : Kept := ⟨slot, recordWords r seq (lv == 1) (lv == 2), false⟩
    let bk := (s.book.setRegion lv (l ++ [k]))
    let lost := s.getB Fd.DRC_CSTAT_LOST Config.heapChannel
    ({ s with book := { bk with nextSeq := (seq + 1) % 2 ^ 32, shadow := if lost then [] else shadow ++ [k] } }, seq, slot)
  if b.full then
    match s.victim with
    | some v =>
      let s := s.countVictim v.sev
      let out := fun (l : List Kept) => l.filter fun k => k.seq != v.seq
      some (put s v.slot (out (s.book.region lv)) (out s.book.shadow))
    | none => none
  else some (put s (freeSlot (b.region lv) (regionSlots lv)) (b.region lv) b.shadow)

/-- A BOOK_DEGRADED record (Tables 16.2 and 16.3). -/
def degradedRecord (st : Stamp) (level cause slot last : Nat) : Record :=
  ⟨9, if level = 1 then 299 else 300, 3, 0, false, false, st, [wd (level + cause * 2 ^ 8), wd slot, wd last] ++ List.replicate 7 0⟩

/-- Writing moved to the spare region, FBK_SPARE, or to the ring, FBK_LRR with ALERT_N (R313, R314, Table 16.9). -/
def State.levelEvent (s : State) (level : Nat) : State :=
  if level = 1 then s.pulseNoRecord 299 else (s.pulseNoRecord 300).alertPulse

/-- Place a record, or count it dropped where no record qualifies as a victim (R311); its SEQ. -/
def State.placeOrDrop (s : State) (r : Record) : State × Option Nat :=
  match s.place r with
  | some (s, seq, _) => (s, some seq)
  | none => (s.dropOffer r.sev r.stamp, none)

/-- Move writing to the next level (R313, R314): the failing record, if any, keeps its SEQ there, and a BOOK_DEGRADED record
follows. Cause 1 write-verify, 2 uncorrectable ECC, 3 start test. The SEQ of the failing record, where it is written. -/
def State.degrade (s : State) (cause slot : Nat) (failing : Option Record) : State × Option Nat :=
  let lv := s.book.level + 1
  let last := (s.book.nextSeq + 2 ^ 32 - 1) % 2 ^ 32
  let s := { s with book := { s.book with level := lv, cause := lv * 2 ^ 30 + cause * 2 ^ 28 + slot } }
  let (s, seq) := match failing with
    | some r => s.placeOrDrop r
    | none => (s, none)
  let s := (s.placeOrDrop (degradedRecord s.stamp lv cause slot last)).1.levelEvent lv
  (s.bookNotice 0 ((s.book.nextSeq + 2 ^ 32 - 1) % 2 ^ 32), seq)

/-- The slot the next record is written to: the victim's in a full region, else the lowest free one. -/
def State.nextSlot (s : State) : Nat :=
  match if s.book.full then s.victim else none with
  | some v => v.slot
  | none => freeSlot (s.book.region s.book.level) (regionSlots s.book.level)

/-- Write a record with `failures` failed verifications (R310, R313): each retry raises FBK_RETRY; a write that fails all its
retries degrades the region. Its SEQ where the record was written. -/
def State.writeRecord (s : State) (r : Record) (failures : Nat) : State × Option Nat :=
  let tries := s.legN 0x9000
  let retries := min failures tries
  let s := { s with book := { s.book with retries := (s.book.retries + retries) % 2 ^ 32 } }
  let s : State := forEach (List.range retries) s fun s _ => s.pulseNoRecord 298
  if decide (tries < failures) && decide (s.book.level < 2) && (s.victim.isSome || !s.book.full) then
    s.degrade 1 s.nextSlot (some r)
  else
    let (s, seq) := s.placeOrDrop r
    (if seq.isSome then s.checkFill else s, seq)

/-! ### Aperture -/

/-- The retained record with the lowest SEQ at or after a cursor (R317). -/
def Book.findFrom (b : Book) (cur : Nat) : Option Kept :=
  let ahead := b.all.filter fun k => seqLe cur k.seq
  ahead.foldl (fun a k => match a with
    | none => some k
    | some x => if (k.seq + 2 ^ 32 - cur) % 2 ^ 32 < (x.seq + 2 ^ 32 - cur) % 2 ^ 32 then some k else some x) none

/-- The region that holds a record, 0 main, 1 spare, 2 ring. -/
def Book.levelOf (b : Book) (k : Kept) : Nat :=
  if b.main.any fun x => x.seq == k.seq then 0 else if b.spare.any fun x => x.seq == k.seq then 1 else 2

/-- A record's stored CRC does not hold. -/
def Kept.crcBad (k : Kept) : Bool := k.bad || recordCrc k.words != nth k.words 5

/-- Count a bad read and raise FBK_CRC (R317); an uncorrectable error in a read of the main or spare region degrades it (R313,
R314). -/
def State.badRead (s : State) (k : Kept) (ue : Bool) : State :=
  let s := { s with book := { s.book with crcCnt := (s.book.crcCnt + 1) % 2 ^ 32 } }
  let s := s.pulseNoRecord 301
  let lv := s.book.levelOf k
  if ue && lv == s.book.level && decide (lv < 2) then (s.degrade 2 k.slot none).1 else s

/-- An MRAM read meets an uncorrectable error: from the environment or from an armed injection of code 0x03 with two bits. -/
def State.mramRead (s : State) (ue : Bool) : State × Bool :=
  match s.flt.armed.find? fun a => a.code == 3 with
  | some a => ({ s with flt := { s.flt with armed := s.flt.armed.erase a } }.pulse 289, ue || a.bits == 2)
  | none => (s, ue)

/-- The bank of a master (R316). -/
def bankOf : Master → Nat
  | .datum | .chart => 0
  | .pciePriv | .pcieAlias => 1
  | .pcieUser => 2
  | .spi => 3

/-- A bank of the aperture. -/
def State.aperture (s : State) (b : Nat) : Aperture := mapGet Aperture.reset s.book.apertures b

/-- The state with a bank replaced. -/
def State.setAperture (s : State) (b : Nat) (a : Aperture) : State :=
  { s with book := { s.book with apertures := mapSet Aperture.reset s.book.apertures b a } }

/-- A read of AP[0] in a bank (R317). -/
def State.readAp0 (s : State) (bank : Nat) (ue : Bool) : State :=
  let a := s.aperture bank
  match s.book.findFrom a.cursor with
  | some k =>
    let (s, ue) := s.mramRead ue
    let bad := ue || k.crcBad
    let s := if bad then s.badRead k ue else s
    let st := 1 + (if k.seq = a.cursor then 0 else 4) + (if bad then 8 else 0)
    let s := s.setAperture bank { a with stat := st, words := k.words }
    { s with out := { s.out with readData := nth k.words 0 } }
  | none =>
    let s := s.setAperture bank { a with stat := 2, words := List.replicate 16 0 }
    { s with out := { s.out with readData := wd s.book.nextSeq } }

/-- A read of AP[15] in a bank: with AUTO = 1 and a latched record, CURSOR passes it (R317). -/
def State.readAp15 (s : State) (bank : Nat) : State :=
  let a := s.aperture bank
  let s := if a.auto && a.stat % 2 == 1 then
      s.setAperture bank { a with cursor := ((nth a.words 0).toNat + 1) % 2 ^ 32 } else s
  { s with out := { s.out with readData := nth a.words 15 } }

/-! ### The writer's and the FIFO's steps -/

/-- RECORD_OFFER, R306 to R308. -/
def execRecordOffer (r : Record) (s : State) : Out := s.whenLive <| .next (s.offer r)

/-- RECORD_WRITE, R310: the oldest waiting record is written; `failures` verifications fail. -/
def execRecordWrite (failures : Nat) (s : State) : Out := s.whenLive <|
  match s.book.fifo with
  | [] => .next s
  | e :: rest =>
    let s := { s with book := { s.book with fifo := rest } }
    match s.writeRecord e.final failures with
    | (s, some seq) => if e.drops then .next (s.bookNotice 1 seq) else .next s
    | (s, none) => .next s

/-- DROPS_OFFER, R308: with 128 records or fewer waiting and drops since the last DROPS record, one is entered. -/
def execDropsOffer (s : State) : Out := s.whenLive <|
  let b := s.book
  match b.firstDrop, b.lastDrop with
  | some f, some l =>
    if fifoDepth b.fifo ≤ 128 then
      let n := fun k => mapGet 0 b.dropped k
      let sev := if n 3 ≠ 0 then 3 else if n 2 ≠ 0 then 2 else if n 1 ≠ 0 then 1 else 0
      let r : Record := ⟨0x0A, 296, sev, 0, false, false, f,
        [wd (n 0), wd (n 1), wd (n 2), wd (n 3), wd f.opSec, wd f.gt, wd l.opSec, wd l.gt, 0, 0]⟩
      .next { s with book := { b with
        fifo := b.fifo ++ [⟨r, 1, f, sev, 0x0A, true⟩], dropped := [], firstDrop := none, lastDrop := none } }
    else .next s
  | _, _ => .next s

/-- NONCE_LAPSE, R318. -/
def execNonceLapse (s : State) : Out := s.whenLive <|
  match s.book.nonce with
  | some n => if n.lapseAt ≤ s.time.opSec then .next { s with book := { s.book with nonce := none } } else .next s
  | none => .next s

/-- AUTH_BUSY_END, R319. -/
def execAuthBusyEnd (s : State) : Out := s.whenLive <|
  match s.book.authBusyUntil with
  | some t => if t ≤ s.time.opSec then .next { s with book := { s.book with authBusyUntil := none } } else .next s
  | none => .next s

/-! ### Commands -/

/-- FBK.STAT (Table 16.11). -/
def Book.statWord (b : Book) : Word :=
  wd (b.level * 2 ^ 30 + b2n (b.level == 2) * 2 ^ 29 + b2n b.full * 2 ^ 28 + b2n b.firstDrop.isSome * 2 ^ 27 + b.fifo.length)

/-- FBK.OLDEST_SEQ. -/
def Book.oldest (b : Book) : Nat :=
  match b.all with
  | [] => b.nextSeq
  | k :: ks => ks.foldl (fun a x => if seqLe x.seq a then x.seq else a) k.seq

/-- FB_STATUS, 0x50. -/
def execFbStatus (mb : Fin 20) (s : State) : Out := s.whenLive <|
  .next (s.runCommand mb 0x50 fun s c => s.checked mb c 1 false fun s =>
    let b := s.book
    s.complete mb c 0x00 ([b.statWord, wd b.nextSeq, wd b.oldest, wd b.all.length] ++
      ((List.range 4).map fun i => wd (mapGet 0 b.ovw i)) ++ ((List.range 4).map fun i => wd (mapGet 0 b.drop i)) ++
      [wd b.coal, wd b.clrTotal]))

/-- The records found from a SEQ, at most `n` (R317), with the reads' side effects, and the SEQ after the last. -/
def State.readFrom (s : State) (cur : Nat) (ue : Bool) : Nat → State × List Word × Nat
  | 0 => (s, [], cur)
  | n + 1 =>
    match s.book.findFrom cur with
    | none => (s, [], cur)
    | some k =>
      let (s, ue') := s.mramRead ue
      let s := if ue' || k.crcBad then s.badRead k ue' else s
      let (s, ws, nx) := s.readFrom ((k.seq + 1) % 2 ^ 32) false n
      (s, k.words ++ ws, nx)

/-- FB_READ, 0x51. -/
def execFbRead (mb : Fin 20) (ue : Bool) (s : State) : Out := s.whenLive <|
  .next (s.runCommand mb 0x51 fun s c => s.checked mb c 1 false fun s =>
    let n := wbits (c.word 2) 1 0
    if n = 0 then s.complete mb c 0x04
    else
      let (s, ws, nx) := s.readFrom (c.word 1).toNat ue n
      s.complete mb c 0x00 (wd nx :: ws))

/-- FB_NONCE, 0x52 (R318): two words of the Datum core's random source. -/
def execFbNonce (mb : Fin 20) (s : State) : Out := s.whenLive <|
  .next (s.runCommand mb 0x52 fun s c => s.checked mb c 3 false fun s =>
    if s.book.authBusyUntil.isSome then s.complete mb c 0x06
    else
      let lo := Config.random s.draws
      let hi := Config.random (s.draws + 1)
      let s := { s with
        draws := s.draws + 2
        book := { s.book with nonce := some ⟨lo, hi, s.time.opSec + s.legN 0x9002⟩ } }
      s.complete mb c 0x00 [lo, hi])

/-- FB_SEEK, 0x53. -/
def execFbSeek (mb : Fin 20) (s : State) : Out := s.whenLive <|
  .next (s.runCommand mb 0x53 fun s c => s.checked mb c 1 false fun s =>
    (s.setAperture 3 { s.aperture 3 with cursor := (c.word 1).toNat }).complete mb c 0x00)

/-- The two code words of R319 over a range and a nonce under the book key. -/
def State.bookCode (s : State) (first last lo hi : Word) : Word × Word :=
  let msg := [s.reg (Reg.SYS_SERIAL_LO.off 0 0), s.reg (Reg.SYS_SERIAL_HI.off 0 0), first, last, lo, hi].flatMap wordBytes
  let h := hmac256 (s.book.key.map fun b => b.toNat) msg
  let le := fun (l : List Nat) => wd (l.getD 0 0 + l.getD 1 0 * 256 + l.getD 2 0 * 65536 + l.getD 3 0 * 16777216)
  (le h, le (h.drop 4))

/-- The key area is blank. -/
def State.keyBlank (s : State) : Bool := s.book.key.all fun b => b == 0xFF

/-- A failed code (R319): FBK_AUTH, FB_NONCE answers BUSY for 60 s. -/
def State.authFail (s : State) : State :=
  { s with book := { s.book with authBusyUntil := some (s.time.opSec + 60) } }.pulseNoRecord 302

/-- The CLEARED record (Tables 16.2, 16.3). -/
def clearedRecord (st : Stamp) (first last : Word) (n mb op : Nat) : Record :=
  ⟨8, 0x3FF, 3, 0, false, false, st, [first, last, wd n, wd (mb + op * 2 ^ 8)] ++ List.replicate 6 0⟩

/-- A SEQ lies in a range (R306). -/
def seqIn (first last : Word) (q : Nat) : Bool := seqLe first.toNat q && seqLe q last.toNat

/-- Records a clear of the range removes: not CLEARED, not BOOK_DEGRADED (R321). -/
def removable (first last : Word) (k : Kept) : Bool := seqIn first last k.seq && k.typ != 8 && k.typ != 9

/-- Records a clear of the range removes once its CLEARED record stands: those there now, less the victim that record replaces
(DEDUCED, log entry 130). -/
def State.clearCount (s : State) (first last : Word) : Nat :=
  let l := s.book.all.filter (removable first last)
  match if s.book.full then s.victim else none with
  | some v => (l.filter fun k => k.seq != v.seq).length
  | none => l.length

/-- A clear of a range with the nonce it takes and the code it gives (R320, R321); its COMMAND record of role 4 is written as it
completes. A CLEARED record that only the last-resort ring takes, or none, leaves every record where it is (Table 16.6). -/
def State.clearBook (s : State) (run : BookRun) (c : Command) (first last : Word) (nonce : Option Nonce) (code : Word × Word) :
    State :=
  let mb : Nat := run.mb
  if run.restart then s.complete mb c 0x0A
  else if !seqLe first.toNat last.toNat || !(seqLe last.toNat c.bookSeq && last.toNat != c.bookSeq) then s.complete mb c 0x04
  else if s.book.level = 2 then s.complete mb c 0x07
  else
    let good := match nonce with
      | some n => s.bookCode first last n.lo n.hi == code
      | none => false
    if !good then s.authFail.complete mb c 0x0E
    else
      match s.writeRecord (clearedRecord s.stamp first last (s.clearCount first last) mb c.opcode) run.failures with
      | (s, none) => s.complete mb c 0x07
      | (s, some seq) =>
        if s.book.level = 2 then s.complete mb c 0x07
        else
          let keep := fun (l : List Kept) => l.filter fun k => !removable first last k
          let removed := (s.book.all.filter (removable first last)).length
          let s := { s with book := { s.book with
            main := keep s.book.main, spare := keep s.book.spare, ring := keep s.book.ring, shadow := keep s.book.shadow
            clrTotal := (s.book.clrTotal + removed) % 2 ^ 32 } }
          (s.bookNotice 2 seq).complete mb c 0x00 [wd removed, wd seq]

/-- FB_CLEAR_COMPAT, 0x5C: takes the nonce last issued (R320). -/
def execFbClearCompat (run : BookRun) (s : State) : Out := s.whenLive <|
  .next (s.runCommand run.mb 0x5C fun s c => s.checked run.mb c 3 true fun s =>
    let n := s.book.nonce
    let s := { s with book := { s.book with nonce := none } }
    s.clearBook run c (c.word 1) (c.word 2) n (c.word 3, c.word 4))

/-- FB_CLEAR, 0x5D: names its nonce; naming the live one consumes it (R318, R320). -/
def execFbClear (run : BookRun) (s : State) : Out := s.whenLive <|
  .next (s.runCommand run.mb 0x5D fun s c => s.checked run.mb c 3 true fun s =>
    let named := match s.book.nonce with
      | some n => n.lo == c.word 3 && n.hi == c.word 4
      | none => false
    let n := if named then s.book.nonce else none
    let s := if named then { s with book := { s.book with nonce := none } } else s
    s.clearBook run c (c.word 1) (c.word 2) n (c.word 5, c.word 6))

/-- FB_KEY, 0x5E (R322). -/
def execFbKey (run : BookRun) (s : State) : Out := s.whenLive <|
  .next (s.runCommand run.mb 0x5E fun s c => s.checked run.mb c 3 true fun s =>
    let key : List Byte := ((c.payload.take 8).flatMap wordBytes).map fun n => BitVec.ofNat 8 n
    let n := s.book.nonce
    let s := { s with book := { s.book with nonce := none } }
    if run.restart then s.complete run.mb c 0x0A
    else if key.all fun b => b == 0xFF then s.complete run.mb c 0x04
    else
      let good := s.keyBlank || match n with
        | some n => s.bookCode 0xFFFFFFFF 0xFFFFFFFF n.lo n.hi == (c.word 9, c.word 10)
        | none => false
      if good then ({ s with book := { s.book with key := key } }).complete run.mb c 0x00
      else s.authFail.complete run.mb c 0x0E)

/-- A record indexed as bad where its CRC fails (R315). -/
def Kept.recheck (k : Kept) : Kept := { k with bad := k.crcBad }

/-- The index rebuilt at a start (R315): writing resumes in the first region whose test word verifies; a region other than the
main one gives a BOOK_DEGRADED record with cause 3. -/
def State.bookRebuild (s : State) (mainOk spareOk : Bool) : State :=
  let b := s.book
  let next := b.all.foldl (fun a k => if seqLe a k.seq then (k.seq + 1) % 2 ^ 32 else a) b.nextSeq
  let b := { b with
    main := b.main.map Kept.recheck
    spare := b.spare.map Kept.recheck
    nextSeq := next }
  let lv := if mainOk then 0 else if spareOk then 1 else 2
  let s := { s with book := { b with level := lv } }
  if lv = 0 then s
  else
    let s := { s with book := { s.book with cause := lv * 2 ^ 30 + 3 * 2 ^ 28 } }
    (s.placeOrDrop (degradedRecord s.stamp lv 3 0 ((s.book.nextSeq + 2 ^ 32 - 1) % 2 ^ 32))).1.levelEvent lv

end Sys2Proof.Machine
end

