-- ==== Sys2Proof/Machine/Mailbox.lean ====
section
/-!
DEFINITION. The mailbox pages (13_chart_mailbox_protocol.md): rings and acknowledgements, the copy of CMD, the posting of
responses and notifications (R252 to R256, R260, R261).
-/

namespace Sys2Proof.Machine

/-- A mailbox still owes the RST answers of a reset (R260). -/
def Mailbox.owesReset (b : Mailbox) : Bool := b.waiting.any fun r => bit r.flags 1

/-- A ring on mailbox `m` is accepted (R253): a free token, CMD not being copied, EN = 1, not MB15, no RST answer owed. -/
def State.ringAccepted (s : State) (m : Nat) : Bool :=
  let b := s.mb m
  decide (1 ≤ b.tokens) && !b.cmdBusy && s.getB Fd.MBX_MBCFG_EN m && m != 15 && !b.owesReset

/-- A write of DOORBELL.RING (R253). -/
def State.ring (s : State) (m : Nat) : State :=
  let b := s.mb m
  if s.ringAccepted m then
    (s.count 2 0 0x10 1).setMb m { b with
      tokens := b.tokens - 1
      queued := b.queued + 1
      acceptCnt := b.acceptCnt + 1
      cmdBusy := true
      copyLevel := s.get Fd.MBX_MBCFG_LEVEL m
      copyAt := s.time.gt
      copyBook := s.book.nextSeq }
  else (s.count 2 0 0x12 1).setMb m { b with dbOvf := true }

/-- A write of DOORBELL.ACK (R254): the response in RSP is released and its token returns; on MB15 there is no token. -/
def State.ack (s : State) (m : Nat) : State :=
  let b := s.mb m
  if b.rspValid then
    if m = 15 then s.setMb m { b with rspValid := false }
    else s.setMb m { b with rspValid := false, queued := b.queued - 1, tokens := b.tokens + 1 }
  else s.setMb m { b with dbOvf := true }

/-- The command that CMD spells (Table 13.5): at most 63 payload words are copied. -/
def Mailbox.copied (b : Mailbox) : Command :=
  let h := mapGet 0 b.cmd 0
  let len := wbits h 15 8
  ⟨wbits h 31 24, wbits h 23 16, len, wbits h 7 0, (List.range (min len 63)).map fun i => mapGet 0 b.cmd (i + 1), b.copyLevel,
    b.copyAt, b.copyBook, false, 0, false, false⟩

/-- DOORBELL_RING, R253. -/
def execDoorbellRing (mb : Fin 20) (s : State) : Out := s.whenLive <| .next (s.ring mb)

/-- DOORBELL_ACK, R254. -/
def execDoorbellAck (mb : Fin 20) (s : State) : Out := s.whenLive <| .next (s.ack mb)

/-- CMD_COPY_DONE, R253: the header and payload enter the queue and CMD_BUSY clears; an undefined opcode at the head of the
unstarted commands is answered (R257). -/
def execCmdCopyDone (mb : Fin 20) (s : State) : Out := s.whenLive <|
  let b := s.mb mb
  if b.cmdBusy then
    .next ((s.setMb mb { b with cmdBusy := false, queue := b.queue ++ [b.copied] }).drainUndefined 4 mb)
  else .next s

/-- Count an MSI-X message of a vector. -/
def State.msix (s : State) (v : Nat) : State :=
  { s with out := { s.out with msix := mapSet 0 s.out.msix v (mapGet 0 s.out.msix v + 1) } }

/-- The interrupt of Table 13.1 for a posted response: MSI-X vector m for the PCIe mailboxes; SSPI_IRQ_N follows RSP_VALID. -/
def State.rspInterrupt (s : State) (m : Nat) : State :=
  if s.getB Fd.MBX_MBCFG_IRQ_EN m && decide (m < 16) then s.msix m else s

/-- The response header of Table 13.5. -/
def Response.header (r : Response) : Word :=
  wd (r.status * 2 ^ 24 + r.tag * 2 ^ 16 + r.payload.length * 2 ^ 8 + r.flags)

/-- Take the first element that satisfies a test out of a list. -/
def takeFirst {α : Type} (p : α → Bool) : List α → Option (α × List α)
  | [] => none
  | x :: xs => if p x then some (x, xs) else match takeFirst p xs with
    | some (y, ys) => some (y, x :: ys)
    | none => none

/-- The level of an MB_LEVEL comes into force once its response is posted (Table 13.8). -/
def State.levelOnPost (s : State) (m tag : Nat) : State :=
  match takeFirst (fun p : Nat × Nat × Nat => p.1 == tag) (s.mb m).levelPending with
  | some (p, rest) => (s.setMb m { s.mb m with levelPending := rest }).set Fd.MBX_MBCFG_LEVEL p.2.2 p.2.1
  | none => s

/-- Copy the first response at its posting time into an empty RSP (R254). -/
def State.postResponse (s : State) (m : Nat) : State :=
  let b := s.mb m
  if b.rspValid then s
  else match takeFirst (fun r => decide (r.postAt ≤ s.time.gt)) b.waiting with
    | none => s
    | some (r, rest) =>
      let s := s.setMb m { b with
        rsp := r.header :: r.payload
        rspValid := true
        rspCnt := b.rspCnt + 1
        waiting := rest }
      let s := s.count 2 0 0x11 1
      let s := if r.status = 0x0A then s.addSat Fd.MBX_CSTAT_ABORTED 1 else s
      (s.levelOnPost m r.tag).rspInterrupt m

/-- The words of a notification as RSP carries them (R261). -/
def Notification.words (n : Notification) (lost : Bool) : List Word :=
  [wd (n.code * 2 ^ 24 + n.seq % 256 * 2 ^ 16 + (3 + n.content.length) * 2 ^ 8 + b2n lost), wd n.seq, wd n.stamp.opSec,
    wd n.stamp.gt] ++ n.content

/-- Copy the oldest queued notification into an empty RSP of MB15 (R254, R261). -/
def State.postNotice (s : State) : State :=
  let b := s.mb 15
  if b.rspValid then s
  else match s.fw.notices.queue with
    | [] => s
    | n :: rest =>
      let s := s.setMb 15 { b with rsp := n.words s.fw.notices.lost, rspValid := true, rspCnt := b.rspCnt + 1 }
      let s := ({ s with fw := { s.fw with notices := { s.fw.notices with queue := rest, lost := false } } }).count 2 0 0x11 1
      s.rspInterrupt 15

/-- RESPONSE_POST, R254. -/
def execResponsePost (mb : Fin 20) (s : State) : Out := s.whenLive <|
  if mb = 15 then .next s.postNotice else .next (s.postResponse mb)

/-- The first raised notification at its posting time enters the MB15 queue of 64; with the queue full it is dropped and counted,
and the next one posted carries LOST (R261). -/
def State.enqueueNotice (s : State) : State :=
  match takeFirst (fun n => decide (n.postAt ≤ s.time.gt)) s.fw.notices.raised with
  | none => s
  | some (n, rest) =>
    if s.fw.notices.queue.length < 64 then
      { s with fw := { s.fw with notices := { s.fw.notices with raised := rest, queue := s.fw.notices.queue ++ [n] } } }
    else
      let s := { s with fw := { s.fw with notices := { s.fw.notices with raised := rest, lost := true } } }
      s.addSat Fd.MBX_NQ_LOST 1

/-- Every notification at its posting time enters the queue, and RSP of MB15 is filled. -/
def State.postDue (s : State) : State := (forEach s.fw.notices.raised s fun s _ => s.enqueueNotice).postNotice

/-- NOTIFICATION_POST, R261. -/
def execNotificationPost (s : State) : Out := s.whenLive <| .next s.enqueueNotice

end Sys2Proof.Machine
end

