-- ==== Sys2Proof/Machine/Numeric.lean ====
section
/-!
DEFINITION. Exact real-valued functions of the formulas, narrowed as the formulas say: powers of ten, decibels, cosine and sine.
Each result is the rounding of the exact real value; it is found by integer comparisons, or by a fixed-point series with 120
fraction bits.
-/

namespace Sys2Proof.Machine

/-- The greatest `y` in [lo, hi] with `p y`, where `p lo` holds and `p` falls once: by halving, at most `fuel` times. -/
def searchMax (p : Nat → Bool) : Nat → Nat → Nat → Nat
  | 0, lo, _ => lo
  | k + 1, lo, hi =>
    if hi ≤ lo then lo
    else
      let mid := (lo + hi + 1) / 2
      if p mid then searchMax p k mid hi else searchMax p k lo (mid - 1)

/-- `rnd(scale × 10^(num ÷ den))`, at most `top`. -/
def pow10Round (scale : Nat) (num : Int) (den top : Nat) : Nat :=
  let lhs := fun y : Nat => (2 * y - 1) ^ den * 10 ^ (-num).toNat
  let rhs := (2 * scale) ^ den * 10 ^ num.toNat
  searchMax (fun y => y = 0 || decide (lhs y ≤ rhs)) (Nat.log2 (top + 1) + 2) 0 top

/-- `rnd(k × log10(a ÷ b))` for positive a and b with a ≥ b. -/
def logUp (k a b : Nat) : Nat :=
  let top := k * (Nat.log2 (a / b + 1) + 1)
  searchMax (fun n => n = 0 || decide (10 ^ (2 * n - 1) * b ^ (2 * k) ≤ a ^ (2 * k))) (Nat.log2 (top + 1) + 2) 0 top

/-- `rnd(k × log10(a ÷ b))` for positive a and b, ties away from zero. -/
def logRound (k a b : Nat) : Int := if b ≤ a then (logUp k a b : Int) else -(logUp k b a : Int)

/-- A power ratio in 1/256 dB; a power of zero reads −32,768 (R143). -/
def db256 (a b : Nat) : Int := if a = 0 ∨ b = 0 then -32768 else sat (logRound 2560 a b) 16

/-- π × 2^120. -/
def piFixed : Nat := 4175892906503776358826876457663557747

/-- Cosine and sine of an angle in [0, π/4] by their series; angle and results with 120 fraction bits. -/
def cosSeries (x2 : Nat) : Nat → Nat → Int → Int → Int
  | 0, _, _, acc => acc
  | f + 1, k, t, acc =>
    let t' := -(t * (x2 : Int) / 2 ^ 120) / ((k * (k + 1) : Nat) : Int)
    cosSeries x2 f (k + 2) t' (acc + t')

def cosSmall (x : Nat) : Int := cosSeries (x * x / 2 ^ 120) 22 1 (2 ^ 120) (2 ^ 120)

def sinSmall (x : Nat) : Int := cosSeries (x * x / 2 ^ 120) 22 2 (x : Int) (x : Int)

/-- cos(2π p ÷ 65,536) with 120 fraction bits, for p in 0 … 65,535, by its symmetries. -/
def cosTurn (p : Nat) : Int :=
  let q := if 32768 ≤ p then 65536 - p else p
  let neg := decide (16384 < q)
  let r := if neg then 32768 - q else q
  let v := if r ≤ 8192 then cosSmall (2 * piFixed * r / 65536) else sinSmall (2 * piFixed * (16384 - r) / 65536)
  if neg then -v else v

/-- sin(2π p ÷ 65,536) with 120 fraction bits. -/
def sinTurn (p : Nat) : Int := cosTurn ((p + 49152) % 65536)

/-- The rotator's c and s (R71): `sat(rnd(value × 2^30, 15), 16)` of the exact value, narrowed once from its 120 fraction bits. -/
def rotC (p : Nat) : Int := sat (rnd (cosTurn p) 105) 16

def rotS (p : Nat) : Int := sat (rnd (sinTurn p) 105) 16

end Sys2Proof.Machine
end

