-- ==== Sys2Proof/Machine/Atlas.lean ====
section
/-!
DEFINITION. The atlas image (06_track_atlas_and_position.md): its header, regions, relief sets and entries as bytes (Tables 6.1 to
6.5), the verification of a load (R118, R213), and what the walker reads from a slot (R119, R129).
-/

namespace Sys2Proof.Machine

/-! ### Bytes of an image -/

/-- Byte, 16-bit, 24-bit and 32-bit little-endian fields of an image (R117). -/
def Slot.u8 (a : Slot) (off : Nat) : Nat := (mapGet (0 : Byte) a.image off).toNat

def Slot.u16 (a : Slot) (off : Nat) : Nat := a.u8 off + 256 * a.u8 (off + 1)

def Slot.u24 (a : Slot) (off : Nat) : Nat := a.u16 off + 65536 * a.u8 (off + 2)

def Slot.u32 (a : Slot) (off : Nat) : Nat := a.u16 off + 65536 * a.u16 (off + 2)

/-- `n` bytes from an offset. -/
def Slot.bytes (a : Slot) (off n : Nat) : List Nat := (List.range n).map fun k => a.u8 (off + k)

/-- All of `n` bytes from an offset are 0. -/
def Slot.zeros (a : Slot) (off n : Nat) : Bool := (a.bytes off n).all (· == 0)

/-- An image from the bytes the host memory holds: later bytes win, zeros are not listed. -/
def imageOf (bytes : List (Nat × Byte)) : List (Nat × Byte) := bytes.foldl (fun m p => mapSet (0 : Byte) m p.1 p.2) []

/-! ### Header -/

def Slot.atlasId (a : Slot) : Nat := a.u32 8

def Slot.entryCount (a : Slot) : Nat := a.u32 12

def Slot.regionCount (a : Slot) : Nat := a.u16 16

def Slot.defaultRegion (a : Slot) : Nat := a.u16 18

/-- Passage route of a track. -/
def Slot.passRoute (a : Slot) (track : Nat) : Nat := a.u16 (20 + 2 * track)

def Slot.crcEnt (a : Slot) : Nat := a.u32 24

/-! ### Regions -/

/-- Byte offset of a region. -/
def regionAt (r : Nat) : Nat := 0x1000 + 256 * r

def Slot.regionValid (a : Slot) (r : Nat) : Bool := (a.u16 (regionAt r + 2)).testBit 0

/-- LIC bit of a window. -/
def Slot.licensed (a : Slot) (r w : Nat) : Bool := (a.u16 (regionAt r + 4)).testBit w

def Slot.tol (a : Slot) (r : Nat) : Nat := a.u32 (regionAt r + 8)

/-- Bearing slot of a window: 0 none, 1 B0, 2 B1, 3 none. -/
def Slot.bearing (a : Slot) (r w : Nat) : Nat := bitsAt (a.u32 (regionAt r + 12)) (2 * w + 1) (2 * w)

def Slot.licLo (a : Slot) (r w : Nat) : Nat := a.u32 (regionAt r + 16 + 8 * w)

def Slot.licHi (a : Slot) (r w : Nat) : Nat := a.u32 (regionAt r + 20 + 8 * w)

def Slot.maxGain (a : Slot) (r w : Nat) : Nat := a.u8 (regionAt r + 144 + w)

def Slot.maxOut (a : Slot) (r w : Nat) : Int := signed 8 (a.u8 (regionAt r + 160 + w))

/-- The TDD pattern descriptor of a region: its eight words. -/
def Slot.tddPattern (a : Slot) (r : Nat) : Pattern := (List.range 8).map fun k => wd (a.u32 (regionAt r + 192 + 4 * k))

/-- Two regions are equivalent for a window (R132). -/
def Slot.equivalent (a : Slot) (linked : Bool) (w p q : Nat) : Bool :=
  decide (p < a.regionCount) && decide (q < a.regionCount) &&
    a.licensed p w == a.licensed q w && a.licLo p w == a.licLo q w && a.licHi p w == a.licHi q w &&
    (!linked || a.tddPattern p == a.tddPattern q)

/-! ### TDD descriptors (Table 10.7, R213) -/

def Pattern.valid (p : Pattern) : Bool := bit (nth p 0).toNat 0

def Pattern.scs (p : Pattern) : Nat := wbits (nth p 0) 3 1

/-- PERIOD in µs. -/
def Pattern.period (p : Pattern) : Nat := wbits (nth p 0) 31 16

/-- OFFSET in ns. -/
def Pattern.offset (p : Pattern) : Nat := (nth p 1).toNat

/-- Role and length of entry i, 0-11. -/
def Pattern.seg (p : Pattern) (i : Nat) : Nat × Nat :=
  let v := (nth p (2 + i / 2)).toNat / 2 ^ (16 * (i % 2)) % 65536
  (v / 16384, v % 16384)

/-- The entries before the first END. -/
def Pattern.segs (p : Pattern) : List (Nat × Nat) := ((List.range 12).map p.seg).takeWhile fun e => e.1 != 3

/-- Symbols of one period. -/
def Pattern.symbols (p : Pattern) : Nat := p.period * 14 * 2 ^ p.scs / 1000

/-- A descriptor's reserved bits are 0, and with VALID = 1 it meets R213. -/
def Pattern.ok (p : Pattern) : Bool :=
  wbits (nth p 0) 15 4 == 0 &&
  (!p.valid ||
    (decide (p.scs < 4) && [500, 625, 1000, 1250, 2000, 2500, 5000, 10000].contains p.period &&
      p.period * 14 * 2 ^ p.scs % 1000 == 0 && decide (p.offset < 1000 * p.period) &&
      (p.segs.foldl (fun n e => n + e.2) 0) == p.symbols &&
      ((List.range 12).all fun i =>
        decide (i < p.segs.length) || (i == p.segs.length && p.seg i == (3, 0)) || p.seg i == (0, 0))))

/-! ### Entries -/

/-- An atlas entry's fields (Table 6.3). -/
structure Entry where
  index : Nat
  route : Nat
  chain : Nat
  len : Nat
  region : Nat
  link : Bool
  linkHi : Bool
  portal : Bool
  rset : Nat
  rwt : Nat
  xoff0 : Int
  d0 : Nat
  xoff1 : Int
  d1 : Nat
  iso : Int
  next0 : Nat
  next1 : Nat
  rev0 : Bool
  rev1 : Bool
  deriving DecidableEq, Repr

/-- Byte offset of an entry. -/
def entryAt (i : Nat) : Nat := 0x103000 + 32 * i

/-- A copy of an entry fails its read (R119): an uncorrectable ECC error, a lost channel, or a CRC16 mismatch. Copy 0 is the primary. -/
def Slot.copyBad (a : Slot) (i c : Nat) : Bool :=
  let o := entryAt i
  let b : Slot := if c = 0 then a else { a with image := a.mirror }
  bit (mapGet 0 a.bad i ||| a.lost) c || b.u16 (o + 30) != crc16 (b.bytes o 30)

/-- The slot as a read of entry `i` sees it: the primary, or the mirror where the primary fails (R119). -/
def Slot.reading (a : Slot) (i : Nat) : Slot := if a.copyBad i 0 then { a with image := a.mirror } else a

/-- Both copies of an entry fail their read (R119, R129). -/
def Slot.unreadable (a : Slot) (i : Nat) : Bool := a.copyBad i 0 && a.copyBad i 1

/-- The fields of entry `i` of the primary copy. -/
def Slot.entryOf (a : Slot) (i : Nat) : Entry :=
  let o := entryAt i
  let w := a.u16 (o + 8)
  { index := i, route := a.u16 o, chain := a.u32 (o + 2), len := a.u16 (o + 6), region := w % 4096, link := w.testBit 12
    linkHi := w.testBit 13, portal := w.testBit 14, rset := a.u8 (o + 10), rwt := a.u8 (o + 11) % 16
    xoff0 := signed 16 (a.u16 (o + 12)), d0 := a.u16 (o + 14), xoff1 := signed 16 (a.u16 (o + 16)), d1 := a.u16 (o + 18)
    iso := signed 8 (a.u8 (o + 20)), next0 := a.u24 (o + 22), next1 := a.u24 (o + 25)
    rev0 := (a.u8 (o + 28)).testBit 0, rev1 := (a.u8 (o + 28)).testBit 1 }

/-- Entry `i` as the walker reads it. -/
def Slot.entry (a : Slot) (i : Nat) : Entry := (a.reading i).entryOf i

/-- First mm beyond an entry. -/
def Entry.high (e : Entry) : Nat := e.chain + 100 * e.len

/-! ### Verification (R118) -/

/-- The header and area faults. -/
def Slot.headerBad (a : Slot) (length : Nat) : Bool :=
  let n := a.entryCount
  let r := a.regionCount
  a.u32 0 != 0x41544C31 || a.u16 4 != 1 || decide (2 ≤ a.u16 6) || decide (n < 1) || decide (2097152 < n) || decide (r < 1) ||
    decide (4096 < r) || length != 0x103000 + 32 * n || !a.zeros 36 24 || a.u32 60 != crc32 (a.bytes 0 60) ||
    decide (r ≤ a.defaultRegion) || a.crcEnt != crc32 (a.bytes 0x103000 (32 * n)) ||
    a.u32 28 != crc32 (a.bytes 0x1000 (256 * r)) || a.u32 32 != crc32 (a.bytes 0x101000 8192)

/-- The faults of a region. -/
def Slot.regionBad (a : Slot) (r : Nat) : Bool :=
  let o := regionAt r
  a.u16 o != r || decide (2 ≤ a.u16 (o + 2)) || !a.zeros (o + 6) 2 || !a.zeros (o + 176) 16 || !a.zeros (o + 224) 28 ||
    a.u32 (o + 252) != crc32 (a.bytes o 252) || !(a.tddPattern r).ok

/-- The faults of an entry, its order against the entry before it among them. -/
def Slot.entryBad (a : Slot) (i : Nat) : Bool :=
  let o := entryAt i
  let e := a.entryOf i
  let n := a.entryCount
  let none24 := 0xFFFFFF
  let before := a.entryOf (i - 1)
  (a.u16 (o + 8)).testBit 15 || decide (16 ≤ a.u8 (o + 11)) || a.u8 (o + 21) != 0 || decide (4 ≤ a.u8 (o + 28)) ||
    a.u8 (o + 29) != 0 || a.u16 (o + 30) != crc16 (a.bytes o 30) ||
    (i != 0 && !(decide (before.route < e.route) ||
      (before.route == e.route && decide (before.chain < e.chain) && decide (before.high ≤ e.chain)))) ||
    decide (4294967296 < e.high) || decide (a.regionCount ≤ e.region) || !a.regionValid e.region ||
    (e.rset != 0 && a.zeros (0x101000 + 32 * e.rset) 32) ||
    (e.link && e.next0 == none24) || (e.next0 != none24 && decide (n ≤ e.next0)) || (e.next1 != none24 && decide (n ≤ e.next1)) ||
    (!e.link && (e.next0 != none24 || e.next1 != none24))

/-- The response word of a failed verification: the first failing region or entry, 0xFFFF_FFFF for a header or area fault; none
where the image is good. -/
def Slot.verify (a : Slot) (length : Nat) : Option Nat :=
  if a.headerBad length then some 0xFFFFFFFF
  else match (List.range a.regionCount).find? a.regionBad with
    | some r => some r
    | none => (List.range a.entryCount).find? a.entryBad

/-! ### Reading a slot -/

/-- Positions are counted in 1/65,536 mm. -/
def mm : Int := 65536

/-- How many entries stand at or before a position in the order of R118. -/
def Slot.countTo (a : Slot) (route : Nat) (x : Int) : Nat :=
  searchMax (fun k => k == 0 ||
    (let e := a.entry (k - 1)
     decide (e.route < route) || (e.route == route && decide ((e.chain : Int) * mm ≤ x)))) 22 0 a.entryCount

/-- The entry whose extent covers a position, readable or not. -/
def Slot.holding (a : Slot) (route : Nat) (x : Int) : Option Entry :=
  let k := a.countTo route x
  if k = 0 then none
  else
    let e := a.entry (k - 1)
    if e.route = route ∧ x < (e.high : Int) * mm then some e else none

/-- The entry that covers a position for the walker: one whose copies both fail counts as a gap. -/
def Slot.covering (a : Slot) (route : Nat) (x : Int) : Option Entry :=
  match a.holding route x with
  | some e => if a.unreadable e.index then none else some e
  | none => none

/-- The next entry of a route above a position. -/
def Slot.above (a : Slot) (route : Nat) (x : Int) : Option Entry :=
  let k := a.countTo route x
  if k < a.entryCount ∧ (a.entry k).route = route then some (a.entry k) else none

/-- The next entry of a route that ends at or below a position. -/
def Slot.below (a : Slot) (route : Nat) (x : Int) : Option Entry :=
  let k := a.countTo route x
  if k = 0 then none
  else
    let e := a.entry (k - 1)
    if e.route ≠ route then none
    else if (e.high : Int) * mm ≤ x then some e
    else if k = 1 ∨ (a.entry (k - 2)).route ≠ route then none
    else some (a.entry (k - 2))

/-- Where a link leads from a point beyond an entry's end (R127): the successor's index and whether it reverses. -/
inductive Link where
  | none
  | one (index : Nat) (rev : Bool)
  | two (a : Nat) (ra : Bool) (b : Nat) (rb : Bool)
  deriving DecidableEq, Repr

/-- The link at an end of an entry, resolved by the route list; with the list that remains. -/
def Slot.follow (a : Slot) (e : Entry) (up : Bool) (routes : List Nat) : Link × List Nat :=
  if !e.link || e.linkHi != up then (.none, routes)
  else if e.next1 = 0xFFFFFF then (.one e.next0 e.rev0, routes)
  else match routes with
    | r :: rest =>
      if (a.entry e.next0).route = r then (.one e.next0 e.rev0, rest)
      else if (a.entry e.next1).route = r then (.one e.next1 e.rev1, rest)
      else (.two e.next0 e.rev0 e.next1 e.rev1, routes)
    | [] => (.two e.next0 e.rev0 e.next1 e.rev1, routes)

/-- Entering a successor with an overshoot (R127): route, position, and whether chainage now rises. -/
def Slot.enter (a : Slot) (i : Nat) (up rev : Bool) (beyond : Int) : Nat × Int × Bool :=
  let e := a.entry i
  if up != rev then (e.route, (e.chain : Int) * mm + beyond, true) else (e.route, ((e.high : Int) - 1) * mm - beyond, false)

/-! ### Tracing a span (R131, R140) -/

/-- A piece of a span still to be traced: from a position, upward or downward, for a distance, that much of the span's own
distance having been passed. -/
structure Span where
  route : Nat
  x : Int
  up : Bool
  dist : Int
  gone : Int
  routes : List Nat
  deriving DecidableEq, Repr

/-- A region met in a trace: its index, the distance at which it begins, and whether it stands for an entry whose copies both fail. -/
structure Met where
  region : Nat
  far : Int
  bad : Bool
  deriving DecidableEq, Repr

/-- One piece: the region at its start, and the pieces that remain of it. -/
def Slot.traceOne (a : Slot) (p : Span) : Met × List Span :=
  let go := fun (route : Nat) (x : Int) (up : Bool) (used : Int) (rs : List Nat) =>
    if p.dist < used then [] else [(⟨route, x, up, p.dist - used, p.gone + used, rs⟩ : Span)]
  match a.covering p.route p.x with
  | some e =>
    let room := if p.up then (e.high : Int) * mm - p.x else p.x - (e.chain : Int) * mm + 1
    let next := match a.follow e p.up p.routes with
      | (.none, rs) => go p.route (if p.up then (e.high : Int) * mm else (e.chain : Int) * mm - 1) p.up room rs
      | (.one i rev, rs) => let t := a.enter i p.up rev 0; go t.1 t.2.1 t.2.2 room rs
      | (.two i ri j rj, rs) =>
        let t := a.enter i p.up ri 0
        let u := a.enter j p.up rj 0
        go t.1 t.2.1 t.2.2 room rs ++ go u.1 u.2.1 u.2.2 room rs
    (⟨e.region, p.gone, false⟩, next)
  | none =>
    let past := match a.holding p.route p.x with
      | some e => some (if p.up then (e.high : Int) * mm else (e.chain : Int) * mm - 1)
      | none =>
        if p.up then (a.above p.route p.x).map fun e => (e.chain : Int) * mm
        else (a.below p.route p.x).map fun e => (e.high : Int) * mm - 1
    (⟨a.defaultRegion, p.gone, (a.holding p.route p.x).isSome⟩, match past with
      | some y => go p.route y p.up (if p.up then y - p.x else p.x - y) p.routes
      | none => [])

/-- Trace pieces of a span, at most `fuel` of them: the regions met with their distances, the pieces left, and how many were
traced. -/
def Slot.trace (a : Slot) : Nat → List Span → List Met × List Span
  | 0, ps => ([], ps)
  | _, [] => ([], [])
  | f + 1, p :: ps =>
    let (r, more) := a.traceOne p
    let (rs, left) := a.trace f (ps ++ more)
    (r :: rs, left)

end Sys2Proof.Machine
end

