-- ==== Sys2Proof/Machine/Tables.lean ====
section
/-!
DEFINITION. What a window's bank tables say (03_channeliser_windows_routes.md Tables 3.5, 3.6 and 3.21): the words of a table, the
active bank, the domains of a window's route.
-/

namespace Sys2Proof.Machine

/-- Words of a table kind: route, mask, trim sets, FIR. -/
def tblLen (k : Nat) : Nat := [1280, 40, 32, 32, 257].getD k 0

/-- The bits of a word of a table that are not reserved (Tables 3.5, 3.6): a reserved field ignores writes and reads 0 (R15). -/
def tblMask (k i : Nat) : Nat :=
  if k = 0 then 0xC0FF0000
  else if k = 2 ∨ k = 3 then (if i = 0 then 0x000707FF else if i < 22 then 0xFFFFFFFF else 0)
  else 0xFFFFFFFF

def bankKey (w b k i : Nat) : Nat := 2048 * (10 * w + 5 * b + k) + i

def copyKey (w k i : Nat) : Nat := 2048 * (5 * w + k) + i

/-- A word of a bank table. -/
def State.tbl (s : State) (w b k i : Nat) : Word := mapGet 0 s.win.tables (bankKey w b k i)

/-- The active bank. -/
def State.actBank (s : State) (w : Nat) : Nat := s.get Fd.CHN_WSTAT_ACT_BANK w

/-- The domain of a passed route entry. -/
def routeDomain (v : Word) : Option Nat := if bit v.toNat 31 then some (wbits v 23 16) else none

/-- Domains of a window's active bank, or WDOM for a direct window. -/
def State.routeDomains (s : State) (w : Nat) : List Nat :=
  if s.get Fd.CHN_WCTL_PROFILE w = 0 then [s.get Fd.CHN_WDOM_DOMAIN w]
  else ((List.range (min (s.get Fd.CHN_WRX_COUNT w) 1280)).filterMap fun i => routeDomain (s.tbl w (s.actBank w) 0 i)).eraseDups

/-! ### Windows of a lane, and what an event names (R290) -/

/-- Windows that name TX lane `n` as TX_A or TX_B, or, with `rx`, RX lane `n` as RX_A or RX_B. -/
def State.windowsOf (s : State) (n : Nat) (rx : Bool) : List Nat :=
  (List.range 16).filter fun w =>
    if rx then s.get Fd.CHN_WLANE_RX_A w == n || s.get Fd.CHN_WLANE_RX_B w == n
    else s.get Fd.CHN_WLANE_TX_A w == n || s.get Fd.CHN_WLANE_TX_B w == n

/-- The window runs (WSTAT.RUNNING). -/
def State.running (s : State) (w : Nat) : Bool := s.getB Fd.CHN_WSTAT_RUNNING w

/-- Domains that a window's route or WDOM names, as a mask. -/
def State.windowDomains (s : State) (w : Nat) : Nat := listMask (s.routeDomains w)

/-- Domains of every bound window among a list, as a mask. -/
def State.domainsOf (s : State) (ws : List Nat) : Nat :=
  (ws.filter fun w => bit s.win.bound w).foldl (fun a w => a ||| s.windowDomains w) 0

/-- Domains of the windows that bind lane `n` on either side (R290). -/
def State.laneDomains (s : State) (n : Nat) : Nat := s.domainsOf (s.windowsOf n false ++ s.windowsOf n true)

/-- Domains that REG_SEAL of a register set names (R290): those of the windows that bind the lane for LANE[n], every domain for CHN,
CAN, SVY, CON and POS, none for the others. -/
def State.sealDomains (s : State) (i : Nat) : Nat :=
  if 3 ≤ i ∧ i ≤ 18 then s.laneDomains (i - 3)
  else if 20 ≤ i ∧ i ≤ 24 then 2 ^ 256 - 1
  else 0

/-- Domains that an event of a source names by the source's number alone: a lane's, a register set's REG_SEAL (Table 15.1, R290). -/
def State.sourceDomains (s : State) (src : Nat) : Nat :=
  if src < 64 then s.laneDomains (src / 4)
  else if src < 239 ∧ (src - 64) % 5 = 3 then s.sealDomains ((src - 64) / 5)
  else 0

/-! ### Domains -/

def State.domX (s : State) (d : Nat) : DomX := mapGet DomX.reset s.con.dom d

def State.setDomX (s : State) (d : Nat) (x : DomX) : State := { s with con := { s.con with dom := mapSet DomX.reset s.con.dom d x } }

/-- A domain waits, closed, for its initialisation at the next evaluation (R150, R166, R175). -/
def State.awaitInit (s : State) (d : Nat) : State :=
  (s.setDomX d { s.domX d with restart := true, pend := none }).setB Fd.CON_GAPP_CLOSED true d

/-! ### Coexistence blanks (R232) -/

def State.cxLink (s : State) (i : Nat) : CxLink := mapGet CxLink.reset s.cx i

def State.setCxLink (s : State) (i : Nat) (l : CxLink) : State := { s with cx := mapSet CxLink.reset s.cx i l }

/-- CX_GNT of both links as a copy of CX_REQ: in freeze, in compass mode and while RESET_N is asserted (R234). -/
def State.cxCopy (s : State) : State :=
  forEach (List.range 2) s fun s i => s.setB Fd.RCE_CXSTAT_GNT (s.cxLink i).since.isSome i

/-- CX_GNT of both links low: the copy ends, and EN = 0 (R234). -/
def State.cxLow (s : State) : State := forEach (List.range 2) s fun s i => s.setB Fd.RCE_CXSTAT_GNT false i

/-- A link holds a blank on the window. -/
def State.blanked (s : State) (w : Nat) : Bool := s.cx.any fun p => bit p.2.blanks w

/-! ### Gates (R193 to R196) -/

/-- GSTAT.OPEN: gates open now. -/
def State.refreshGates (s : State) (w : Nat) : State :=
  s.set Fd.FLT_GSTAT_OPEN ((s.win.gates.filter fun p => p.1 / 2048 == w && p.2.isOpen).length) w

/-- Close every gate of a window (R195, R196, R232). -/
def State.closeGates (s : State) (w : Nat) : State :=
  let upd := fun (p : Nat × Gate) => if p.1 / 2048 = w then (p.1, ({ p.2 with isOpen := false, since := 0 } : Gate)) else p
  { s with win := { s.win with gates := s.win.gates.map upd } }.refreshGates w

end Sys2Proof.Machine
end

