-- ==== Sys2Proof/Machine/Faults.lean ====
section
/-!
DEFINITION. The fault commands of the Datum core and the collector's own steps (15_faults_redundancy_guarantees.md).
-/

namespace Sys2Proof.Machine

/-- Source numbers that Table 15.1 and the tables it names reserve. -/
def reservedSource (s : Nat) : Bool :=
  s == 239 || (291 ≤ s && s ≤ 295) || (315 ≤ s && s ≤ 479) || s == 498 || s == 499 || 500 ≤ s

/-- Sources latched, 0-512 (FLT.STAT.LATCHED). -/
def State.latchedCount (s : State) : Nat := ((List.range 512).filter fun n => s.getB Fd.FLT_SSTAT_LATCHED n).length

/-- Highest severity with a reaction held. -/
def State.worstHeld (s : State) : Nat :=
  s.flt.reactions.foldl (fun a r => if r.inForce then max a r.sev else a) 0

/-- FLT.STAT (Table 15.11). -/
def State.fltStat (s : State) : Word :=
  wd (s.fltMute * 2 ^ 16 + s.worstHeld * 2 ^ 12 + b2n (s.flt.reactions.any (·.inForce)) * 2 ^ 11 + s.latchedCount)

/-- FAULT_STATUS, 0x63. -/
def execFaultStatus (mb : Fin 20) (s : State) : Out := s.whenLive <|
  .next (s.runCommand mb 0x63 fun s c => s.checked mb c 2 false fun s =>
    s.complete mb c 0x00 ([s.fltStat, s.reg (Reg.FLT_FIRST.off 0 0), s.reg (Reg.FLT_FIRST_SEC.off 0 0),
      s.reg (Reg.FLT_FIRST_GT.off 0 0), s.reg (Reg.FLT_FIRST_PC.off 0 0), s.reg (Reg.FLT_FIRST_CNT.off 0 0)] ++
      (List.range 16).map fun i => s.reg (Reg.FLT_SAMECYC.off i 0)))

/-- Clear a source's latched cause and release its reactions (R296, Table 15.5). -/
def State.clearLatched (s : State) (src : Nat) : State :=
  let s := ((s.setB Fd.FLT_SSTAT_LATCHED false src).set Fd.FLT_SSTAT_SEV 0 src).setB Fd.FLT_SSTAT_PATH false src
  (s.setB Fd.FLT_SSTAT_INJ false src).releaseReactions src

/-- RESET_FF and ALERT_OFF of FAULT_CLEAR. -/
def State.faultClearExtras (s : State) (w : Word) : State :=
  let s := if bit w.toNat 17 then
      forEach (List.range 16) (s.setB Fd.FLT_FIRST_VALID false) fun s i => s.set Fd.FLT_SAMECYC_SRC 0 i
    else s
  if bit w.toNat 18 then s.setB Fd.FLT_ALERT_SW false else s

/-- FAULT_CLEAR, 0x64: permissive. -/
def execFaultClear (mb : Fin 20) (s : State) : Out := s.whenLive <|
  .next (s.runCommand mb 0x64 fun s c => s.checked mb c 3 true fun s =>
    let w := c.word 1
    let src := wbits w 9 0
    if !bit w.toNat 16 then
      if reservedSource src then s.complete mb c 0x04
      else if s.getB Fd.FLT_SSTAT_ACTIVE src then s.complete mb c 0x07 [wd src]
      else ((s.clearLatched src).faultClearExtras w).complete mb c 0x00
    else
      let all := (List.range 512).filter fun n => s.getB Fd.FLT_SSTAT_LATCHED n || s.hasReaction n
      let left := all.filter fun n => s.getB Fd.FLT_SSTAT_ACTIVE n
      let done := all.filter fun n => !s.getB Fd.FLT_SSTAT_ACTIVE n
      let s := (forEach done s fun s n => s.clearLatched n).faultClearExtras w
      match left with
      | [] => s.complete mb c 0x00
      | n :: _ => s.complete mb c 0x0F [wd n, wd left.length])

/-- The INJECT record of an unlock or an injection (Tables 16.2 and 16.3). -/
def State.injectRecord (s : State) (kind code inst bits v : Nat) : State :=
  s.offer ⟨0x0B, 0x3FF, 1, 0, false, false, s.stamp,
    [wd (kind + code * 2 ^ 8 + inst * 2 ^ 16 + bits * 2 ^ 24), wd v] ++ List.replicate 8 0⟩

/-- FI_UNLOCK, 0x65 (R298). -/
def execFiUnlock (mb : Fin 20) (s : State) : Out := s.whenLive <|
  .next (s.runCommand mb 0x65 fun s c => s.checked mb c 3 false fun s =>
    let lease := (c.word 2).toNat
    if c.word 1 ≠ 0x46494E4A ∨ lease < 1 ∨ 600 < lease then s.complete mb c 0x04
    else if s.get Fd.FLT_FI_POLICY_POLICY ≠ 2 then s.complete mb c 0x05
    else if s.fw.lockHolder ≠ some mb.val then s.complete mb c 0x07
    else
      let e := s.time.opSec + lease
      let s := { s with flt := { s.flt with unlockEnd := some e } }
      (s.injectRecord 0 0 0 0 e).complete mb c 0x00)

/-- The instance an injection names exists (Table 15.4). -/
def injectInstOk (code inst : Nat) : Bool :=
  if code = 1 then decide (inst < 4)
  else if code = 2 ∨ code = 6 then decide (inst < 32)
  else if code = 3 then inst == 0
  else if code = 4 then decide (1 ≤ inst) && decide (inst ≤ 0x14)
  else true

/-- FI_INJECT, 0x66 (R298, R299): restrictive. -/
def execFiInject (mb : Fin 20) (s : State) : Out := s.whenLive <|
  .next (s.runCommand mb 0x66 fun s c => s.checked mb c 3 false fun s =>
    let code := wbits (c.word 1) 7 0
    let inst := wbits (c.word 1) 15 8
    let bits := wbits (c.word 1) 17 16
    let src := wbits (c.word 2) 9 0
    if bits = 0 ∨ bits = 3 ∨ (1 ≤ code ∧ code ≤ 6 ∧ !injectInstOk code inst) ∨ (code = 5 ∧ 511 < src) then s.complete mb c 0x04
    else if s.get Fd.FLT_FI_POLICY_POLICY ≠ 2 ∨ code < 1 ∨ 6 < code then s.complete mb c 0x0D
    else if s.flt.unlockEnd.isNone then s.complete mb c 0x07
    else
      let s := { s with flt := { s.flt with armed := s.flt.armed ++ [(⟨code, inst, bits, src⟩ : Injection)] } }
      let s := s.addSat Fd.FLT_FI_STAT_COUNT 1
      (s.injectRecord 1 code inst bits (if code = 5 then src else 0)).complete mb c 0x00)

/-- Take an armed injection of a checker and instance, if one is armed (R299): its bits. -/
def State.takeInjection (s : State) (code inst : Nat) : State × Option Nat :=
  match s.flt.armed.find? fun a => a.code == code && a.inst == inst with
  | some a => ({ s with flt := { s.flt with armed := s.flt.armed.erase a } }, some a.bits)
  | none => (s, none)

/-- FAULT_EVENT, R287, R288, R295: one collector cycle. A reserved source never reports; a source that holds error raises no
further event. -/
def execFaultEvent (events : List FaultEv) (s : State) : Out := s.whenLive <|
  .next (s.raiseCycle (events.filter fun e => !reservedSource e.source && !s.getB Fd.FLT_SSTAT_ACTIVE e.source))

/-- FAULT_CLEARANCE, R296. -/
def execFaultClearance (source : Fin 512) (s : State) : Out := s.whenLive <| .next (s.clearSource source)

/-- PAIR_INVALID, R287: the source is taken as error with PATH, and FLT_PATH is raised; an injection of code 0x05 is marked INJ. -/
def execPairInvalid (source : Fin 512) (s : State) : Out := s.whenLive <|
  if reservedSource source then .next s
  else
    let inj := s.flt.armed.find? fun a => a.code == 5 && a.source == source.val
    let s := match inj with
      | some a => { s with flt := { s.flt with armed := s.flt.armed.erase a } }
      | none => s
    let ev := if s.getB Fd.FLT_SSTAT_ACTIVE source then [] else [(⟨source, inj.isSome, true, 0, s.sourceDomains source⟩ : FaultEv)]
    let pathEv := if s.getB Fd.FLT_SSTAT_ACTIVE 491 then [] else [(⟨491, inj.isSome, false, 0, 0⟩ : FaultEv)]
    .next ((s.raiseCycle (ev ++ pathEv)).toPulse 491)

/-- No grid tick boundary has arrived since the Datum core missed one (R35). -/
def State.tickMissing (s : State) : Bool := s.prot.held.any fun r => r.kind == 7 && r.since == s.time.gt

/-- FAULT_REACTION, R290: the reactions due at this grid tick take effect; on the Datum oscillator alone, where no grid tick arrives. -/
def execFaultReaction (s : State) : Out := s.whenLive <| .next (s.applyReactionsBy (s.time.gt + if s.tickMissing then 2 else 0))

/-- Take an armed injection of a checker and instance with a number of bits; true where one was armed (R299). -/
def State.takeBits (s : State) (code inst bits : Nat) : State × Bool :=
  match s.flt.armed.find? fun a => a.code == code && a.inst == inst && a.bits == bits with
  | some a => ({ s with flt := { s.flt with armed := s.flt.armed.erase a } }, true)
  | none => (s, false)

/-- ESC_INTERVAL_END, R288: the source's open interval has ended; ESC clears. -/
def execEscIntervalEnd (source : Fin 512) (s : State) : Out := s.whenLive <|
  match s.flt.intervals.find? fun p => p.1 == source.val with
  | some (_, e) =>
    if e ≤ s.time.gt then
      .next ({ s with flt := { s.flt with intervals := mapErase s.flt.intervals source } }.setB Fd.FLT_SSTAT_ESC false source)
    else .next s
  | none => .next s

/-- ALERT_PULSE_END, R293: timed by the Datum oscillator, which runs in reset and before the first grid tick too. -/
def execAlertPulseEnd (s : State) : Out := s.keepTime <|
  match s.flt.alertEnd with
  | some e =>
    if s.start.frozen = false ∧ (e ≤ s.time.gt ∨ s.start.inReset ∨ s.start.phase = 1) then
      .next ({ s with flt := { s.flt with alertEnd := none } }.setB Fd.FLT_ALERT_PULSE false)
    else .next s
  | none => .next s

/-- FI_UNLOCK_LAPSE, R298: the unlock ends with its lease or with the lock. -/
def execFiUnlockLapse (s : State) : Out := s.whenLive <|
  match s.flt.unlockEnd with
  | some e =>
    if e ≤ s.time.opSec ∨ s.fw.lockHolder = none then .next { s with flt := { s.flt with unlockEnd := none } } else .next s
  | none => .next s

end Sys2Proof.Machine
end

