-- ==== Sys2Proof/Machine/Integrity.lean ====
section
/-!
DEFINITION. Register integrity (14_register_interface.md R280 to R283): sweep sets, their CRC, and what a write of SEAL, a write to
swept content and a sweep pass do to a register set.
-/

namespace Sys2Proof.Machine

/-- Numbers of the register sets of Table 15.1 that hold swept content. -/
def setChn : Nat := 20
def setCan : Nat := 21
def setCon : Nat := 23
def setPos : Nat := 24
def setTdd : Nat := 25
def setRce : Nat := 26
def setSns : Nat := 27
def setFlt : Nat := 28

/-- Mask of the SW fields of a register. -/
def RegDesc.swMask (r : RegDesc) : Nat :=
  r.fields.foldl (fun a f => if f.sw then a ||| (2 ^ f.width - 1) * 2 ^ f.lsb else a) 0

/-- A register that is a data port of an indirect table, or holds a bank table (R280): swept as a table, not as a register. -/
def sweptAsTable (off : Nat) : Bool :=
  off == 0x1005C || (0x2C400 ≤ off && off < 0x2C480) || (0x30200 ≤ off && off < 0x30600)

/-- Insert an (offset, mask) pair by ascending offset. -/
def insertOff (p : Nat × Nat) : List (Nat × Nat) → List (Nat × Nat)
  | [] => [p]
  | q :: qs => if p.1 ≤ q.1 then p :: q :: qs else q :: insertOff p qs

/-- Offsets and SW masks of the swept registers of a set, ascending. -/
def sweptRegs (i : Nat) : List (Nat × Nat) :=
  let l := (regsOfSet i).flatMap fun r =>
    if r.swMask = 0 then []
    else (List.range r.count).flatMap fun a => (List.range r.count2).map fun b => (r.off a b, r.swMask)
  (l.filter fun p => !sweptAsTable p.1).foldr insertOff []

/-- The words of a SEAL's sweep set (R280): the swept registers, then the indirect tables placed under the seal: CAN's allocation
map, TDD's sequence words. -/
def State.sweepWords (s : State) (i : Nat) : List Word :=
  (sweptRegs i).map (fun p => wd ((s.reg p.1).toNat &&& p.2)) ++
    (if i = setCan then (List.range 8192).map fun k => mapGet 0 s.can.amap k
     else if i = setTdd then (List.range 1024).map fun k => mapGet 0 s.tdd.words k
     else [])

/-- The CRC-32 of a SEAL's sweep set. -/
def State.sweepCrc (s : State) (i : Nat) : Word := crcWords (s.sweepWords i)

/-- The sweeper of a register set. -/
def State.sweeper (s : State) (i : Nat) : Sweeper := mapGet Sweeper.reset s.integ.sweepers i

def State.setSweeper (s : State) (i : Nat) (w : Sweeper) : State :=
  { s with integ := { s.integ with sweepers := mapSet Sweeper.reset s.integ.sweepers i w } }

/-- A write to content of a SEAL's sweep set: the running pass is discarded for it (R281). -/
def State.touchSweep (s : State) (i : Nat) : State := s.setSweeper i { s.sweeper i with dirty := true }

/-- A write of SEAL: the reference CRC, checking armed, HOLD cleared (R282, R283). -/
def State.writeSeal (s : State) (i : Nat) (v : Word) : State :=
  let s := ((s.set (Fd.SEAL_SEAL i) v.toNat).setB (Fd.BLK_STAT_ARMED i) true).setB (Fd.SEAL_CTL_HOLD i) false
  s.setB (Fd.BLK_STAT_HOLD i) false

/-- Firmware's change of swept content under the seal rules (R283): the content is written with HOLD set, then SEAL, which clears
HOLD. -/
def State.underSeal (s : State) (i : Nat) (change : State → State) : State :=
  let s := (change s).touchSweep i
  s.writeSeal i (s.sweepCrc i)

/-- Source number of a register set's source `k` (Table 15.1): 0 REG_WIGN, 1 REG_ACC, 2 REG_VOTE, 3 REG_SEAL, 4 REG_HOLD. -/
def regSource (i k : Nat) : Nat := 64 + 5 * i + k

end Sys2Proof.Machine
end

