-- ==== Sys2Proof/Machine/Lane.lean ====
section
/-!
DEFINITION. RF lanes and lane synthesisers (02_lanes_and_converters.md; 10_synthesisers_lane_states_tdd.md R204 to R210): fast
attack, calibrations, lock sequences, the lane state machines, and LANE_TX, LANE_TUNE and LANE_CONFIG.
-/

namespace Sys2Proof.Machine

/-! ### Accessors -/

def State.laneX (s : State) (n : Nat) : LaneExt := mapGet LaneExt.reset s.lane.ext n

def State.setLaneX (s : State) (n : Nat) (e : LaneExt) : State :=
  { s with lane := { s.lane with ext := mapSet LaneExt.reset s.lane.ext n e } }

def State.synX (s : State) (y : Nat) : SynExt := mapGet SynExt.reset s.lane.syn y

def State.setSynX (s : State) (y : Nat) (e : SynExt) : State :=
  { s with lane := { s.lane with syn := mapSet SynExt.reset s.lane.syn y e } }

/-- The synthesiser of RX lane `n`, where LSRC names one (R204). -/
def State.synOfRx (s : State) (n : Nat) : Option Nat :=
  if s.getB Fd.SYN_LSRC_RX_V n then some (s.get Fd.SYN_LSRC_RX_SYN n) else none

/-- The synthesiser of TX lane `n`. -/
def State.synOfTx (s : State) (n : Nat) : Option Nat :=
  if s.getB Fd.SYN_LSRC_TX_V n then some (s.get Fd.SYN_LSRC_TX_SYN n) else none

/-- LOCK = 1 and syn.settle ticks have passed since (R207). -/
def State.synReady (s : State) (y : Option Nat) : Bool :=
  match y with
  | some y => s.getB Fd.SYN_SSTAT_LOCK y && s.getB Fd.SYN_SSTAT_SETTLED y
  | none => false

/-- The synthesiser is DEAD. -/
def State.synDead (s : State) (y : Option Nat) : Bool :=
  match y with
  | some y => s.get Fd.SYN_SSTAT_STATE y == 3
  | none => false

/-- TX lanes that a synthesiser feeds, as a mask. -/
def State.txOfSyn (s : State) (y : Nat) : Nat := listMask ((List.range 16).filter fun n => s.synOfTx n == some y)

/-- RX lanes that a synthesiser feeds, as a mask. -/
def State.rxOfSyn (s : State) (y : Nat) : Nat := listMask ((List.range 16).filter fun n => s.synOfRx n == some y)

/-- Domains of the windows that bind a lane which a synthesiser feeds (R290, worked example 15.1), as a mask. -/
def State.synDomains (s : State) (y : Nat) : Nat :=
  s.domainsOf (((maskList (s.txOfSyn y) 16).flatMap fun n => s.windowsOf n false) ++
    ((maskList (s.rxOfSyn y) 16).flatMap fun n => s.windowsOf n true))

/-! ### The receive rails (R42, R43, R47, R380) -/

/-- A run-coded list of slice codes, instant by instant. -/
def rawInstants (l : List (Nat × Int × Int)) : List (Int × Int) := (l.flatMap fun r => List.replicate r.1 r.2).take 3072

/-- The corrected value of instant `k` of an RX lane, 16 fraction bits below the 16-bit scale, before the step compensation. -/
def State.correctedValue (s : State) (n : Nat) (codes : List (Nat × Int × Int)) (k : Nat) (code : Int × Int) : Int × Int :=
  let c := Config.correction n k (s.laneX n).coefs codes
  (code.1 * 2 ^ 18 + c.1, code.2 * 2 ^ 18 + c.2)

/-- The narrowing of a corrected rail: `clamp(rnd(c, 16), −32767, 32767)`. -/
def narrowRail (c : Int) : Int := clampI (rnd c 16) (-32767) 32767

/-- The clip test of a rail. -/
def clipRail (code c : Int) : Bool := code == -8192 || code == 8191 || narrowRail c != rnd c 16

/-- A rail pair under CTL: exchanged, then inverted (Table 2.10). -/
def polarity (swap inv : Bool) (v : Int × Int) : Int × Int :=
  let v := if swap then (v.2, v.1) else v
  if inv then (-v.1, -v.2) else v

/-- What a grid tick of an RX lane gives: its corrected rails, its clipped instants, those of them that fast attack counts, and the sum and
highest of its sample powers. -/
structure RailTick where
  rails : List (Int × Int)
  clips : Nat
  counted : Nat
  sum : Nat
  peak : Nat
  deriving DecidableEq, Repr

/-- The rails of an RX lane over the grid tick that ends. The level is referred to before the step compensation (R380); fast attack does not
count the 128 instants after an index change (R48), which takes effect with the grid tick's first instant (R42). -/
def State.railTick (s : State) (n : Nat) (codes : List (Nat × Int × Int)) : RailTick :=
  let idx := s.get Fd.LANE_RX_GAIN_APPLIED n
  let inv := Config.stepInverse n idx (mapGet 0 (s.laneX n).coefs 8)
  let first := if (s.laneX n).index = idx then 0 else 128
  let l := rawInstants codes
  (l.zip (List.range l.length)).foldr (fun p r =>
    let u := s.correctedValue n codes p.2 p.1
    let c := (rnd (u.1 * inv) 16, rnd (u.2 * inv) 16)
    let clip := clipRail p.1.1 c.1 || clipRail p.1.2 c.2
    let pow := ((narrowRail u.1) ^ 2 + (narrowRail u.2) ^ 2).toNat
    { rails := polarity (s.getB Fd.LANE_CTL_RX_IQSWAP n) (s.getB Fd.LANE_CTL_RX_INV n) (narrowRail c.1, narrowRail c.2) :: r.rails
      clips := r.clips + b2n clip
      counted := r.counted + b2n (clip && decide (first ≤ p.2))
      sum := r.sum + pow
      peak := max r.peak pow }) ⟨[], 0, 0, 0, 0⟩

/-! ### Receive gain (R41, R48, R49) -/

/-- A fast-attack reduction, in effect at the next grid tick boundary (R48). -/
def State.fastReduce (s : State) (n : Nat) : State :=
  let applied := s.get Fd.LANE_RX_GAIN_APPLIED n
  let step := min (s.get Fd.LANE_RX_FAST_STEP n) applied
  let e := s.laneX n
  let s := (s.count 4 n 0x11 1).setLaneX n { e with
    fastSum := e.fastSum + step, fastCnt := e.fastCnt + 1, reducedAt := some (s.time.gt + 1) }
  (s.set Fd.LANE_RX_GAIN_APPLIED (applied - step) n).setB Fd.LANE_RX_STAT_FAST true n

/-- The clipped instants of a lane in the grid tick that ends: `clips` all of them, `counted` those outside the 128 instants
after an index change (R47, R48). The current sheet holds its estimators (R45). -/
def State.clipTick (s : State) (n clips counted : Nat) : State :=
  if clips = 0 then s
  else
    let e := s.laneX n
    let s := s.setLaneX n { e with clips := e.clips + clips }
    let s := ((s.setB Fd.LANE_RX_STAT_CLIP true n).setB Fd.LANE_RX_STAT_CORR_HOLD true n).addSat Fd.LANE_RX_CLIPCNT_TICKS 1 n
    let s := (s.count 4 n 0x10 clips).pulseOn (4 * n) 0 (s.laneDomains n)
    if s.getB Fd.LANE_RX_FAST_EN n && decide (s.get Fd.LANE_RX_FAST_THRESH n ≤ counted) then
      if s.get Fd.LANE_RX_GAIN_APPLIED n ≠ 0 ∧ (s.laneX n).fastCnt < s.get Fd.LANE_RX_FAST_MAXSTEP n then s.fastReduce n
      else (s.setB Fd.LANE_RX_STAT_FA_LIMIT true n).pulseOn (4 * n + 1) 0 (s.laneDomains n)
    else s

/-- The index in effect in the grid tick that ends, kept for the next. -/
def State.keepIndex (s : State) (n : Nat) : State :=
  let e := s.laneX n
  let i := s.get Fd.LANE_RX_GAIN_APPLIED n
  if e.index = i then s else s.setLaneX n { e with index := i }

/-- The grid tick of an RX lane that ends: its rails, its share of the sheet's power, its clips. -/
def State.closeRails (s : State) (n : Nat) (r : RailTick) : State :=
  let e := s.laneX n
  let s := s.setLaneX n { e with power := e.power + r.sum, peak := max e.peak r.peak }
  s.clipTick n r.clips r.counted

/-- APPLIED = min(DEMAND, LIMIT) less the reductions since the last DEMAND write, never below 0 (R41). -/
def State.refreshApplied (s : State) (n : Nat) : State :=
  let v := min (s.get Fd.LANE_RX_GAIN_DEMAND n) (s.get Fd.LANE_RX_GAIN_LIMIT n) - (s.laneX n).fastSum
  if s.get Fd.LANE_RX_GAIN_APPLIED n = v then s else s.set Fd.LANE_RX_GAIN_APPLIED v n

/-- The contour engine's write of DEMAND: it clears the sum of reductions (R41), but for what keeps the lower result where a reduction takes
effect at this same boundary (R49). -/
def State.writeDemand (s : State) (n demand : Nat) : State :=
  let e := s.laneX n
  let was := s.get Fd.LANE_RX_GAIN_APPLIED n
  let s := s.set Fd.LANE_RX_GAIN_DEMAND demand n
  let top := min demand (s.get Fd.LANE_RX_GAIN_LIMIT n)
  (s.setLaneX n { e with fastSum := if e.reducedAt = some s.time.gt then top - was else 0 }).refreshApplied n

/-! ### Background correction and levels of a sheet (R45, R46, R380) -/

/-- Power of a 0 dBFS tone in the complex stream (R10), and raw instants of a sheet. -/
def fullScale : Nat := 32767 ^ 2

def sheetInstants : Nat := 80 * 3072

/-- A kind of CORR_CTL is enabled: 0-3 RX, 4-7 TX. -/
def State.kindCorrects (s : State) (n k : Nat) : Bool :=
  bit (s.get (if k < 4 then Fd.LANE_CORR_CTL_RX_EN_MASK else Fd.LANE_CORR_CTL_TX_EN_MASK) n) (k % 4)

/-- Kinds get a further set of coefficients, at a die temperature. -/
def LaneExt.form (e : LaneExt) (tx : Bool) (kinds : List Nat) (temp : Int) : LaneExt :=
  { e with
    coefs := kinds.foldl (fun m k => mapSet 0 m k (mapGet 0 m k + 1)) e.coefs
    warm := (if kinds = [] then kinds else (if tx then 10 else 9) :: kinds).foldl (fun m k => mapSet 0 m k temp) e.warm }

/-- Die temperature near a lane. -/
def State.dieTemp (s : State) (n : Nat) : Int := mapGet 0 s.lane.die n

/-- The group of four that a TX lane shares an observation receiver with observes it in the sheet that closes: 8 sheets in turn (R45; the lane
with the lowest number first from a multiple of 32 sheets: log entry 122). -/
def State.observed (s : State) (n : Nat) : Bool := (s.sheet - 1) / 8 % 4 == n % 4

/-- The sheets for which a kind has been disabled. -/
def State.countOff (s : State) (n : Nat) (off : List (Nat × Nat)) : List (Nat × Nat) :=
  (List.range 8).foldl (fun m k => mapSet 0 m k (if s.kindCorrects n k then 0 else mapGet 0 m k + 1)) off

/-- RX_PWR and the estimators of a lane at the boundary that closes a sheet (R45, R380): `op` what the environment saw of it, the samples of
the grid ticks passed over included. A reduction made for grid tick 79 has counted in the sheet that closes (log entry 122). -/
def State.closeRxSheet (s : State) (n : Nat) (op : Option RxLevel) : State :=
  let e := s.laneX n
  let q := op.getD ⟨0, 0, 0⟩
  let sum := e.power + q.sum
  let db := fun (a b : Nat) => min (db256 a b) 771
  let s := (s.setI Fd.LANE_RX_PWR_PEAK (db (max e.peak q.peak) fullScale) n).setI Fd.LANE_RX_PWR_MEAN (db sum (sheetInstants * fullScale)) n
  let hold := decide (e.clips ≠ 0) || decide (sum * 10 ^ 5 < sheetInstants * fullScale) || decide (q.span < 30000)
  let s := s.setB Fd.LANE_RX_STAT_CORR_HOLD hold n
  let due := [0, 1] ++ (if s.sheet % 8 = 0 then [2] else []) ++ (if s.sheet % 64 = 0 then [3] else [])
  let e := if hold then e else e.form false (due.filter fun k => s.kindCorrects n k) (s.dieTemp n)
  s.setLaneX n { e with
    clips := 0
    fastCnt := 0
    power := 0
    peak := 0
    holdRx := if hold then e.holdRx + 1 else 0
    off := s.countOff n e.off }

/-- The level and the estimators of a TX lane at the boundary that closes a sheet (R45): the estimators hold while the lane is muted, and for
the three cases of its observation; `sum` is the power at stage 13 over the grid ticks passed over, `op` what the observation receiver
saw. -/
def State.closeTxSheet (s : State) (n sum : Nat) (op : Option Observation) : State :=
  let e := s.laneX n
  let held :=
    if s.observed n then
      s.getB Fd.LANE_TX_MUTE_MUTED n || match op with
        | some q => q.clipped || decide (q.mean < -12800) || decide (q.span < 30000)
        | none => true
    else e.heldTx
  let e := if s.observed n && !held then e.form true ([4, 5, 6, 7].filter fun k => s.kindCorrects n k) (s.dieTemp n) else e
  s.setLaneX n { e with
    heldTx := held
    holdTx := if held then e.holdTx + 1 else 0
    sent := 0
    sentLevel := db256 (e.sent + sum) (80 * 1536 * fullScale) }

/-- A temperature lies more than 5 °C from that of a kind's latest coefficients. -/
def LaneExt.warmed (e : LaneExt) (k : Nat) (temp : Int) : Bool := decide (5 < (temp - mapGet 0 e.warm k).natAbs)

/-- The estimators of a lane side have held, or one of its kinds has been disabled, for 480,000 sheets, and the die temperature has moved more
than 5 °C since their latest update (R46). -/
def State.staleSide (s : State) (n : Nat) (tx : Bool) (temp : Int) : Bool :=
  let e := s.laneX n
  (decide (480000 ≤ if tx then e.holdTx else e.holdRx) && e.warmed (if tx then 10 else 9) temp) ||
    (List.range 4).any fun i => let k := if tx then 4 + i else i
      decide (480000 ≤ mapGet 0 e.off k) && e.warmed k temp

/-! ### Lane states -/

/-- RX_STATE of R208. -/
def State.rxStateOf (s : State) (n : Nat) : Nat :=
  if !s.getB Fd.LANE_CTL_RX_EN n then 0
  else if s.synDead (s.synOfRx n) then 4
  else if s.getB Fd.LANE_CAL_STAT_RX_BUSY n then 2
  else if !s.synReady (s.synOfRx n) then 1
  else 3

/-- LSTATE.RX_STATE brought up to date. -/
def State.refreshRx (s : State) (n : Nat) : State := s.set Fd.SYN_LSTATE_RX_STATE (s.rxStateOf n) n

/-- Every RX lane's state brought up to date. -/
def State.refreshRxAll (s : State) : State := forEach (List.range 16) s State.refreshRx

/-- A TX lane is ready (R207). -/
def State.txReady (s : State) (n : Nat) : Bool := s.synReady (s.synOfTx n) && !s.getB Fd.LANE_CAL_STAT_TX_BUSY n

/-- What TX_PENDING waits on (LSTATE.CAUSE): 1 lock, 2 settle, 4 calibration. -/
def State.txCause (s : State) (n : Nat) : Nat :=
  let y := s.synOfTx n
  let lock := match y with
    | some y => s.getB Fd.SYN_SSTAT_LOCK y
    | none => false
  b2n (!lock) + (if lock && !s.synReady y then 2 else 0) + (if s.getB Fd.LANE_CAL_STAT_TX_BUSY n then 4 else 0)

/-- Frame timing is LOCKED or HOLDOVER (Table 10.6). -/
def State.timingHeld (s : State) : Bool := s.get Fd.TDD_STAT_STATE == 2 || s.get Fd.TDD_STAT_STATE == 3

/-- Linked windows that name the TX lane (a TDD lane, R207). -/
def State.tddWindowsOf (s : State) (n : Nat) : List Nat := (s.windowsOf n false).filter fun w => s.getB Fd.CHN_WCTL_LINK_EN w

/-- A TDD lane has timing and a valid pattern in every linked window that names it. -/
def State.tddReady (s : State) (n : Nat) : Bool :=
  s.timingHeld && (s.tddWindowsOf n).all fun w => s.getB Fd.TDD_WTDD_PAT_VALID w

/-- The state that a ready lane with a request enters. -/
def State.readyState (s : State) (n : Nat) : Nat :=
  if (s.tddWindowsOf n).isEmpty || s.tddReady n then 4 else 3

/-- FEC outputs with a function and a target. -/
def State.fecsOf (s : State) (func : Nat) (targets : List Nat) : List Nat :=
  (List.range 32).filter fun f => s.get Fd.TDD_FCFG_FUNC f == func && targets.contains (s.get Fd.TDD_FCFG_TARGET f)

/-- tdd.guard lasts for the pair of a linked window: its role has changed within it, or is to change (R217). -/
def State.guardOn (s : State) (w t : Nat) : Bool :=
  let d := if s.getB Fd.CHN_WCTL_TDD_UL w then s.get Fd.CHN_WCTL_LINK_W w else w
  let e := mapGet PairExt.reset s.tdd.pairs d
  let g := (divRnd ((s.get Fd.TDD_GUARD_NS * 3072 : Nat) : Int) 3125).toNat
  (e.rolePend && decide (e.paOffAt ≤ t)) || (e.roleAt != 0 && decide (e.roleAt ≤ t) && decide (t < e.roleAt + g))

/-- A lane enters or leaves ACTIVE (events 3 and 4 of Table 10.9, R216): where its output ended, after the ramp of R52; the PA_EN assertion of a
lane that enters within the guard of its pair waits (R217; DEDUCED, log entry 128). -/
def State.noteActive (s : State) (n was st : Nat) : State :=
  let t := s.time.gt * 1536
  if st = 4 then
    let s := { s with tdd := { s.tdd with entered := s.tdd.entered ||| 2 ^ n } }
    if (s.tddWindowsOf n).any fun w => s.guardOn w t then forEach (s.fecsOf 1 [n]) s fun s f => s.setB Fd.TDD_FCFG_GUARD_HIT true f else s
  else if was = 4 then
    { s with tdd := { s.tdd with left := s.tdd.left ||| 2 ^ n } }.setLaneX n { s.laneX n with endedAt := some (t + 128) }
  else s

/-- Put a TX lane into a state of Table 10.3: SRC_STATE, CAUSE and PEND_T with it, and the lanes of waiting commands that enter
TDD_WAIT. -/
def State.enterTx (s : State) (n st : Nat) : State :=
  if s.get Fd.SYN_LSTATE_TX_STATE n = st then s
  else
    let was := s.get Fd.SYN_LSTATE_TX_STATE n
    let s := s.noteActive n was st
    let s := (s.set Fd.SYN_LSTATE_TX_STATE st n).set Fd.SYN_LSTATE_PEND_T 0 n
    let s := (s.setB Fd.LANE_TX_MUTE_SRC_STATE (decide (st ≠ 4)) n).updateMuted n
    let s := s.set Fd.SYN_LSTATE_CAUSE (if st = 2 then s.txCause n else 0) n
    if st = 3 then
      let mark := fun w : LaneWait => if bit w.asked n then { w with waited := w.waited ||| 2 ^ n } else w
      { s with lane := { s.lane with waits := s.lane.waits.map mark } }
    else s

/-- The state of Table 10.4 that a TX lane moves to at a boundary; `start` says that a period of the pattern starts there. -/
def State.nextTx (s : State) (n : Nat) (start : Bool) : Nat :=
  let st := s.get Fd.SYN_LSTATE_TX_STATE n
  let req := s.getB Fd.SYN_LSTATE_TX_REQ n
  let fault := s.synDead (s.synOfTx n) || (s.laneX n).calFailed
  if !s.getB Fd.LANE_CTL_TX_EN n then 0
  else if st = 0 then 1
  else if fault then 5
  else if !req then 1
  else if st = 3 ∨ st = 4 then
    if !s.synReady (s.synOfTx n) then 2
    else if st = 3 then (if s.readyState n = 4 ∧ ((s.tddWindowsOf n).isEmpty ∨ start) then 4 else 3)
    else s.readyState n
  else if s.txReady n then s.readyState n
  else 2

/-- The stream sample from which a TX lane is known to emit: the boundary at which it enters ACTIVE, where it is ready or only settling is left
(R216, R220; DEDUCED, log entry 128). -/
def State.txFrom (s : State) (n : Nat) : Option Nat :=
  let st := s.get Fd.SYN_LSTATE_TX_STATE n
  if st = 4 then some (s.time.gt * 1536)
  else if !(s.getB Fd.LANE_CTL_TX_EN n && s.getB Fd.SYN_LSTATE_TX_REQ n) || s.synDead (s.synOfTx n) || (s.laneX n).calFailed ||
      s.getB Fd.LANE_CAL_STAT_TX_BUSY n || s.readyState n != 4 || (st != 1 && st != 2) then none
  else match s.synOfTx n with
    | none => none
    | some y =>
      if s.synReady (some y) then some ((s.time.gt + 1) * 1536)
      else if s.getB Fd.SYN_SSTAT_LOCK y then some (((s.synX y).lockAt + s.legN 0x1040 + 1) * 1536)
      else none

/-- One TX lane's transition at a boundary (Table 10.4). Entering TX_PENDING from ACTIVE, TDD_WAIT or FAULT sets no timeout. -/
def State.laneStep (s : State) (n : Nat) (start : Bool) : State :=
  let st := s.get Fd.SYN_LSTATE_TX_STATE n
  let nx := s.nextTx n start
  let s := if nx = 2 ∧ st ≠ 2 then s.setLaneX n { s.laneX n with pendLoss := decide (3 ≤ st) } else s
  let s := if nx = 0 then s.setB Fd.SYN_LSTATE_TX_REQ false n else s
  s.enterTx n nx

/-- Complete the LANE_TX commands whose lanes have all left TX_PENDING (R209). -/
def State.finishLaneTx (s : State) : State :=
  let done := s.lane.waits.filter fun w =>
    w.taken && (maskList w.asked 16).all fun n => s.get Fd.SYN_LSTATE_TX_STATE n != 2
  let s := { s with lane := { s.lane with waits := s.lane.waits.filter fun w =>
    !(w.taken && (maskList w.asked 16).all fun n => s.get Fd.SYN_LSTATE_TX_STATE n != 2) } }
  forEach done s fun s w =>
    let active := listMask ((maskList w.asked 16).filter fun n => s.get Fd.SYN_LSTATE_TX_STATE n == 4)
    s.complete w.mb w.cmd (if w.timedOut = 0 then 0 else 9) [wd active, wd w.timedOut, wd w.waited]

/-- Every TX lane's transition at a boundary, and the commands that it completes. -/
def State.laneTransitions (s : State) (start : Nat → Bool) : State :=
  let s := forEach (List.range 16) s fun s n => s.laneStep n (start n)
  let s := forEach (List.range 16) s fun s n =>
    if s.get Fd.SYN_LSTATE_TX_STATE n = 2 then s.set Fd.SYN_LSTATE_CAUSE (s.txCause n) n else s
  let s := { s with lane := { s.lane with waits := s.lane.waits.map fun w : LaneWait => { w with taken := true } } }
  s.refreshRxAll.finishLaneTx

/-- The unmute ramps that begin at a boundary (R53). -/
def State.beginRamps (s : State) : State :=
  let l := maskList s.lane.unmute 16
  let s := { s with lane := { s.lane with unmute := 0 } }
  forEach l s fun s n => s.setB Fd.LANE_TX_MUTE_RAMPING true n

/-- Ramps of 256 samples end within a grid tick (R52, R53). -/
def State.endRamps (s : State) : State :=
  forEach (List.range 16) s fun s n => s.setB Fd.LANE_TX_MUTE_RAMPING false n

/-- Grid ticks in TX_PENDING, counted at each boundary. -/
def State.countPending (s : State) (k : Nat) : State :=
  forEach (List.range 16) s fun s n =>
    if s.get Fd.SYN_LSTATE_TX_STATE n = 2 then s.addSat Fd.SYN_LSTATE_PEND_T k n else s

/-! ### Synthesisers (R204 to R206) -/

/-- A synthesiser has lost lock and not regained it (R206): a lock sequence that no SCFG write started, or DEAD after one. -/
def State.synLost (s : State) (y : Option Nat) : Bool :=
  match y with
  | some q => (s.get Fd.SYN_SSTAT_STATE q == 1 || s.get Fd.SYN_SSTAT_STATE q == 3) && !(s.synX q).cold
  | none => false

/-- Start a lock sequence (R205). -/
def State.startLock (s : State) (y : Nat) : State :=
  let s := ((s.set Fd.SYN_SSTAT_STATE 1 y).setB Fd.SYN_SSTAT_LOCK false y).setB Fd.SYN_SSTAT_SETTLED false y
  let s := (s.setSynX y ⟨0, 0, true⟩).refreshRxAll
  if (List.range 8).any fun q => s.get Fd.SYN_SSTAT_STATE q == 3 then s else s.clearSource 270

/-- A write of SCFG.FREQ (R205). -/
def State.writeFreq (s : State) (y freq : Nat) : State :=
  if freq < 380000 ∨ 7200000 < freq then s.setB Fd.SYN_GSTAT_FREQ_ERR true
  else if freq ≠ s.get Fd.SYN_SCFG_FREQ y then (s.set Fd.SYN_SCFG_FREQ freq y).startLock y
  else if s.get Fd.SYN_SSTAT_STATE y = 0 ∨ s.get Fd.SYN_SSTAT_STATE y = 3 then s.startLock y
  else s

/-- Lanes, RX and TX, that name a synthesiser in an LSRC store where lane `n` has the image `img`. -/
def State.lanesNaming (s : State) (n : Nat) (img y : Nat) : Nat :=
  (List.range 16).foldl (fun a k =>
    let v := if k = n then img else (s.reg (Reg.SYN_LSRC.off k 0)).toNat
    a + b2n (bit v 7 && bitsAt v 6 4 == y) + b2n (bit v 3 && bitsAt v 2 0 == y)) 0

/-- An LSRC image would give a synthesiser a fifth lane (R204). -/
def State.fifthLane (s : State) (n img : Nat) : Bool := (List.range 8).any fun y => decide (4 < s.lanesNaming n img y)

/-- The LSRC word of lane `k` where lane `n` has the image `img`. -/
def State.lsrcWith (s : State) (n img k : Nat) : Nat := if k = n then img else (s.reg (Reg.SYN_LSRC.off k 0)).toNat

/-- A window's branches A and B share a synthesiser, in an LSRC store where lane `n` has the image `img` (R204). -/
def State.branchesShare (s : State) (w n img : Nat) : Bool :=
  let rx := fun k => let v := s.lsrcWith n img k; if bit v 3 then [bitsAt v 2 0] else []
  let tx := fun k => let v := s.lsrcWith n img k; if bit v 7 then [bitsAt v 6 4] else []
  let a := rx (s.get Fd.CHN_WLANE_RX_A w) ++ tx (s.get Fd.CHN_WLANE_TX_A w)
  let b := rx (s.get Fd.CHN_WLANE_RX_B w) ++ tx (s.get Fd.CHN_WLANE_TX_B w)
  a.any b.contains

/-- A write of LSRC (R204): one that would give a synthesiser a fifth lane is ignored and sets MAP_ERR. `v` is the word with the
RWE rule applied. -/
def State.writeLsrc (s : State) (n : Nat) (v : Word) : State :=
  if s.fifthLane n v.toNat then s.setB Fd.SYN_GSTAT_MAP_ERR true
  else (s.setReg (Reg.SYN_LSRC.off n 0) v).refreshRx n

/-- LANE_TUNE commands that wait on a synthesiser complete with a status and payload. -/
def State.finishTunes (s : State) (y status : Nat) (payload : List Word) : State :=
  let done := s.lane.tunes.filter fun w => w.syn == y
  let s := { s with lane := { s.lane with tunes := s.lane.tunes.filter fun w => w.syn != y } }
  forEach done s fun s w => s.complete w.mb w.cmd status payload

/-- SYN_LOCK (R205): a synthesiser that locks reaches LOCK. -/
def execSynLock (syn : Fin 8) (s : State) : Out := s.whenLive <|
  .next (if s.get Fd.SYN_SSTAT_STATE syn = 1 then
    let s := (s.set Fd.SYN_SSTAT_STATE 2 syn).setB Fd.SYN_SSTAT_LOCK true syn
    s.setSynX syn { s.synX syn with lockAt := s.time.gt }
  else s)

/-- SYN_SETTLED (R207): syn.settle grid ticks after LOCK, at the boundary that follows, SETTLED sets; lanes that wait become
ready, and a LANE_TUNE completes OK. -/
def execSynSettled (syn : Fin 8) (s : State) : Out := s.whenLive <|
  .next (if s.getB Fd.SYN_SSTAT_LOCK syn && !s.getB Fd.SYN_SSTAT_SETTLED syn &&
      decide ((s.synX syn).lockAt + s.legN 0x1040 < s.time.gt) then
    let s := s.setB Fd.SYN_SSTAT_SETTLED true syn
    ((s.laneTransitions fun _ => false).beginRamps).finishTunes syn 0 []
  else s)

/-- SYN_UNLOCK (R206): LOCK and SETTLED clear, RELOCKS counts, the source reports, and relock attempts begin; a calibration that
runs on a lane it feeds will end NO_LOCK (Table 10.11). -/
def execSynUnlock (syn : Fin 8) (s : State) : Out := s.whenLive <|
  .next (if s.getB Fd.SYN_SSTAT_LOCK syn then
    let s := ((s.set Fd.SYN_SSTAT_STATE 1 syn).setB Fd.SYN_SSTAT_LOCK false syn).setB Fd.SYN_SSTAT_SETTLED false syn
    let s := (s.addSat Fd.SYN_SSTAT_RELOCKS 1 syn).setSynX syn ⟨0, 0, false⟩
    let tx := s.txOfSyn syn
    let rx := s.rxOfSyn syn
    let s := forEach (List.range 16) s fun s n =>
      let m := b2n (bit rx n && s.getB Fd.LANE_CAL_STAT_RX_BUSY n) + 2 * b2n (bit tx n && s.getB Fd.LANE_CAL_STAT_TX_BUSY n)
      if m = 0 then s else s.setLaneX n { s.laneX n with calLost := (s.laneX n).calLost ||| m }
    (s.refreshRxAll).pulseOn 269 tx (s.synDomains syn)
  else s)

/-- LOCK_ATTEMPT_TIMEOUT (R206): an attempt failed; after the last one the synthesiser is DEAD and a LANE_TUNE completes
SYN_TIMEOUT with SSTAT. -/
def execLockAttemptTimeout (syn : Fin 8) (s : State) : Out := s.whenLive <|
  .next (if s.get Fd.SYN_SSTAT_STATE syn = 1 then
    let e := s.synX syn
    let s := s.setSynX syn { e with fails := e.fails + 1 }
    if e.fails + 1 < s.legN 0x1041 + b2n e.cold then s
    else
      let s := (s.set Fd.SYN_SSTAT_STATE 3 syn).refreshRxAll
      let s := s.raiseOn 270 (s.txOfSyn syn) (s.synDomains syn)
      s.finishTunes syn 9 [s.reg (Reg.SYN_SSTAT.off syn 0)]
  else s)

/-- TX_PENDING_TIMEOUT (R207): a lane not ready 1,280 grid ticks after the acceptance of its request returns to IDLE, and the
request is dropped. -/
def execTxPendingTimeout (n : Fin 16) (s : State) : Out := s.whenLive <|
  .next (if s.get Fd.SYN_LSTATE_TX_STATE n = 2 ∧ !(s.laneX n).pendLoss ∧ (s.laneX n).pendFrom + 1280 ≤ s.time.gt ∧ !s.txReady n then
    let s := s.setB Fd.SYN_LSTATE_TX_REQ false n
    let mark := fun w : LaneWait => if bit w.asked n then { w with timedOut := w.timedOut ||| 2 ^ n.val } else w
    let s := { s with lane := { s.lane with waits := s.lane.waits.map mark } }
    (s.enterTx n 1).finishLaneTx
  else s)

/-! ### Foreground calibration (R54 to R56, R336) -/

/-- In each running window that names the lane side, the other branch is repeating with no mute source set (R55). -/
def State.calPermitted (s : State) (n : Nat) (tx : Bool) : Bool :=
  ((s.windowsOf n !tx).filter s.running).all fun w =>
    let inA := if tx then s.get Fd.CHN_WLANE_TX_A w == n else s.get Fd.CHN_WLANE_RX_A w == n
    let rx := if inA then s.get Fd.CHN_WLANE_RX_B w else s.get Fd.CHN_WLANE_RX_A w
    let t := if inA then s.get Fd.CHN_WLANE_TX_B w else s.get Fd.CHN_WLANE_TX_A w
    s.get Fd.SYN_LSTATE_TX_STATE t == 4 && !s.getB Fd.LANE_TX_MUTE_MUTED t && s.get Fd.SYN_LSTATE_RX_STATE rx == 3

/-- A start of an in-service calibration of a lane side (R55): nothing while it is busy; REFUSED where the side is disabled or a
window does not permit it; otherwise it runs. -/
def State.startCal (s : State) (n : Nat) (tx : Bool) : State :=
  if tx then
    if s.getB Fd.LANE_CAL_STAT_TX_BUSY n then s
    else if s.getB Fd.LANE_CTL_TX_EN n && s.calPermitted n true then
      let s := (s.setB Fd.LANE_CAL_STAT_TX_BUSY true n).setB Fd.LANE_TX_MUTE_SRC_CAL true n
      let lost := if s.synReady (s.synOfTx n) then 0 else 2
      (s.updateMuted n).setLaneX n { s.laneX n with calLost := ((s.laneX n).calLost &&& 1) ||| lost }
    else s.set Fd.LANE_CAL_STAT_TX_RESULT 5 n
  else
    if s.getB Fd.LANE_CAL_STAT_RX_BUSY n then s
    else if s.getB Fd.LANE_CTL_RX_EN n && s.calPermitted n false then
      let s := s.setB Fd.LANE_CAL_STAT_RX_BUSY true n
      let lost := if s.synReady (s.synOfRx n) then 0 else 1
      (s.refreshRx n).setLaneX n { s.laneX n with calLost := ((s.laneX n).calLost &&& 2) ||| lost }
    else s.set Fd.LANE_CAL_STAT_RX_RESULT 5 n

/-- CAL_START commands of a lane none of whose calibrations is left complete (R336). -/
def State.finishCals (s : State) (n : Nat) : State :=
  let busy := b2n (s.getB Fd.LANE_CAL_STAT_RX_BUSY n) + 2 * b2n (s.getB Fd.LANE_CAL_STAT_TX_BUSY n)
  let isDone := fun w : CalWait => w.lane == n && w.sides &&& busy == 0
  let done := s.lane.cals.filter isDone
  let s := { s with lane := { s.lane with cals := s.lane.cals.filter fun w => !isDone w } }
  let rx := s.get Fd.LANE_CAL_STAT_RX_RESULT n
  let tx := s.get Fd.LANE_CAL_STAT_TX_RESULT n
  forEach done s fun s w =>
    let pass := (!bit w.sides 0 || rx == 1) && (!bit w.sides 1 || tx == 1)
    s.complete w.mb w.cmd (if pass then 0 else 7) [s.reg (Reg.LANE_CAL_STAT.off n 0)]

/-- The code of a result (Table 2.8). -/
def calCode : CalResult → Nat
  | .pass => 1
  | .range => 2
  | .noLock => 3
  | .level => 4

/-- The end of a calibration (R56): the result is recorded (NO_LOCK where lock was lost during the run); a failure leaves the coefficients in
force and raises LANE_CAL, and for TX takes the lane to FAULT; a PASS forms new coefficients of the side and clears an earlier failure. A
PASS starts the counts of R46 of the side anew, another result leaves them (log entry 122). -/
def State.endCal (s : State) (n : Nat) (tx : Bool) (result : CalResult) : State :=
  let e := s.laneX n
  let side := if tx then 2 else 1
  let code := if e.calLost &&& side ≠ 0 then 3 else calCode result
  let kinds := if tx then [4, 5, 6, 7] else [0, 1, 2, 3, 8]
  let e := if code = 1 then { e.form tx kinds (s.dieTemp n) with off := kinds.foldl (fun m k => mapSet 0 m k 0) e.off } else e
  if tx then
    if s.getB Fd.LANE_CAL_STAT_TX_BUSY n then
      let s := (s.setB Fd.LANE_CAL_STAT_TX_BUSY false n).set Fd.LANE_CAL_STAT_TX_RESULT code n
      let s := s.setLaneX n { e with
        calLost := e.calLost &&& 1, calFailed := decide (code ≠ 1), calTx := s.time.opSec, holdTx := if code = 1 then 0 else e.holdTx }
      let s := (s.setB Fd.LANE_TX_MUTE_SRC_CAL false n).updateMuted n
      let s := if code = 1 then s
        else (if s.get Fd.SYN_LSTATE_TX_STATE n = 0 then s else s.enterTx n 5).pulseOn (4 * n + 3) (2 ^ n)
          (s.laneDomains n)
      s.finishLaneTx.finishCals n
    else s
  else if s.getB Fd.LANE_CAL_STAT_RX_BUSY n then
    let s := (s.setB Fd.LANE_CAL_STAT_RX_BUSY false n).set Fd.LANE_CAL_STAT_RX_RESULT code n
    let s := (s.setLaneX n { e with
      calLost := e.calLost &&& 2, calRx := s.time.opSec, holdRx := if code = 1 then 0 else e.holdRx }).refreshRx n
    let s := if code = 1 then s else s.pulseOn (4 * n + 3) 0 (s.laneDomains n)
    s.finishCals n
  else s

/-- The foreground calibrations that firmware has scheduled start, each where R55 permits it; the others wait for the next sheet boundary
(DESIGN CHOICE, log entry 122). -/
def State.runCalDue (s : State) : State :=
  if s.getB Fd.MBX_CSTAT_READY then
    forEach (maskList s.lane.calDue 32) s fun s b =>
      let n := b % 16
      let tx := decide (16 ≤ b)
      let en := if tx then s.getB Fd.LANE_CTL_TX_EN n else s.getB Fd.LANE_CTL_RX_EN n
      if en && s.calPermitted n tx then
        { s with lane := { s.lane with calDue := maskClear s.lane.calDue (2 ^ b) } }.startCal n tx
      else s
  else s

/-- A foreground calibration of a lane side is scheduled. -/
def State.scheduleCal (s : State) (n : Nat) (tx : Bool) : State :=
  { s with lane := { s.lane with calDue := s.lane.calDue ||| 2 ^ (n + 16 * b2n tx) } }

/-- CORR_STALE (R46): a side of the lane is stale at the die temperature `temp`, °C. Firmware schedules a foreground calibration of each
side that is stale. -/
def execCorrStale (n : Fin 16) (temp : Int) (s : State) : Out := s.whenLive <|
  .next (if s.staleSide n false temp || s.staleSide n true temp then
    let t := (s.setB Fd.LANE_RX_STAT_CORR_STALE true n).pulseOn (4 * n + 2) 0 (s.laneDomains n)
    let t := if s.staleSide n false temp then t.scheduleCal n false else t
    (if s.staleSide n true temp then t.scheduleCal n true else t).runCalDue
  else s)

/-- CALIBRATION_END, R56. -/
def execCalibrationEnd (n : Fin 16) (tx : Bool) (result : CalResult) (s : State) : Out := s.whenLive <| .next (s.endCal n tx result)

/-- Operating seconds since the latest calibration of a lane side ended, at least lane.recal_interval hours (R55). -/
def State.recalElapsed (s : State) (n : Nat) (tx : Bool) : Bool :=
  decide ((if tx then (s.laneX n).calTx else (s.laneX n).calRx) + 3600 * s.legN 0x1018 ≤ s.time.opSec)

/-- RECAL_DUE (R55): lane.recal_interval has elapsed for an enabled lane side since its latest calibration, and firmware starts an in-service
calibration, at once or as soon as R55 permits it. -/
def execRecalDue (n : Fin 16) (tx : Bool) (s : State) : Out := s.whenLive <|
  let en := if tx then s.getB Fd.LANE_CTL_TX_EN n else s.getB Fd.LANE_CTL_RX_EN n
  .next (if en && s.recalElapsed n tx then (s.scheduleCal n tx).runCalDue else s)

/-- CAL_START (opcode 0x45; R336). -/
def execCalStart (mb : Fin 20) (s : State) : Out := s.whenLive <|
  .next (s.runCommand mb 0x45 fun s c => s.checked mb c 3 false fun s =>
    let n := wbits (c.word 1) 3 0
    let sides := wbits (c.word 1) 5 4
    if sides = 0 then s.complete mb c 4
    else
      let refused := fun tx => !(if tx then s.getB Fd.LANE_CTL_TX_EN n else s.getB Fd.LANE_CTL_RX_EN n) || !s.calPermitted n tx
      let bad := (bit sides 0 && refused false) || (bit sides 1 && refused true)
      if bad then
        let s := if bit sides 0 && refused false then s.startCal n false else s
        let s := if bit sides 1 && refused true then s.startCal n true else s
        s.complete mb c 7 [s.reg (Reg.LANE_CAL_STAT.off n 0)]
      else
        let s := if bit sides 0 then s.startCal n false else s
        let s := if bit sides 1 then s.startCal n true else s
        { s with lane := { s.lane with cals := s.lane.cals ++ [⟨mb, c, n, sides⟩] } })

/-! ### Lane commands (R209, R210) -/

/-- LANE_TX (opcode 0x3C; R209). -/
def execLaneTx (mb : Fin 20) (s : State) : Out := s.whenLive <|
  .next (s.runCommand mb 0x3C fun s c =>
    let mask := wbits (c.word 1) 15 0
    let req := wbits (c.word 2) 15 0
    let lanes := maskList mask 16
    let changed := lanes.filter fun n => s.getB Fd.SYN_LSTATE_TX_REQ n != bit req n
    let permissive := changed.any fun n => bit req n
    s.checked mb c 3 permissive fun s =>
      if lanes.any fun n => bit req n && !s.getB Fd.LANE_CTL_TX_EN n then s.complete mb c 7
      else
        s.asOrder mb c (!permissive) (changed.map fun n => (targetKey 0x3C n, b2n (bit req n)))
          (changed.map fun n => (Reg.SYN_LSTATE.off n 0, 0x80)) fun s =>
          let s := s.acceptEarly mb c
          let s := forEach changed s fun s n =>
            (s.setB Fd.SYN_LSTATE_TX_REQ (bit req n) n).setLaneX n { s.laneX n with pendFrom := c.acceptedAt }
          let w : LaneWait := ⟨mb, c.accepted, listMask (lanes.filter fun n => bit req n), 0, 0, false⟩
          { s with lane := { s.lane with waits := s.lane.waits ++ [w] } })

/-- A lane that a synthesiser feeds belongs to a running window, or its foreground calibration runs (R205). -/
def State.retuneForbidden (s : State) (y : Nat) : Bool :=
  (List.range 16).any fun n =>
    (bit (s.rxOfSyn y) n && (s.getB Fd.LANE_CAL_STAT_RX_BUSY n || (s.windowsOf n true).any s.running)) ||
    (bit (s.txOfSyn y) n && (s.getB Fd.LANE_CAL_STAT_TX_BUSY n || (s.windowsOf n false).any s.running))

/-- LANE_TUNE (opcode 0x3D; R209). -/
def execLaneTune (mb : Fin 20) (s : State) : Out := s.whenLive <|
  .next (s.runCommand mb 0x3D fun s c =>
    let y := wbits (c.word 1) 2 0
    let freq := (c.word 2).toNat
    let same := freq == s.get Fd.SYN_SCFG_FREQ y
    s.checked mb c 3 (!same) fun s =>
      if freq < 380000 ∨ 7200000 < freq then s.complete mb c 4
      else if s.lane.tunes.any fun w => w.syn == y then s.complete mb c 6
      else if !same && s.retuneForbidden y then s.complete mb c 7
      else
        s.asOrder mb c false (if same then [] else [(targetKey 0x3D y, freq)])
          (if same then [] else [(Reg.SYN_SCFG.off y 0, 0xFFFFFFFF)]) fun s =>
          let s := s.acceptEarly mb c
          let s := s.writeFreq y freq
          if s.getB Fd.SYN_SSTAT_SETTLED y then s.complete mb c.accepted 0
          else { s with lane := { s.lane with tunes := s.lane.tunes ++ [⟨mb, c.accepted, y⟩] } })

/-- CON.WBASE[w].TXREF = 96 − 8 × min(ATTEN of TX_A, ATTEN of TX_B), as R144 requires. -/
def State.writeTxref (s : State) (w : Nat) : State :=
  let a := min (s.get Fd.LANE_TX_ATTEN_ATTEN (s.get Fd.CHN_WLANE_TX_A w)) (s.get Fd.LANE_TX_ATTEN_ATTEN (s.get Fd.CHN_WLANE_TX_B w))
  s.setI Fd.CON_WBASE_TXREF (96 - 8 * (a : Int)) w

/-- A write of CTL (RWE fields already ruled): clearing TX_EN drops the TX request (Table 10.4). -/
def State.writeLaneCtl (s : State) (n : Nat) (v : Word) : State :=
  let s := s.setReg (Reg.LANE_CTL.off n 0) v
  let s := if s.getB Fd.LANE_CTL_TX_EN n then s else s.setB Fd.SYN_LSTATE_TX_REQ false n
  s.refreshRx n

/-- A LANE_CONFIG takes effect at a grid tick boundary (R210). -/
def State.applyLaneConfig (s : State) (w : ConfigWait) : State :=
  let n := w.lane
  let s := s.writeLsrc n (wd (wbits (w.cmd.word 2) 7 0))
  let s := s.writeLaneCtl n (wd ((wbits (w.cmd.word 3) 7 0) &&& 0xF3))
  let s := (s.set Fd.LANE_RX_GAIN_LIMIT (min (wbits (w.cmd.word 4) 5 0) 39) n).refreshApplied n
  let s := s.set Fd.LANE_TX_ATTEN_ATTEN (wbits (w.cmd.word 5) 5 0) n
  forEach (s.windowsOf n false) s State.writeTxref

/-- The LANE_CONFIG commands whose boundary has come. -/
def State.applyLaneConfigs (s : State) : State :=
  let l := s.lane.configs
  let s := { s with lane := { s.lane with configs := [] } }
  forEach l s State.applyLaneConfig

/-- Completion of the LANE_CONFIG commands that took effect, with LSTATE. -/
def State.finishLaneConfigs (s : State) (l : List ConfigWait) : State :=
  forEach l s fun s w => s.complete w.mb w.cmd 0 [s.reg (Reg.SYN_LSTATE.off w.lane 0)]

/-- LANE_CONFIG (opcode 0x3F; R210). -/
def execLaneConfig (mb : Fin 20) (s : State) : Out := s.whenLive <|
  .next (s.runCommand mb 0x3F fun s c =>
    let n := wbits (c.word 1) 3 0
    let lsrc := wbits (c.word 2) 7 0
    let ctl := (wbits (c.word 3) 7 0) &&& 0xF3
    let limit := min (wbits (c.word 4) 5 0) 39
    let atten := wbits (c.word 5) 5 0
    let oldSrc := (s.reg (Reg.SYN_LSRC.off n 0)).toNat
    let oldCtl := (s.reg (Reg.LANE_CTL.off n 0)).toNat
    let oldLim := s.get Fd.LANE_RX_GAIN_LIMIT n
    let oldAtt := s.get Fd.LANE_TX_ATTEN_ATTEN n
    let rwe := lsrc != oldSrc || ctl / 16 != oldCtl / 16
    let permissive := rwe || decide (maskClear (ctl % 4) (oldCtl % 4) ≠ 0) || decide (oldLim < limit) || decide (atten < oldAtt)
    let targets := (if lsrc != oldSrc then [(targetKey 0x3F n, lsrc)] else []) ++
      (if ctl != oldCtl then [(targetKey 0x3F (n + 16), ctl)] else []) ++
      (if limit != oldLim then [(targetKey 0x3F (n + 32), limit)] else []) ++
      (if atten != oldAtt then [(targetKey 0x3F (n + 48), atten)] else [])
    s.checked mb c 3 permissive fun s =>
      if s.fifthLane n lsrc || (List.range 16).any (fun w => s.getB Fd.CHN_WCTL_EN w && s.branchesShare w n lsrc) then
        s.complete mb c 4
      else if rwe && decide (oldCtl % 4 ≠ 0) then s.complete mb c 7
      else
        s.asOrder mb c (!permissive) targets
          [(Reg.SYN_LSRC.off n 0, 0xFF), (Reg.LANE_CTL.off n 0, 0xF3), (Reg.LANE_RX_GAIN.off n 0, 0x3F00),
           (Reg.LANE_TX_ATTEN.off n 0, 0x3F)] fun s =>
          { s with lane := { s.lane with configs := s.lane.configs ++ [⟨mb, c, n⟩] } })

end Sys2Proof.Machine
end

