-- ==== Sys2Proof/Machine/Frame.lean ====
section
/-!
DEFINITION. Frame timing as the datapath sees it (10_synthesisers_lane_states_tdd.md R211 to R215): the frame phase, the segments of a
pattern, and the gates of the members of a linked pair. Times are stream samples since the sheet counter was cleared: 1,536 in a grid
tick; a frame is 9,830,400.
-/

namespace Sys2Proof.Machine

/-! ### Frame phase (R211, R212) -/

/-- Stream samples in a frame, and in a second. -/
def frameLen : Nat := 9830400

/-- Nanoseconds in stream samples, and back, rounded (983.04 MS/s). -/
def nsToSamples (ns : Int) : Int := divRnd (ns * 3072) 3125

def samplesToNs (n : Int) : Int := divRnd (n * 3125) 3072

/-- The first stream sample of the present grid tick. -/
def State.now (s : State) : Nat := s.time.gt * 1536

/-- A phase difference brought into [−4,915,200, 4,915,200). -/
def centred (d : Int) : Int := (d + 4915200) % 9830400 - 4915200

/-- The frame phase at a stream sample. -/
def State.phaseAt (s : State) (t : Nat) : Nat := (s.tdd.phase0 + t) % frameLen

/-! ### Patterns (R213 to R215) -/

def State.pair (s : State) (w : Nat) : PairExt := mapGet PairExt.reset s.tdd.pairs w

def State.setPair (s : State) (w : Nat) (p : PairExt) : State :=
  { s with tdd := { s.tdd with pairs := mapSet PairExt.reset s.tdd.pairs w p } }

/-- Pattern time at a stream sample: samples since the pattern's own frame start (R214). -/
def State.patternTime (s : State) (p : Pattern) (t : Nat) : Nat :=
  (((s.phaseAt t : Int) - nsToSamples p.offset) % 9830400).toNat

/-- The symbol of the frame in which a pattern time lies: 7 × 2^SCS symbols in each 0.5 ms, of 70,144 ÷ 2^SCS samples, the first one
512 longer (R213). -/
def symbolAt (scs tau : Nat) : Nat :=
  let l := 70144 / 2 ^ scs
  let u := tau % 491520
  tau / 491520 * (7 * 2 ^ scs) + (if u < l + 512 then 0 else 1 + (u - l - 512) / l)

/-- The segment of a symbol: its index and role; role 3 beyond the last. -/
def segmentOf : List (Nat × Nat) → Nat → Nat → Nat × Nat
  | [], _, i => (i, 3)
  | (r, n) :: es, k, i => if k < n then (i, r) else segmentOf es (k - n) (i + 1)

/-- Segment of a pattern at a stream sample: index and role (0 DL, 1 UL, 2 GAP). -/
def State.segmentAt (s : State) (p : Pattern) (t : Nat) : Nat × Nat :=
  segmentOf p.segs (symbolAt p.scs (s.patternTime p t) % max p.symbols 1) 0

/-- Samples of a pattern period. -/
def Pattern.periodSamples (p : Pattern) : Nat := p.period * 98304 / 100

/-- A period of the pattern starts within the grid tick that begins at a stream sample. -/
def State.periodStarts (s : State) (p : Pattern) (t : Nat) : Bool :=
  let n := p.periodSamples
  let u := s.patternTime p t % max n 1
  n != 0 && (u == 0 || decide (n < u + 1536))

/-- The downlink member of a window's pair. -/
def State.downMember (s : State) (w : Nat) : Nat := if s.getB Fd.CHN_WCTL_TDD_UL w then s.get Fd.CHN_WCTL_LINK_W w else w

/-- Frame timing and a pattern are in force for the window (R214, R215). -/
def State.patternInForce (s : State) (w : Nat) : Bool := s.timingHeld && (s.pair w).pattern.valid

/-- The window is the active member for the input sample at its RXIN pins (R215). -/
def State.activeAt (s : State) (w t : Nat) : Bool :=
  let ul := s.getB Fd.CHN_WCTL_TDD_UL w
  if s.patternInForce w then ((s.segmentAt (s.pair w).pattern t).2 == 0) != ul else !ul

/-! ### Gates of a linked pair (R212, R215) -/

/-- Through-delay of a member in samples: WSTAT.DELAY and 0.32 µs (R215). -/
def State.memberDelay (s : State) (w : Nat) : Nat := s.get Fd.CHN_WSTAT_DELAY w + 315

/-- From the last frame start of the old phase to the instant of a step the TX gates of linked windows are closed (R212). -/
def State.stepShut (s : State) (t : Nat) : Bool :=
  match s.tdd.step with
  | some (_, till, from_) => decide (from_ ≤ t) && decide (t < till)
  | none => false

/-- The TX gate of a linked window's member is open for the output sample at an instant at TXOUT (R212, R215). -/
def State.txGate (s : State) (w t : Nat) : Bool := s.activeAt w (t - s.memberDelay w) && !s.stepShut t

end Sys2Proof.Machine
end

