-- ==== Sys2Proof/Machine/Window.lean ====
section
/-!
DEFINITION. Windows, routes and banks (03_channeliser_windows_routes.md): the indirect tables, the binding checks of R63, R65 and
R69, swaps (R73, R75), and the window commands of Table 3.24, BANK_APPLY apart.
-/

namespace Sys2Proof.Machine

/-! ### Profiles (Tables 3.1 and 3.3) -/

/-- Subbands M of a profile; 0 for direct. -/
def profM (p : Nat) : Nat := [0, 128, 512, 2048].getD p 0

/-- Decimation D: stream samples per subband sample. -/
def profD (p : Nat) : Nat := [1, 96, 384, 1536].getD p 1

/-- Samples per grid tick of one subband, or of the stream for a direct window. -/
def profRate (p : Nat) : Nat := 1536 / profD p

/-- Subband spacing, kHz. -/
def profSpacing (p : Nat) : Nat := [0, 7680, 1920, 480].getD p 0

/-- First usable subband and number of usable subbands. -/
def usableFirst (p : Nat) : Nat := [0, 24, 96, 384].getD p 0

def usableCount (p : Nat) : Nat := [0, 80, 320, 1280].getD p 0

/-- Trim taps T of WCTL.TRIM; 0 for off. -/
def trimTaps (t : Nat) : Nat := [0, 3, 5, 7].getD t 0

/-- Digital latency of Table 3.3, in stream samples. -/
def latency (prof proto trim : Nat) : Nat :=
  (if proto = 0 then [128, 620, 1750, 4441].getD prof 0 else [64, 410, 1174, 3001].getD prof 0) +
    (trimTaps trim - 1) / 2 * (if prof = 0 then 0 else profD prof)

/-- Maximum through-delay of Table 3.3, ns: the latency and 0.33 µs. -/
def maxThrough (prof proto trim : Nat) : Nat := (divRnd ((latency prof proto trim : Int) * 3125) 3072).toNat + 330

/-! ### Indirect tables (Tables 3.5, 3.6, 3.21) -/

/-- Write a word of a bank table: the bank's seal has no CRC until a later pass (R281), and on POS, a region tag of that bank
loses VALID under R135. -/
def State.setTbl (s : State) (w b k i : Nat) (v : Word) : State :=
  { s with
    win := { s.win with tables := mapSet 0 s.win.tables (bankKey w b k i) (wd (v.toNat &&& tblMask k i)) }
    integ := { s.integ with
      chnBank := mapErase s.integ.chnBank (2 * w + b)
      chnDirty := if s.integ.chnDirty.contains (2 * w + b) then s.integ.chnDirty else (2 * w + b) :: s.integ.chnDirty } }

/-- The words of a bank in the order of its seal: KIND 0, 1, 2 (EDGE 0, EDGE 1), 3 (R280). -/
def State.bankWords (s : State) (w b : Nat) : List Word :=
  (List.range 5).flatMap fun k => (List.range (tblLen k)).map fun i => s.tbl w b k i

/-- The CRC-32 of a bank. -/
def State.bankCrc (s : State) (w b : Nat) : Word := crcWords (s.bankWords w b)

/-- A bank is active, or a swap to it is pending (R74). -/
def State.bankBusy (s : State) (w b : Nat) : Bool := s.actBank w == b || s.getB Fd.CHN_WSTAT_SWAP_PEND w

/-- Advance TBL_SEL.INDEX after an access (Table 3.21): at or beyond the last word it wraps to 0 and sets WRAP. -/
def State.tblAdvance (s : State) (len : Nat) : State :=
  let i := s.get Fd.CHN_TBL_SEL_INDEX
  if len ≤ i + 1 then (s.set Fd.CHN_TBL_SEL_INDEX 0).setB Fd.CHN_TBL_STAT_WRAP true
  else s.set Fd.CHN_TBL_SEL_INDEX (i + 1)

/-- The table that TBL_SEL selects: 5 where KIND is reserved. -/
def State.tblKind (s : State) : Nat :=
  match s.get Fd.CHN_TBL_SEL_KIND with
  | 0 => 0
  | 1 => 1
  | 2 => 2 + s.get Fd.CHN_TBL_SEL_EDGE
  | 3 => 4
  | _ => 5

/-- An access through TBL_DATA (R74, Table 3.21): the word read, and the state after. `write` holds the data of a write. A reserved KIND
selects no table, so that INDEX stays and WRAP does not set (log entry 121). -/
def State.tblAccess (s : State) (write : Option Word) : State × Word :=
  let k := s.tblKind
  let i := s.get Fd.CHN_TBL_SEL_INDEX
  let w := s.get Fd.CHN_TBL_SEL_WIN
  let b := s.get Fd.CHN_TBL_SEL_BANK
  if 4 ≤ s.get Fd.CHN_TBL_SEL_KIND then (s.setB Fd.CHN_TBL_STAT_RANGE true, 0)
  else if tblLen k ≤ i then
    (((s.setB Fd.CHN_TBL_STAT_RANGE true).set Fd.CHN_TBL_SEL_INDEX 0).setB Fd.CHN_TBL_STAT_WRAP true, 0)
  else match write with
    | none => (s.tblAdvance (tblLen k), s.tbl w b k i)
    | some v =>
      let s := if s.bankBusy w b then s.setB Fd.CHN_TBL_STAT_ACT_WR true
        else (s.setTbl w b k i v).setB Fd.POS_WTAG_VALID false w b
      (s.tblAdvance (tblLen k), 0)

/-! ### Binding (R63, R65, R69) -/

/-- A linked window's partner. -/
def State.partner (s : State) (w : Nat) : Option Nat :=
  if s.getB Fd.CHN_WCTL_LINK_EN w then some (s.get Fd.CHN_WCTL_LINK_W w) else none

/-- The link condition of R69 fails. A window with LINK_EN = 1 whose named partner does not name it back counts as a link mismatch, not as a
window without a link (DESIGN CHOICE, log entry 123). -/
def State.linkBad (s : State) (w : Nat) : Bool :=
  match s.partner w with
  | none => false
  | some p =>
    !(p != w && s.partner p == some w && s.get Fd.CHN_WCTL_TDD_UL w != s.get Fd.CHN_WCTL_TDD_UL p &&
      s.get Fd.CHN_WCTL_PROFILE w == s.get Fd.CHN_WCTL_PROFILE p && s.get Fd.CHN_WCTL_PROTO w == s.get Fd.CHN_WCTL_PROTO p &&
      s.get Fd.CHN_WCTL_TRIM w == s.get Fd.CHN_WCTL_TRIM p && s.get Fd.CHN_WRX_COUNT w == s.get Fd.CHN_WRX_COUNT p &&
      s.get Fd.CHN_WEDGE_LO_EDGE w == s.get Fd.CHN_WEDGE_LO_EDGE p && s.get Fd.CHN_WEDGE_HI_EDGE w == s.get Fd.CHN_WEDGE_HI_EDGE p)

/-- RX or TX lanes that a window names. -/
def State.lanesOf (s : State) (w : Nat) (rx : Bool) : List Nat :=
  if rx then [s.get Fd.CHN_WLANE_RX_A w, s.get Fd.CHN_WLANE_RX_B w] else [s.get Fd.CHN_WLANE_TX_A w, s.get Fd.CHN_WLANE_TX_B w]

/-- The windows share a lane of the direction. -/
def State.shareLane (s : State) (w v : Nat) (rx : Bool) : Bool := (s.lanesOf w rx).any (s.lanesOf v rx).contains

/-- First subband of a window in a direction. -/
def State.runFirst (s : State) (w : Nat) (rx : Bool) : Nat := if rx then s.get Fd.CHN_WRX_RX_FIRST w else s.get Fd.CHN_WTX_TX_FIRST w

/-- The checks of R63 that rest on a window's own content, 1 to 4, with LINK_W naming itself as 5; 0 where none fails. -/
def contentErr (prof trim : Nat) (wlane wrx wtx lo hi : Word) : Nat :=
  let count := wbits wrx 26 16
  let fits := fun f => usableFirst prof ≤ f && f + count ≤ usableFirst prof + usableCount prof
  let l := signed 20 lo.toNat
  let h := signed 20 hi.toNat
  if wbits wlane 3 0 = wbits wlane 7 4 ∨ wbits wlane 11 8 = wbits wlane 15 12 then 6
  else if prof ≠ 0 ∧ (count = 0 ∨ !(fits (wbits wrx 10 0) && fits (wbits wtx 10 0))) then 3
  else if h ≤ l ∨ 600000 < h - l then 7
  else if (prof = 3 ∧ 1 < trim) ∨ (prof = 0 ∧ trim ≠ 0) then 4
  else 0

/-- The content error of a window as its registers stand. -/
def State.contentErr (s : State) (w : Nat) : Nat :=
  Sys2Proof.Machine.contentErr (s.get Fd.CHN_WCTL_PROFILE w) (s.get Fd.CHN_WCTL_TRIM w) (s.reg (Reg.CHN_WLANE.off w 0))
    (s.reg (Reg.CHN_WRX.off w 0)) (s.reg (Reg.CHN_WTX.off w 0)) (s.reg (Reg.CHN_WEDGE_LO.off w 0)) (s.reg (Reg.CHN_WEDGE_HI.off w 0))

/-- The code of the first failing check of R63 for a window among the enabled windows `others` (itself apart); 0 where it binds. -/
def State.bindErr (s : State) (w : Nat) (others : List Nat) : Nat :=
  let others := others.filter fun v => v != w
  let prof := s.get Fd.CHN_WCTL_PROFILE w
  let onLane := fun rx n => others.filter fun v => (s.lanesOf v rx).contains n
  let direct := fun v => s.get Fd.CHN_WCTL_PROFILE v == 0
  let crowded := fun rx => (s.lanesOf w rx).any fun n =>
    decide (1 < (onLane rx n).length) || (!(onLane rx n).isEmpty && (direct w || (onLane rx n).any direct))
  let mixed := others.any fun v => (s.shareLane w v true || s.shareLane w v false) &&
    (s.get Fd.CHN_WCTL_PROFILE v != prof || s.get Fd.CHN_WCTL_PROTO v != s.get Fd.CHN_WCTL_PROTO w)
  let overlap := fun rx => others.any fun v => s.shareLane w v rx && !direct w &&
    decide (s.runFirst w rx < s.runFirst v rx + s.get Fd.CHN_WRX_COUNT v ∧ s.runFirst v rx < s.runFirst w rx + s.get Fd.CHN_WRX_COUNT w)
  let e := s.contentErr w
  if e ≠ 0 then e
  else if s.linkBad w then 5
  else if crowded true || crowded false then 6
  else if mixed then 1
  else if overlap true || overlap false then 2
  else 0

/-- LO of a lane, kHz, where LSRC names a synthesiser. -/
def State.laneLo (s : State) (n : Nat) (rx : Bool) : Option Nat :=
  (if rx then s.synOfRx n else s.synOfTx n).map fun y => s.get Fd.SYN_SCFG_FREQ y

/-- The frequency rule of R65 is broken. -/
def State.loBad (s : State) (w : Nat) : Bool :=
  let prof := s.get Fd.CHN_WCTL_PROFILE w
  match s.laneLo (s.get Fd.CHN_WLANE_RX_A w) true, s.laneLo (s.get Fd.CHN_WLANE_RX_B w) true,
      s.laneLo (s.get Fd.CHN_WLANE_TX_A w) false, s.laneLo (s.get Fd.CHN_WLANE_TX_B w) false with
  | some ra, some rb, some ta, some tb =>
    ra != rb || ta != tb ||
      decide ((ta : Int) + (s.get Fd.CHN_WTX_TX_FIRST w : Int) * (profSpacing prof : Int) ≠
        (ra : Int) + (s.get Fd.CHN_WRX_RX_FIRST w : Int) * (profSpacing prof : Int))
  | _, _, _, _ => true

/-- Windows with WCTL.EN = 1. -/
def State.enabledWindows (s : State) : List Nat := (List.range 16).filter fun w => s.getB Fd.CHN_WCTL_EN w

/-- RUNNING = bound, EN = 1 and DATUM_DIS = 0 (R64). A window that begins to run resumes its domains from initialisation: they are
closed until their next evaluation (R150, R175; DEDUCED, log entry 71). -/
def State.refreshRunning (s : State) (w : Nat) : State :=
  let was := s.getB Fd.CHN_WSTAT_RUNNING w
  let now := bit s.win.bound w && s.getB Fd.CHN_WCTL_EN w && !s.getB Fd.CHN_WCTL_DATUM_DIS w
  let s := s.setB Fd.CHN_WSTAT_RUNNING now w
  let s := if now != was then { s with can := { s.can with broke := s.can.broke ||| 2 ^ w } } else s
  if now && !was then forEach (s.routeDomains w) s State.awaitInit else s

/-- WSTAT.DELAY reports the digital latency of Table 3.3 for the profile, prototype and trim setting that WCTL holds (R61); it stands at
its reset value until WCTL is first written or the window binds (DEDUCED, log entry 73). -/
def State.reportDelay (s : State) (w : Nat) : State :=
  s.set Fd.CHN_WSTAT_DELAY (latency (s.get Fd.CHN_WCTL_PROFILE w) (s.get Fd.CHN_WCTL_PROTO w) (s.get Fd.CHN_WCTL_TRIM w)) w

/-- A lane's bank loads for its first window at this grid tick boundary (R66): what is built from its cleared history is zero, for the
through-delay at a TX lane, for the analysis half of it at an RX lane (log entry 123). -/
def State.loadBank (s : State) (w n : Nat) (rx : Bool) : State :=
  let shared := (s.windowsOf n rx).any fun v => v != w && bit s.win.bound v
  if shared then s
  else
    let prof := s.get Fd.CHN_WCTL_PROFILE w
    let proto := s.get Fd.CHN_WCTL_PROTO w
    let fill := if rx then (if prof = 0 then 0 else latency prof proto 0 / 2) else latency prof proto (s.get Fd.CHN_WCTL_TRIM w)
    { s with win := { s.win with fresh := mapSet 0 s.win.fresh (2 * n + b2n rx) (1536 * s.time.gt + fill) } }

/-- Bind a window whose checks passed (R61, R64, R66, R72): its lanes' banks load profile and prototype, DELAY is reported, the
Doppler phase is 0. -/
def State.bindWindow (s : State) (w : Nat) : State :=
  let prof := s.get Fd.CHN_WCTL_PROFILE w
  let proto := s.get Fd.CHN_WCTL_PROTO w
  let s := forEach (s.lanesOf w true) s fun s n => s.loadBank w n true
  let s := forEach (s.lanesOf w false) s fun s n => s.loadBank w n false
  let s := { s with win := { s.win with
    bound := s.win.bound ||| 2 ^ w
    phase := mapErase s.win.phase w } }
  let s := { s with win := { s.win with
    trimHist := s.win.trimHist.filter fun p => !((s.lanesOf w false).contains (p.1 / 2048) && decide (s.get Fd.CHN_WTX_TX_FIRST w ≤ p.1 % 2048) &&
      decide (p.1 % 2048 < s.get Fd.CHN_WTX_TX_FIRST w + s.get Fd.CHN_WRX_COUNT w))
    firHist := if prof = 0 then s.win.firHist.filter fun p => !(s.lanesOf w true).contains p.1 else s.win.firHist } }
  let s := forEach (s.lanesOf w true) s fun s n => (s.set Fd.CHN_LPROF_RX_PROFILE prof n).set Fd.CHN_LPROF_RX_PROTO proto n
  let s := forEach (s.lanesOf w false) s fun s n => (s.set Fd.CHN_LPROF_TX_PROFILE prof n).set Fd.CHN_LPROF_TX_PROTO proto n
  (s.reportDelay w).refreshRunning w

/-- Disable a window: EN = 0, and it no longer runs (R66). -/
def State.unbindWindow (s : State) (w : Nat) : State :=
  let s := { s with win := { s.win with bound := maskClear s.win.bound (2 ^ w), binding := maskClear s.win.binding (2 ^ w) } }
  (s.setB Fd.CHN_WCTL_EN false w).refreshRunning w

/-! ### Trim sets and routes (R68, R70) -/

/-- SUBS and FIRST of a trim set's word 0. -/
def trimSubs (v : Word) : Nat := wbits v 18 16

def trimFirst (v : Word) : Nat := wbits v 10 0

/-- Both trim sets of a window are valid (R70), whatever its trim setting, read through `t` by kind and index. -/
def State.trimsOk (s : State) (w : Nat) (t : Nat → Nat → Word) : Bool :=
  let first := s.get Fd.CHN_WTX_TX_FIRST w
  let count := s.get Fd.CHN_WRX_COUNT w
  let ok := fun k =>
    let n := trimSubs (t k 0)
    let f := trimFirst (t k 0)
    decide (n ≤ 3) && (n == 0 || (decide (first ≤ f) && decide (f + n ≤ first + count) &&
      (List.range n).all fun j => bit (t 0 (f + j - first)).toNat 31))
  let nl := trimSubs (t 2 0)
  let nh := trimSubs (t 3 0)
  let fl := trimFirst (t 2 0)
  let fh := trimFirst (t 3 0)
  ok 2 && ok 3 && (nl == 0 || nh == 0 || decide (fl + nl ≤ fh) || decide (fh + nh ≤ fl))

/-- The first entry of a route that breaks R68: a domain seen before its predecessor, or one of another window. -/
def routeFault (foreign : List Nat) : List Word → Nat → Option Nat → List Nat → Option Nat
  | [], _, _, _ => none
  | v :: vs, i, prev, seen =>
    match routeDomain v with
    | none => routeFault foreign vs (i + 1) none seen
    | some d =>
      if foreign.contains d then some i
      else if prev = some d then routeFault foreign vs (i + 1) prev seen
      else if seen.contains d then some i
      else routeFault foreign vs (i + 1) (some d) (d :: seen)

/-- Domains of a route whose words `t` gives, over a window's run. -/
def State.domainsIn (s : State) (w : Nat) (t : Nat → Word) : List Nat :=
  (List.range (min (s.get Fd.CHN_WRX_COUNT w) 1280)).filterMap fun i => routeDomain (t i)

/-- Domains that belong to a window (R68), enabled or not: WDOM of a direct window, else those of its active bank and of a bank that an
unfinished BANK_APPLY has built. A window whose registers describe none that could bind has no domain (DEDUCED, log entry 123). -/
def State.ownedDomains (s : State) (w : Nat) : List Nat :=
  if s.contentErr w ≠ 0 then []
  else if s.get Fd.CHN_WCTL_PROFILE w = 0 then [s.get Fd.CHN_WDOM_DOMAIN w]
  else s.routeDomains w ++
    (if s.win.applies.any fun a => bit (a.toRequest ||| a.requested) w then s.domainsIn w fun i => s.tbl w (1 - s.actBank w) 0 i else [])

/-- Domains that belong to windows other than those of a list. -/
def State.domainsOutside (s : State) (ws : List Nat) : List Nat :=
  ((List.range 16).filter fun v => !ws.contains v).flatMap s.ownedDomains

/-! ### Swaps (R73, R75) -/

/-- The cause for which a window's target bank fails its checks: 8 the seal, 4 the trims, 0 none. -/
def State.swapCause (s : State) (w : Nat) : Nat :=
  let b := 1 - s.actBank w
  if mapGet none (s.integ.chnBank.map fun p => (p.1, some p.2)) (2 * w + b) ≠ some (s.reg (Reg.CHN_BSEAL.off w b)) then 8
  else if s.trimsOk w fun k i => s.tbl w b k i then 0 else 4

/-- Request a swap (R73, R74): nothing while one is pending; for linked windows both. -/
def State.requestSwap (s : State) (w : Nat) : State :=
  if s.getB Fd.CHN_WSTAT_SWAP_PEND w then s
  else
    let p := if s.linkBad w then none else s.partner w
    let s := s.setB Fd.CHN_WSTAT_SWAP_PEND true w
    let s := match p with
      | some v => s.setB Fd.CHN_WSTAT_SWAP_PEND true v
      | none => s
    let both := 2 ^ w ||| (match p with
      | some v => 2 ^ v
      | none => 0)
    { s with win := { s.win with
        refused := maskClear s.win.refused both
        swaps := s.win.swaps ++ [⟨w, s.get Fd.CHN_WCTL_SWAP_ALIGN w, p⟩] } }

/-- A window takes its other bank. -/
def State.takeBank (s : State) (w : Nat) : State :=
  (s.set Fd.CHN_WSTAT_ACT_BANK (1 - s.actBank w) w).setB Fd.CHN_WSTAT_SWAP_PEND false w

/-- A window's swap is refused with a cause (R73); the tag of its target bank loses VALID (R135). -/
def State.refuseBank (s : State) (w cause : Nat) : State :=
  let s := { s with win := { s.win with refused := s.win.refused ||| 2 ^ w } }
  let s := s.setB Fd.POS_WTAG_VALID false w (1 - s.actBank w)
  ((s.setB Fd.CHN_WSTAT_SWAP_PEND false w).setB Fd.CHN_WSTAT_SWAP_REF true w).set Fd.CHN_WSTAT_ERR cause w

/-- One pending swap at its boundary: taken, or refused for the window and its partner (R73). -/
def State.runSwap (s : State) (q : SwapWait) : State :=
  let c := s.swapCause q.win
  match q.partner with
  | none => if c = 0 then s.takeBank q.win else (s.refuseBank q.win c).pulseOn 240 0 (s.windowDomains q.win)
  | some p =>
    let d := s.swapCause p
    if c = 0 ∧ d = 0 then (s.takeBank q.win).takeBank p
    else ((s.refuseBank q.win (if c = 0 then d else c)).refuseBank p (if d = 0 then c else d)).pulseOn 240 0
      (s.windowDomains q.win ||| s.windowDomains p)

/-- BANK_APPLY commands after swaps ended: windows swapped are noted, a refused one completes INTEGRITY, and a command whose last
swap took effect completes OK (R78); from then on the pending copies are the applied copies. -/
def State.finishApplies (s : State) : State :=
  let l := s.win.applies
  let s := { s with win := { s.win with applies := [] } }
  forEach l s fun s a =>
    let ended := (maskList a.requested 16).filter fun w => !s.getB Fd.CHN_WSTAT_SWAP_PEND w
    match ended.find? fun w => bit s.win.refused w with
    | some w => s.complete a.mb a.cmd 8 [wd w, wd (s.get Fd.CHN_WSTAT_ERR w)]
    | none =>
      let done := listMask ended
      let a := { a with requested := maskClear a.requested done, swapped := a.swapped ||| done }
      if a.requested = 0 ∧ a.toRequest = 0 then
        let mine := fun p : Nat × Word => bit a.swapped (p.1 / 2048 / 5)
        let keep := s.win.applTab.filter fun p => !mine p
        let taken := (s.win.pendTab.filter mine).foldl (fun m p => mapSet 0 m p.1 p.2) keep
        let s := { s with win := { s.win with applTab := taken } }
        s.complete a.mb a.cmd 0 [wd a.swapped]
      else { s with win := { s.win with applies := s.win.applies ++ [a] } }

/-- The pending swaps that `due` picks take place. -/
def State.runDue (s : State) (due : SwapWait → Bool) : State :=
  let l := s.win.swaps.filter due
  if l.isEmpty then s
  else
    let s := { s with win := { s.win with swaps := s.win.swaps.filter fun q => !due q } }
    (forEach l s State.runSwap).finishApplies

/-- The pending swaps whose boundary has come. At a grid tick boundary: those of SWAP_ALIGN 0 and 1; at a sheet boundary also those
of SWAP_ALIGN 2. -/
def State.runSwaps (s : State) (sheet : Bool) : State := s.runDue fun q => sheet || q.align != 2

/-- Swaps of SWAP_ALIGN 0 of windows with several subband samples to a grid tick: a subband-sample boundary follows before the block acts
again, and a command governs its whole grid tick (log entry 123). -/
def State.subbandSwaps (s : State) : State :=
  s.runDue fun q => q.align == 0 && (s.get Fd.CHN_WCTL_PROFILE q.win == 1 || s.get Fd.CHN_WCTL_PROFILE q.win == 2)

/-! ### Commands -/

/-- An enabled canceller path names the window (R88). -/
def State.pathsName (s : State) (w : Nat) : Bool :=
  (List.range 256).any fun p => s.getB Fd.CAN_PCFG0_EN p && s.get Fd.CAN_PCFG0_WIN p == w

/-- The registers WIN_CONFIG writes, each with the bits it writes and their new value (R77, Table 3.24). -/
def winConfigRegs (w : Nat) (c : Command) : List (Nat × Nat × Nat) :=
  [(Reg.CHN_WCTL.off w 0, 0x00FF1300, (c.word 2).toNat), (Reg.CHN_WLANE.off w 0, 0xFFFF, (c.word 3).toNat &&& 0xFFFF),
   (Reg.CHN_WRX.off w 0, 0x07FF07FF, (c.word 4).toNat &&& 0x07FF07FF), (Reg.CHN_WTX.off w 0, 0x7FF, (c.word 5).toNat &&& 0x7FF),
   (Reg.CHN_WEDGE_LO.off w 0, 0xFFFFF, (c.word 6).toNat &&& 0xFFFFF),
   (Reg.CHN_WEDGE_HI.off w 0, 0xFFFFF, (c.word 7).toNat &&& 0xFFFFF), (Reg.CHN_WDOM.off w 0, 0xFF, (c.word 8).toNat &&& 0xFF)]

/-- The registers of window w as a WIN_CONFIG writes them, their other bits kept. -/
def State.putWinConfig (s : State) (w : Nat) (c : Command) : State :=
  forEach (winConfigRegs w c) s fun s r => s.setReg r.1 (wd (maskClear (s.reg r.1).toNat r.2.1 + (r.2.2 &&& r.2.1)))

/-- WIN_CONFIG (opcode 0x30; R65, R68, R77, Table 3.24). The window as it would be configured names no lane without an LO, runs at one
frequency, and a direct one takes no domain of another window; else it answers BAD_PARAM without a word (DEDUCED, log entry 123). -/
def execWinConfig (mb : Fin 20) (s : State) : Out := s.whenLive <|
  .next (s.runCommand mb 0x30 fun s c =>
    let w := wbits (c.word 1) 3 0
    let ctl := c.word 2
    let changed := (winConfigRegs w c).filter fun r => (s.reg r.1).toNat &&& r.2.1 != r.2.2 &&& r.2.1
    s.checked mb c 3 (!changed.isEmpty) fun s =>
      let err := contentErr (wbits ctl 9 8) (wbits ctl 17 16) (c.word 3) (c.word 4) (c.word 5) (c.word 6) (c.word 7)
      let err := if err = 0 ∧ bit ctl.toNat 19 ∧ wbits ctl 23 20 = w then 5 else err
      let taken := wbits ctl 9 8 = 0 ∧ (s.domainsOutside [w]).contains (wbits (c.word 8) 7 0)
      if maskClear ctl.toNat 0x00FF1300 ≠ 0 then s.complete mb c 4
      else if err ≠ 0 then s.complete mb c 4 [wd err]
      else if (s.putWinConfig w c).loBad w ∨ taken then s.complete mb c 4
      else if s.getB Fd.CHN_WCTL_EN w || s.pathsName w then s.complete mb c 7
      else
        s.asOrder mb c false (changed.map fun r => (targetKey 0x30 r.1, r.2.2))
            ((Reg.CHN_WSTAT.off w 0, 0x1FFF0000) :: changed.map fun r => (r.1, r.2.1)) fun s =>
          ((s.putWinConfig w c).reportDelay w).complete mb c 0)

/-- A word of a window's pending copy. -/
def State.pendWord (s : State) (w k i : Nat) : Word := mapGet 0 s.win.pendTab (copyKey w k i)

/-- A word of a window's applied copy. -/
def State.applWord (s : State) (w k i : Nat) : Word := mapGet 0 s.win.applTab (copyKey w k i)

/-- Write consecutive words of a window's pending copy. -/
def State.loadPending (s : State) (w k first : Nat) : List Word → State
  | [] => s
  | v :: vs =>
    let s := { s with win := { s.win with pendTab := mapSet 0 s.win.pendTab (copyKey w k first) v } }
    s.loadPending w k (first + 1) vs

/-- The words of a load that change the pending copy: key and value. -/
def State.loadTargets (s : State) (op w k first : Nat) (vs : List Word) : List (Nat × Nat) :=
  ((List.range vs.length).filter fun i => s.pendWord w k (first + i) != nth vs i).map fun i =>
    (targetKey op (copyKey w k (first + i)), (nth vs i).toNat)

/-- ROUTE_LOAD (opcode 0x32). -/
def execRouteLoad (mb : Fin 20) (s : State) : Out := s.whenLive <|
  .next (s.runCommand mb 0x32 fun s c =>
    let w := wbits (c.word 1) 3 0
    let first := wbits (c.word 1) 26 16
    let vs := (c.payload.drop 2).take (wbits (c.word 2) 5 0)
    let t := s.loadTargets 0x32 w 0 first vs
    s.checked mb c 3 (!t.isEmpty) fun s =>
      if vs.isEmpty || decide (61 < vs.length) || vs.any fun v => (v.toNat &&& 0x3F00FFFF) != 0 then s.complete mb c 4
      else if 1280 < first + vs.length then s.complete mb c 0xD
      else s.asOrder mb c false t [] fun s => (s.loadPending w 0 first vs).complete mb c 0)

/-- TRIM_LOAD (opcode 0x33). -/
def execTrimLoad (mb : Fin 20) (s : State) : Out := s.whenLive <|
  .next (s.runCommand mb 0x33 fun s c =>
    let w := wbits (c.word 1) 3 0
    let k := 2 + wbits (c.word 1) 4 4
    let vs := (c.payload.drop 1).take 32
    let t := s.loadTargets 0x33 w k 0 vs
    s.checked mb c 3 (!t.isEmpty) fun s =>
      if (nth vs 0).toNat &&& 0xFFF8F800 ≠ 0 ∨ (vs.drop 22).any fun v => v != 0 then s.complete mb c 4
      else s.asOrder mb c false t [] fun s => (s.loadPending w k 0 vs).complete mb c 0)

/-- FIR_LOAD (opcode 0x34). -/
def execFirLoad (mb : Fin 20) (s : State) : Out := s.whenLive <|
  .next (s.runCommand mb 0x34 fun s c =>
    let w := wbits (c.word 1) 3 0
    let first := wbits (c.word 1) 24 16
    let vs := (c.payload.drop 2).take (wbits (c.word 2) 5 0)
    let t := s.loadTargets 0x34 w 4 first vs
    s.checked mb c 3 (!t.isEmpty) fun s =>
      if vs.isEmpty || decide (61 < vs.length) then s.complete mb c 4
      else if 257 < first + vs.length then s.complete mb c 0xD
      else s.asOrder mb c false t [] fun s => (s.loadPending w 4 first vs).complete mb c 0)

/-- The window is the active member (R215): while no timing or no pattern is in force, the TDD_UL = 0 member is. -/
def State.memberActive (s : State) (w : Nat) : Bool :=
  if s.timingHeld && s.getB Fd.TDD_WTDD_PAT_VALID w then (mapGet PairExt.reset s.tdd.pairs w).active
  else !s.getB Fd.CHN_WCTL_TDD_UL w

/-- Windows are linked where R69 says so. -/
def State.linked (s : State) (w : Nat) : Bool := (s.partner w).isSome && !s.linkBad w

/-- The member of a linked pair is idle for every one of its subband samples of the present grid tick (R215); no symbol is shorter than a grid
tick, so that the first sample and the last one tell. -/
def State.tddIdle (s : State) (w : Nat) : Bool :=
  s.linked w && !s.activeAt w s.now && !s.activeAt w (s.now + 1536 - profD (s.get Fd.CHN_WCTL_PROFILE w))

/-- WSTAT as read, with its live bit TDD_IDLE: the idle member of a link. -/
def State.wstatWord (s : State) (w : Nat) : Word :=
  (s.setB Fd.CHN_WSTAT_TDD_IDLE (s.linked w && !s.memberActive w) w).reg (Reg.CHN_WSTAT.off w 0)

/-- WIN_STATUS (opcode 0x36). -/
def execWinStatus (mb : Fin 20) (s : State) : Out := s.whenLive <|
  .next (s.runCommand mb 0x36 fun s c => s.checked mb c 2 false fun s =>
    let w := wbits (c.word 1) 3 0
    let max := maxThrough (s.get Fd.CHN_WCTL_PROFILE w) (s.get Fd.CHN_WCTL_PROTO w) (s.get Fd.CHN_WCTL_TRIM w)
    s.complete mb c 0
      [s.reg (Reg.CHN_WCTL.off w 0), s.reg (Reg.CHN_WLANE.off w 0), s.reg (Reg.CHN_WRX.off w 0), s.reg (Reg.CHN_WTX.off w 0),
       s.reg (Reg.CHN_WEDGE_LO.off w 0), s.reg (Reg.CHN_WEDGE_HI.off w 0), s.reg (Reg.CHN_WDOM.off w 0),
       s.reg (Reg.CHN_DOP_FREQ.off w 0), s.wstatWord w, s.reg (Reg.CHN_BSEAL.off w 0), s.reg (Reg.CHN_BSEAL.off w 1),
       s.reg (Reg.POS_WTAG.off w 0), s.reg (Reg.POS_WTAG.off w 1), wd max])

end Sys2Proof.Machine
end

