-- ==== Sys2Proof/Machine/Survey.lean ====
section
/-!
DEFINITION. Survey parties and tile scheduling (05_surveyor_engines.md): SRAM allocation (R102, R103), pieces and loads (R104,
R105), placement of a lost party's row groups and the coverage test (R114, R115), the scoreboard (R109, R110), engine and party
losses (R111 to R114).
-/

namespace Sys2Proof.Machine

/-! ### Paths as the surveyors see them -/

/-- What a bound path bound with. -/
def State.pathX (s : State) (p : Nat) : Option PathX := (s.can.paths.find? fun q => q.1 == p).map (·.2)

/-- A field of PCFG`i`: of a bound path as it bound, else as the register stands. -/
def State.pField (s : State) (f : Fld) (i p : Nat) : Nat :=
  match s.pathX p with
  | some x => x.cfg.getD i 0 / 2 ^ f.lsb % 2 ^ f.width
  | none => s.get f p

/-- A path's window, profile, samples per grid tick S, taps, first lag, first subband, rows, exponent. -/
def State.pWin (s : State) (p : Nat) : Nat := s.pField Fd.CAN_PCFG0_WIN 0 p

def State.pProf (s : State) (p : Nat) : Nat :=
  match s.pathX p with
  | some x => x.prof
  | none => s.get Fd.CHN_WCTL_PROFILE (s.pWin p)

def State.pS (s : State) (p : Nat) : Nat := profRate (s.pProf p)

def State.pTaps (s : State) (p : Nat) : Nat := s.pField Fd.CAN_PCFG1_TAPS 1 p

def State.pRows (s : State) (p : Nat) : Nat := s.pField Fd.CAN_PCFG1_COUNT 1 p

def State.pLag (s : State) (p : Nat) : Nat := s.pField Fd.CAN_PCFG2_LAG0 2 p

def State.pWexp (s : State) (p : Nat) : Nat := s.pField Fd.CAN_PCFG2_WEXP 2 p

def State.pFirst (s : State) (p : Nat) : Nat := s.pField Fd.CAN_PCFG0_FIRST 0 p

def State.pCubic (s : State) (p : Nat) : Bool := s.pField Fd.CAN_PCFG0_BASIS 0 p != 0

/-- The receive branch of a path: true for B. -/
def State.pRxB (s : State) (p : Nat) : Bool := s.pField Fd.CAN_PCFG0_RXB 0 p != 0

/-- Receive and transmit lanes of a path. -/
def State.pRx (s : State) (p : Nat) : Nat :=
  match s.pathX p with
  | some x => x.rx
  | none => if s.pRxB p then s.get Fd.CHN_WLANE_RX_B (s.pWin p) else s.get Fd.CHN_WLANE_RX_A (s.pWin p)

def State.pTx (s : State) (p : Nat) : Nat :=
  match s.pathX p with
  | some x => x.tx
  | none => if s.getB Fd.CAN_PCFG0_TXB p then s.get Fd.CHN_WLANE_TX_B (s.pWin p) else s.get Fd.CHN_WLANE_TX_A (s.pWin p)

/-- K: grid ticks between updates of a row; 0 where UPD is 0. -/
def State.pK (s : State) (p : Nat) : Nat :=
  let u := s.pField Fd.CAN_PCFG2_UPD 2 p
  if u = 0 then 0 else 2 ^ u

/-- The path is bound (PSTAT.ACTIVE). -/
def State.pActive (s : State) (p : Nat) : Bool := s.getB Fd.CAN_PSTAT_ACTIVE p

/-- Bound paths. -/
def State.activePaths (s : State) : List Nat := s.can.paths.map Prod.fst

/-- An allocation map entry (Table 4.4). -/
structure AmapEntry where
  entry : Nat
  path : Nat
  party : Nat
  first : Nat
  rows : Nat
  base : Nat
  deriving DecidableEq, Repr

/-- The used entries of the allocation map, ascending. -/
def State.entries (s : State) : List AmapEntry :=
  s.can.amap.filterMap fun p =>
    if p.1 % 2 = 1 ∧ wbits p.2 26 16 ≠ 0 then
      let w := mapGet 0 s.can.amap (p.1 - 1)
      some ⟨p.1 / 2, wbits w 31 24, wbits w 23 19, wbits w 10 0, wbits p.2 26 16, wbits p.2 14 0⟩
    else none

/-- A path's entries. -/
def State.entriesOf (s : State) (p : Nat) : List AmapEntry := s.entries.filter fun e => e.path == p

/-! ### Pieces and loads (R104, R105) -/

/-- Rows per piece and taps per block (Table 5.2). -/
def pieceRows (prof : Nat) : Nat := if prof = 1 then 4 else 16

def pieceTaps (prof : Nat) : Nat := if prof = 3 then 64 else 16

/-- ceil(a ÷ b). -/
def ceilDiv (a b : Nat) : Nat := (a + b - 1) / b

/-- Tap blocks of a path: first tap, taps, late; the lead block first where LAG0 < 2S. -/
def tapBlocks (taps lag s width : Nat) : List (Nat × Nat × Bool) :=
  let lead := min taps (2 * s - lag)
  (if lead = 0 then [] else [(0, lead, true)]) ++
    (List.range (ceilDiv (taps - lead) width)).map fun i => (lead + i * width, min width (taps - lead - i * width), false)

/-- Row groups of a run of rows: first row and rows. -/
def rowGroups (first rows r : Nat) : List (Nat × Nat) :=
  (List.range (ceilDiv rows r)).map fun i => (first + i * r, min r (rows - i * r))

/-- The pieces of a run. -/
def State.piecesOf (s : State) (r : Run) : List Piece :=
  let prof := s.pProf r.path
  let blocks := tapBlocks (s.pTaps r.path) (s.pLag r.path) (s.pS r.path) (pieceTaps prof)
  (rowGroups r.row r.rows (pieceRows prof)).flatMap fun g =>
    (List.range blocks.length).map fun i =>
      let b := blocks.getD i (0, 0, false)
      ⟨r.party, r.entry, r.path, g.1, g.2, i, b.1, b.2.1, b.2.2⟩

/-- Rows of a group that update in grid tick `g` (R91). -/
def updating (k g first rows : Nat) : Nat :=
  if k = 0 then 0 else ((List.range rows).filter fun i => (g + first + i) % k == 0).length

/-- Cycles of a piece in grid tick `g`: ceil(S × b × (r + u) ÷ 16) (R104). -/
def State.pieceCycles (s : State) (p : Piece) (g : Nat) : Nat :=
  ceilDiv (s.pS p.path * p.taps * (p.rows + updating (s.pK p.path) g p.row p.rows)) 16

/-- Cycles of a piece that is re-executed: it filters only (R110). -/
def State.filterCycles (s : State) (p : Piece) : Nat := ceilDiv (s.pS p.path * p.taps * p.rows) 16

/-- Cq and Lq of a party (R105): the cycles of its resident pieces in the grid tick of the 16-tick cycle that has the most, and
the late part of them. -/
def State.partyLoad (s : State) (q : Nat) : Nat × Nat :=
  let ps := (s.svy.runs.filter fun r => r.party == q).flatMap s.piecesOf
  let at_ := fun g => (ps.foldl (fun a p => a + s.pieceCycles p g) 0,
    (ps.filter (·.late)).foldl (fun a p => a + s.pieceCycles p g) 0)
  ((List.range 16).map at_).foldl (fun a b => if a.1 < b.1 then b else a) (0, 0)

/-! ### SRAM (R102, R103) -/

/-- Insert a (unit, size) pair by descending unit. -/
def insertDesc (p : Nat × Nat) : List (Nat × Nat) → List (Nat × Nat)
  | [] => [p]
  | q :: qs => if q.1 ≤ p.1 then p :: q :: qs else q :: insertDesc p qs

/-- First fit downward from unit 20,479 among occupied (unit, size) pairs in descending order. -/
def fitDown (n : Nat) : List (Nat × Nat) → Nat → Option Nat
  | [], top => if n ≤ top then some (top - n) else none
  | (u, sz) :: l, top => if u + sz + n ≤ top then some (top - n) else fitDown n l u

/-- Rings and row state of a party as (unit, size), descending. -/
def Survey.high (v : Survey) (q : Nat) : List (Nat × Nat) :=
  let rings := (v.rings.filter fun r => r.party == q).map fun r => (r.unit, ceilDiv r.depth 14)
  let rows := ((v.rowUnits.filter fun r => r.party == q).map (·.unit)).eraseDups.map fun u => (u, 1)
  (rings ++ rows).foldr insertDesc []

/-- Lowest unit allocated to rings or row state (PMEM.RING_LOW). -/
def Survey.ringLow (v : Survey) (q : Nat) : Nat := (v.high q).foldl (fun a p => min a p.1) 20480

/-- One past the highest unit of any coefficient run (PMEM.COEF_HIGH). -/
def Survey.coefHigh (v : Survey) (q : Nat) : Nat :=
  (v.runs.filter fun r => r.party == q).foldl (fun a r => max a (r.unit + r.units)) 0

/-- Give a party a ring for a stream with depth `d`: an existing one that suffices, or a new one in its place; one of a stream that the
party did not keep fills from grid tick `t` on. -/
def Survey.needRing (v : Survey) (t q lane : Nat) (cubic : Bool) (sub d : Nat) : Option Survey :=
  let same := fun r : RefRing => r.party == q && r.lane == lane && r.cubic == cubic && r.sub == sub
  if v.rings.any fun r => same r && decide (d ≤ r.depth) then some v
  else
    let since := ((v.rings.find? same).map (·.since)).getD t
    let v := { v with rings := v.rings.filter fun r => !same r }
    match fitDown (ceilDiv d 14) (v.high q) 20480 with
    | some u => some { v with rings := v.rings ++ [⟨q, lane, cubic, sub, d, u, since⟩] }
    | none => none

/-- Give a row the 32 bytes of its state, first fit downward: the free half of a unit, or a new unit. -/
def Survey.needRow (v : Survey) (q p row : Nat) : Option Survey :=
  let mine := v.rowUnits.filter fun r => r.party == q
  let single := mine.filter fun r => (mine.filter fun x => x.unit == r.unit).length == 1
  let half := single.foldl (fun (a : Option RowUnit) r => match a with
    | some b => if b.unit < r.unit then some r else a
    | none => some r) none
  let put := fun u h => some { v with rowUnits := v.rowUnits ++ [⟨q, p, row, u, h⟩] }
  match half, fitDown 1 (v.high q) 20480 with
  | some h, some u => if u < h.unit then put h.unit (1 - h.half) else put u 0
  | some h, none => put h.unit (1 - h.half)
  | none, some u => put u 0
  | none, none => none

/-- Apply a partial change for each element of a list. -/
def forAll? {α σ : Type} (f : σ → α → Option σ) : List α → σ → Option σ
  | [], v => some v
  | x :: xs, v =>
    match f v x with
    | some v => forAll? f xs v
    | none => none

/-- Samples that a path's rows ask of a ring (R102). -/
def State.ringDepth (s : State) (p : Nat) : Nat := s.pLag p + s.pTaps p - 1 + 2 * s.pS p

/-- Give new runs their rings in ascending order of (TX lane, basis, subband), then their row state in that of (path, row) (R102); new rings
fill from grid tick `t` on. -/
def State.needAll (s : State) (v : Survey) (t : Nat) (news : List Run) : Option Survey :=
  let rows := news.flatMap fun r => (List.range r.rows).map fun i => (r, r.row + i)
  let rings := rows.foldl (fun m x =>
    let k := ((s.pTx x.1.path * 2 + b2n (s.pCubic x.1.path)) * 4096 + (s.pFirst x.1.path + x.2)) * 32 + x.1.party
    mapSet 0 m k (max (mapGet 0 m k) (s.ringDepth x.1.path))) ([] : List (Nat × Nat))
  let slots := rows.foldl (fun m x => mapSet 0 m ((2048 * x.1.path + x.2) * 32 + x.1.party) 1) ([] : List (Nat × Nat))
  let v := forAll? (fun v k => v.needRing t (k.1 % 32) (k.1 / 262144) (bit k.1 17) (k.1 / 32 % 4096) k.2) rings v
  match v with
  | some v => forAll? (fun v k => v.needRow (k.1 % 32) (k.1 / 65536) (k.1 / 32 % 2048)) slots v
  | none => none

/-- Two runs of units overlap. -/
def unitsMeet (a n b m : Nat) : Bool := decide (a < b + m) && decide (b < a + n)

/-- Add the run of an allocation map entry where no run of its party overlaps it (R103). -/
def State.placeEntry (s : State) (v : Survey) (e : AmapEntry) : Option Survey :=
  let n := ceilDiv (e.rows * s.pTaps e.path * 6) 64
  if v.runs.any fun r => r.party == e.party && unitsMeet r.unit r.units e.base n then none
  else some { v with runs := v.runs ++ [⟨e.party, e.entry, e.path, e.first, e.rows, e.base, n⟩] }

/-- Place every entry of paths that bind together: runs, rings and row state; the runs lie below what the SVY block allocates (R103). -/
def State.placePaths (s : State) (v : Survey) (ps : List Nat) : Option Survey :=
  let es := ps.flatMap s.entriesOf
  match forAll? s.placeEntry es v with
  | none => none
  | some w =>
    match s.needAll w s.time.gt (w.runs.drop v.runs.length) with
    | some w => if (es.map (·.party)).all fun q => decide (w.coefHigh q ≤ w.ringLow q) then some w else none
    | none => none

/-- Take a path out of every party, with the rings and row state that no row needs any more. A ring that other rows still read keeps its place
and depth (DESIGN CHOICE, log entry 125). -/
def State.dropPath (s : State) (v : Survey) (p : Nat) : Survey :=
  let runs := v.runs.filter fun r => r.path != p
  let reads := fun (g : RefRing) (r : Run) => r.party == g.party && s.pTx r.path == g.lane && s.pCubic r.path == g.cubic &&
    decide (s.pFirst r.path + r.row ≤ g.sub ∧ g.sub < s.pFirst r.path + r.row + r.rows)
  { v with
    runs := runs
    rings := v.rings.filter fun g => runs.any (reads g)
    rowUnits := v.rowUnits.filter fun u => u.path != p
    fresh := v.fresh.filter fun q => q != p }

/-- Party registers brought in line with the allocation: PLOAD.CMAX, PMEM. -/
def State.refreshParties (s : State) : State :=
  forEach (List.range 32) s fun s q =>
    let s := s.set Fd.SVY_PLOAD_CMAX (s.partyLoad q).1 q
    (s.set Fd.SVY_PMEM_RING_LOW (s.svy.ringLow q) q).set Fd.SVY_PMEM_COEF_HIGH (s.svy.coefHigh q) q

/-! ### Placement of a lost party's rows (R114) -/

/-- A party holds rows of a path of the window that ends in the other receive branch (R87). -/
def State.branchClash (s : State) (runs : List Run) (q p : Nat) : Bool :=
  runs.any fun r => r.party == q && s.pWin r.path == s.pWin p && s.pRxB r.path != s.pRxB p

/-- Lowest free run of `n` units for coefficients in a party, by its runs in ascending order of unit. -/
def coefFit (n : Nat) (runs : List (Nat × Nat)) : Nat :=
  (runs.foldr insertDesc []).reverse.foldl (fun u r => if u + n ≤ r.1 then u else max u (r.1 + r.2)) 0

/-- Place one row group into a party, where R114 admits it. -/
def State.placeGroup (s : State) (v : Survey) (e : Run) (q : Nat) : Option Survey :=
  let n := ceilDiv (e.rows * s.pTaps e.path * 6) 64
  let u := coefFit n ((v.runs.filter fun r => r.party == q).map fun r => (r.unit, r.units))
  if s.getB Fd.SVY_PSTATE_LOST q || s.branchClash v.runs q e.path then none
  else
    let r : Run := { e with party := q, unit := u, units := n }
    match s.needAll { v with runs := v.runs ++ [r] } (s.time.gt + 1) [r] with
    | some v =>
      let load := { s with svy := v }.partyLoad q
      if v.coefHigh q ≤ v.ringLow q ∧ load.1 ≤ 14400 ∧ load.2 ≤ 9600 then some v else none
    | none => none

/-- Place one row group of party `q` into the first sibling that takes it. -/
def State.placeSibling (s : State) (q : Nat) (v : Survey) (e : Run) : Option Survey :=
  let rec go : List Nat → Option Survey
    | [] => none
    | i :: is =>
      match s.placeGroup v e ((q + i) % 32) with
      | some v => some v
      | none => go is
  go ((List.range 31).map (· + 1))

/-- The allocation without a party. -/
def Survey.without (v : Survey) (q : Nat) : Survey :=
  { v with
    runs := v.runs.filter fun r => r.party != q
    rings := v.rings.filter fun r => r.party != q
    rowUnits := v.rowUnits.filter fun r => r.party != q }

/-- Row groups of a party's runs, ascending by entry and row group. -/
def State.groupsOf (s : State) (q : Nat) : List Run :=
  let rec ins (r : Run) : List Run → List Run
    | [] => [r]
    | x :: xs => if r.entry ≤ x.entry then r :: x :: xs else x :: ins r xs
  ((s.svy.runs.filter fun r => r.party == q).foldr ins []).flatMap fun r =>
    (rowGroups r.row r.rows (pieceRows (s.pProf r.path))).map fun g => { r with row := g.1, rows := g.2 }

/-- The allocation after the loss of party `q`, where every row group finds a sibling: the test of R115. -/
def State.placeLost (s : State) (q : Nat) : Option Survey :=
  forAll? (s.placeSibling q) (s.groupsOf q) (s.svy.without q)

/-- The allocation after the loss of party `q`: each row group that finds a sibling lies there, the others nowhere (R114). -/
def State.placeEach (s : State) (q : Nat) : Survey :=
  (s.groupsOf q).foldl (fun v e => (s.placeSibling q v e).getD v) (s.svy.without q)

/-! ### Rows under R98 -/

def rowKey (p r : Nat) : Nat := 2048 * p + r

def State.row (s : State) (p r : Nat) : RowX := mapGet RowX.reset s.can.rows (rowKey p r)

def State.setRow (s : State) (p r : Nat) (x : RowX) : State :=
  { s with can := { s.can with rows := mapSet RowX.reset s.can.rows (rowKey p r) x } }

/-- Listed rows of a path: number and content. -/
def State.rowsOf (s : State) (p : Nat) : List (Nat × RowX) :=
  s.can.rows.filterMap fun k => if k.1 / 2048 = p then some (k.1 % 2048, k.2) else none

/-- PSTAT.FROZEN, RESTORE and CUT from a path's rows. -/
def State.refreshPstat (s : State) (p : Nat) : State :=
  let l := s.rowsOf p
  let s := s.setB Fd.CAN_PSTAT_FROZEN (l.any fun r => r.2.frozen) p
  let s := s.setB Fd.CAN_PSTAT_RESTORE (l.any fun r => r.2.restoring) p
  s.setB Fd.CAN_PSTAT_CUT (l.any fun r => r.2.cutEnd.isSome) p

/-- PSTATE.RESTORING: a row resident in the party is being restored. -/
def State.refreshRestoring (s : State) : State :=
  forEach (List.range 32) s fun s q =>
    s.setB Fd.SVY_PSTATE_RESTORING ((s.svy.runs.filter fun r => r.party == q).any fun r =>
      (s.rowsOf r.path).any fun k => k.2.restoring && decide (r.row ≤ k.1) && decide (k.1 < r.row + r.rows)) q

/-- Rows handled by steps 1 to 4 of R97: from grid tick `from_` the transmit subband closes on the row's receive branch; a reload is awaited. -/
def State.loseRows (s : State) (from_ : Nat) (rows : List (Nat × Nat)) : State :=
  let s := forEach rows s fun s r =>
    if r.1 < 256 ∧ s.pActive r.1 then
      let x := s.row r.1 r.2
      let at_ := if x.restoring then min x.shutAt from_ else from_
      (s.setRow r.1 r.2 { x with
        restoring := true, shutAt := at_, reopen := false, cutEnd := none, halfEnd := none, d1 := 0, d2 := 0 }).refreshPstat r.1
    else s
  s.refreshRestoring

/-- The rows of a run. -/
def Run.list (r : Run) : List (Nat × Nat) := (List.range r.rows).map fun i => (r.path, r.row + i)

/-! ### Losses (R111 to R114) -/

/-- The party that holds a row, by the runs of an allocation. -/
def Survey.partyOf (v : Survey) (p r : Nat) : Option Nat :=
  (v.runs.find? fun x => x.path == p && decide (x.row ≤ r ∧ r < x.row + x.rows)).map (·.party)

/-- The coefficients of rows go with the SRAM that held them: they contribute nothing until their reload (R114). -/
def State.clearCoefs (s : State) (rows : List (Nat × Nat)) : State :=
  forEach rows s fun s r => s.setRow r.1 r.2 { s.row r.1 r.2 with coef := [] }

/-- A party is lost (R114): from the next grid tick its rows close together; each row group that a sibling can take goes there. What its live
engines still complete in this tick is accepted under R109. -/
def State.loseParty (s : State) (q : Nat) (inj : Bool := false) : State :=
  if s.getB Fd.SVY_PSTATE_LOST q then s
  else
    let rows := (s.svy.runs.filter fun r => r.party == q).flatMap Run.list
    let s := (s.setB Fd.SVY_PSTATE_LOST true q).addSat Fd.SVY_SSTAT_PARTIES_LOST 1
    let s := { s with svy := s.placeEach q }
    (((s.clearCoefs rows).loseRows (s.time.gt + 1) rows).refreshParties).pulseInj 252 inj 0 0

/-- The piece in flight on an engine returns to the head of its party's queue (R111). -/
def State.returnPiece (s : State) (e : Nat) : State :=
  match s.svy.flight.find? fun f => f.1 == e with
  | none => s
  | some (_, p, again) =>
    let head := fun l : List Piece => if l.contains p then p :: l.erase p else l
    { s with svy := { s.svy with
        flight := s.svy.flight.filter fun f => f.1 != e
        todo := if again then s.svy.todo else head s.svy.todo
        relist := if again then head s.svy.relist else s.svy.relist } }

/-- The engine is fenced. -/
def State.fenced (s : State) (e : Nat) : Bool := bit (s.get Fd.SVY_ENG_LOST_LOST (e / 32)) (e % 32)

/-- Fence an engine (R111, R112): a second lost engine in one party loses the party. -/
def State.fenceEngine (s : State) (e : Nat) : State :=
  if s.fenced e then s
  else
    let q := e / 8
    let s := (s.set Fd.SVY_ENG_LOST_LOST (s.get Fd.SVY_ENG_LOST_LOST (e / 32) + 2 ^ (e % 32)) (e / 32)).addSat Fd.SVY_SSTAT_ENG_LOST 1
    let mask := maskClear (s.get Fd.SVY_PSTATE_ENG_MASK q) (2 ^ (e % 8))
    let s := (s.set Fd.SVY_PSTATE_ENG_MASK mask q).set Fd.SVY_PSTATE_ENG_LIVE (maskList mask 8).length q
    let s := (s.returnPiece e).pulse 248
    if (maskList mask 8).length ≤ 6 then s.loseParty q else s

/-- ENGINE_WATCHDOG (R111). -/
def execEngineWatchdog (eng : Fin 256) (s : State) : Out := s.whenLive <| .next (s.fenceEngine eng)

/-- RESIDUE_FAILURE (R111); the injection of code 2 on this checker is marked INJ by the collector's event. -/
def execResidueFailure (eng : Fin 256) (s : State) : Out := s.whenLive <| .next (s.fenceEngine eng)

/-- SVY_ECC_CE (R113). -/
def execSvyEccCe (q : Fin 32) (s : State) : Out := s.whenLive <|
  let (s, inj) := s.takeBits 2 q 1
  .next ((s.addSat Fd.SVY_PECC_CE 1 q).pulseInj 246 inj 0 0)

/-- Count an uncorrectable error in the party's interval of 8,000 sheets (R114, R7); true at the fourth. -/
def State.countUe (s : State) (q : Nat) : State × Bool :=
  let old := mapGet (0, 0) s.svy.ue q
  let n := if old.2 ≠ 0 ∧ s.time.gt < old.1 + 640000 then (old.1, old.2 + 1) else (s.time.gt, 1)
  ({ s with svy := { s.svy with ue := mapSet (0, 0) s.svy.ue q n } }, decide (4 ≤ n.2))

/-- Rows of a party that read a ring. -/
def State.ringRows (s : State) (q lane : Nat) (cubic : Bool) (sub : Nat) : List (Nat × Nat) :=
  (s.svy.runs.filter fun r => r.party == q && s.pTx r.path == lane && s.pCubic r.path == cubic &&
    decide (s.pFirst r.path + r.row ≤ sub ∧ sub < s.pFirst r.path + r.row + r.rows)).map fun r => (r.path, sub - s.pFirst r.path)

/-- A ring is zeroed and refills from live samples (R113). -/
def State.zeroRing (s : State) (q lane : Nat) (cubic : Bool) (sub : Nat) : State :=
  let rings := s.svy.rings.map fun (g : RefRing) =>
    if g.party == q && g.lane == lane && g.cubic == cubic && g.sub == sub then { g with since := s.time.gt } else g
  { s with svy := { s.svy with rings := rings } }

/-- Rows of a party whose coefficients or state a 64-bit word of its SRAM holds (R102, R113). -/
def State.rowsAt (s : State) (q word : Nat) : List (Nat × Nat) :=
  let runs := (s.svy.runs.filter fun r => r.party == q).flatMap fun r =>
    let b := 6 * s.pTaps r.path
    let off := 8 * word - 64 * r.unit
    if 64 * r.unit ≤ 8 * word ∧ off < b * r.rows then
      ((List.range 3).map fun k => off / b + k).filterMap fun i =>
        if b * i < off + 8 ∧ i < r.rows then some (r.path, r.row + i) else none
    else []
  let state := s.svy.rowUnits.filter fun r => r.party == q && r.unit == word / 8 && r.half == word % 8 / 4
  runs ++ state.map fun r => (r.path, r.row)

/-- The ring that a word of a party's SRAM lies in. -/
def State.ringAt (s : State) (q word : Nat) : Option RefRing :=
  s.svy.rings.find? fun g => g.party == q && decide (g.unit ≤ word / 8 ∧ word / 8 < g.unit + ceilDiv g.depth 14)

/-- SVY_ECC_UE (R113, R114): counted and reported; the rows concerned are handled under R98 from the next grid tick; the fourth in one second
loses the party. -/
def execSvyEccUe (q : Fin 32) (site : EccSite) (s : State) : Out := s.whenLive <|
  let (s, inj) := s.takeBits 2 q 2
  let s := (s.addSat Fd.SVY_PECC_UE 1 q).pulseInj 247 inj 0 0
  let (s, fourth) := s.countUe q
  let s := match s.ringAt q site with
    | some g => (s.zeroRing q g.lane g.cubic g.sub).loseRows (s.time.gt + 1) (s.ringRows q g.lane g.cubic g.sub)
    | none => s.loseRows (s.time.gt + 1) (s.rowsAt q site)
  .next (if fourth then s.loseParty q inj else s)

/-- CROSSBAR_PARITY (R114): the party is lost. -/
def execCrossbarParity (q : Fin 32) (s : State) : Out := s.whenLive <|
  let (s, hit) := s.takeInjection 6 q
  .next (s.loseParty q hit.isSome)

/-! ### Queues and scoreboard (R106 to R110) -/

/-- Runs in ascending order of entry and row. -/
def sortRuns (l : List Run) : List Run :=
  let rec ins (r : Run) : List Run → List Run
    | [] => [r]
    | x :: xs => if r.entry < x.entry ∨ (r.entry = x.entry ∧ r.row ≤ x.row) then r :: x :: xs else x :: ins r xs
  l.foldr ins []

/-- The pieces of party `q` that wait, in the order of its queue (R106): those for re-execution, then those of the tick; and whether each is a
re-execution. A late piece may be dispatched from cycle 640. -/
def State.waiting (s : State) (q cycle : Nat) : List (Piece × Bool) :=
  let free := fun (x : Piece × Bool) => x.1.party == q && !(s.svy.flight.any fun f => f.2 == x)
  ((s.svy.relist.map fun p => (p, true)) ++ (s.svy.todo.map fun p => (p, false))).filter fun x =>
    free x && (x.2 || !x.1.late || decide (640 ≤ cycle))

/-- The free engines of party `q` take pieces from its queue at a cycle of the grid tick, the lowest engine first (DEDUCED, log
entry 125). -/
def State.dispatch (s : State) (q cycle : Nat) : State :=
  forEach ((List.range 8).map fun k => 8 * q + k) s fun s e =>
    if s.fenced e || s.svy.flight.any fun f => f.1 == e then s
    else match s.waiting q cycle with
      | x :: _ => { s with svy := { s.svy with flight := s.svy.flight ++ [(e, x.1, x.2)] } }
      | [] => s

/-- Open a grid tick (R106): the pieces of every bound path's runs are issued, the early ones of each party before its late ones, and the live
engines take the first. The scrubber has moved on. -/
def State.issuePieces (s : State) : State :=
  let ps := (sortRuns s.svy.runs).flatMap s.piecesOf
  let l := (ps.filter fun p => !p.late) ++ ps.filter (·.late)
  let s := { s with svy := { s.svy with
      todo := l, issued := l.length, tiles := (s.svy.runs.map (·.entry)).eraseDups.length, reexecNow := s.svy.relist.length, closed := false
      busy := [], overdue := [], flight := [], posts := [] } }
  forEach (((s.svy.relist ++ l).map (·.party)).eraseDups) s fun s q => s.dispatch q 16

/-- What the opening of a grid tick brings (R107, R111): stateless pieces, and engines whose self-test fails. -/
def State.openPosts (s : State) (inp : TickInput) : State :=
  forEach inp.failed { s with svy := { s.svy with posts := inp.posts } } fun s e => s.fenceEngine e.val

/-- The scrubbers over `n` grid ticks: one 64-bit word of each party in each (R113), the same place in all (DESIGN CHOICE, log
entry 125). -/
def State.scrubTick (s : State) (n : Nat) : State :=
  if s.getB Fd.SVY_CTL_SCRUB_EN then { s with svy := { s.svy with scrubAt := (s.svy.scrubAt + n) % 163840 } } else s

/-- The piece is the one an engine names. -/
def Piece.named (p : Piece) (path row block : Nat) : Bool := p.path == path && p.row == row && p.block == block

/-- A completion of a resident piece (R109): accepted where the engine is not fenced, the done bit is clear and it is in time. A late piece
cannot complete before its dispatch at cycle 640 allows; a completion after its time leaves nothing; a duplicate or fenced one is SVY_DUP. -/
def State.acceptPiece (s : State) (eng path row block : Nat) (again : Bool) (cycle : Nat) : State :=
  let mine := fun p : Piece => p.named path row block && p.party == eng / 8
  let l := if again then s.svy.relist else s.svy.todo
  match l.find? mine with
  | none => if s.svy.overdue.any mine && !s.fenced eng then s else s.pulse 251
  | some p =>
    let cost := if again then s.filterCycles p else s.pieceCycles p (s.time.gt % 80)
    if s.fenced eng then s.pulse 251
    else if (if again then 500 else 1992) < cycle ∨ (p.late ∧ again = false ∧ cycle < 640 + cost) then s
    else
      let stolen := s.svy.flight.any fun f => f.2 == (p, again) && f.1 != eng
      let flight := s.svy.flight.filter fun f => f.2 != (p, again) && f.1 != eng
      let v := if again then { s.svy with relist := s.svy.relist.erase p } else { s.svy with todo := s.svy.todo.erase p }
      let s := ((s.count 8 p.party 0x10 1).count 8 p.party 0x13 (b2n again)).count 8 p.party 0x11 (b2n stolen)
      { s with svy := { v with flight := flight, busy := mapSet 16 v.busy eng (mapGet 16 v.busy eng + cost) } }.dispatch p.party cycle

/-- A completion of a stateless piece (R107, R109): an engine takes one only when its own party's queue holds no piece it could take. -/
def State.acceptPost (s : State) (eng : Nat) (src : PostSrc) (again : Bool) (cycle : Nat) : State :=
  match (if again then s.svy.repost else s.svy.posts).find? fun (p : Post) => p.src == src with
  | none => s.pulse 251
  | some p =>
    if s.fenced eng then s.pulse 251
    else if (if again then 500 else 1992) < cycle ∨ !(s.waiting (eng / 8) (cycle - p.cycles)).isEmpty then s
    else
      let v := if again then { s.svy with repost := s.svy.repost.erase p } else { s.svy with posts := s.svy.posts.erase p }
      let s := (s.count 8 (eng / 8) 0x12 1).count 8 (eng / 8) 0x13 (b2n again)
      { s with svy := { v with busy := mapSet 16 v.busy eng (mapGet 16 v.busy eng + p.cycles) } }

/-- PIECE_COMPLETION (R109). -/
def execPieceCompletion (eng : Fin 256) (path : PieceName) (row block : Nat) (again : Bool) (cycle : Nat) (s : State) : Out := s.whenLive <|
  .next (match path with
    | .path p => s.acceptPiece eng p row block again cycle
    | .posted src => s.acceptPost eng src again cycle)

/-- Rows of pieces. -/
def pieceRowsList (ps : List Piece) : List (Nat × Nat) :=
  (ps.flatMap fun p => (List.range p.rows).map fun i => (p.path, p.row + i)).eraseDups

/-- TICK_CLOSE (R110): tiles and pieces are counted; missing pieces are listed for re-execution, their updates are skipped; the rows of more
than 8 of one party go to loss handling from the next grid tick. A missing stateless piece is listed too, its measurement lost for the sheet. -/
def execTickClose (s : State) : Out := s.whenLive <|
  .next (if s.svy.closed then s
  else
    let missing := s.svy.todo
    let s := (s.set Fd.SVY_TICK_STAT_ISSUED (min s.svy.issued 65535)).set Fd.SVY_TICK_STAT_MISSING (min missing.length 255)
    let s := s.set Fd.SVY_TICK_STAT_REEXEC (min s.svy.reexecNow 255)
    let bad := (missing.map (·.entry)).eraseDups.length
    let s := (s.set Fd.SVY_TILES_ISSUED s.svy.tiles).set Fd.SVY_TILES_COMPLETED (s.svy.tiles - bad)
    let s := forEach (List.range 32) s fun s q =>
      let top := (List.range 8).foldl (fun a k => max a (mapGet 0 s.svy.busy (8 * q + k))) 0
      s.set Fd.SVY_PLOAD_BUSY_MAX (min top 2000) q
    let held := missing.filter fun p => !s.getB Fd.SVY_PSTATE_LOST p.party
    let crowd := (List.range 32).filter fun q => decide (8 < (held.filter fun p => p.party == q).length)
    let lost := held.filter fun p => crowd.contains p.party
    let kept := held.filter fun p => !crowd.contains p.party
    let late := s.svy.posts
    let s := { s with svy := { s.svy with
      closed := true, todo := [], relist := kept, skipped := missing, overdue := s.svy.overdue ++ missing, flight := [], posts := []
      repost := late, lostMeas := (s.svy.lostMeas ++ late.map Post.src).eraseDups } }
    let s := if missing.isEmpty then s else (s.addSat Fd.SVY_CLOSE_CNT_COUNT 1).pulse 249
    let s := s.addSat Fd.SVY_REEXEC_CNT_COUNT (kept.length + late.length)
    if lost.isEmpty then s else (s.loseRows (s.time.gt + 1) (pieceRowsList lost)).pulse 250)

/-- REEXEC_DEADLINE (R110): listed pieces still missing at cycle 500 of the next tick; their rows are handled from that tick on. -/
def execReexecDeadline (s : State) : Out := s.whenLive <|
  .next (let s := { s with svy := { s.svy with repost := [] } }
  if s.svy.relist.isEmpty then s
  else
    let l := s.svy.relist
    ({ s with svy := { s.svy with relist := [], overdue := s.svy.overdue ++ l } }.loseRows s.time.gt (pieceRowsList l)).pulse 250)

/-! ### Party SRAM as it is read out (R102) -/

/-- Byte `k` of a coefficient: the I rail in bytes 0 to 2, the Q rail in bytes 3 to 5. -/
def coefByte (w : Int × Int) (k : Nat) : Nat :=
  let v := bitsOf 24 (if k < 3 then w.1 else w.2)
  v / 2 ^ (8 * (k % 3)) % 256

/-- A byte of a party's SRAM that lies in a coefficient run. -/
def State.runByte (s : State) (q off : Nat) : Option Nat :=
  (s.svy.runs.find? fun r => r.party == q && decide (64 * r.unit ≤ off ∧ off < 64 * r.unit + 6 * s.pTaps r.path * r.rows)).map fun r =>
    let o := off - 64 * r.unit
    let j := o / 6
    coefByte ((s.row r.path (r.row + j / s.pTaps r.path)).coef.getD (j % s.pTaps r.path) (0, 0)) (o % 6)

/-- A 32-bit word of the parties' SRAM: what coefficient runs hold; elsewhere `raw`. -/
def State.sramWord (s : State) (i : Nat) (raw : Word) : Word :=
  wd (((List.range 4).map fun k =>
    ((s.runByte (i / 327680) (4 * (i % 327680) + k)).getD (raw.toNat / 2 ^ (8 * k) % 256)) * 2 ^ (8 * k)).sum)

end Sys2Proof.Machine
end

