-- ==== Sys2Proof/Machine/Canceller.lean ====
section
/-!
DEFINITION. Canceller paths and the cell pool (04_echo_cancellation.md R84 to R89, R93 to R99): admission and binding, the path
commands, checkpoints and images, divergence, rollback and restore.
-/

namespace Sys2Proof.Machine

/-! ### Admission (R84 to R89) -/

/-- Work W of an entry (R86). -/
def State.entryWork (s : State) (p rows : Nat) : Nat :=
  4 * s.pS p * s.pTaps p * (rows + (if s.pK p = 0 then 0 else ceilDiv rows (s.pK p)))

/-- W over the entries of a list of paths. -/
def State.work (s : State) (paths : List Nat) : Nat :=
  (s.entries.filter fun e => paths.contains e.path).foldl (fun a e => a + s.entryWork e.path e.rows) 0

/-- CAN.LOAD (R86). -/
def State.refreshLoad (s : State) : State :=
  s.set Fd.CAN_LOAD_PLANNED (min (ceilDiv (s.work s.activePaths + 819200) 15360) 2047)

/-- Pool cells of a path (R85). -/
def State.pCells (s : State) (p : Nat) : Nat := s.pRows p * s.pTaps p * s.pS p

/-- The pool: both fields change together. -/
def State.setPool (s : State) (used : Nat) : State :=
  (s.set Fd.CAN_POOL_USED_USED used).set Fd.CAN_POOL_FREE_FREE (5242880 - used)

/-- TAPS, LAG0 and COUNT lie within Table 4.1 and R82, for a profile. -/
def pathRange (prof count taps lag : Nat) : Bool :=
  decide (1 ≤ count ∧ count ≤ 1280 ∧ 1 ≤ taps ∧ taps ≤ [0, 1024, 512, 256].getD prof 0 ∧ profRate prof ≤ lag ∧ lag ≤ 1023)

/-- The entries cover rows 0 to COUNT − 1 exactly once (R89). -/
def State.mapExact (s : State) (p : Nat) : Bool :=
  let es := s.entriesOf p
  es.foldl (fun a e => a + e.rows) 0 == s.pRows p &&
    (List.range (s.pRows p)).all fun r => es.any fun e => decide (e.first ≤ r ∧ r < e.first + e.rows)

/-- Bound paths that cover a receive subband of an RX lane. -/
def State.covering (s : State) (lane k : Nat) : List Nat :=
  s.activePaths.filter fun q => s.pRx q == lane && decide (s.pFirst q ≤ k ∧ k < s.pFirst q + s.pRows q)

/-- The code of the first condition of R84 that a path fails, in the order R84 lists them; 0 where it binds. The path itself is
not bound in `s`. -/
def State.pathErr (s : State) (p : Nat) : Nat :=
  let w := s.pWin p
  let fits := fun f => decide (f ≤ s.pFirst p ∧ s.pFirst p + s.pRows p ≤ f + s.get Fd.CHN_WRX_COUNT w)
  if s.pProf p = 0 ∨ !(fits (s.get Fd.CHN_WRX_RX_FIRST w) && fits (s.get Fd.CHN_WTX_TX_FIRST w)) then 2
  else if s.laneLo (s.pRx p) true = none ∨ s.laneLo (s.pRx p) true ≠ s.laneLo (s.pTx p) false then 3
  else if !pathRange (s.pProf p) (s.pRows p) (s.pTaps p) (s.pLag p) then 1
  else if (List.range (s.pRows p)).any fun i => decide (8 ≤ (s.covering (s.pRx p) (s.pFirst p + i)).length) then 9
  else if !s.mapExact p then 6
  else if (s.entriesOf p).any fun e => s.branchClash s.svy.runs e.party p then 8
  else match s.placePaths s.svy [p] with
    | none => 7
    | some v =>
      let t := { s with svy := v }
      if (s.entriesOf p).any fun e => decide (12800 < (t.partyLoad e.party).1 ∨ 8400 < (t.partyLoad e.party).2) then 7
      else if 5242880 < s.get Fd.CAN_POOL_USED_USED + s.pCells p then 4
      else if 29900800 < s.work (p :: s.activePaths) then 5
      else 0

/-- Domains that a path's rows cover, through the active route of its window. -/
def State.pathDomains (s : State) (p : Nat) : List Nat :=
  let w := s.pWin p
  ((List.range (s.pRows p)).filterMap fun i =>
    routeDomain (s.tbl w (s.actBank w) 0 (s.pFirst p + i - s.get Fd.CHN_WRX_RX_FIRST w))).eraseDups

/-- Rows of a path as the latest complete image holds them, where every row is there and its words are the path's (R345). -/
def State.imageRows (s : State) (p : Nat) : Option (List (Nat × RowX)) :=
  let img := if s.getB Fd.CAN_CP_STAT_AREA then s.can.imageB else s.can.imageA
  match img with
  | none => none
  | some g =>
    let words := (List.range 4).map fun i => s.reg (Reg.CAN_PCFG0.off p 0 + 4 * i)
    let find := fun r => (g.rows.find? fun x => x.1 == rowKey p r).map fun x => (rowKey p r, { RowX.reset with coef := x.2.1, imageDepth := x.2.2 })
    let l := (List.range (s.pRows p)).filterMap find
    if l.length = s.pRows p ∧ (g.cfg.find? fun c => c.1 == p) = some (p, words) then some l else none

/-- What a path that is not bound would bind with. -/
def State.pathNow (s : State) (p : Nat) : PathX :=
  ⟨s.time.gt, (List.range 3).map fun i => (s.reg (Reg.CAN_PCFG0.off p 0 + 4 * i)).toNat, s.pProf p, s.pRx p, s.pTx p⟩

/-- A path's geometry, without what may change while it is enabled: EN, LSH. -/
def PathX.shape (x : PathX) : List Nat :=
  [x.cfg.getD 0 0 % 2 ^ 31, x.cfg.getD 1 0, x.cfg.getD 2 0 / 32, x.prof, x.rx, x.tx]

/-- A path that is not bound takes its place: its cells move to used, its runs, rings and row state to their parties (R85, R102). -/
def State.takePlace (s : State) (p since : Nat) : State :=
  let v := (s.placePaths s.svy [p]).getD s.svy
  let x := s.pathNow p
  let s := (s.setPool (s.get Fd.CAN_POOL_USED_USED + s.pCells p)).setB Fd.CAN_PSTAT_ACTIVE true p
  let s := { s with
    svy := v
    can := { s.can with
      paths := mapInsert (mapErase s.can.paths p) p { x with since := since }
      unbinding := s.can.unbinding.filter fun q => q != p } }
  (s.set Fd.CAN_PSTAT_ERR 0 p).refreshParties.refreshLoad

/-- The state with what a bound path holds given back: its cells, its place in the parties. -/
def State.setAside (s : State) (p : Nat) : State :=
  if s.pActive p then
    let t := s.setPool (s.get Fd.CAN_POOL_USED_USED - s.pCells p)
    { t with svy := s.dropPath s.svy p, can := { t.can with paths := mapErase t.can.paths p } }
  else s

/-- Bind a path whose checks passed (R85, R88): its cells move to used; its coefficients start at 0, or from an image (R345). -/
def State.bindPath (s : State) (p : Nat) : State :=
  let s := { s with can := { s.can with rows := s.can.rows.filter fun k => k.1 / 2048 != p } }
  let s := s.takePlace p s.time.gt
  let s := { s with svy := { s.svy with fresh := if s.svy.fresh.contains p then s.svy.fresh else p :: s.svy.fresh } }
  let s := match (if s.can.fromImage then s.imageRows p else none) with
    | some l => forEach l s fun s k => s.setRow p (k.1 % 2048) k.2
    | none => s
  (s.refreshPstat p).setB Fd.SVY_SSTAT_COVER_BUSY true

/-- Unbind a path (R88): its contributions stop, its cells are freed, and the domains its rows cover are forced to safe gain. FROZEN stays
until the path is enabled again (R97). -/
def State.unbindPath (s : State) (p : Nat) : State :=
  if s.pActive p then
    let domains := s.pathDomains p
    let frozen := s.getB Fd.CAN_PSTAT_FROZEN p
    let s := s.setAside p
    let s := { s with can := { s.can with
        rows := s.can.rows.filter fun k => k.1 / 2048 != p
        held := s.can.held.filter fun q => q != p } }
    let s := ((s.setB Fd.CAN_PSTAT_ACTIVE false p).refreshPstat p).setB Fd.CAN_PSTAT_FROZEN frozen p
    let s := (s.setB Fd.SVY_SSTAT_COVER_BUSY true).refreshParties.refreshLoad
    forEach domains s State.capToSafe
  else s

/-! ### Enables and disables at their boundaries (R88, R99) -/

/-- Clear a path's EN; its unbinding waits for the sheet boundary. -/
def State.disablePath (s : State) (p : Nat) : State :=
  let s := if p < 256 then s.setB Fd.CAN_PCFG0_EN false p else s
  { s with can := { s.can with
      binding := s.can.binding.filter fun q => q != p
      unbinding := if s.can.unbinding.contains p then s.can.unbinding else s.can.unbinding ++ [p] } }

/-- One path's check at the grid tick boundary (R84, R88): it binds, or ERR records why and CAN_BIND reports. A path whose disable still waits for
its sheet boundary is checked anew as if it were not bound: where it passes, that disable is withdrawn, and a path of another geometry
ends and binds afresh (DESIGN CHOICE, log entry 125). -/
def State.tryBind (s : State) (p : Nat) : State :=
  let t := s.setAside p
  let e := t.pathErr p
  if e ≠ 0 then (s.set Fd.CAN_PSTAT_ERR e p).pulseOn 241 0 (listMask (s.pathDomains p))
  else match s.pathX p with
    | none => s.bindPath p
    | some x =>
      if x.shape = (t.pathNow p).shape then
        { s with can := { s.can with unbinding := s.can.unbinding.filter fun q => q != p } }.set Fd.CAN_PSTAT_ERR 0 p
      else (s.unbindPath p).bindPath p

/-- PATH_ENABLE commands whose paths have been checked: one that failed disables the whole set (R99). -/
def State.settleEnables (s : State) : State :=
  let l := s.can.waits
  let s := { s with can := { s.can with waits := [] } }
  forEach l s fun s w =>
    if w.enable && !w.bound then
      match w.paths.find? fun p => !s.pActive p || s.get Fd.CAN_PSTAT_ERR p != 0 with
      | some p =>
        let e := s.get Fd.CAN_PSTAT_ERR p
        (forEach w.paths s State.disablePath).complete w.mb w.cmd 4 [wd p, wd e]
      | none => { s with can := { s.can with waits := s.can.waits ++ [{ w with bound := true }] } }
    else { s with can := { s.can with waits := s.can.waits ++ [w] } }

/-- The paths whose enable reaches its grid tick boundary. Those that bind at it are laid out together, in the order of R102. -/
def State.bindPaths (s : State) : State :=
  let l := s.can.binding
  if l.isEmpty then s
  else
    let before := s.svy
    let known := s.activePaths
    let s := { s with can := { s.can with binding := [] } }
    let s := forEach l s fun s p => if s.getB Fd.CAN_PCFG0_EN p then s.tryBind p else s
    let news := s.activePaths.filter fun p => !known.contains p
    let clean := { s with can := { s.can with paths := s.can.paths.filter fun q => !news.contains q.1 } }
    let s := match (if news.length ≤ 1 ∨ (known.any fun p => !s.activePaths.contains p) then none else clean.placePaths before news) with
      | some v => ({ s with svy := { s.svy with runs := v.runs, rings := v.rings, rowUnits := v.rowUnits } }).refreshParties
      | none => s
    s.settleEnables

/-- The paths whose disable reaches its sheet boundary, and the PATH_ENABLE commands that disabled them. -/
def State.unbindPaths (s : State) : State :=
  let l := s.can.unbinding
  if l.isEmpty then s
  else
    let s := { s with can := { s.can with unbinding := [] } }
    let s := forEach l s State.unbindPath
    let done := s.can.waits.filter fun w => !w.enable
    let s := { s with can := { s.can with waits := s.can.waits.filter fun w => w.enable } }
    forEach done s fun s w => s.complete w.mb w.cmd 0

/-- When a window is enabled, every enabled path that names it is checked again (R88): one that fails is unbound; one that passes with
another geometry holds the cells and the place of that. -/
def State.recheckPaths (s : State) (w : Nat) : State :=
  forEach ((List.range 256).filter fun p => s.getB Fd.CAN_PCFG0_EN p && s.get Fd.CAN_PCFG0_WIN p == w) s fun s p =>
    match s.pathX p with
    | some x =>
      let t := s.setAside p
      let e := t.pathErr p
      if e ≠ 0 then ((s.unbindPath p).set Fd.CAN_PSTAT_ERR e p).pulseOn 242 0 (s.windowDomains w)
      else if x.shape = (t.pathNow p).shape then s
      else t.takePlace p x.since
    | none => { s with can := { s.can with binding := if s.can.binding.contains p then s.can.binding else s.can.binding ++ [p] } }

/-- COVER_TEST_DONE (R115): COVER of every party; then, where svy.cover_req asks it and COVER_ALL is 0, firmware disables the paths
bound since the last test and the waiting path and window commands answer RANGE; otherwise they complete OK. A window command that
addresses several windows names the lowest of them (DESIGN CHOICE, log entry 123). -/
def execCoverTestDone (s : State) : Out := s.whenLive <|
  .next (if s.getB Fd.SVY_SSTAT_COVER_BUSY then
    let cover := listMask ((List.range 32).filter fun q => (s.placeLost q).isSome)
    let s := (s.set Fd.SVY_COVER_PARTY cover).setB Fd.SVY_SSTAT_COVER_BUSY false
    let all := decide (cover = 2 ^ 32 - 1)
    let s := s.setB Fd.SVY_SSTAT_COVER_ALL all
    let fresh := s.svy.fresh
    let s := { s with svy := { s.svy with fresh := [] } }
    let refuse := !all && !fresh.isEmpty && s.legN 0x2200 == 1
    let s :=
      if refuse then forEach fresh s State.disablePath
      else if all || fresh.isEmpty then s
      else s.pulseOn 241 0 (fresh.foldl (fun a p => a ||| listMask (s.pathDomains p)) 0)
    let done := s.can.waits.filter fun w => w.enable && w.bound
    let s := { s with can := { s.can with waits := s.can.waits.filter fun w => !(w.enable && w.bound) } }
    let s := forEach done s fun s w =>
      if refuse then (forEach w.paths s State.disablePath).complete w.mb w.cmd 0xD else s.complete w.mb w.cmd 0
    let wins := s.win.enables.filter fun w => w.covering
    let s := { s with win := { s.win with enables := s.win.enables.filter fun w => !w.covering } }
    forEach wins s fun s w =>
      if refuse then
        (forEach (maskList w.mask 16) s State.unbindWindow).complete w.mb w.cmd 0xD [wd ((maskList w.mask 16).headD 0)]
      else s.complete w.mb w.cmd 0
  else s)

/-! ### Commands (Table 4.22) -/

/-- PCFG2 and PCFG3 as stored: UPD 5-7 store 1, LSH 1-7 store 8, MU above 32,767 stores 32,767, DSH above 40 stores 40. -/
def storePcfg2 (v : Word) : Word :=
  let upd := if 5 ≤ wbits v 14 12 then 1 else wbits v 14 12
  let lsh := if 1 ≤ wbits v 4 0 ∧ wbits v 4 0 < 8 then 8 else wbits v 4 0
  wd ((v.toNat &&& 0x3FFF0000) + upd * 4096 + lsh)

def storePcfg3 (v : Word) : Word := wd (min (wbits v 31 16) 32767 * 65536 + min (wbits v 5 0) 40)

/-- PATH_CONFIG (opcode 0x37). A path of a window in the direct profile, which Table 4.1 does not list, answers BAD_PARAM with ERR 2; bits of the
payload that Table 4.22 does not list are ignored (DESIGN CHOICE, log entry 125). -/
def execPathConfig (mb : Fin 20) (s : State) : Out := s.whenLive <|
  .next (s.runCommand mb 0x37 fun s c =>
    let p := wbits (c.word 1) 7 0
    let en := s.getB Fd.CAN_PCFG0_EN p
    let base := Reg.CAN_PCFG0.off p 0
    let news := [wd ((c.word 2).toNat + b2n en * 2 ^ 31), c.word 3, storePcfg2 (c.word 4), storePcfg3 (c.word 5)]
    let changed := (List.range 4).filter fun i => s.reg (base + 4 * i) != nth news i
    let prof := s.get Fd.CHN_WCTL_PROFILE (wbits (c.word 2) 27 24)
    let fixed := fun i => (s.reg (base + 4 * i)).toNat &&& [0x7FFFFFFF, 0xFFFFFFFF, 0xFFFFFFE0, 0].getD i 0 !=
      ((nth news i).toNat &&& [0x7FFFFFFF, 0xFFFFFFFF, 0xFFFFFFE0, 0].getD i 0)
    s.checked mb c 3 (!changed.isEmpty) fun s =>
      if (c.word 2).toNat &&& 0xB03FF800 ≠ 0 ∨ (c.word 3).toNat &&& 0xF800F800 ≠ 0 ∨ (c.word 4).toNat &&& 0xC0008FE0 ≠ 0 ∨
          (c.word 5).toNat &&& 0xFFC0 ≠ 0 then s.complete mb c 4
      else if prof = 0 then s.complete mb c 4 [2]
      else if !pathRange prof (wbits (c.word 3) 26 16) (wbits (c.word 3) 10 0) (wbits (c.word 4) 29 20) then s.complete mb c 4 [1]
      else if en && (fixed 0 || fixed 1 || fixed 2) then s.complete mb c 7
      else
        s.asOrder mb c false (changed.map fun i => (targetKey 0x37 (4 * p + i), (nth news i).toNat))
          (changed.map fun i => (base + 4 * i, 0xFFFFFFFF)) fun s =>
          (s.underSeal setCan fun s => forEach (List.range 4) s fun s i => s.setReg (base + 4 * i) (nth news i)).complete mb c 0)

/-- A map word pair belongs to an entry of an enabled path. -/
def State.entryInUse (s : State) (w0 w1 : Word) : Bool := wbits w1 26 16 != 0 && s.getB Fd.CAN_PCFG0_EN (wbits w0 31 24)

/-- AMAP_LOAD (opcode 0x38). -/
def execAmapLoad (mb : Fin 20) (s : State) : Out := s.whenLive <|
  .next (s.runCommand mb 0x38 fun s c =>
    let e0 := wbits (c.word 1) 11 0
    let vs := c.payload.drop 2
    let n := vs.length / 2
    let idx := List.range n
    let old := fun k => mapGet 0 s.can.amap k
    let changed := (List.range (2 * n)).filter fun i => old (2 * e0 + i) != nth vs i
    s.checked mb c 3 (!changed.isEmpty) fun s =>
      if n = 0 ∨ 30 < n then s.complete mb c 4
      else if 4096 < e0 + n then s.complete mb c 0xD
      else if idx.any fun i => s.entryInUse (old (2 * (e0 + i))) (old (2 * (e0 + i) + 1)) ||
          s.entryInUse (nth vs (2 * i)) (nth vs (2 * i + 1)) then s.complete mb c 7
      else
        s.asOrder mb c false (changed.map fun i => (targetKey 0x38 (2 * e0 + i), (nth vs i).toNat)) [] fun s =>
          (s.underSeal setCan fun s => forEach (List.range (2 * n)) s fun s i =>
            { s with can := { s.can with amap := mapSet 0 s.can.amap (2 * e0 + i) (nth vs i) } }).complete mb c 0)

/-- The first path of a list that fails R84 where those before it are bound: path and code. -/
def State.firstPathErr (s : State) : List Nat → Option (Nat × Nat)
  | [] => none
  | p :: ps =>
    let t := s.setAside p
    let e := t.pathErr p
    if e ≠ 0 then some (p, e) else (t.bindPath p).firstPathErr ps

/-- PATH_ENABLE (opcode 0x39; R99). -/
def execPathEnable (mb : Fin 20) (s : State) : Out := s.whenLive <|
  .next (s.runCommand mb 0x39 fun s c =>
    let has := fun k p => bit (c.word (k + p / 32)).toNat (p % 32)
    let addressed := (List.range 256).filter fun p => has 1 p
    let ups := addressed.filter fun p => has 9 p
    let downs := addressed.filter fun p => !has 9 p
    let changed := addressed.filter fun p => s.getB Fd.CAN_PCFG0_EN p != has 9 p
    s.checked mb c 3 (changed.any fun p => has 9 p) fun s =>
      if !ups.isEmpty && !downs.isEmpty then s.complete mb c 4
      else if changed.isEmpty then s.complete mb c 0
      else if ups.isEmpty then
        s.asOrder mb c true (changed.map fun p => (targetKey 0x39 p, 0)) (changed.map fun p => (Reg.CAN_PCFG0.off p 0, 2 ^ 31)) fun s =>
          let s := forEach changed s State.disablePath
          { s with can := { s.can with waits := s.can.waits ++ [⟨mb, c, false, changed, true⟩] } }
      else
        match s.firstPathErr changed with
        | some (p, e) => (s.set Fd.CAN_PSTAT_ERR e p).complete mb c 4 [wd p, wd e]
        | none =>
          s.asOrder mb c false (changed.map fun p => (targetKey 0x39 p, 1)) (changed.map fun p => (Reg.CAN_PCFG0.off p 0, 2 ^ 31)) fun s =>
            let s := forEach changed s fun s p => s.setB Fd.CAN_PCFG0_EN true p
            { s with can := { s.can with
                binding := s.can.binding ++ changed
                waits := s.can.waits ++ [⟨mb, c, true, changed, false⟩] } })

/-- PSTAT as read, with its live bit HOLD. -/
def State.pstatWord (s : State) (p : Nat) : Word :=
  (s.setB Fd.CAN_PSTAT_HOLD (s.can.held.contains p) p).reg (Reg.CAN_PSTAT.off p 0)

/-- PATH_STATUS (opcode 0x3A). -/
def execPathStatus (mb : Fin 20) (s : State) : Out := s.whenLive <|
  .next (s.runCommand mb 0x3A fun s c => s.checked mb c 2 false fun s =>
    let p := wbits (c.word 1) 7 0
    let base := Reg.CAN_PCFG0.off p 0
    s.complete mb c 0
      [s.reg base, s.reg (base + 4), s.reg (base + 8), s.reg (base + 12), s.pstatWord p, s.reg (Reg.CAN_PDEPTH.off p 0),
       s.reg (Reg.CAN_PROLL.off p 0), s.reg (Reg.CAN_POOL_USED.off 0 0), s.reg (Reg.CAN_POOL_FREE.off 0 0),
       s.reg (Reg.CAN_LOAD.off 0 0)])

/-- An allocation map word as stored: its reserved bits stay 0 (Table 4.4, R15). -/
def amapWord (i : Nat) (v : Word) : Word := wd (v.toNat &&& (if i % 2 = 0 then 0xFFF807FF else 0x07FF7FFF))

/-- An access through AMAP_DATA (Table 4.14): the word read, and the state after. -/
def State.amapAccess (s : State) (write : Option Word) : State × Word :=
  let i := s.get Fd.CAN_AMAP_SEL_INDEX
  let s' := s.set Fd.CAN_AMAP_SEL_INDEX ((i + 1) % 8192)
  match write with
  | none => (s', mapGet 0 s.can.amap i)
  | some v => ({ s' with can := { s'.can with amap := mapSet 0 s'.can.amap i (amapWord i v) } }.touchSweep setCan, 0)

/-! ### Checkpoints (R94, R95) -/

/-- DRAM channel of a party's run in an area: q mod 4 in A, (q + 2) mod 4 in B; a lost one gives way to the lowest survivor that
differs from the other area's. -/
def State.areaChannel (s : State) (q : Nat) (b : Bool) : Nat :=
  let lost := fun c => s.getB Fd.DRC_CSTAT_LOST c
  let a := q % 4
  let z := (q + 2) % 4
  let live := (List.range 4).filter fun c => !lost c
  let a' := if lost a then (live.filter fun c => c != z).headD a else a
  let z' := if lost z then (live.filter fun c => c != a').headD z else z
  if b then z' else a'

/-- The party that a row lives in. -/
def State.partyOf (s : State) (p r : Nat) : Nat :=
  (s.svy.partyOf p r).getD 0

/-- The image of the latest complete generation that holds a row. -/
def State.latestRow (s : State) (p r : Nat) : Option (List (Int × Int) × Int) :=
  let get := fun g : Option Image => match g with
    | some g => (g.rows.find? fun x => x.1 == rowKey p r).map Prod.snd
    | none => none
  let first := if s.getB Fd.CAN_CP_STAT_AREA then s.can.imageB else s.can.imageA
  let other := if s.getB Fd.CAN_CP_STAT_AREA then s.can.imageA else s.can.imageB
  match get first with
  | some x => some x
  | none => get other

/-- CHECKPOINT_GENERATION_START (R94): at a sheet boundary where SHEET mod 80 = 0; a generation still incomplete is abandoned and
CAN_CP reports. Generations alternate between the areas. Every row of every bound path is to be copied, in ascending order over 72 sheets
(DESIGN CHOICE, log entry 125). -/
def execCheckpointGenerationStart (s : State) : Out := s.whenLive <|
  .next (if s.getB Fd.CAN_CTL_CP_EN && s.everySheets 80 then
    let s := if s.can.writing.isSome then s.pulse 245 else s
    let area := if s.getB Fd.CAN_CP_STAT_VALID then 1 - s.get Fd.CAN_CP_STAT_AREA else 0
    let n := s.can.genCount + 1
    let keys := s.activePaths.flatMap fun p => (List.range (s.pRows p)).map fun r => rowKey p r
    let g : Generation := ⟨n, area, s.sheet, keys, ceilDiv keys.length 5760, []⟩
    ({ s with can := { s.can with writing := some g, genCount := n } }).setB Fd.CAN_CP_STAT_WRITING true
  else s)

/-- What the copy of a row takes: the row as it stands, of one under restore the row of the previous complete image; nothing of a path that
has been unbound (DESIGN CHOICE, log entry 125). -/
def State.copyRow (s : State) (k : Nat) : Option (Nat × List (Int × Int) × Int) :=
  let x := s.row (k / 2048) (k % 2048)
  if !s.pActive (k / 2048) then none
  else if x.restoring then (s.latestRow (k / 2048) (k % 2048)).map fun y => (k, y)
  else some (k, x.coef, x.depth)

/-- Rows copied in `n` grid ticks of a generation (R94): those whose turn it is and that `ready` admits. -/
def State.copyRows (s : State) (n : Nat) (ready : Nat → Bool) : State :=
  match s.can.writing with
  | none => s
  | some g =>
    let now := (g.left.filter ready).take (n * g.per)
    { s with can := { s.can with writing := some { g with
        left := g.left.filter fun k => !now.contains k
        rows := now.filterMap s.copyRow ++ g.rows } } }

/-- The copies of the `n` grid ticks that end: a row that updates in one is not copied in it. -/
def State.copyTick (s : State) (n : Nat) : State :=
  s.copyRows n fun k =>
    let m := s.pK (k / 2048)
    decide (1 < n) || m == 0 || (s.time.gt % 80 + k % 2048) % m != 0

/-- The bytes of a run of an image, and its CRC-32. -/
def State.runCrc (s : State) (rows : List (Nat × List (Int × Int) × Int)) (r : Run) : Nat :=
  crc32 ((List.range r.rows).flatMap fun i =>
    let c := match rows.find? fun x => x.1 == rowKey r.path (r.row + i) with
      | some x => x.2.1
      | none => []
    (List.range (s.pTaps r.path)).flatMap fun j => (List.range 6).map fun k => coefByte (c.getD j (0, 0)) k)

/-- CHECKPOINT_GENERATION_DONE (R94): every run has been written with its CRC, within 72 sheets of the start; the last rows' turn has come
by then. -/
def execCheckpointGenerationDone (s : State) : Out := s.whenLive <|
  .next (match s.can.writing with
    | none => s
    | some g =>
      if g.start + 72 < s.sheet then s
      else
        let rows := g.rows ++ g.left.filterMap s.copyRow
        let cfg := s.activePaths.map fun p => (p, (List.range 4).map fun i => s.reg (Reg.CAN_PCFG0.off p 0 + 4 * i))
        let chan := rows.map fun k => (k.1, s.areaChannel (s.partyOf (k.1 / 2048) (k.1 % 2048)) (g.area == 1))
        let crc := s.svy.runs.map fun r => (32 * r.entry + r.party, s.runCrc rows r)
        let img : Image := ⟨g.gen, rows, cfg, chan, crc⟩
        let s := { s with can := { s.can with
          writing := none
          imageA := if g.area = 0 then some img else s.can.imageA
          imageB := if g.area = 1 then some img else s.can.imageB } }
        let s := (s.setB Fd.CAN_CP_STAT_WRITING false).setB Fd.CAN_CP_STAT_VALID true
        (s.set Fd.CAN_CP_STAT_AREA g.area).set Fd.CAN_CP_STAT_GEN (g.gen % 65536))

/-- The loss of a DRAM channel makes every image run on it invalid (R95). -/
def State.loseImages (s : State) (c : Nat) : State :=
  let drop := fun g : Option Image => g.map fun g =>
    let bad := fun k => (g.chan.find? fun x => x.1 == k) == some (k, c)
    { g with rows := g.rows.filter fun x => !bad x.1, chan := g.chan.filter fun x => x.2 != c }
  let s := { s with can := { s.can with imageA := drop s.can.imageA, imageB := drop s.can.imageB } }
  s.set Fd.CAN_CP_STAT_CH_LOST (s.get Fd.CAN_CP_STAT_CH_LOST ||| 2 ^ c)

/-! ### Divergence and rollback (R96, R97) -/

/-- Coefficient energy Σ|w|². -/
def rowEnergy (x : RowX) : Nat := x.coef.foldl (fun a w => a + (w.1 * w.1 + w.2 * w.2).toNat) 0

/-- One row at the sheet boundary (R96): its detectors, its depth, and whether it diverges. A sheet with no receive or no residual power has
depth 0; residual power beside no receive power exceeds any margin (DESIGN CHOICE, log entry 125). -/
def State.rowSheet (s : State) (x : RowX) : RowX × Bool :=
  let e := rowEnergy x
  let depth := if x.pr = 0 ∨ x.pz = 0 then 0 else db256 x.pr x.pz
  let check := s.getB Fd.CAN_CTL_DIV_EN && !x.frozen && !x.restoring
  let over1 := x.pz ≠ 0 && (x.pr == 0 || decide (16 * (s.get Fd.CAN_DIV_CFG_D1_MARGIN : Int) < -depth)) && decide (x.energy < e)
  let d1 := if check && over1 then x.d1 + 1 else 0
  let d2 := if check && x.satNow then x.d2 + 1 else 0
  let fires := check && (decide (s.get Fd.CAN_DIV_CFG_D1_SHEETS ≤ d1) || decide (s.get Fd.CAN_DIV_CFG_D2_SHEETS ≤ d2))
  let x' := { x with energy := e, depth := depth, satNow := false, pr := 0, pz := 0 }
  (if fires then { x' with d1 := 0, d2 := 0 } else { x' with d1 := d1, d2 := d2 }, fires)

/-- A row diverged (R97): DIV, PROLL and CAN_ROLL; frozen at ROLL_LIMIT rollbacks within 800 sheets, with CAN_FROZEN; its subband
closes until its reload. -/
def State.divergeRow (s : State) (p r : Nat) : State :=
  let x := s.row p r
  let rolls := s.sheet :: x.rolls.filter fun t => decide (s.sheet < t + 800)
  let frz := decide (s.get Fd.CAN_DIV_CFG_ROLL_LIMIT ≤ rolls.length)
  let s := s.setRow p r { x with rolls := rolls, frozen := frz }
  let s := ((s.setB Fd.CAN_PSTAT_DIV true p).addSat Fd.CAN_PROLL_ROLLCNT 1 p).pulseOn 243 0 (listMask (s.pathDomains p))
  let s := (s.count 7 0 0x11 1).loseRows (s.time.gt + 1) [(p, r)]
  if frz then s.pulseOn 244 0 (listMask (s.pathDomains p)) else s

/-- The divergence check and PDEPTH at a sheet boundary, over every bound path; a row whose power sums are lost is not checked (R110). -/
def State.divergenceCheck (s : State) : State :=
  forEach s.activePaths s fun s p =>
    let lost := fun r => s.svy.lostMeas.contains (PostSrc.powers p r)
    let rows := (List.range (s.pRows p)).map fun r =>
      let x := s.row p r
      (r, if lost r then ({ x with pr := 0, pz := 0, energy := rowEnergy x, satNow := false, d1 := 0, d2 := 0 }, false) else s.rowSheet x)
    let s := forEach rows s fun s q => if s.row p q.1 = RowX.reset then s else s.setRow p q.1 q.2.1
    let ds := rows.map fun q => q.2.1.depth
    let s := s.setI Fd.CAN_PDEPTH_DEPTH_MIN (sat (ds.foldl min (ds.headD 0)) 16) p
    let s := s.setI Fd.CAN_PDEPTH_DEPTH_MEAN (sat (divRnd (ds.foldl (· + ·) 0) (max ds.length 1)) 16) p
    forEach (rows.filter fun q => q.2.2) s fun s q => s.divergeRow p q.1

/-- The domain that a row's subband reaches. -/
def State.rowDomain (s : State) (p r : Nat) : Option Nat :=
  let w := s.pWin p
  if s.get Fd.CHN_WCTL_PROFILE w = 0 then some (s.get Fd.CHN_WDOM_DOMAIN w)
  else routeDomain (s.tbl w (s.actBank w) 0 (s.pFirst p + r - s.get Fd.CHN_WRX_RX_FIRST w))

/-- The value of a cut posted now on a row (R149): the applied gain of its domain less CTL.CUT. -/
def State.cutValue (s : State) (p r : Nat) : Int :=
  match s.rowDomain p r with
  | some d => sat (s.getI Fd.CON_GAPP_APPLIED d - 256 * (s.get Fd.CAN_CTL_CUT : Int)) 16
  | none => 0

/-- ROW_RELOAD_DONE (R97): the row is reloaded from the latest complete image (0 where none holds it); its subband reopens at the next grid tick
boundary. A row that lies in no party has no place to be loaded to (R98, R114). -/
def execRowReloadDone (path : Fin 256) (row : Nat) (s : State) : Out := s.whenLive <|
  let x := s.row path row
  .next (if s.pActive path && x.restoring && (s.svy.partyOf path row).isSome then
    let y := (s.latestRow path row).getD ([], 0)
    s.setRow path row { x with coef := y.1, imageDepth := y.2, reopen := true }
  else s)

/-- The rows reloaded reopen at a grid tick boundary (R97): the cut and the halved step begin. -/
def State.reopenRows (s : State) : State :=
  let l := s.can.rows.filter fun k => k.2.reopen
  if l.isEmpty then s
  else
    let s := forEach l s fun s k =>
      let p := k.1 / 2048
      let r := k.1 % 2048
      (s.setRow p r { s.row p r with
        restoring := false, reopen := false, cutEnd := some (s.sheet + 1200), halfEnd := some (s.sheet + 80)
        cutVal := s.cutValue p r }).refreshPstat p
    s.refreshRestoring

/-- CUT_END (R97): 1,200 sheets after the reopening, or once the depth is within 3 dB of that at the image. -/
def execCutEnd (path : Fin 256) (row : Nat) (s : State) : Out := s.whenLive <|
  let x := s.row path row
  .next (match x.cutEnd with
    | some t => if t ≤ s.sheet ∨ x.imageDepth - 768 ≤ x.depth then (s.setRow path row { x with cutEnd := none }).refreshPstat path else s
    | none => s)

/-- SK_HALF_END (R97): 80 sheets after the reopening. -/
def execSkHalfEnd (path : Fin 256) (row : Nat) (s : State) : Out := s.whenLive <|
  let x := s.row path row
  .next (match x.halfEnd with
    | some t => if t ≤ s.sheet then s.setRow path row { x with halfEnd := none } else s
    | none => s)

/-- The cut in force on a domain (R97, R149): the lowest of the cuts posted on rows that cover it. -/
def State.domainCut (s : State) (d : Nat) : Option Int :=
  let l := s.activePaths.flatMap fun p => (s.rowsOf p).filterMap fun r =>
    if r.2.cutEnd.isSome && s.rowDomain p r.1 == some d then some r.2.cutVal else none
  match l with
  | [] => none
  | v :: vs => some (vs.foldl min v)

end Sys2Proof.Machine
end

