-- ==== Sys2Proof/Machine/Contour.lean ====
section
/-!
DEFINITION. The contour engine (07_contour_engine.md): the measurements of a closed sheet (R142 to R144, R158 to R163, R185, R186),
the law of one contour (R145), back-calculation (R147), the index demand (R148), the order and cost of the evaluations (R151), and
the state words (R157). Values are in 1/512 dB.
-/

namespace Sys2Proof.Machine

/-! ### Contours and domains -/

def State.ctX (s : State) (k : Nat) : ContourX := mapGet ContourX.reset s.con.ct k

def State.setCtX (s : State) (k : Nat) (x : ContourX) : State := { s with con := { s.con with ct := mapSet ContourX.reset s.con.ct k x } }

/-- (domain, window) of every domain that a bound window's route or WDOM names. -/
def State.domTable (s : State) : List (Nat × Nat) :=
  ((List.range 16).filter fun w => bit s.win.bound w).flatMap fun w => (s.routeDomains w).map fun d => (d, w)

/-- The window that carries a domain. -/
def windowIn (tab : List (Nat × Nat)) (d : Nat) : Option Nat := (tab.find? fun p => p.1 == d).map (·.2)

/-- A domain is open at stage 9 (R150, R166, R187). -/
def State.domOpen (s : State) (d : Nat) : Bool :=
  !s.getB Fd.CON_GAPP_CLOSED d && !s.getB Fd.CON_DSUPST_OSC_CLOSED d && !s.getB Fd.FLT_DSTAT_CLOSED d

def State.gate (s : State) (w i : Nat) : Gate := mapGet Gate.reset s.win.gates (2048 * w + i)

/-- A route entry's gate exists: PASS, GATE and its mask bit (R193), in a linked window only in the member with TDD_UL = 1 (R195). -/
def State.gated (s : State) (w i : Nat) : Bool :=
  (!s.getB Fd.CHN_WCTL_LINK_EN w || s.getB Fd.CHN_WCTL_TDD_UL w) &&
  let v := (s.tbl w (s.actBank w) 0 i).toNat
  bit v 31 && bit v 30 && bit (s.tbl w (s.actBank w) 1 (i / 32)).toNat (i % 32)

/-- Subbands of a window that reach a domain: passed, with their mask bit. -/
def State.domainSubs (s : State) (w d : Nat) : List Nat :=
  (List.range (min (s.get Fd.CHN_WRX_COUNT w) 1280)).filter fun i =>
    routeDomain (s.tbl w (s.actBank w) 0 i) == some d && bit (s.tbl w (s.actBank w) 1 (i / 32)).toNat (i % 32)

/-- A domain is gated shut: it has subbands, and each is gated and its gate closed. -/
def State.gatedShut (s : State) (w d : Nat) : Bool :=
  let l := if s.get Fd.CHN_WCTL_PROFILE w = 0 then [] else s.domainSubs w d
  !l.isEmpty && l.all fun i => s.gated w i && !(s.gate w i).isOpen

/-- A TX lane of the window is not muted. -/
def State.someUnmuted (s : State) (w : Nat) : Bool := (s.lanesOf w false).any fun n => !s.getB Fd.LANE_TX_MUTE_MUTED n

/-- The pilot of a TX lane is forced on: COMMISSION mode of a domain of its windows, or sketch service (R161). -/
def State.pilotForced (s : State) (n : Nat) : Bool :=
  (s.get Fd.PWR_SVC_STATE == 1 || s.get Fd.PWR_SVC_STATE == 2) ||
    (s.windowsOf n false).any fun w => (s.routeDomains w).any fun d => s.get Fd.CON_DCTL_MODE d == 2

/-- The pilot of a TX lane is present (R161): enabled or forced, the lane ACTIVE and not muted, and an open domain in a running
window of it. -/
def State.pilotOn (s : State) (n : Nat) : Bool :=
  (s.getB Fd.CON_PCTL_EN n || s.pilotForced n) && s.get Fd.SYN_LSTATE_TX_STATE n == 4 && !s.getB Fd.LANE_TX_MUTE_MUTED n &&
    (s.windowsOf n false).any fun w => s.running w && !s.blanked w && (s.routeDomains w).any s.domOpen

/-- Take the present grid tick into the masks of the sheet (R143, R161, R162, R172). -/
def State.markTick (s : State) : State :=
  let ws := (List.range 16).filter s.running
  let live := ws.filter fun w => !s.tddIdle w
  let loud := ws.filter s.someUnmuted
  let tab := s.domTable
  let pilots := listMask ((List.range 16).filter s.pilotOn)
  let opened := (tab.filter fun p => s.domOpen p.1 && !s.blanked p.2).map (·.1)
  let counted := (tab.filter fun p => s.domOpen p.1 && !s.blanked p.2 && live.contains p.2 && loud.contains p.2 && !s.gatedShut p.2 p.1).map (·.1)
  let m := s.con.masks
  let broken := fun w => !s.running w || bit s.can.broke w || (s.lanesOf w false).any fun n => !bit pilots n
  { s with con := { s.con with
    loops := s.con.loops.map fun (p : Nat × Nat × Bool) => (p.1, p.2.1, p.2.2 || broken p.1)
    masks := { m with
      ran := m.ran &&& listMask ws, busy := m.busy ||| listMask live, unmuted := m.unmuted ||| listMask loud
      opened := m.opened ||| listMask opened, counted := m.counted ||| listMask counted, pilot := m.pilot &&& pilots } } }

/-- Lanes without lock at the boundary of the present grid tick (R206): the RX lanes that deliver no samples in it, and those of each kind whose
measurements of the sheet are missing. -/
def State.markLost (s : State) : State :=
  let lanes := fun (f : Nat → Option Nat) => listMask ((List.range 16).filter fun n => s.synLost (f n))
  let m := s.con.masks
  { s with con := { s.con with masks := { m with
    rxLost := m.rxLost ||| lanes s.synOfRx, txLost := m.txLost ||| lanes s.synOfTx } } }

/-! ### Measurements (R143, R144) -/

/-- Sums over grid ticks, of one domain. -/
def noSum : DomainSum := ⟨0, [], 0, 0, 0, 0, 0⟩

/-- Two sums together. -/
def addSums (a b : DomainSum) : DomainSum :=
  let subs := b.subs.foldl (fun l p =>
    let q := mapGet (0, 0) l p.1
    mapSet (0, 0) l p.1 (q.1 + p.2.1, q.2 + p.2.2)) a.subs
  ⟨a.out + b.out, subs, a.samples + b.samples, a.ref + b.ref, a.refSamples + b.refSamples, a.corI + b.corI, a.corQ + b.corQ⟩

/-- Take samples of the running sheet into a domain's sums. -/
def State.addSum (s : State) (d : Nat) (x : DomainSum) : State :=
  { s with con := { s.con with sums := mapSet noSum s.con.sums d (addSums (mapGet noSum s.con.sums d) x) } }

/-- Power of a 0 dBFS tone over `n` samples. -/
def toneOver (n : Nat) : Nat := n * 2 ^ 30

/-- The lowest per-subband mean power at stage 12 over the open subbands of a sheet (R159), 1/256 dBFS. -/
def lowestSub (x : DomainSum) : Option Int :=
  match (x.subs.filter fun p => p.2.2 != 0).map fun p => db256 p.2.1 (toneOver p.2.2) with
  | [] => none
  | v :: vs => some (vs.foldl min v)

/-- The repeated noise floor of a domain (R159). -/
def State.noiseFloor (s : State) (d : Nat) : Option Int :=
  match (s.domX d).floors.filterMap id with
  | [] => none
  | v :: vs => some (vs.foldl min v)

/-- Samples of a grid tick, by subband, at a window's rate; those of a lag of a direct window (R162). -/
def lagRate (prof : Nat) : Nat := if prof = 0 then 16 else profRate prof

/-- The loop lag of a window (log entry 126): the smaller measured one once a measurement has completed, the through-delay before. -/
def State.loopLag (s : State) (w : Nat) : Nat :=
  if bit s.con.loopDone w then min (s.get Fd.CON_WLOOP_LAG_A w) (s.get Fd.CON_WLOOP_LAG_B w)
  else s.get Fd.CHN_WSTAT_DELAY w * lagRate (s.get Fd.CHN_WCTL_PROFILE w) / 1536

/-- Coupling power from a TX lane into a branch over `n` lags from a lag on. -/
def couplingSum (l : List Coupling) (b t lag n : Nat) : Nat :=
  ((l.filter fun c => c.branch == b && c.tx == t && decide (lag ≤ c.lag) && decide (c.lag < lag + n)).map (·.power)).sum

/-- Loop power of a window on a branch without the domain's gain (R158), in units of 2^−100: the coupling over clr.lags lags from the loop
lag, with the attenuation of each TX lane. -/
def State.loopPower (s : State) (w : Nat) (l : List Coupling) (b : Nat) : Nat :=
  (((s.lanesOf w false).zip [0, 1]).map fun p =>
    pow10Round (2 ^ 40) (-(s.get Fd.LANE_TX_ATTEN_ATTEN p.1 : Int)) 20 (2 ^ 40) *
      couplingSum l b p.2 (s.loopLag w) (max (s.legN 0x30B4) 1)).sum

/-- The pilot source of a window is valid (R159). -/
def State.pilotValid (s : State) (w : Nat) : Bool := (s.lanesOf w false).all fun n => decide (s.legN 0x30B1 ≤ (s.laneX n).pilotRun)

/-- The traffic source of a domain is valid (R159): the reference lies clr.traffic_min above the noise floor, and its correlation with itself at
the loop lag below −20 dB of its power. -/
def State.trafficValid (s : State) (w d : Nat) : Bool :=
  let l := (s.domX d).hist.take (s.legN 0x30B2)
  let a := l.foldl addSums noSum
  s.get Fd.CHN_WCTL_PROFILE w != 0 && decide (0 < a.refSamples) && (s.noiseFloor d).any (fun f =>
    decide (f + 256 * (s.legN 0x30B3 : Int) ≤ db256 a.ref (toneOver a.refSamples))) &&
    decide (100 * (a.corI * a.corI + a.corQ * a.corQ) < (a.ref : Int) * (a.ref : Int))

/-- The clearance source of a domain (R159): 1 traffic, 2 pilot, 0 none. -/
def State.clearanceSource (s : State) (w d : Nat) : Nat := if s.trafficValid w d then 1 else if s.pilotValid w then 2 else 0

/-- The clearance estimate of a domain at the sheet boundary (R158 to R160), bounded. -/
def State.closeClearance (s : State) (d : Nat) (w : Option Nat) (m : Option DomainMeas) : State :=
  let src := match w with
    | some w => if s.svy.lostMeas.contains (PostSrc.measure d) then 0 else s.clearanceSource w d
    | none => 0
  match w with
  | some w =>
    if src = 0 then ((s.set Fd.CON_DCLR_CLR 0x8000 d).set Fd.CON_DCLR_SRC 0 d).setB Fd.CON_DCLR_BOUND false d |>.set Fd.CON_DCLR_BRANCH 0 d
    else
      let l := match m with
        | some m => if src = 1 then m.traffic else m.pilot
        | none => []
      let a := s.loopPower w l 0
      let b := s.loopPower w l 1
      let est := if max a b = 0 then 32767 else sat (logRound 5120 (2 ^ 100) (max a b) - (s.domX d).hiG) 16
      let n := (((s.domX d).hist.take (s.legN (if src = 1 then 0x30B2 else 0x30B1))).map (·.samples)).sum
      let depth := if src = 2 then ((s.lanesOf w false).map fun n => s.get Fd.CON_PCTL_DEPTH n).foldl max 0 else 0
      let top := if n = 0 then -32768 else sat (logRound 5120 n (max (s.legN 0x30B4) 1) - 512 * (depth : Int) - 3072) 16
      let s := (s.setI Fd.CON_DCLR_CLR (min est top) d).set Fd.CON_DCLR_SRC src d
      (s.setB Fd.CON_DCLR_BOUND (decide (top ≤ est)) d).set Fd.CON_DCLR_BRANCH (b2n (decide (a < b))) d
  | none => ((s.set Fd.CON_DCLR_CLR 0x8000 d).set Fd.CON_DCLR_SRC 0 d).setB Fd.CON_DCLR_BOUND false d |>.set Fd.CON_DCLR_BRANCH 0 d

/-- What a closed sheet summed of a domain enters its history; a domain that no bound window carries has none. -/
def State.closeSum (s : State) (d : Nat) (carried : Bool) (m : Option DomainMeas) : State :=
  let x := s.domX d
  if !carried then (if x.hist = [] ∧ x.floors = [] then s else s.setDomX d { x with hist := [], floors := [] })
  else
    let a := mapGet noSum s.con.sums d
    let a := match m with
      | some m => addSums a m.sum
      | none => a
    s.setDomX d { x with hist := ({ a with subs := [] } :: x.hist).take 1024, floors := (lowestSub a :: x.floors).take 8 }

/-- Mean output power of a domain's transmit subbands over both branches in the closed sheet (Table 7.2), 1/256 dBFS. -/
def State.outLevel (s : State) (w d : Nat) : Int :=
  let n := if s.get Fd.CHN_WCTL_PROFILE w = 0 then 1536 else (s.domainSubs w d).length * profRate (s.get Fd.CHN_WCTL_PROFILE w)
  match (s.domX d).hist with
  | a :: _ => db256 a.out (toneOver (160 * n))
  | [] => -32768

/-- `rnd(5120 × log10(1 + δ × 10^(x ÷ 2560)), 0)` for δ = num ÷ den (R185): the power of ten carried to 40 fraction bits. -/
def noiseRaise (num den : Nat) (x : Int) : Int :=
  let a := pow10Round (2 ^ 40) x 2560 (2 ^ 100)
  logRound 5120 (max den 1 * 2 ^ 40 + num * a) (max den 1 * 2 ^ 40)

/-- Open and total subband-grid-ticks of a domain over the sheet (δ of R185). -/
def State.gateDuty (s : State) (w d : Nat) : Nat × Nat :=
  let l := if s.get Fd.CHN_WCTL_PROFILE w = 0 then [] else s.domainSubs w d
  if l.isEmpty then (1, 1)
  else
    let t := (l.map fun i => if s.gated w i then ((s.gate w i).openTicks, (s.gate w i).activeTicks) else (80, 80))
    let n := (t.map (·.1)).sum
    let m := (t.map (·.2)).sum
    if m = 0 then (0, 1) else (n, m)

/-- The uplink noise raise of a domain (R185); none while K = 0x8000 or the window has no uplink role. -/
def State.nrsMeasure (s : State) (w d : Nat) : Option Int :=
  let k := s.getI Fd.FLT_WNRS_K w
  match s.noiseFloor d with
  | none => none
  | some f =>
    if s.getB Fd.FLT_WCFG_UL w = false ∨ k = -32768 then none
    else
      let q := s.gateDuty w d
      some (sat (noiseRaise q.1 q.2 (f + 16 * k)) 16)

/-- The emission measure of a domain (R186). -/
def State.emsMeasure (s : State) (w d : Nat) : Option Int :=
  let m := s.getI Fd.FLT_WEMS_M w
  if s.getB Fd.FLT_WCFG_EMS_EN w = false ∨ m = -32768 then none else some (sat (m + ((s.domX d).a1 - (s.domX d).aSurvey)) 16)

/-- A kind rests on lanes that were without lock in the sheet (R206): on the RX lanes of the window, for CLR, OPW and TGT on its TX lanes as well
(with one of the two lanes of a side it is formed from the other: DEDUCED, log entry 72). -/
def State.deaf (s : State) (w k : Nat) : Bool :=
  let all := fun (rx : Bool) (m : Nat) => let l := s.lanesOf w rx; !l.isEmpty && l.all fun n => bit m n
  k != 4 && (all true s.con.masks.rxLost || ((k == 0 || k == 1 || k == 5) && all false s.con.masks.txLost))

/-- A stateless piece that feeds a kind was lost (R110): the measurement reductions and power estimates of the domain (log entry 126). -/
def State.pieceLost (s : State) (d k : Nat) : Bool :=
  (k == 0 || k == 1 || k == 3 || k == 5) && s.svy.lostMeas.contains (PostSrc.measure d)

/-- The measurement of kind `k` of a domain for the closed sheet (Table 7.2); none where it is missing (R143). `clipped` are the RX
lanes that counted a clipped grid tick. -/
def State.measurement (s : State) (inp : SheetInput) (clipped : Nat) (w : Option Nat) (d k : Nat) : Option Int :=
  match w with
  | none => none
  | some w =>
    let m := s.con.masks
    let q := inp.dom.find? fun p => p.1 == d
    let bad := (q.map fun p => p.2.bad).getD 0
    let rel := (s.domX d).rel
    if !bit m.ran w || !bit m.busy w || bit bad k || s.deaf w k || s.pieceLost d k then none
    else if (k = 1 ∨ k = 5) ∧ (!bit m.opened d || !bit m.unmuted w) then none
    else if k = 0 then (if s.get Fd.CON_DCLR_SRC d = 0 then none else some (s.getI Fd.CON_DCLR_CLR d))
    else if k = 1 then
      let p := (s.lanesOf w false).map fun n => (s.laneX n).sentLevel
      some (sat (sat (2 * p.foldl max (-32768)) 16 - rel) 16)
    else if k = 2 then
      let ls := s.lanesOf w true
      let p := sat (2 * (ls.map fun n => s.getI Fd.LANE_RX_PWR_PEAK n).foldl max (-32768)) 16
      some (if ls.any fun n => bit clipped n then max p 0 else p)
    else if k = 3 then s.nrsMeasure w d
    else if k = 4 then (s.emsMeasure w d).map fun v => sat (v - rel) 16
    else some (sat (sat (2 * s.outLevel w d) 16 - rel) 16)

/-- The effective set point of a contour (R144); that of a CLR contour is raised by the margin m_w of its window (R354). -/
def State.setPoint (s : State) (w : Option Nat) (d k : Nat) : Int :=
  let sp := s.getI Fd.CON_CCFG0_SP (6 * d + k)
  match w with
  | some w =>
    let lim := s.getI Fd.POS_WLIM_LIMOUT w
    if k = 0 then sat (sp + s.legI 0xB010 w) 16
    else if k = 1 ∧ lim ≠ -128 then min sp (sat (256 * lim - 32 * s.getI Fd.CON_WBASE_TXREF w) 16) else sp
  | none => sp

/-! ### One evaluation (R145, R147, R150) -/

/-- The coefficients of a contour. -/
structure Law where
  kind : Nat
  kp : Int
  ki : Int
  kd : Int
  alpha : Int
  kt : Int
  shp : Nat
  shi : Nat
  shd : Nat
  rate : Int
  deriving DecidableEq, Repr

/-- The coefficients of contour 6 d + k as CCFG0 to CCFG3 hold them. -/
def State.law (s : State) (d k : Nat) : Law :=
  let c := 6 * d + k
  { kind := k, kp := s.get Fd.CON_CCFG0_KP c, ki := s.get Fd.CON_CCFG1_KI c, kd := s.get Fd.CON_CCFG1_KD c
    alpha := s.get Fd.CON_CCFG2_ALPHA c, kt := s.get Fd.CON_CCFG2_KT c, shp := s.get Fd.CON_CCFG3_SHP c
    shi := s.get Fd.CON_CCFG3_SHI c, shd := s.get Fd.CON_CCFG3_SHD c, rate := s.get Fd.CON_CCFG3_RATE c }

/-- The integrator's clamp, −2^31 to 2^31 − 1. -/
def clampAcc (v : Int) : Int := clampI v (-2147483648) 2147483647

/-- Sticky flags as bits 0-5 of state word 5. -/
def stickyBits (e p i d u acc : Bool) : Nat := b2n e + 2 * b2n p + 4 * b2n i + 8 * b2n d + 16 * b2n u + 32 * b2n acc

/-- One evaluation of a contour (R145): measurement `m`, or none where it is missing. -/
def evalContour (k : Law) (x : ContourX) (sp : Int) (meas : Option Int) : ContourX :=
  let sgn : Int := if k.kind = 0 then 1 else -1
  let m := meas.getD x.mprev
  let r0 := if sp = x.spprev then x.r else m
  let r := if 0 < sgn * (sp - r0) then sp else r0 + clampI (sp - r0) (-k.rate) k.rate
  let e := sat (sgn * (m - r)) 16
  let p := k.kp * e * 2 ^ (1 + k.shp)
  let dm := m - x.mprev
  let df := sat (x.df + rnd (k.alpha * (dm - x.df)) 15) 17
  let d := k.kd * sgn * df * 2 ^ (1 + k.shd)
  let inc := if meas.isNone then 0 else k.ki * e * 2 ^ (1 + k.shi)
  let i1 := sat (x.i + inc) 40
  let i := clampAcc i1
  let acc1 := sat (p + i) 40
  let acc := sat (acc1 + d) 40
  let v1 := sat (rnd acc 16) 16
  let v := if k.kind = 2 then clampI v1 (-19968) 0 else v1
  let f := stickyBits (e != sgn * (m - r)) (clampAcc p != p) (i != i1) (clampAcc d != d) (v1 != rnd acc 16 || v != v1)
    (i1 != x.i + inc || acc1 != p + i || acc != acc1 + d)
  { x with i := i, df := df, mprev := m, r := r, spprev := sp, v := v, e := e, flags := x.flags ||| f, isInit := false
           miss := meas.isNone, ramping := r != sp }

/-- Back-calculation (R147). -/
def trackContour (k : Law) (x : ContourX) (aref : Int) : ContourX :=
  let i1 := x.i + k.kt * (aref - x.v) * 2
  let i := clampAcc i1
  { x with i := i, aref := aref, flags := x.flags ||| (if i = i1 then 0 else 4) }

/-- Initialisation (R150). -/
def initContour (x : ContourX) (aref sp : Int) (meas : Option Int) : ContourX :=
  let m := meas.getD sp
  { x with i := aref * 65536, df := 0, mprev := m, r := m, spprev := sp, v := aref, e := 0, aref := aref, flags := 0, isInit := true
           miss := meas.isNone, ramping := m != sp, raw := none, lost := 0, frozen := 0, impl := 0 }

/-! ### Input overload (R147, R148) -/

/-- The INO tracking reference of a window: 512 × the lower APPLIED − LIMIT of its RX lanes. -/
def State.inoAref (s : State) (w : Nat) : Int :=
  match (s.lanesOf w true).map fun n => (s.get Fd.LANE_RX_GAIN_APPLIED n : Int) - (s.get Fd.LANE_RX_GAIN_LIMIT n : Int) with
  | [] => 0
  | v :: vs => 512 * vs.foldl min v

/-- The higher RX index of a window's lanes (R170). -/
def State.rxIndex (s : State) (w : Nat) : Int := (((s.lanesOf w true).map fun n => s.get Fd.LANE_RX_GAIN_APPLIED n).foldl max 0 : Nat)

/-- Domains whose INO contour, evaluated at this boundary, governs the index of RX lane `n`. -/
def State.inoDomains (s : State) (tab : List (Nat × Nat)) (n : Nat) : List Nat :=
  (tab.filter fun p => (s.lanesOf p.2 true).contains n && (s.ctX (6 * p.1 + 2)).live).map (·.1)

/-- What an evaluation leaves for the DEMAND of an RX lane (R148, R174): the lowest v of the INO contours that govern it, 0 where there is
none, and whether one of them is held. -/
def State.inoLowest (s : State) (tab : List (Nat × Nat)) (n : Nat) : Nat × Int × Bool :=
  let ds := s.inoDomains tab n
  let v := fun d => let x := s.domX d
    if x.inoState = 1 ∨ x.inoState = 2 then x.inoH else (s.ctX (6 * d + 2)).v
  (n, (ds.map v).foldl min 0, ds.any fun d => (s.domX d).inoState != 0)

/-- DEMAND of a lane at its write (R148, R174). -/
def State.demandOf (s : State) (n : Nat) (low : Int) (held : Bool) : Nat :=
  let limit := (s.get Fd.LANE_RX_GAIN_LIMIT n : Int)
  let applied := (s.get Fd.LANE_RX_GAIN_APPLIED n : Int)
  (min (clampI (limit + rnd low 9) 0 limit) (if held then applied else applied + 1)).toNat

/-- The DEMAND writes of a sheet boundary, from the evaluation of the one before (R148); with CTL.EN = 0, or without an evaluation then, DEMAND
holds (Table 7.5). -/
def State.writeDemands (s : State) : State :=
  if s.getB Fd.CON_CTL_EN then forEach s.con.inoLow s fun s p => s.writeDemand p.1 (s.demandOf p.1 p.2.1 p.2.2) else s

/-! ### Order (R151) -/

/-- The evaluation list: (position, domain) with domains listed twice at their first position only, then the enabled domains missing;
the domains listed twice, as a mask, and those appended. -/
def State.evalOrder (s : State) : List (Nat × Nat) × Nat × List Nat :=
  let n := s.get Fd.CON_ORDER_LEN_LEN
  let listed := (List.range n).map fun j => (j, s.get Fd.CON_ORDER_DOMAIN j)
  let first := listed.foldl (fun (a : List (Nat × Nat)) p => if a.any fun q => q.2 == p.2 then a else a ++ [p]) []
  let names := first.map (·.2)
  let missing := (List.range 256).filter fun d => s.getB Fd.CON_DCTL_EN d && !names.contains d
  let twice := listMask ((listed.filter fun p => !first.contains p).map (·.2))
  (first ++ (List.range missing.length).map fun i => (n + i, missing.getD i 0), twice, missing)

/-- Enabled contours of a domain. -/
def State.liveKinds (s : State) (d : Nat) : List Nat := (List.range 6).filter fun k => s.getB Fd.CON_CCFG3_EN (6 * d + k)

/-- Completion cycles along an order list: the four evaluators' times start at cycle 320. -/
def State.completions (s : State) : List (Nat × Nat) → (Nat → Nat) → List (Nat × Nat × Nat)
  | [], _ => []
  | (j, d) :: l, t =>
    if s.getB Fd.CON_DCTL_EN d then
      let c := t (j % 4) + 16 + 36 * (s.liveKinds d).length
      (j, d, c) :: s.completions l fun e => if e = j % 4 then c else t e
    else s.completions l t

/-! ### State words (R157, Table 7.13) -/

/-- State words 0-5 of a contour. -/
def ContourX.words (x : ContourX) : List Word :=
  let i := bitsOf 40 x.i
  [wd (i % 2 ^ 32), wd (i / 2 ^ 32 * 2 ^ 24 + bitsOf 17 x.df), wd (bitsOf 16 x.r * 65536 + bitsOf 16 x.mprev),
   wd (bitsOf 16 x.v * 65536 + bitsOf 16 x.spprev), wd (bitsOf 16 x.e * 65536 + bitsOf 16 x.aref),
   wd (x.flags + b2n x.ramping * 64 + b2n x.sel * 128 + b2n x.miss * 256 + b2n x.isInit * 512)]

/-- FSUM bit of a contour follows its flags (R157). -/
def State.syncFsum (s : State) (k : Nat) : State :=
  let v := s.get Fd.CON_FSUM_FLAGGED (k / 32)
  let m := 2 ^ (k % 32)
  s.set Fd.CON_FSUM_FLAGGED (if (s.ctX k).flags = 0 then maskClear v m else v ||| m) (k / 32)

/-- A read of ST_DATA: the state after, and the word; `clear` where its level lets it clear the flags of word 5 (R273). -/
def State.stRead (s : State) (clear : Bool) : State × Word :=
  let k := s.get Fd.CON_ST_SEL_CONTOUR
  let w := s.get Fd.CON_ST_SEL_WORD
  let ws := (s.ctX k).words
  let v := if w = 0 then nth ws 0 else if w < 6 then nth s.con.latch (w - 1) else 0
  let s := if w = 0 then { s with con := { s.con with latch := ws.drop 1, latchOf := k } } else s
  let s := if decide (w = 5) && clear then
      let x := s.ctX s.con.latchOf
      (s.setCtX s.con.latchOf { x with flags := maskClear x.flags (v.toNat % 64) }).syncFsum s.con.latchOf
    else s
  let s :=
    if w = 5 ∨ w = 7 then (s.set Fd.CON_ST_SEL_WORD 0).set Fd.CON_ST_SEL_CONTOUR (if k = 1535 then 0 else k + 1)
    else s.set Fd.CON_ST_SEL_WORD (w + 1)
  (s, v)

end Sys2Proof.Machine
end

