-- ==== Sys2Proof/Machine/Supervise.lean ====
section
/-!
DEFINITION. Supervision of the contours (08_clearance_and_contour_supervision.md): plausibility (R170, R171), loss and freeze with the
four states of Table 8.5 (R172 to R175), gain modes (R167 to R169), the evaluation of a domain (R146 to R151), pilots and loop lag
(R161 to R163, R336).
-/

namespace Sys2Proof.Machine

/-! ### The states of Table 8.5 -/

/-- One machine of Table 8.5: 0 NORMAL, 1 HOLD, 2 RAMP, 3 GUARD; the sheets in it, its held value, the good sheets of GUARD, and the
kinds that brought it to HOLD. -/
structure SupState where
  state : Nat
  cnt : Nat
  h : Int
  good : Nat
  seen : Nat
  deriving DecidableEq, Repr

/-- The machine of a domain, or that of its INO contour (R174). -/
def State.supState (s : State) (d : Nat) (ino : Bool) : SupState :=
  let x := s.domX d
  if ino then ⟨x.inoState, x.inoCnt, x.inoH, x.inoGood, 4⟩
  else ⟨s.get Fd.CON_DSUPST_STATE d, s.get Fd.CON_DSUPST_CNT d, x.h, x.good, x.seen⟩

def State.setSupState (s : State) (d : Nat) (ino : Bool) (m : SupState) : State :=
  let x := s.domX d
  if ino then s.setDomX d { x with inoState := m.state, inoCnt := m.cnt, inoH := m.h, inoGood := m.good }
  else ((s.setDomX d { x with h := m.h, good := m.good, seen := m.seen }).set Fd.CON_DSUPST_STATE m.state d).set
    Fd.CON_DSUPST_CNT (min m.cnt 255) d

/-- Enter a state: its counts start at 0. -/
def SupState.enter (m : SupState) (st : Nat) : SupState := { m with state := st, cnt := 0, good := 0 }

/-- What a machine holds on entering HOLD: the tracking reference a, or v for the INO contour. -/
def State.holdValue (s : State) (d : Nat) (ino : Bool) : Int := if ino then (s.ctX (6 * d + 2)).v else (s.domX d).a1

/-- A contour became LOST or FROZEN: HOLD from NORMAL and GUARD, with h := a; in HOLD and RAMP the kind joins those seen. -/
def State.enterHold (s : State) (d k : Nat) : State :=
  let ino := k == 2
  let m := s.supState d ino
  s.setSupState d ino (if m.state = 1 ∨ m.state = 2 then { m with seen := m.seen ||| 2 ^ k }
    else { m.enter 1 with h := s.holdValue d ino, seen := 2 ^ k })

/-- Is a kind of a domain LOST or FROZEN? -/
def State.kindBad (s : State) (d k : Nat) : Bool := bit (s.get Fd.CON_DSUPST_LOST d ||| s.get Fd.CON_DSUPST_FROZEN d) k

/-- A contour becomes LOST (R172): the flag, SUP_LOST, and HOLD. -/
def State.becomeLostKind (s : State) (d k : Nat) : State :=
  ((s.set Fd.CON_DSUPST_LOST (s.get Fd.CON_DSUPST_LOST d ||| 2 ^ k) d).pulseOn 262 0 (2 ^ d)).enterHold d k

/-- A contour becomes FROZEN (R172). -/
def State.becomeFrozenKind (s : State) (d k : Nat) : State :=
  ((s.set Fd.CON_DSUPST_FROZEN (s.get Fd.CON_DSUPST_FROZEN d ||| 2 ^ k) d).pulseOn 263 0 (2 ^ d)).enterHold d k

/-- LOST is due: sup.lost_sheets counted sheets without a measurement. -/
def State.lostDue (s : State) (d k : Nat) : Bool :=
  s.getB Fd.CON_SUP_CTL_LOSS_EN && decide (s.legN 0x30A0 ≤ (s.ctX (6 * d + k)).lost) && !bit (s.get Fd.CON_DSUPST_LOST d) k

/-- FROZEN is due: sup.frozen_sheets identical measurements while APPLIED moved by more than sup.frozen_move. -/
def State.frozenDue (s : State) (d k : Nat) : Bool :=
  let x := s.ctX (6 * d + k)
  s.getB Fd.CON_SUP_CTL_LOSS_EN && decide (s.legN 0x30A1 ≤ x.frozen) && decide ((s.legN 0x30A2 : Int) < x.hi - x.lo) &&
    !bit (s.get Fd.CON_DSUPST_FROZEN d) k

/-- CONTOUR_LOST (R172). -/
def execContourLost (d : Fin 256) (kind : Fin 6) (s : State) : Out := s.whenLive <| .next (if s.lostDue d kind then s.becomeLostKind d kind else s)

/-- CONTOUR_FROZEN (R172). -/
def execContourFrozen (d : Fin 256) (kind : Fin 6) (s : State) : Out := s.whenLive <|
  .next (if s.frozenDue d kind then s.becomeFrozenKind d kind else s)

/-- HOLD is over after sup.hold_sheets. -/
def State.holdOver (s : State) (d : Nat) (ino : Bool) : Bool :=
  let m := s.supState d ino
  m.state == 1 && decide (s.legN 0x30A3 ≤ m.cnt)

/-- GUARD is over after sup.plaus_sheets good sheets. -/
def State.guardOver (s : State) (d : Nat) (ino : Bool) : Bool :=
  let m := s.supState d ino
  m.state == 3 && decide (s.legN 0x30A5 ≤ m.good)

/-- SUP_HOLD_EXPIRY (R173): HOLD goes to RAMP. -/
def execSupHoldExpiry (d : Fin 256) (s : State) : Out := s.whenLive <|
  .next (if s.holdOver d false then s.setSupState d false ((s.supState d false).enter 2) else s)

/-- GUARD_EXPIRY (R173): GUARD goes to NORMAL. -/
def execGuardExpiry (d : Fin 256) (s : State) : Out := s.whenLive <|
  .next (if s.guardOver d false then s.setSupState d false ((s.supState d false).enter 0) else s)

/-- sup.plaus_max consecutive implausible sheets (R171): the measurement stands, and the domain is in GUARD; of the INO contour, its own
machine as well (R174; DEDUCED, log entry 126). -/
def State.plausReached (s : State) (d k : Nat) : State :=
  let x := s.ctX (6 * d + k)
  let s := s.setCtX (6 * d + k) { x with impl := 0 }
  forEach (if k = 2 then [false, true] else [false]) s fun s ino =>
    let m := s.supState d ino
    s.setSupState d ino (if m.state = 3 then { m with good := 0 } else m.enter 3)

/-- PLAUS_MAX_REACHED (R171). -/
def execPlausMaxReached (d : Fin 256) (kind : Fin 6) (s : State) : Out := s.whenLive <|
  .next (if s.getB Fd.CON_SUP_CTL_PLAUS_EN ∧ s.legN 0x30A7 ≤ (s.ctX (6 * d + kind)).impl then s.plausReached d kind else s)

/-! ### Before R145 (R170 to R173) -/

/-- The predicted change of a measurement (R170). `iso` is the isolation term of this boundary. -/
def plausDelta (k : Nat) (x : DomX) (iso : Int) : Int :=
  if k = 0 then -(x.ap1 - x.ap2) + 256 * (iso - x.iso)
  else if k = 3 then x.ap1 - x.ap2
  else if k = 2 then 512 * (x.x1 - x.x2)
  else x.a1 - x.a2

/-- The worse of the measurement and its prediction (R171): lower for CLR, higher for the other protective kinds; TGT stands. -/
def worseOf (k : Nat) (m pred : Int) : Int := if k = 0 then min m pred else if k = 5 then m else max m pred

/-- Plausibility of one contour: the measurement that R145 uses, whether it is implausible, and the state after. -/
def State.plausibility (s : State) (d k : Nat) (iso : Int) (m : Option Int) : State × Option Int × Bool :=
  let x := s.ctX (6 * d + k)
  match m with
  | none => (s.setCtX (6 * d + k) { x with impl := 0 }, none, false)
  | some v =>
    let pred := sat (x.mprev + plausDelta k (s.domX d) iso) 16
    let bad := s.getB Fd.CON_SUP_CTL_PLAUS_EN && !x.miss && decide (s.legN 0x30A6 k < (v - pred).natAbs)
    let n := if bad then x.impl + 1 else 0
    (s.setCtX (6 * d + k) { x with impl := n }, some (if bad ∧ n < s.legN 0x30A7 then worseOf k v pred else v), bad)

/-- Loss and freeze counting of one contour (R172); `keep` where a CLR measurement carries BOUND, `stuck` where the contour is FROZEN: a missing
measurement breaks a run of repeats but does not end FROZEN, which a fresh one does (Table 8.5). -/
def countKind (x : ContourX) (counted keep stuck : Bool) (lo hi : Int) (m : Option Int) : ContourX :=
  match m with
  | none => if counted then { x with lost := x.lost + 1, frozen := if stuck then x.frozen else 0 } else x
  | some v =>
    let y := { x with raw := some v }
    if !counted then y
    else if x.raw ≠ some v then { y with lost := 0, frozen := 0 }
    else if keep then { y with lost := 0 }
    else
      { y with
        lost := 0, frozen := x.frozen + 1
        lo := if x.frozen = 0 then lo else min x.lo lo
        hi := if x.frozen = 0 then hi else max x.hi hi }

/-- The exits of a machine (Table 8.5): GUARD to NORMAL, HOLD and RAMP to GUARD once no kind is lost or frozen and none seen is
implausible, HOLD to RAMP. -/
def State.supExits (s : State) (d : Nat) (ino : Bool) (bad impl : Nat) : State :=
  let m := s.supState d ino
  if s.guardOver d ino then s.setSupState d ino (m.enter 0)
  else if (m.state = 1 ∨ m.state = 2) ∧ bad = 0 ∧ impl &&& m.seen = 0 then s.setSupState d ino (m.enter 3)
  else if s.holdOver d ino then s.setSupState d ino (m.enter 2)
  else s

/-- The end of a machine's evaluation: a good sheet of GUARD is counted, the ramp lowers h toward `floor`, the sheet is counted. -/
def State.supTick (s : State) (d : Nat) (ino good : Bool) (floor : Int) : State :=
  let m := s.supState d ino
  let g := if m.state = 3 then (if good then m.good + 1 else 0) else m.good
  let h := if m.state = 2 ∧ floor < m.h then max floor (m.h - s.legN 0x30A4) else m.h
  s.setSupState d ino { m with good := g, h := h, cnt := min (m.cnt + 1) 255 }

/-- Supervision of a domain at the start of its evaluation: the measurements that R145 uses, by kind. `ms` are those formed. -/
def State.supervise (s : State) (d : Nat) (iso floor : Int) (ms : List (Nat × Option Int)) : State × List (Nat × Option Int) :=
  let x := s.domX d
  let counted := bit s.con.masks.counted d
  let loss := s.getB Fd.CON_SUP_CTL_LOSS_EN
  let step := fun (a : State × List (Nat × Option Int) × Nat) (p : Nat × Option Int) =>
    let (s, u, b) := a.1.plausibility d p.1 iso p.2
    let keep := p.1 == 0 && s.getB Fd.CON_DCLR_BOUND d
    let c := s.ctX (6 * d + p.1)
    let c := if loss then countKind c counted keep (bit (s.get Fd.CON_DSUPST_FROZEN d) p.1) x.loG x.hiG p.2
      else { countKind c false false false 0 0 p.2 with lost := 0, frozen := 0 }
    (s.setCtX (6 * d + p.1) c, a.2.1 ++ [(p.1, u)], if b then a.2.2 ||| 2 ^ p.1 else a.2.2)
  let (s, used, impl) := ms.foldl step (s, [], 0)
  let s := s.set Fd.CON_DSUPST_IMPL impl d
  let s := if impl = 0 then s else s.pulseOn 264 0 (2 ^ d)
  let kinds := ms.map (·.1)
  -- a count that was reset, or a contour that is off, ends LOST and FROZEN
  let live := fun (f : Fld) (n : ContourX → Nat) =>
    listMask (kinds.filter fun k => bit (s.get f d) k && n (s.ctX (6 * d + k)) != 0)
  let s := (s.set Fd.CON_DSUPST_LOST (live Fd.CON_DSUPST_LOST (·.lost)) d).set Fd.CON_DSUPST_FROZEN
    (live Fd.CON_DSUPST_FROZEN (·.frozen)) d
  let newLost := kinds.filter fun k => s.lostDue d k
  let newFrozen := kinds.filter fun k => s.frozenDue d k
  let bad := s.get Fd.CON_DSUPST_LOST d ||| s.get Fd.CON_DSUPST_FROZEN d ||| listMask newLost ||| listMask newFrozen
  let s := (s.supExits d false (maskClear bad 4) impl).supExits d true (bad &&& 4) (impl &&& 4)
  let s := forEach (kinds.filter fun k => bit impl k && decide (s.legN 0x30A7 ≤ (s.ctX (6 * d + k)).impl)) s
    fun s k => s.plausReached d k
  let s := forEach newLost s fun s k => s.becomeLostKind d k
  let s := forEach newFrozen s fun s k => s.becomeFrozenKind d k
  let held := kinds.filter fun k => s.kindBad d k && (s.supState d (k == 2)).state == 0
  let s := forEach held s fun s k => s.enterHold d k
  let s := if loss then s else
    forEach [false, true] s fun s i => if (s.supState d i).state = 0 then s else s.setSupState d i ((s.supState d i).enter 0)
  let good := fun k => (ms.find? fun p => p.1 == k).all fun p => p.2.isSome && !bit impl k
  let s := (s.supTick d false (kinds.all good) floor).supTick d true (good 2) (s.legI 0x30A9)
  (s, used)

/-! ### Selection (R146, R167, R168) -/

/-- The fixed candidate at an evaluation (R168). -/
def State.fixedCandidate (s : State) (d : Nat) : Option Int :=
  let x := s.domX d
  let mode := s.get Fd.CON_DCTL_MODE d
  let g := s.getI Fd.CON_DCTL_GFIX d
  if mode = 0 then none
  else match x.rf with
    | some rf =>
      if x.mode = mode ∧ x.gfix = g then
        let r := (s.legN 0x30A8 : Int)
        some (rf + clampI (g - rf) (-r) r)
      else some x.a1
    | none => some x.a1

/-- A gain mode admits a kind (Table 8.4). -/
def modeAdmits (mode k : Nat) : Bool := k != 2 && (mode == 0 || k != 5)

/-- The relief term of a domain (R146, Table 8.4). -/
def State.reliefTerm (s : State) (w : Option Nat) (d : Nat) : Int :=
  match w with
  | some w =>
    if s.getB Fd.CON_DCTL_RELIEF_EN d && s.get Fd.CON_DCTL_MODE d != 2 then 128 * s.getI Fd.POS_WREL_GREL w else 0
  | none => 0

/-- What the selection takes beside the contours. -/
structure Limits where
  gmin : Int
  ceil : Int
  rel : Int
  aprev : Int
  up : Int
  deriving DecidableEq, Repr

/-- The ceiling of R146, `norise` apart: GMAX, LIMGAIN, the lowest cut, the SAFE ceiling of R291, a sketch or training ceiling. -/
def State.ceilingOf (s : State) (w : Option Nat) (d : Nat) : Int :=
  let g := s.getI Fd.CON_GLIM_GMAX d
  let g := match w with
    | some w =>
      let l := (s.get Fd.POS_WLIM_LIMGAIN w : Int)
      if l = 0 then g else min g (sat (32 * (16 * l - s.getI Fd.CON_WBASE_BASE w)) 16)
    | none => g
  let g := match s.domainCut d with
    | some c => min g c
    | none => g
  let g := if bit s.safeCeil d then min g (s.getI Fd.CON_GSAFE_SAFE d) else g
  match (s.domX d).ceil with
  | some c => min g c
  | none => g

/-- The result of a selection: the applied gain, what bound it, and the kind selected (6 for none). -/
structure Selected where
  applied : Int
  code : Nat
  kind : Nat
  deriving DecidableEq, Repr

/-- The selection of R146 over the admitted (code, v) pairs in rising code; `force` is the force input where force_en = 1. -/
def selectGain (vs : List (Nat × Int)) (safe : Int) (force : Option Int) (norise : Bool) (l : Limits) : Selected :=
  let low := match vs with
    | [] => safe
    | p :: ps => ps.foldl (fun a q => min a q.2) p.2
  let u := force.getD low
  let ceil := if norise then min l.ceil l.aprev else l.ceil
  let want := sat (u + l.rel) 16
  let g := min (max want l.gmin) ceil
  let applied := min g (l.aprev + l.up)
  let first := ((vs.find? fun p => p.2 == low).map (·.1)).getD 6
  let code :=
    if applied < g then 7
    else if g = ceil ∧ ceil < max want l.gmin then (if norise ∧ l.aprev = ceil then 7 else 2)
    else if want < l.gmin then 6
    else if force.isSome then 7
    else first
  ⟨applied, code, if force.isSome then 6 else first⟩

/-! ### The evaluation of a domain -/

/-- What a sheet boundary takes before its DEMAND writes: the sheet's inputs, the RX lanes that clipped, the INO references. -/
structure SheetView where
  inp : SheetInput
  clipped : Nat
  inoRef : List (Nat × Int)
  deriving DecidableEq, Repr

/-- The sketch ceiling of a window's domains (R341): 20 dB below the measured isolation. -/
def State.sketchCeil (s : State) (w : Nat) : Int :=
  let i := min (min (s.get Fd.CON_WISO_AA w) (s.get Fd.CON_WISO_AB w)) (min (s.get Fd.CON_WISO_BA w) (s.get Fd.CON_WISO_BB w))
  sat (256 * (i : Int) - 10240 - 32 * s.getI Fd.CON_WBASE_BASE w) 16

/-- The ceiling that a domain takes when it starts: GMIN while sketch windows measure their isolation, the sketch ceiling in SKETCH, SAFE
in TRAINING (R341, R342). -/
def State.startCeil (s : State) (d : Nat) (w : Option Nat) : Option Int :=
  let st := s.get Fd.PWR_SVC_STATE
  let sketch := match w with
    | some w => bit s.start.sketch.windows w
    | none => false
  if st = 1 && sketch then some (s.getI Fd.CON_GLIM_GMIN d)
  else if st = 2 && sketch then w.map s.sketchCeil
  else if st = 3 then some (s.getI Fd.CON_GSAFE_SAFE d)
  else (s.domX d).ceil

/-- R150 for a domain that starts: gains at SAFE, supervision in NORMAL, counts at 0. -/
def State.startDomain (s : State) (d : Nat) (w : Option Nat) : State :=
  let safe := s.getI Fd.CON_GSAFE_SAFE d
  let x := s.domX d
  let ri := (w.map s.rxIndex).getD 0
  let ceil := if x.ready then x.ceil else s.startCeil d w
  let s := s.setDomX d { DomX.reset with
    ready := true, a1 := safe, a2 := safe, ap1 := safe, ap2 := safe, x1 := ri, x2 := ri, iso := x.iso, ceil := ceil
    trainOk := 0, floors := x.floors, hist := x.hist, safe := x.safe, aSurvey := x.aSurvey, hiG := x.hiG, loG := x.loG }
  let s := forEach (List.range 6) s fun s k => s.setCtX (6 * d + k) { s.ctX (6 * d + k) with live := false }
  let s := s.setI Fd.CON_GAPP_APPLIED (min safe (ceil.getD safe)) d
  (((s.set Fd.CON_DSUPST_STATE 0 d).set Fd.CON_DSUPST_CNT 0 d).set Fd.CON_DSUPST_LOST 0 d).set Fd.CON_DSUPST_FROZEN 0 d

/-- Store an evaluated contour; a sticky flag that sets while its FSUM bit is 0 is a case of CON_FLAG (R157, R378). -/
def State.storeContour (s : State) (k : Nat) (x : ContourX) : State :=
  let was := bit (s.get Fd.CON_FSUM_FLAGGED (k / 32)) (k % 32)
  let s := s.setCtX k x
  let s := if x.flags ≠ 0 ∧ !was then { s with con := { s.con with flagCase := s.con.flagCase ||| 2 ^ (k / 6) } } else s
  s.syncFsum k

/-- The evaluation of an enabled domain at order position `j`, applying at the grid tick `tick` of the sheet (R141 to R152). -/
def State.evalDomain (s : State) (v : SheetView) (tab : List (Nat × Nat)) (j d tick : Nat) : State :=
  let w := windowIn tab d
  let kinds := s.liveKinds d
  let fresh := !(s.domX d).ready || (s.domX d).restart
  let ms := kinds.map fun k => (k, s.measurement v.inp v.clipped w d k)
  let s := if ms.any fun p => p.2.isNone then { s with con := { s.con with missCase := s.con.missCase ||| 2 ^ d } } else s
  let s := if fresh then s.startDomain d w else s
  let safe := s.getI Fd.CON_GSAFE_SAFE d
  let aIno := (w.bind fun w => (v.inoRef.find? fun p => p.1 == w).map (·.2)).getD 0
  let news := kinds.filter fun k => !(s.ctX (6 * d + k)).live
  let s := forEach (ms.filter fun p => news.contains p.1) s fun s p =>
    let k := 6 * d + p.1
    (s.setCtX k (initContour (s.ctX k) (if p.1 = 2 then aIno else safe) (s.setPoint w d p.1) p.2)).syncFsum k
  let rel := s.reliefTerm w d
  let iso := (w.map fun w => s.getI Fd.POS_WREL_ISO w).getD 0
  -- supervision of the contours that ran before; a contour initialised now is used as measured
  let (s, used) := s.supervise d iso (sat (safe - rel) 16) (ms.filter fun p => !news.contains p.1)
  let used := used ++ ms.filter fun p => news.contains p.1
  let s := forEach used s fun s p =>
    let k := 6 * d + p.1
    let isNew := news.contains p.1
    let x := s.ctX k
    let y := evalContour (s.law d p.1) x (s.setPoint w d p.1) p.2
    s.storeContour k { y with isInit := isNew, raw := if isNew then p.2 else y.raw, live := true, sel := false }
  let s := forEach ((List.range 6).filter fun k => !kinds.contains k) s fun s k =>
    if (s.ctX (6 * d + k)).live then s.setCtX (6 * d + k) { s.ctX (6 * d + k) with live := false, sel := false } else s
  let mode := s.get Fd.CON_DCTL_MODE d
  let rf := s.fixedCandidate d
  let vs := (kinds.filter (modeAdmits mode)).map fun k => (k, (s.ctX (6 * d + k)).v)
  let fixed := match rf with
    | some r => [(5, r)]
    | none => []
  let m := s.supState d false
  let ok := (vs.filter fun p => !s.kindBad d p.1) ++ fixed
  let force := if m.state = 1 ∨ m.state = 2 then some (min m.h (ok.foldl (fun a p => min a p.2) 32767)) else none
  let aprev := s.getI Fd.CON_GAPP_APPLIED d
  let r := selectGain (vs ++ fixed) safe force (m.state != 0)
    ⟨s.getI Fd.CON_GLIM_GMIN d, s.ceilingOf w d, rel, aprev, (s.get Fd.CON_GSAFE_UP_RATE d : Int)⟩
  let a := sat (r.applied - rel) 16
  let s := forEach kinds s fun s k =>
    let c := 6 * d + k
    let x := trackContour (s.law d k) (s.ctX c) (if k = 2 then aIno else a)
    s.storeContour c { x with sel := r.kind == k && (k != 5 || rf.isNone) }
  let x := s.domX d
  let s := s.setDomX d { x with
    a1 := a, a2 := x.a1, ap1 := r.applied, ap2 := x.ap1, x1 := (w.map s.rxIndex).getD 0, x2 := x.x1, iso := iso
    rel := rel, rf := rf, mode := mode, gfix := s.getI Fd.CON_DCTL_GFIX d, restart := false
    pend := some (r.applied, s.time.gt + tick) }
  let s := (s.count 9 0 0x10 1).count 9 0 0x11 (if r.code = 2 then 1 else 0)
  ((s.set Fd.CON_GAPP_SEL r.code d).set Fd.CON_GAPP_TICK tick d).set Fd.CON_GAPP_POS j d

/-- Grid tick at which a completion at cycle `c` applies (R151). -/
def applyTick (c : Nat) : Nat := c / 1250 + 1

/-- SSTAT for the sheet now closed, and the order flags of this one (R151, Table 7.10): domains listed twice, as a mask, and
appended. -/
def State.closeOrder (s : State) (last twice : Nat) (appended : List Nat) : State :=
  let s := (s.set Fd.CON_SSTAT_LAST_CYCLE s.con.lastCycle).set Fd.CON_SSTAT_APPENDED (min s.con.appended 255)
  let s := { s with con := { s.con with lastCycle := last, appended := appended.length } }
  let s := if twice ≠ 0 then s.setB Fd.CON_SSTAT_DUP true else s
  let s := if appended.isEmpty then s else s.setB Fd.CON_SSTAT_UNL true
  { s with con := { s.con with unlistedCase := s.con.unlistedCase ||| twice ||| listMask appended } }

/-- Contours of a domain that is not enabled are not evaluated, and those evaluated before no longer count (R148, R150). -/
def State.dropContours (s : State) : State :=
  let ks := (s.con.ct.filter fun p => (p.2.live || p.2.sel) && !s.getB Fd.CON_DCTL_EN (p.1 / 6)).map Prod.fst
  forEach ks s fun s k => s.setCtX k { s.ctX k with live := false, sel := false }

/-- The values that a sheet boundary latches for use within the sheet (R152): SAFE of each domain. -/
def State.latchSafe (s : State) : State :=
  forEach (List.range 256) s fun s d =>
    let v := s.getI Fd.CON_GSAFE_SAFE d
    if (s.domX d).safe = v then s else s.setDomX d { s.domX d with safe := v }

/-- The highest and lowest gain of a sheet start from the gain in force in its grid tick 0. -/
def State.freshGains (s : State) : State :=
  forEach (List.range 256) s fun s d =>
    let g := s.getI Fd.CON_GAPP_APPLIED d
    let x := s.domX d
    if x.hiG = g ∧ x.loG = g then s else s.setDomX d { x with hiG := g, loG := g }

/-- The evaluations that a sheet boundary starts (step 4 of Table 1.10). With CTL.EN = 0 each open domain holds min(APPLIED, SAFE). -/
def State.evaluateAll (s : State) (v : SheetView) : State :=
  let tab := s.domTable
  let s := s.latchSafe
  if s.getB Fd.CON_CTL_EN then
    let (order, twice, appended) := s.evalOrder
    let cs := s.completions order fun _ => 320
    let s := forEach cs s fun s c => s.evalDomain v tab c.1 c.2.1 (applyTick c.2.2)
    let s := s.dropContours
    let s := { s with con := { s.con with inoLow := (List.range 16).map (s.inoLowest tab) } }
    s.closeOrder ((cs.map fun c => c.2.2).foldl max 0) twice appended
  else
    let s := forEach ((List.range 256).filter s.domOpen) s fun s d => s.capToSafe d
    { s with con := { s.con with inoLow := [] } }.closeOrder 0 0 []

/-- A gain takes effect at its application tick (R150, R153); the domain opens. -/
def State.applyGain (s : State) (d : Nat) : State :=
  let x := s.domX d
  match x.pend with
  | some (g, t) =>
    if t ≤ s.time.gt then
      let s := s.setDomX d { x with pend := none }
      if s.getB Fd.CON_DCTL_EN d && x.ready then (s.setI Fd.CON_GAPP_APPLIED g d).setB Fd.CON_GAPP_CLOSED false d else s
    else s
  | none => s

/-- The domain's gains at a grid tick boundary: the evaluated gain, the closing of a disabled domain and of one enabled since (R150), the
cuts and the SAFE ceiling in force (R149, R291), and the highest and lowest gain of the sheet. -/
def State.gainTick (s : State) (d : Nat) : State :=
  let s := s.applyGain d
  let s := if s.getB Fd.CON_DCTL_EN d && (s.domX d).ready then s else s.setB Fd.CON_GAPP_CLOSED true d
  let s := match s.domainCut d with
    | some c => if c < s.getI Fd.CON_GAPP_APPLIED d then s.setI Fd.CON_GAPP_APPLIED c d else s
    | none => s
  let s := if bit s.safeCeil d then s.capToSafe d else s
  let x := s.domX d
  let g := s.getI Fd.CON_GAPP_APPLIED d
  if s.time.gt % 80 = 0 ∨ (g ≤ x.hiG ∧ x.loG ≤ g) then s else s.setDomX d { x with hiG := max x.hiG g, loG := min x.loG g }

/-- The gains of every domain at a grid tick boundary. -/
def State.gainTicks (s : State) : State := forEach (List.range 256) s State.gainTick

/-- DCTL.EN written: 0 ends the domain's evaluations and drops its training ceiling; 1 starts it at the next sheet boundary (R150,
Table 18.12). -/
def State.domainEnable (s : State) (d : Nat) (old new : Bool) : State :=
  if old = new then s
  else
    let x := s.domX d
    s.setDomX d { x with ready := false, pend := none, ceil := if new then x.ceil else none }

/-! ### The momentary sources of Table 7.7 (R378) -/

/-- At the boundary of grid tick 13 of a sheet the cases met raise their sources; the pairs return to healthy at grid tick 14. -/
def State.contourEvents (s : State) : State :=
  let c := s.con
  let s := { s with con := { c with flagCase := 0, missCase := 0, unlistedCase := 0 } }
  let s := if c.flagCase ≠ 0 then s.pulseOn 259 0 c.flagCase else s
  let s := if c.missCase ≠ 0 then s.pulseOn 260 0 c.missCase else s
  if c.unlistedCase ≠ 0 then s.pulseOn 261 0 c.unlistedCase else s

/-! ### DOMAIN_MODE (R169) -/

/-- DOMAIN_MODE (R169): DCTL is written and governs from the next sheet boundary, at which the command completes. -/
def execDomainMode (mb : Fin 20) (s : State) : Out := s.whenLive <|
  .next (s.runCommand mb 0x3B fun s c =>
    let d := wbits (c.word 1) 7 0
    let mode := wbits (c.word 1) 9 8
    let g := signed 16 (wbits (c.word 2) 15 0)
    let restrictive := mode == s.get Fd.CON_DCTL_MODE d && decide (g < s.getI Fd.CON_DCTL_GFIX d)
    s.checked mb c 3 (!restrictive) fun s =>
      if mode = 3 ∨ wdI g ≠ c.word 2 then s.complete mb c 0x04
      else
        s.asOrder mb c restrictive [(targetKey 0x3B d, mode * 65536 + wbits (c.word 2) 15 0)]
          [(Reg.CON_DCTL.off d 0, 0x3000FFFF)] fun s =>
          let s := (s.set Fd.CON_DCTL_MODE mode d).setI Fd.CON_DCTL_GFIX g d
          { s with con := { s.con with modes := s.con.modes ++ [⟨mb, c⟩] } })

/-- The DOMAIN_MODE commands complete at the sheet boundary of their effect, with its SHEET. -/
def State.finishModes (s : State) : State :=
  let l := s.con.modes
  let s := { s with con := { s.con with modes := [] } }
  forEach l s fun s q => s.complete q.mb q.cmd 0x00 [wd s.sheet]

/-! ### Pilots, isolation, loop lag (R161 to R163) -/

/-- The isolation of one path as WISO holds it, in 0.5 dB: over the loop lag and 255 lags more (R163). -/
def State.isolation (s : State) (w : Nat) (l : List Coupling) (b t : Nat) : Nat :=
  let p := couplingSum l b t (s.loopLag w) 256
  if p = 0 then 255 else (clampI (logRound 20 (2 ^ 60) p) 0 255).toNat

/-- The pilots at a sheet boundary: PSTAT.ACTIVE and RUN, and WISO, which every 64th sheet writes where the pilot source is valid (R159, R161,
R163). -/
def State.closePilots (s : State) (inp : SheetInput) : State :=
  let s := forEach (List.range 16) s fun s n =>
    let run := if bit s.con.masks.pilot n then (s.laneX n).pilotRun + 1 else 0
    let s := if run = (s.laneX n).pilotRun then s else s.setLaneX n { s.laneX n with pilotRun := run }
    (s.setB Fd.CON_PSTAT_ACTIVE (s.pilotOn n) n).set Fd.CON_PSTAT_RUN (min run 255) n
  if s.sheet % 64 = 0 then
    forEach inp.iso s fun s p =>
      if p.1 < 16 ∧ s.pilotValid p.1 = true then
        let i := s.isolation p.1 p.2
        (((s.set Fd.CON_WISO_AA (i 0 0) p.1).set Fd.CON_WISO_BA (i 0 1) p.1).set Fd.CON_WISO_AB (i 1 0) p.1).set Fd.CON_WISO_BB (i 1 1) p.1
      else s
  else s

/-- Where a domain's pilot on a TX lane lies (R161, R341): pilot.depth below the repeated noise floor, or at sketch.pilot_level; none without a
floor yet. -/
def State.pilotTarget (s : State) (n d : Nat) : Option Int :=
  if s.get Fd.PWR_SVC_STATE = 1 ∨ s.get Fd.PWR_SVC_STATE = 2 then some (256 * s.legI 0x0043 0)
  else (s.noiseFloor d).map fun f => f - 256 * (s.get Fd.CON_PCTL_DEPTH n : Int)

/-- Mean over subbands of the power of levels in 1/256 dB, each with its subbands. -/
def meanLevel (l : List (Int × Nat)) : Int :=
  match l with
  | [] => -32768
  | p :: ps =>
    if ps.all fun q => q.1 == p.1 then p.1
    else
      let n := (l.map (·.2)).sum
      if n = 0 then -32768
      else db256 ((l.map fun q => q.2 * pow10Round (2 ^ 60) q.1 2560 (2 ^ 100)).sum) (n * 2 ^ 60)

/-- The pilots' levels move at a sheet boundary, by 1 dB at most (R161); a pilot that begins takes its level at once (log entry 126).
PSTAT.LEVEL. -/
def State.movePilots (s : State) : State :=
  let s := { s with con := { s.con with sums := [] } }
  forEach (List.range 16) s fun s n =>
    let ds := if s.pilotOn n then
        (s.windowsOf n false).flatMap fun w => if s.running w then (s.routeDomains w).map fun d => (w, d) else []
      else []
    let ds := ds.filter fun p => s.domOpen p.2
    let old := s.con.pilots.filter fun p => p.1 / 256 == n
    let new : List (Nat × Nat × Int) := ds.filterMap fun p => (s.pilotTarget n p.2).map fun t =>
      (p.1, p.2, match old.find? fun q => q.1 == 256 * n + p.2 with
        | some q => clampI t (q.2 - 256) (q.2 + 256)
        | none => t)
    let rest := s.con.pilots.filter fun p => p.1 / 256 != n
    let put := fun (m : List (Nat × Int)) (q : Nat × Nat × Int) => mapInsert m (256 * n + q.2.1) q.2.2
    let s : State := { s with con := { s.con with pilots := new.foldl put rest } }
    let subs := fun (q : Nat × Nat × Int) => if s.get Fd.CHN_WCTL_PROFILE q.1 = 0 then 1 else (s.domainSubs q.1 q.2.1).length
    let lv := meanLevel (new.map fun (q : Nat × Nat × Int) => (q.2.2, subs q))
    s.setI Fd.CON_PSTAT_LEVEL (if s.pilotOn n then sat lv 16 else -32768) n

/-- The loop period that WOSC shows and the detector uses (R165). -/
def State.refreshLg (s : State) (w : Nat) : State :=
  let rate := lagRate (s.get Fd.CHN_WCTL_PROFILE w)
  let lg := if bit s.con.loopDone w then min (s.get Fd.CON_WLOOP_LAG_A w) (s.get Fd.CON_WLOOP_LAG_B w) / rate
    else s.get Fd.CHN_WSTAT_DELAY w / 1536
  s.set Fd.CON_WOSC_LG (min (max 1 lg) 255) w

/-- A write of 1 to WLCTL.LOOP_START (R162); ignored while a measurement runs. -/
def State.loopStart (s : State) (w : Nat) : State :=
  if s.getB Fd.CON_WLCTL_LOOP_BUSY w then s
  else { s with con := { s.con with loops := s.con.loops ++ [(w, s.sheet, false)] } }.setB Fd.CON_WLCTL_LOOP_BUSY true w

/-- A measurement of window `w` ended: the LOOP_MEASURE commands it belongs to, complete with the last of theirs (R336). -/
def State.finishMeasures (s : State) (w : Nat) (ok : Bool) : State :=
  let upd := fun (q : LoopWait) => if bit q.left w then
    ({ q with left := maskClear q.left (2 ^ w), failed := if ok then q.failed else q.failed ||| 2 ^ w } : LoopWait) else q
  let l := s.con.measures.map upd
  let s := { s with con := { s.con with measures := l.filter fun q => q.left != 0 } }
  forEach (l.filter fun q => q.left == 0) s fun s q =>
    match maskList q.failed 16 with
    | f :: _ => s.complete q.mb q.cmd 0x07 [wd f]
    | [] => s.complete q.mb q.cmd 0x00 ((maskList q.wins 16).map fun w => s.reg (Reg.CON_WLOOP.off w 0))

/-- The smallest lag of a branch whose coupling, summed over the pilots of both TX lanes, lies within 30 dB of the strongest; none where no lag
rises 20 dB above the noise of the estimate (R162). -/
def loopLagOf (x : LoopScan) (b : Nat) : Option Nat :=
  let l := x.taps.filter fun c => c.branch == b && decide (c.lag < 1024)
  let lags := (l.map (·.lag)).eraseDups
  let power := fun j => ((l.filter fun c => c.lag == j).map (·.power)).sum
  let top := (lags.map power).foldl max 0
  if top = 0 ∨ top < 100 * x.noise then none
  else match lags.filter fun j => decide (top ≤ 1000 * power j) with
    | [] => none
    | j :: js => some (js.foldl min j)

/-- LOOP_MEASURE_END (R162): 64 sheets after its start, or once it has failed. -/
def execLoopMeasureEnd (w : Fin 16) (scan : LoopScan) (s : State) : Out := s.whenLive <|
  .next (match s.con.loops.find? fun p => p.1 == w.val with
    | none => s
    | some (_, t, failed) =>
      if !failed && decide (s.sheet < t + 64) then s
      else
        let s := { s with con := { s.con with loops := s.con.loops.filter fun p => p.1 != w.val } }
        let s := s.setB Fd.CON_WLCTL_LOOP_BUSY false w
        match (if failed then none else loopLagOf scan 0), loopLagOf scan 1 with
        | some a, some b =>
          let s := (s.set Fd.CON_WLOOP_LAG_A a w).set Fd.CON_WLOOP_LAG_B b w
          let s := { s with con := { s.con with loopDone := s.con.loopDone ||| 2 ^ w.val } }
          (s.refreshLg w).finishMeasures w true
        | _, _ => ((s.setB Fd.CON_WLCTL_LOOP_ERR true w).pulseOn 265 0 (s.windowDomains w)).finishMeasures w false)

/-- LOOP_MEASURE (R336): starts the measurement of each named window. -/
def execLoopMeasure (mb : Fin 20) (s : State) : Out := s.whenLive <|
  .next (s.runCommand mb 0x44 fun s c => s.checked mb c 3 false fun s =>
    let wins := wbits (c.word 1) 15 0
    if (maskList wins 16).any fun w => s.getB Fd.CON_WLCTL_LOOP_BUSY w then s.complete mb c 0x06
    else if wins = 0 then s.complete mb c 0x00
    else
      let s := forEach (maskList wins 16) s State.loopStart
      { s with con := { s.con with measures := s.con.measures ++ [⟨mb, c, wins, wins, 0⟩] } })

end Sys2Proof.Machine
end

