-- ==== Sys2Proof/Machine/Counter.lean ====
section
/-!
DEFINITION. Performance counters and capture (17_performance_counters.md): snapshots, bandwidth and dumps (R325 to R332), the capture of
sample streams (R334, R335), and their commands.
-/

namespace Sys2Proof.Machine

/-! ### Counting at boundaries -/

/-- Cycles of a block's clock in one grid tick (Table 1.11). -/
def cyclesOf (block tick : Nat) : Nat :=
  if block = 4 then 384 else if block = 6 ∨ block = 7 ∨ block = 0x0B then 1536
  else if block = 8 then 2000 else if block = 9 ∨ block = 0x11 then 1250 else Config.blockCycles block tick

/-- Events of the `n` grid ticks that end: clock cycles, the grid ticks themselves, lanes muted (Table 17.2). -/
def State.perfTick (s : State) (n : Nat) : State :=
  if !s.pmc.run then s
  else
    let s := forEach s.pmc.sel s fun s e =>
      let code := wbits e.2.1 23 16
      if !EventAttr.bare.passes e.2.2 s.pmc.ranges then s
      else if code = 1 then s.addCounter e.1 (((List.range n).map fun k => cyclesOf (evselReset e.1 % 256) (s.time.gt + k)).sum)
      else if code = 2 then s.addCounter e.1 n
      else s
    forEach (List.range 16) s fun s l => s.count 4 l 0x12 (n * s.get Fd.LANE_TX_MUTE_MUTED l)

/-- Block and instance of a port of Table 17.4. -/
def portBlock (p : Nat) : Nat × Nat :=
  if p = 0 then (3, 0) else if p = 1 then (2, 0) else if p < 6 then (0x11, p - 2) else if p < 38 then (8, p - 6) else (4, p - 38)

/-- The traffic of the sheet just ended: byte events in the counters, bytes per port for R330. -/
def State.perfTraffic (s : State) (inp : SheetInput) : State :=
  let s := forEach inp.traffic s fun s t =>
    let b := portBlock t.port
    let a : EventAttr := ⟨some t.lvl, some t.mst, if b.1 = 8 then some b.2 else none, some t.addr, some t.cls⟩
    let s := s.count b.1 b.2 7 t.bytes a
    let s := s.count b.1 b.2 (if t.write then 9 else 8) t.bytes a
    { s with pmc := { s.pmc with bytes := s.pmc.bytes ++ [(s.sheet - 1, t.port, t.bytes)] } }
  forEach inp.dram s fun s d =>
    ((s.addSat Fd.DRC_CECC_CE d.2.1 d.1).count 0x11 d.1 0x10 d.2.1).count 0x11 d.1 0x11 d.2.2

/-- Raise PMC_WRAP for the counters that have wrapped (R325). -/
def State.raiseWraps (s : State) : State :=
  match s.pmc.wrapped with
  | [] => s
  | _ => ({ s with pmc := { s.pmc with wrapped := [] } }).pulse 305

/-- COUNTER_WRAP, R325: `n` events take counter `i` past 2^48 − 1. -/
def execCounterWrap (i : Fin 384) (n : Nat) (s : State) : Out := s.whenLive <|
  if s.pmc.run && s.pmc.sel.any (fun e => e.1 == i.val) && decide (2 ^ 48 ≤ mapGet 0 s.pmc.cnt i + n) then
    .next (s.addCounter i n).raiseWraps
  else .next s

/-! ### Bandwidth and dumps (R330 to R332) -/

/-- R330 for one port: mean and peak in MB/s over the `ivl` sheets before `sheet`. -/
def State.bandwidth (s : State) (p sheet ivl : Nat) : Nat × Nat :=
  let l := s.pmc.bytes.filter fun e => e.2.1 == p && decide (sheet ≤ e.1 + ivl)
  let total := (l.map fun e => e.2.2).sum
  let sheets := (l.map Prod.fst).eraseDups
  let rate := fun (k : Nat) => (usat (divRnd (((l.filter fun e => e.1 == k).map fun e => e.2.2).sum * 8 : Nat) 1000) 16).toNat
  ((usat (divRnd (total * 8 : Nat) (ivl * 1000 : Nat)) 16).toNat, sheets.foldl (fun a k => max a (rate k)) 0)

/-- The link can carry dump writes (R332): in L0, bus mastering enabled. -/
def State.linkUsable (s : State) : Bool := s.pci.l0 && s.pci.master && !s.pci.perst

/-- The 1,024 words of a dump record (Table 17.5). -/
def State.dumpRecord (s : State) (dseq lost : Nat) (clr : Bool) : List Word :=
  let head := [wd 0x504D4331, wd dseq, wd s.sheet, wd s.time.opSec, wd s.gtInSec, wd s.time.pwrCyc,
    wd (s.get Fd.PMC_CTL_IVL + (b2n clr + 2 * s.get Fd.PMC_CTL_RUN) * 2 ^ 16), wd lost] ++ List.replicate 7 0
  let cnt := (List.range 384).flatMap fun i =>
    let v := mapGet 0 s.pmc.snap i
    [wd v, wd (v / 2 ^ 32 + min (mapGet 0 s.pmc.wraps i) 15 * 2 ^ 16)]
  let bw := (List.range 54).map fun p => s.reg (Reg.PMC_BW.off p 0)
  head ++ [crcWords (head ++ cnt ++ bw)] ++ cnt ++ bw ++ List.replicate 186 0

/-- PMC.STAT.HR_FULL and DR_LOST brought in line. -/
def State.refreshRings (s : State) : State :=
  let full := (s.get Fd.PMC_HR_WR_INDEX + 1) % s.get Fd.PMC_HR_SIZE_RECORDS == s.get Fd.PMC_HR_RD_INDEX
  (s.setB Fd.PMC_STAT_HR_FULL full).setB Fd.PMC_STAT_DR_LOST (s.getB Fd.DRC_CSTAT_LOST (s.get Fd.PMC_DR_CTL_CH))

/-- A dump to the host ring is dropped: counted there and in the next record (R332). -/
def State.dropHost (s : State) : State :=
  ({ s with pmc := { s.pmc with lostHost := s.pmc.lostHost + 1 } }).addSat Fd.PMC_DLOST_HOST 1

def State.dropDram (s : State) : State :=
  ({ s with pmc := { s.pmc with lostDram := s.pmc.lostDram + 1 } }).addSat Fd.PMC_DLOST_DRAM 1

/-- A dump due at a snapshot (R331, R332): one record per ring that can take it. -/
def State.startDump (s : State) : State :=
  let dest := s.get Fd.PMC_CTL_DEST
  let host := bit dest 0
  let dram := bit dest 1
  if dest = 0 then s
  else if s.pmc.writing.isSome then
    let s := if host then s.dropHost else s
    (if dram then s.dropDram else s).pulse 304
  else
    let ch := s.get Fd.PMC_DR_CTL_CH
    let aligned := s.get Fd.PMC_HR_BASE_LO_ADDR % 4096 == 0
    let s := s.refreshRings
    let canHost := host && aligned && s.linkUsable && !s.getB Fd.PMC_STAT_HR_FULL
    let canDram := dram && !s.getB Fd.DRC_CSTAT_LOST ch
    let h := if canHost then
      some (s.get Fd.PMC_HR_WR_INDEX, s.dumpRecord (s.get Fd.PMC_DSEQ_SEQ + 1) s.pmc.lostHost s.pmc.clrHost) else none
    let d := if canDram then
      some (ch, s.get Fd.PMC_DR_WR_INDEX, s.dumpRecord (s.pmc.drSeq + 1) s.pmc.lostDram s.pmc.clrDram) else none
    let s := if host && !aligned then s.dropHost.pulse 307
      else if host && !canHost then s.dropHost.pulse 306 else s
    let s := if dram && !canDram then s.dropDram else s
    if canHost || canDram then
      let p := { s.pmc with
        writing := some ⟨h, d, if canHost || !host then s.pmc.wraps else []⟩
        clrHost := s.pmc.clrHost && !canHost
        clrDram := s.pmc.clrDram && !canDram }
      ({ s with pmc := p }).setB Fd.PMC_STAT_DUMPING true
    else s

/-- Wrap counts less those that a written record carries: a record to the host ring, or to the DRAM ring where DEST names only that one
(R331). -/
def wrapsLess (wraps carried : List (Nat × Nat)) : List (Nat × Nat) :=
  carried.foldl (fun m p => mapSet 0 m p.1 (mapGet 0 m p.1 - p.2)) wraps

/-- The record being written is complete: indices, sequence numbers, the index writeback (R331, R332). -/
def State.finishDump (s : State) : State :=
  match s.pmc.writing with
  | none => s
  | some d =>
    let s := { s with
      pmc := { s.pmc with writing := none, wraps := wrapsLess s.pmc.wraps d.wraps }
      out := { s.out with host := [] } }
    let s := match d.host with
      | some (slot, ws) =>
        let base := s.get Fd.PMC_HR_BASE_HI_ADDR * 2 ^ 32 + s.get Fd.PMC_HR_BASE_LO_ADDR
        let next := (slot + 1) % s.get Fd.PMC_HR_SIZE_RECORDS
        let wb := s.get Fd.PMC_HR_WB_HI_ADDR * 2 ^ 32 + s.get Fd.PMC_HR_WB_LO_ADDR
        let s := { s with
          pmc := { s.pmc with lostHost := s.pmc.lostHost - (nth ws 7).toNat }
          out := { s.out with host := (base + slot * 4096, ws) :: (if wb = 0 then [] else [(wb, [wd next])]) } }
        (s.set Fd.PMC_HR_WR_INDEX next).set Fd.PMC_DSEQ_SEQ (nth ws 1).toNat
      | none => s
    let s := match d.dram with
      | some (_, slot, ws) =>
        let s := { s with pmc := { s.pmc with
          lostDram := s.pmc.lostDram - (nth ws 7).toNat
          drSeq := (nth ws 1).toNat
          ring := mapSet [] s.pmc.ring slot ws } }
        s.set Fd.PMC_DR_WR_INDEX ((slot + 1) % 4096)
      | none => s
    (s.setB Fd.PMC_STAT_DUMPING false).refreshRings

/-- COUNTER_DUMP, R331. -/
def execCounterDump (s : State) : Out := s.whenLive <| .next s.finishDump

/-- The host record in flight is dropped and counted (R370); the CLR flag it carried stands for the next. -/
def State.dropHostInFlight (s : State) : State :=
  match s.pmc.writing with
  | some ⟨some (_, ws), dram, _⟩ =>
    let left : Option Dump := match dram with
      | some d => some ⟨none, some d, []⟩
      | none => none
    let s := { s with pmc := { s.pmc with writing := left, clrHost := s.pmc.clrHost || bit (nth ws 6).toNat 16 } }
    (s.dropHost.pulse 306).setB Fd.PMC_STAT_DUMPING left.isSome
  | _ => s

/-- The DRAM record in flight on a channel that is lost is dropped and counted (Table 17.7). -/
def State.dropDramInFlight (s : State) (ch : Nat) : State :=
  match s.pmc.writing with
  | some ⟨host, some (c, _, ws), wraps⟩ =>
    if c ≠ ch then s
    else
      let left : Option Dump := match host with
        | some h => some ⟨some h, none, wraps⟩
        | none => none
      let s := { s with pmc := { s.pmc with writing := left, clrDram := s.pmc.clrDram || bit (nth ws 6).toNat 16 } }
      s.dropDram.setB Fd.PMC_STAT_DUMPING left.isSome
  | _ => s

/-! ### The snapshot (step 3 of Table 1.10) -/

/-- The enabled counters with EVSEL and FILT, as their registers stand. -/
def State.counterSelection (s : State) : List (Nat × Word × Word) :=
  (List.range 384).filterMap fun i =>
    let e := s.reg (Reg.PMC_EVSEL.off i 0)
    if bit e.toNat 31 then some (i, e, s.reg (Reg.PMC_FILT.off i 0)) else none

/-- What takes effect after the snapshot (R327, R328): CLEAR, RUN, EVSEL, FILT and ARANGE; an undefined code raises PMC_CFG. -/
def State.perfActivate (s : State) : State :=
  let old := s.pmc.sel
  let sel := s.counterSelection
  let ranges := (List.range 8).map fun r => (s.get Fd.PMC_ARANGE_LO_ADDR r, s.get Fd.PMC_ARANGE_HI_ADDR r)
  let p := { s.pmc with run := s.getB Fd.PMC_CTL_RUN, sel := sel, ranges := ranges }
  let p := if p.clearing then { p with clearing := false, cnt := [], wraps := [], clrHost := true, clrDram := true } else p
  let bad := sel.any fun e => !eventDefined (evselReset e.1 % 256) (wbits e.2.1 23 16) && !old.contains e
  let s := { s with pmc := p }
  if bad then s.pulse 307 else s

/-- The snapshot of a sheet boundary, with bandwidth and a dump where SHEET mod IVL = 0. -/
def State.perfSheet (s : State) (inp : SheetInput) : State :=
  let s := s.perfTraffic inp
  let keys := ((s.pmc.cnt ++ s.pmc.snap).map Prod.fst).eraseDups
  let s := forEach keys s fun s i => s.set Fd.PMC_VAL_LO_VALUE (mapGet 0 s.pmc.cnt i) i
  let s := { s with pmc := { s.pmc with snap := s.pmc.cnt } }
  let ivl := s.get Fd.PMC_CTL_IVL
  let s := if s.sheet % 2 ^ 32 % ivl = 0 then
      let s := forEach (List.range 54) s fun s p =>
        let b := s.bandwidth p s.sheet ivl
        (s.set Fd.PMC_BW_MEAN b.1 p).set Fd.PMC_BW_PEAK b.2 p
      s.startDump
    else s
  let s := { s with pmc := { s.pmc with bytes := s.pmc.bytes.filter fun e => decide (s.sheet ≤ e.1 + 65535) } }
  s.perfActivate.raiseWraps

/-- A read of VAL_LO latches VAL_HI of the same counter (R326). -/
def State.readValLo (s : State) (i : Nat) : State :=
  let s := s.set Fd.PMC_VAL_HI_VALUE (mapGet 0 s.pmc.snap i / 2 ^ 32) i
  { s with out := { s.out with readData := s.reg (Reg.PMC_VAL_LO.off i 0) } }

/-- A write of 1 to CTL.CLEAR (R327). -/
def State.clearCounters (s : State) : State := { s with pmc := { s.pmc with clearing := true } }

/-! ### Counter commands (Table 17.6) -/

/-- PMC_STATUS, 0x49. -/
def execPmcStatus (mb : Fin 20) (s : State) : Out := s.whenLive <|
  .next (s.runCommand mb 0x49 fun s c => s.checked mb c 1 false fun s =>
    let s := s.refreshRings
    s.complete mb c 0x00 [s.reg (Reg.PMC_CTL.off 0 0), s.reg (Reg.PMC_STAT.off 0 0), s.reg (Reg.PMC_DSEQ.off 0 0),
      s.reg (Reg.PMC_DLOST.off 0 0), s.reg (Reg.PMC_HR_WR.off 0 0), s.reg (Reg.PMC_HR_RD.off 0 0), s.reg (Reg.PMC_DR_WR.off 0 0),
      s.reg (Reg.PMC_DR_RD.off 0 0)])

/-- A host address of two payload words. -/
def hostAddress (c : Command) : Nat := (c.word 2).toNat * 2 ^ 32 + (c.word 1).toNat

/-- PMC_EXPORT, 0x48. -/
def execPmcExport (mb : Fin 20) (s : State) : Out := s.whenLive <|
  .next (s.runCommand mb 0x48 fun s c => s.checked mb c 3 false fun s =>
    let addr := hostAddress c
    let from_ := (c.word 3).toNat
    let n := wbits (c.word 4) 12 0
    if addr % 4096 ≠ 0 ∨ n < 1 ∨ 4096 < n then s.complete mb c 0x04
    else if s.getB Fd.DRC_CSTAT_LOST (s.get Fd.PMC_DR_CTL_CH) then s.complete mb c 0x07
    else
      let found := (List.range n).filterMap fun k => (s.pmc.ring.find? fun e => nth e.2 1 == wd (from_ + k)).map fun e => e.2
      let s := { s with out := { s.out with host := found.zipIdx.map fun (r : List Word × Nat) => (addr + 4096 * r.2, r.1) } }
      s.complete mb c 0x00 [wd found.length, wd (min (from_ + n) (max from_ (s.pmc.drSeq + 1)))])

/-! ### Capture (R334, R335) -/

/-- Slots of a capture: its lanes, RX before TX, ascending. -/
def captureLanes (w : Word) : List (Nat × Bool) :=
  (maskList (wbits w 15 0) 16).map (fun n => (n, false)) ++ (maskList (wbits w 31 16) 16).map fun n => (n, true)

/-- The largest number of samples per lane: the lane's share of 512 MiB. -/
def captureShare (w : Word) : Nat := 134217728 / max 1 (captureLanes w).length

/-- The DRAM channel holds part of the capture buffer (words 7-10 of CAPTURE_STATUS). -/
def SampleCapture.onChannel (k : SampleCapture) (c : Nat) : Bool :=
  (List.range (captureLanes k.lanes).length).any fun i => (Config.captureMap i).toNat % 4 == c

/-- A stamp already past. -/
def State.stampPast (s : State) (sec gt : Nat) : Bool := decide (sec < s.time.opSec ∨ (sec = s.time.opSec ∧ gt < s.gtInSec))

/-- A lane of a capture is OFF. -/
def State.captureOff (s : State) (w : Word) : Bool :=
  (captureLanes w).any fun l => if l.2 then s.get Fd.SYN_LSTATE_TX_STATE l.1 == 0 else s.get Fd.SYN_LSTATE_RX_STATE l.1 == 0

/-- CAPTURE_ARM, 0x40. -/
def execCaptureArm (mb : Fin 20) (s : State) : Out := s.whenLive <|
  .next (s.runCommand mb 0x40 fun s c => s.checked mb c 3 false fun s =>
    let lanes := c.word 1
    let trig := wbits (c.word 2) 1 0
    let src := wbits (c.word 2) 25 16
    let len := (c.word 5).toNat
    let pre := (c.word 6).toNat
    let n := (captureLanes lanes).length
    if n = 0 ∨ len < 1536 ∨ len % 1536 ≠ 0 ∨ len < pre ∨ (trig = 2 ∧ 511 < src) ∨ (trig = 1 ∧ 640000 ≤ wbits (c.word 4) 19 0) then
      s.complete mb c 0x04
    else if 4 < n ∨ captureShare lanes < len ∨ (trig = 1 ∧ s.stampPast (c.word 3).toNat (wbits (c.word 4) 19 0)) then
      s.complete mb c 0x0D
    else if s.capt.state = 1 ∨ s.capt.state = 2 then s.complete mb c 0x06
    else if s.captureOff lanes then s.complete mb c 0x07
    else
      let s := s.acceptEarly mb c
      { s with capt := { SampleCapture.reset with
        state := 1, cmd := some (mb, c.accepted), lanes := lanes, trigger := trig, source := src, opSec := (c.word 3).toNat
        gt := wbits (c.word 4) 19 0, len := len, pre := pre, armAt := s.time.gt } })

/-- The trigger of an armed capture is met at this grid tick boundary (R334). -/
def State.captureMet (s : State) : Bool :=
  let k := s.capt
  decide (k.state = 1) &&
    (if k.trigger = 0 then decide (k.armAt < s.time.gt)
     else if k.trigger = 1 then decide (k.opSec < s.time.opSec ∨ (k.opSec = s.time.opSec ∧ k.gt ≤ s.gtInSec))
     else if k.trigger = 2 then (match k.hit with
       | some t => decide (t < s.time.gt)
       | none => false)
     else k.hit.isSome)

/-- The trigger sample of an armed capture is the first of this grid tick. -/
def State.captureTrigger (s : State) : State :=
  if s.captureMet then
    { s with capt := { s.capt with
      state := 2, trigAt := s.time.gt, trigStamp := s.stamp, index := min s.capt.pre ((s.time.gt - s.capt.armAt) * 1536) } }
  else s

/-- CAPTURE_TRIGGER, R334. -/
def execCaptureTrigger (s : State) : Out := s.whenLive <| .next s.captureTrigger

/-- Complete the CAPTURE_ARM of a capture. -/
def State.captureEnd (s : State) (state held status : Nat) (data : List (Nat × Word)) (payload : List Word) : State :=
  let cmd := s.capt.cmd
  let s := { s with capt := { s.capt with state := state, held := held, data := data, cmd := none } }
  match cmd with
  | some (m, c) => s.complete m c status payload
  | none => s

/-- CAPTURE_DONE, R334: the last sample is written. -/
def execCaptureDone (data : List (Nat × Word)) (s : State) : Out := s.whenLive <|
  let k := s.capt
  if k.state = 2 ∧ k.len - k.pre ≤ (s.time.gt - k.trigAt) * 1536 then
    .next (s.captureEnd 3 (k.index + (k.len - k.pre)) 0x00 data [])
  else .next s

/-- Samples held: those so far of an armed or running capture, those kept of one that has ended. -/
def State.captureHeld (s : State) : Nat :=
  let k := s.capt
  if k.state = 2 then k.index + min (k.len - k.pre) ((s.time.gt - k.trigAt) * 1536)
  else if k.state = 1 then min k.len ((s.time.gt - k.armAt) * 1536)
  else k.held

/-- End an armed or running capture ABORTED, with the samples held so far. -/
def State.captureStop (s : State) (data : List (Nat × Word)) : State :=
  let h := s.captureHeld
  s.captureEnd 4 h 0x0A data [wd h]

/-- CAPTURE_ABORT, 0x41. -/
def execCaptureAbort (mb : Fin 20) (data : List (Nat × Word)) (s : State) : Out := s.whenLive <|
  .next (s.runCommand mb 0x41 fun s c => s.checked mb c 3 false fun s =>
    if s.capt.state = 1 ∨ s.capt.state = 2 then (s.captureStop data).complete mb c 0x00
    else s.complete mb c 0x07)

/-- A sample of the capture buffer: as presented, else a free value. -/
def SampleCapture.sample (k : SampleCapture) (slot i : Nat) : Word :=
  match k.data.find? fun p => p.1 == 134217728 * slot + i with
  | some p => p.2
  | none => Config.captureSample k.armAt (134217728 * slot + i)

/-- CAPTURE_READ, 0x42. -/
def execCaptureRead (mb : Fin 20) (s : State) : Out := s.whenLive <|
  .next (s.runCommand mb 0x42 fun s c => s.checked mb c 3 false fun s =>
    let addr := hostAddress c
    let slot := wbits (c.word 3) 1 0
    let first := (c.word 4).toNat
    let n := (c.word 5).toNat
    if addr % 4096 ≠ 0 ∨ n < 1 ∨ 134217728 < n then s.complete mb c 0x04
    else if (captureLanes s.capt.lanes).length ≤ slot ∨ s.captureHeld < first + n then s.complete mb c 0x0D
    else if s.capt.state = 2 then s.complete mb c 0x07
    else
      let ws := (List.range n).map fun i => s.capt.sample slot (first + i)
      ({ s with out := { s.out with host := [(addr, ws)] } }).complete mb c 0x00)

/-- CAPTURE_STATUS, 0x43. -/
def execCaptureStatus (mb : Fin 20) (s : State) : Out := s.whenLive <|
  .next (s.runCommand mb 0x43 fun s c => s.checked mb c 2 false fun s =>
    let k := s.capt
    let n := (captureLanes k.lanes).length
    s.complete mb c 0x00 ([wd k.state, k.lanes, wd k.len, wd k.trigStamp.opSec, wd k.trigStamp.gt, wd k.index] ++
      ((List.range 4).map fun i => if i < n then Config.captureMap i else 0) ++
      ((List.range 4).map fun i => if i < n then wd s.captureHeld else 0) ++ [0, 0]))

/-- Freeze (R335): an armed or running capture with trigger 3 takes its trigger and is stopped; every capture ends with its buffer kept.
Its command is answered after the reset. -/
def State.captureFreeze (s : State) : State :=
  let k := s.capt
  if k.state ≠ 1 ∧ k.state ≠ 2 then s
  else
    let s := if k.state = 1 ∧ k.trigger = 3 then { s with capt := { k with hit := some s.time.gt } } else s
    let s := s.captureTrigger
    let held := if s.capt.trigger = 3 then s.capt.index + min (s.capt.len - s.capt.pre) (Config.freezeSamples s.draws)
      else s.captureHeld
    { s with draws := s.draws + 1, capt := { s.capt with state := 4, held := held, cmd := none } }

end Sys2Proof.Machine
end

