-- ==== Sys2Proof/Machine/Lock.lean ====
section
/-!
DEFINITION. The maintenance lock and its commands (13_chart_mailbox_protocol.md R266, Table 13.14).
-/

namespace Sys2Proof.Machine

/-- The Field Book record and the LOCK notification of a grant (0), release (1), expiry (2) or break (3) (R266, Table 16.3). -/
def State.lockEvent (s : State) (event holder breaker : Nat) : State :=
  let s := s.offer ⟨7, 0x3FF, 0, 0, false, false, s.stamp,
    [wd (event + holder * 2 ^ 8 + breaker * 2 ^ 16), wd s.fw.leaseEnd] ++ List.replicate 8 0⟩
  s.notifyChart 0xF6 [wd event, wd holder, wd breaker]

/-- The lock ends; a field-injection unlock ends with it (R298). -/
def State.dropLock (s : State) : State :=
  { s with
    fw := { s.fw with lockHolder := none }
    flt := { s.flt with unlockEnd := none } }

/-- A lease of 1 to 3,600 s (Table 13.14). -/
def leaseOk (v : Word) : Bool := decide (1 ≤ v.toNat) && decide (v.toNat ≤ 3600)

/-- Set the lease end: the operating second whose boundary is the first at or after the instant `secs` seconds on (R266; DEDUCED,
log entry 11). -/
def State.lease (s : State) (secs : Nat) : State :=
  { s with fw := { s.fw with leaseEnd := s.time.opSec + secs + (if s.gtInSec = 0 then 0 else 1) } }

/-- LOCK_ACQUIRE, 0xE0. -/
def execLockAcquire (mb : Fin 20) (s : State) : Out := s.whenLive <|
  .next (s.runCommand mb 0xE0 fun s c => s.checked mb c 1 false fun s =>
    if !leaseOk (c.word 1) then s.complete mb c 0x04
    else match s.fw.lockHolder with
      | some h =>
        if h = mb.val then
          let s := s.lease (c.word 1).toNat
          s.complete mb c 0x00 [wd s.fw.leaseEnd]
        else s.complete mb c 0x0B [wd h]
      | none =>
        let s := s.lease (c.word 1).toNat
        let s := { s with fw := { s.fw with lockHolder := some mb.val } }
        (s.lockEvent 0 mb 0xFF).complete mb c 0x00 [wd s.fw.leaseEnd])

/-- LOCK_RENEW, 0xE1. -/
def execLockRenew (mb : Fin 20) (s : State) : Out := s.whenLive <|
  .next (s.runCommand mb 0xE1 fun s c => s.checked mb c 1 false fun s =>
    if !leaseOk (c.word 1) then s.complete mb c 0x04
    else if s.fw.lockHolder = some mb.val then
      let s := s.lease (c.word 1).toNat
      s.complete mb c 0x00 [wd s.fw.leaseEnd]
    else s.complete mb c 0x07)

/-- LOCK_RELEASE, 0xE2. -/
def execLockRelease (mb : Fin 20) (s : State) : Out := s.whenLive <|
  .next (s.runCommand mb 0xE2 fun s c => s.checked mb c 1 false fun s =>
    if s.fw.lockHolder = some mb.val then (s.dropLock.lockEvent 1 mb 0xFF).complete mb c 0x00
    else s.complete mb c 0x07)

/-- LOCK_BREAK, 0xE3. -/
def execLockBreak (mb : Fin 20) (s : State) : Out := s.whenLive <|
  .next (s.runCommand mb 0xE3 fun s c => s.checked mb c 3 false fun s =>
    match s.fw.lockHolder with
    | some h => (s.dropLock.lockEvent 3 h mb).complete mb c 0x00
    | none => s.complete mb c 0x07)

/-- Whole seconds left of the lease, 0 to 3,600. -/
def State.leaseLeft (s : State) : Nat :=
  match s.fw.lockHolder with
  | some _ => s.fw.leaseEnd - s.time.opSec - (if s.gtInSec = 0 then 0 else 1)
  | none => 0

/-- LOCK_STATUS, 0xE4. -/
def execLockStatus (mb : Fin 20) (s : State) : Out := s.whenLive <|
  .next (s.runCommand mb 0xE4 fun s c => s.checked mb c 1 false fun s =>
    s.complete mb c 0x00 [wd (s.fw.lockHolder.getD 0xFF), wd s.leaseLeft])

/-- LOCK_LEASE_EXPIRY, R266: at an operating-second boundary at or after the lease end the lock ends. -/
def execLockLeaseExpiry (s : State) : Out := s.whenLive <|
  match s.fw.lockHolder with
  | some h => if s.fw.leaseEnd ≤ s.time.opSec then .next (s.dropLock.lockEvent 2 h 0xFF) else .next s
  | none => .next s

end Sys2Proof.Machine
end

