-- ==== Sys2Proof/Machine/Protect.lean ====
section
/-!
DEFINITION. Network protection (09_network_protection.md): the four restrictions and their trips, retries and releases (R178 to R184,
R379), the measurements of the Datum core (R185, R186, R188, R189), the comparators (R187, R190, R191), gates (R193 to R196), the
Datum restart (R180) and the grid-tick trigger (R35), with the protection commands (R198).
-/

namespace Sys2Proof.Machine

/-! ### Targets -/

/-- Windows whose route or WDOM names a domain. -/
def State.windowsNaming (s : State) (d : Nat) : List Nat := (List.range 16).filter fun w => bit s.win.bound w && (s.routeDomains w).contains d

/-- TX lanes of a restricted target (R182): the lane, or those of its window. -/
def State.targetLanes (s : State) (cls t : Nat) : Nat :=
  if cls = 2 then 2 ^ t
  else listMask ((if cls = 1 then [t] else s.windowsNaming t).flatMap fun w => s.lanesOf w false)

/-- Domains of a restricted target (R182). -/
def State.targetDomains (s : State) (cls t : Nat) : Nat :=
  if cls = 0 then 2 ^ t else if cls = 1 then s.windowDomains t else s.domainsOf (s.windowsOf t false)

/-- Kind `k` of 1 to 5 is enabled (Table 9.9); kinds 0, 6, 7 and 8 cannot be disabled. -/
def State.kindOn (s : State) (k : Nat) : Bool := if 1 ≤ k ∧ k ≤ 5 then bit (s.get Fd.FLT_PCTL_EN) (k - 1) else true

/-- Source of a kind: 0x3FF for the host stop (R379). -/
def kindSource (k : Nat) : Nat := if k < 8 then 480 + k else 0x3FF

/-- FEC outputs that the Datum core holds inactive (R178, R190, R218): the PA enables of lanes held by a reflected-power, a spurious or
a grid-tick trip. -/
def State.paForced (s : State) : Nat :=
  let l := s.prot.held.filter fun r => r.inForce && r.cls == 2 && (r.kind == 4 || r.kind == 5 || r.kind == 7) && r.unmuteAt.isNone
  listMask ((l.filter fun r => s.getB Fd.FLT_LCFG_PA_VALID r.target).map fun r => s.get Fd.FLT_LCFG_PA_FEC r.target)

/-! ### Registers of a target -/

/-- The base hold of a restriction, in grid ticks: prot.hold × 2^(min(n, 7) − 1) sheets (R184). -/
def State.holdTicks (s : State) (r : Restriction) : Nat := 80 * (s.get Fd.FLT_HOLD_HOLD r.kind * 2 ^ (min r.n 7 - 1))

/-- HOLD_LEFT of a target: sheets to the earliest release. -/
def State.holdLeft (s : State) (rs : List Restriction) : Nat :=
  let l := (rs.filter fun r => !r.latched && decide (r.kind < 8)).map fun r => (r.since + s.holdTicks r - s.time.gt + 79) / 80
  match l with
  | [] => 0
  | x :: xs => min (xs.foldl min x) 0xFFFF

/-- REASON bit of a window's restriction. -/
def reasonBit (kind : Nat) : Nat := if kind = 2 then 8 else if kind = 3 then 16 else if kind = 4 then 32 else if kind = 8 then 64 else 0

/-- The restrictions in force on a target. -/
def State.onTarget (s : State) (cls t : Nat) : List Restriction :=
  s.prot.held.filter fun r => r.cls == cls && r.target == t && r.inForce

/-- The walker's requests for a window (R133), as REASON bits. -/
def State.walkerReq (s : State) (w : Nat) : Nat :=
  b2n (s.getB Fd.POS_WLIM_REQ_REGION w) + 2 * b2n (s.getB Fd.POS_WLIM_REQ_TOL w) + 4 * b2n (s.getB Fd.POS_WLIM_REQ_BANK w)

/-- A trip on a target that is not yet in force: it keeps a target restricted that a release would let go (R197). -/
def State.tripped (s : State) (cls t : Nat) : Bool := s.prot.held.any fun r => r.cls == cls && r.target == t && r.kind != 7

/-- Bring the registers of a domain in line with its restrictions: DSTAT, OSC_CLOSED, WOSC.CLOSED. -/
def State.refreshDomain (s : State) (d : Nat) : State :=
  let rs := s.onTarget 0 d
  let osc := rs.any fun r => r.kind == 0
  let s := (s.set Fd.FLT_DSTAT_HOLD_LEFT (s.holdLeft rs) d).setB Fd.FLT_DSTAT_LATCHED (rs.any (·.latched)) d
  let s := s.setB Fd.FLT_DSTAT_CLOSED (!rs.isEmpty || (s.getB Fd.FLT_DSTAT_CLOSED d && s.tripped 0 d)) d
  let s := s.setB Fd.FLT_DSTAT_CLR (rs.any fun r => r.kind == 1) d
  let s := (s.setB Fd.FLT_DSTAT_OSC osc d).setB Fd.CON_DSUPST_OSC_CLOSED osc d
  forEach (s.windowsNaming d) s fun s w =>
    s.setB Fd.CON_WOSC_CLOSED ((s.routeDomains w).any fun e => s.getB Fd.CON_DSUPST_OSC_CLOSED e) w

/-- Bring the registers of a window in line: WSTAT, DATUM_DIS, RUNNING. A request of the walker keeps a stopped window stopped (R197). -/
def State.refreshStop (s : State) (w : Nat) : State :=
  let rs := s.onTarget 1 w
  let stop := !rs.isEmpty || (s.getB Fd.CHN_WCTL_DATUM_DIS w && (s.tripped 1 w || s.walkerReq w != 0))
  let s := (s.set Fd.FLT_WSTAT_HOLD_LEFT (s.holdLeft rs) w).setB Fd.FLT_WSTAT_LATCHED (rs.any (·.latched)) w
  let s := s.set Fd.FLT_WSTAT_REASON (rs.foldl (fun a r => a ||| reasonBit r.kind) (mapGet 0 s.prot.walker w)) w
  ((s.setB Fd.FLT_WSTAT_STOPPED stop w).setB Fd.CHN_WCTL_DATUM_DIS stop w).refreshRunning w

/-- Bring the registers of a TX lane in line: LSTAT, SRC_DATUM, MUTED. A grid-tick trip mutes through its CRITICAL reaction. -/
def State.refreshLane (s : State) (n : Nat) : State :=
  let rs := s.onTarget 2 n
  let mute := (rs.any fun r => r.kind != 7) || (s.getB Fd.LANE_TX_MUTE_SRC_DATUM n && s.tripped 2 n)
  let s := (s.setB Fd.FLT_LSTAT_LATCHED (rs.any (·.latched)) n).setB Fd.FLT_LSTAT_MUTED mute n
  let s := (s.setB Fd.FLT_LSTAT_HOST (rs.any fun r => r.kind == 8) n).setB Fd.FLT_LSTAT_SPUR (rs.any fun r => r.kind == 4) n
  let s := s.setB Fd.FLT_LSTAT_REFL (rs.any fun r => r.kind == 5) n
  (s.setB Fd.LANE_TX_MUTE_SRC_DATUM mute n).updateMuted n

def State.refreshTarget (s : State) (cls t : Nat) : State :=
  if cls = 0 then s.refreshDomain t else if cls = 1 then s.refreshStop t else s.refreshLane t

/-- PSTAT (Table 9.9). -/
def State.refreshPstatProt (s : State) : State :=
  let on_ := s.prot.held.filter (·.inForce)
  let count := fun cls => ((List.range 256).filter fun t => on_.any fun r => r.cls == cls && r.target == t && r.kind != 7).length
  let s := (s.setB Fd.FLT_PSTAT_RESTART s.prot.datumDown).setB Fd.FLT_PSTAT_HOSTSTOP (on_.any fun r => r.kind == 8)
  ((s.set Fd.FLT_PSTAT_WIN (count 1)).set Fd.FLT_PSTAT_LANE (count 2)).set Fd.FLT_PSTAT_DOM (count 0)

/-! ### Trips (R181 to R184, R379) -/

/-- The PROT_TRIP or PROT_RELEASE record and the PROTECTION notification of a target (Table 16.3, R379); a trip's REASON holds its own
bit (DEDUCED, log entry 70). -/
def State.noteProt (s : State) (release : Bool) (r : Restriction) (value : Int) : State :=
  let src := kindSource r.kind
  let own := if release then 0 else reasonBit r.kind
  let reason := if r.cls = 1 then s.get Fd.FLT_WSTAT_REASON r.target ||| own else 0
  let sev := if release ∨ 8 ≤ r.kind then 0 else s.get Fd.FLT_SCFG_BASE src
  let v := if release ∨ r.kind = 8 then 0 else value
  let s := s.offer ⟨if release then 5 else 4, src, sev, 0, false, false, s.stamp,
    [wd (r.kind + r.cls * 2 ^ 8 + r.target * 2 ^ 16), wd (min r.n 255 + reason * 2 ^ 8), wdI (if r.kind = 8 then 0 else value)] ++
      List.replicate 7 0⟩
  s.notifyNow 0xF4 [wd (src + r.kind * 2 ^ 12 + r.cls * 2 ^ 16 + b2n release * 2 ^ 31), wd r.target,
    wd (min r.n 15 + reason * 2 ^ 8 + b2n r.latched * 2 ^ 16), wdI v]

/-- n of a trip now (R184): the trips of the kind on the target in the retry window before, and this one. -/
def State.tripCount (s : State) (kind cls t : Nat) : Nat :=
  (s.prot.trips.filter fun p => p.1 == kind && p.2.1 == cls && p.2.2.1 == t && decide (p.2.2.2 < s.time.gt) &&
    decide (s.time.gt ≤ p.2.2.2 + 80 * s.get Fd.FLT_RETRY_WIN_SHEETS)).length + 1

/-- Hold a target: the trip is counted, recorded and announced; it latches beyond the retry limit, and stays latched once it is. It comes
into force at `enforce`. -/
def State.holdTarget (s : State) (kind cls group : Nat) (value : Int) (t : Nat) : State :=
  let n := s.tripCount kind cls t
  let limit := if kind < 8 then s.get Fd.FLT_HOLD_LIMIT kind else 0
  let old := s.prot.held.find? fun r => r.kind == kind && r.cls == cls && r.target == t
  let r : Restriction :=
    ⟨kind, cls, t, s.time.gt, n, (limit != 0 && decide (limit < n)) || old.any (·.latched), group, old.any (·.inForce), none⟩
  let rest := s.prot.held.filter fun q => !(q.kind == kind && q.cls == cls && q.target == t)
  let old := s.prot.trips.filter fun p => decide (s.time.gt ≤ p.2.2.2 + 80 * s.get Fd.FLT_RETRY_WIN_SHEETS)
  let s := { s with prot := { s.prot with held := rest ++ [r], trips := old ++ [(kind, cls, t, s.time.gt)] } }
  let s :=
    if cls = 0 then s.set Fd.FLT_DSTAT_N (min n 15) t
    else if cls = 1 then
      ((s.set Fd.FLT_WRETRY_KIND kind t).set Fd.FLT_WRETRY_N (min n 15) t).addSat Fd.FLT_WRETRY_TRIPS 1 t
    else s.set Fd.FLT_LSTAT_N (min n 15) t
  s.noteProt false r value

/-- A trip of a kind on its targets: one event of its source (R182), and each target held. -/
def State.trip (s : State) (kind cls : Nat) (targets : List Nat) (value : Int) : State :=
  let group := if kind = 4 ∧ cls = 2 then listMask targets else 0
  let s := forEach targets s fun s t => s.holdTarget kind cls group value t
  if kind < 8 then
    s.pulseOn (480 + kind) (targets.foldl (fun a t => a ||| s.targetLanes cls t) 0)
      (targets.foldl (fun a t => a ||| s.targetDomains cls t) 0)
  else s

/-- Restrictions tripped come into force, at the next grid tick boundary (R183). -/
def State.enforce (s : State) : State :=
  let fresh := s.prot.held.filter fun r => !r.inForce
  if fresh.isEmpty then s
  else
    let all := s.prot.held.map fun (r : Restriction) => ({ r with inForce := true } : Restriction)
    let s := { s with prot := { s.prot with held := all } }
    (forEach fresh s fun s r => s.refreshTarget r.cls r.target).refreshPstatProt

/-! ### Releases (R182, R184, R190) -/

/-- R182: with AUTO_REC the collector's reaction to a trip goes with the restriction of that trip on that target. -/
def State.releaseTripReaction (s : State) (r : Restriction) : State :=
  let src := 480 + r.kind
  if 8 ≤ r.kind ∨ s.getB Fd.FLT_SCFG_AUTO_REC src = false ∨ s.hasReaction src = false then s
  else
    let same := s.prot.held.filter fun q => q.kind == r.kind
    if same.isEmpty then s.releaseReactions src
    else
      let keepL := same.foldl (fun a q => a ||| s.targetLanes q.cls q.target) 0
      let keepD := same.foldl (fun a q => a ||| s.targetDomains q.cls q.target) 0
      let goL := maskClear (s.targetLanes r.cls r.target) keepL
      let goD := maskClear (s.targetDomains r.cls r.target) keepD
      let cut := fun (q : Reaction) =>
        if q.source = src then ({ q with lanes := maskClear q.lanes goL, domains := maskClear q.domains goD } : Reaction) else q
      { s with flt := { s.flt with reactions := s.flt.reactions.map cut } }.syncFltMute

/-- The highest noise raise over the domains of a window (R185). -/
def State.windowNrs (s : State) (w : Nat) : Option Int :=
  match (s.routeDomains w).filterMap fun d => s.nrsMeasure w d with
  | [] => none
  | v :: vs => some (vs.foldl max v)

/-- The value that a release records (R184): the latest measurement of the restriction's kind on its target, 0 for a kind that measures none
(log entry 127). -/
def State.protValue (s : State) (r : Restriction) : Int :=
  if r.kind = 1 then s.getI Fd.CON_DCLR_CLR r.target
  else if r.kind = 2 then s.getI Fd.FLT_WDONOR_RSRP r.target
  else if r.kind = 3 then (s.windowNrs r.target).getD 0
  else if r.kind = 4 ∧ r.cls = 1 then
    sat (32 * ((s.prot.spans.filter fun p => p.1 / 2 == r.target).map (·.2)).foldl max (-32768)) 16
  else if r.kind = 5 then s.getI Fd.FLT_LSTAT_RL r.target
  else 0

/-- Release a restriction: recorded and announced; a released domain opens again from its initialisation (R150, R166). -/
def State.releaseOne (s : State) (r : Restriction) : State :=
  let s := { s with prot := { s.prot with held := s.prot.held.filter fun q => q != r } }
  let s := s.refreshTarget r.cls r.target
  let s :=
    if r.cls = 0 ∧ !s.tripped 0 r.target then
      s.awaitInit r.target
    else s
  let s := s.releaseTripReaction r
  (s.noteProt true r (s.protValue r)).refreshPstatProt

/-- A lane held with its PA enable off is released in two steps (R190): the override first, the mute one sheet later. -/
def State.release (s : State) (r : Restriction) : State :=
  match r.kind, r.unmuteAt with
  | 5, none =>
    let upd := fun (q : Restriction) => if q = r then ({ q with unmuteAt := some (s.sheet + 1), latched := false } : Restriction) else q
    { s with prot := { s.prot with held := s.prot.held.map upd } }
  | 5, some t => if t ≤ s.sheet then s.releaseOne r else s
  | _, _ => s.releaseOne r

/-- Donor level at which a stopped group is released (R188): two good jobs, at least 3 dB above the minimum. -/
def State.donorBack (s : State) (w : Nat) : Bool :=
  decide (2 ≤ s.get Fd.FLT_WDONOR_GOOD w) && decide (s.getI Fd.FLT_THR_DONOR_MIN + 48 ≤ s.getI Fd.FLT_WDONOR_RSRP w)

/-- The re-enable condition of Table 9.1 of a restriction. -/
def State.reenable (s : State) (r : Restriction) : Bool :=
  if r.kind = 2 then s.donorBack r.target
  else if r.kind = 6 then s.walkerReq r.target == 0
  else if r.kind = 7 then decide (8000 ≤ s.prot.goodTicks)
  else r.kind != 8

/-- A restriction is released now (R184): a sheet boundary, the hold passed, the condition met, not latched, the Datum core serving;
lanes of one spurious trip together. -/
def State.releaseDue (s : State) (r : Restriction) : Bool :=
  let held := fun (q : Restriction) => !q.latched && decide (q.since + s.holdTicks q ≤ s.time.gt)
  s.time.gt % 80 == 0 && !s.prot.datumDown && r.inForce && (r.unmuteAt.isSome || (held r && s.reenable r)) &&
    (r.group == 0 || (s.prot.held.filter fun q => q.group == r.group && q.since == r.since).all held)

/-- PROT_HOLD_RELEASE (R184). -/
def execProtHoldRelease (kind : Fin 8) (cls : Fin 3) (target : Fin 256) (s : State) : Out := s.whenLive <|
  .next (match s.prot.held.find? fun r => r.kind == kind.val && r.cls == cls.val && r.target == target.val with
    | some r => if s.releaseDue r then s.release r else s
    | none => s)

/-! ### Triggers -/

/-- OSC_CLOSURE of a domain whose detector fired two grid ticks before (R166). -/
def State.closeOsc (s : State) (d : Nat) (growth : Int) : State :=
  let s := { s with con := { s.con with osc := s.con.osc.filter fun p => p.1 != d } }
  let s := forEach (s.windowsNaming d) s fun s w => (s.setB Fd.CON_WOSC_FIRED true w).set Fd.CON_WOSC_DOM d w
  (s.trip 0 0 [d] growth).enforce

/-- OSC_CLOSURE (R166). -/
def execOscClosure (d : Fin 256) (s : State) : Out := s.whenLive <|
  .next (match s.con.osc.find? fun p => p.1 == d.val && decide (p.2.1 ≤ s.time.gt) with
    | some p => s.closeOsc d p.2.2
    | none => s)

/-- The clearance floor of a domain trips (R187). -/
def State.clrFloorTrip (s : State) (d : Nat) : State :=
  if s.kindOn 1 ∧ max 1 (s.get Fd.FLT_THR_CLR_SHEETS) ≤ mapGet 0 s.prot.clrRun d then
    let s := { s with prot := { s.prot with clrRun := mapErase s.prot.clrRun d } }
    s.trip 1 0 [d] (s.getI Fd.CON_DCLR_CLR d)
  else s

/-- CLR_FLOOR_TRIP (R187). -/
def execClrFloorTrip (d : Fin 256) (s : State) : Out := s.whenLive <| .next (s.clrFloorTrip d)

/-- The comparison of R187 for a domain at a sheet boundary. -/
def State.clrFloorSheet (s : State) (d : Nat) : State :=
  if s.get Fd.CON_DCLR_SRC d = 0 ∨ bit s.con.masks.counted d = false then s
  else
    let n := if s.getI Fd.CON_DCLR_CLR d < s.getI Fd.FLT_THR_CLR_FLOOR then mapGet 0 s.prot.clrRun d + 1 else 0
    { s with prot := { s.prot with clrRun := mapSet 0 s.prot.clrRun d n } }.clrFloorTrip d

/-- Uplink noise raise trips on a window (R181). -/
def State.nrsTrip (s : State) (w : Nat) : State :=
  if s.kindOn 3 ∧ max 1 (s.get Fd.FLT_THR_NRS_SHEETS) ≤ mapGet 0 s.prot.nrsRun w then
    let s := { s with prot := { s.prot with nrsRun := mapErase s.prot.nrsRun w } }
    s.trip 3 1 [w] ((s.windowNrs w).getD 0)
  else s

/-- NRS_TRIP (R181). -/
def execNrsTrip (w : Fin 16) (s : State) : Out := s.whenLive <| .next (s.nrsTrip w)

/-- The noise-raise comparison of a window at a sheet boundary. -/
def State.nrsSheet (s : State) (w : Nat) : State :=
  let above := match s.windowNrs w with
    | some v => decide (s.getI Fd.FLT_THR_NRS_MAX < v) && s.running w
    | none => false
  let n := if above then mapGet 0 s.prot.nrsRun w + 1 else 0
  { s with prot := { s.prot with nrsRun := mapSet 0 s.prot.nrsRun w n } }.nrsTrip w

/-- The emission trip of a window: two surveys of one span above the threshold (R181). -/
def State.emsTrip (s : State) (w : Nat) : State :=
  let due := fun side => decide (2 ≤ mapGet 0 s.prot.emsRun (2 * w + side))
  if s.kindOn 4 ∧ (due 0 ∨ due 1) then
    let side := if due 0 then 0 else 1
    let v := sat (32 * mapGet 0 s.prot.spans (2 * w + side)) 16
    let s := { s with prot := { s.prot with emsRun := mapErase (mapErase s.prot.emsRun (2 * w)) (2 * w + 1) } }
    s.trip 4 1 [w] v
  else s

/-- EMS_TRIP (R181). -/
def execEmsTrip (w : Fin 16) (s : State) : Out := s.whenLive <| .next (s.emsTrip w)

/-- TX lanes whose span LO ± 300 MHz holds a 20 MHz step that begins at `step` kHz (R189). -/
def State.lanesAtStep (s : State) (step : Nat) : List Nat :=
  (List.range 16).filter fun n => match s.laneLo n false with
    | some lo => decide (lo ≤ step + 300000) && decide (step + 20000 ≤ lo + 300000)
    | none => false

/-- The spurious trip of a step: two sweeps above the limit (R189). -/
def State.spurTrip (s : State) (step : Nat) : State :=
  if s.kindOn 4 ∧ 2 ≤ mapGet 0 s.prot.spurRun step ∧ s.lanesAtStep step ≠ [] then
    let s := { s with prot := { s.prot with spurRun := mapErase s.prot.spurRun step } }
    s.trip 4 2 (s.lanesAtStep step) (mapGet (-32768) s.prot.spurs step)
  else s

/-- SPUR_TRIP (R189). -/
def execSpurTrip (step : Nat) (s : State) : Out := s.whenLive <| .next (s.spurTrip step)

/-! ### Results of the Recce receiver (R185, R186, R188, R189) -/

/-- Windows of the donor group of a job. -/
def State.donorGroup (s : State) (j : Nat) : List Nat :=
  (List.range 16).filter fun w => s.getB Fd.FLT_WCFG_DONOR_EN w && s.get Fd.FLT_WCFG_DONOR_JOB w == j

/-- Δf of R185 in Hz: the subband spacing, or the declared span of a direct window. -/
def State.deltaF (s : State) (w : Nat) : Nat :=
  let p := s.get Fd.CHN_WCTL_PROFILE w
  1000 * (if p = 0 then (s.getI Fd.CHN_WEDGE_HI_EDGE w - s.getI Fd.CHN_WEDGE_LO_EDGE w).toNat else profSpacing p)

/-- K of R185 after a donor result, in 1/16 dB. -/
def State.donorK (s : State) (w : Nat) (rsrp : Int) : Int :=
  sat (s.getI Fd.CON_WBASE_TXREF w - logRound 160 (max (s.deltaF w) 1) 1 + s.legI 0x5012 w - (s.legI 0x5010 w - rsrp) + 2784 -
    s.legI 0x5011 w) 16

/-- A donor-job result (R188): none where nothing was detected. -/
def State.donorResult (s : State) (j : Nat) (rsrp : Option Int) : State :=
  let group := s.donorGroup j
  let s := forEach group s fun s w =>
    let v := rsrp.getD (-32768)
    let s := s.setI Fd.FLT_WDONOR_RSRP v w
    let s := match rsrp with
      | some r => s.setI Fd.FLT_WNRS_K (s.donorK w r) w
      | none => s
    if rsrp.isNone ∨ v < s.getI Fd.FLT_THR_DONOR_MIN then (s.addSat Fd.FLT_WDONOR_MISSES 1 w).set Fd.FLT_WDONOR_GOOD 0 w
    else (s.set Fd.FLT_WDONOR_MISSES 0 w).addSat Fd.FLT_WDONOR_GOOD 1 w
  let due := group.filter fun w => decide (max 1 (s.get Fd.FLT_THR_DONOR_MISSES) ≤ s.get Fd.FLT_WDONOR_MISSES w) &&
    !(s.prot.held.any fun r => r.kind == 2 && r.target == w)
  if s.kindOn 2 ∧ due ≠ [] then s.trip 2 1 due (rsrp.getD (-32768)) else s

/-- An adjacent-span survey (R186): `span` is 2 w + side, the level in 1/16 dBm. -/
def State.spanResult (s : State) (span : Nat) (level : Int) : State :=
  let w := span / 2
  let v := level - s.legI 0x5013 w
  let above := decide (s.getI Fd.FLT_THR_EMS_OVER < 32 * v)
  let s := { s with prot := { s.prot with
    spans := mapInsert (mapErase s.prot.spans span) span v
    emsRun := mapSet 0 s.prot.emsRun span (if above then mapGet 0 s.prot.emsRun span + 1 else 0) } }
  let m := match s.prot.spans.filter fun p => p.1 / 2 == w with
    | [] => v
    | p :: ps => ps.foldl (fun a q => max a q.2) p.2
  let s := (s.setI Fd.FLT_WEMS_M (max (sat (32 * m) 16) (-32767)) w).set Fd.FLT_WEMS_AGE 0 w
  let s := forEach (s.routeDomains w) s fun s d => s.setDomX d { s.domX d with aSurvey := (s.domX d).a1 }
  s.emsTrip w

/-- A spurious step measured (R189): `step` is its lower edge in kHz, the level in 1/16 dBm. -/
def State.stepResult (s : State) (step : Nat) (level : Int) : State :=
  let above := decide (s.getI Fd.FLT_THR_SPUR_LIMIT < level)
  let s := { s with prot := { s.prot with
    spurs := mapSet (-32768) s.prot.spurs step (if above then level else -32768)
    spurRun := mapSet 0 s.prot.spurRun step (if above then mapGet 0 s.prot.spurRun step + 1 else 0) } }
  s.spurTrip step

/-- A result for the Datum core: kind 0 donor job, 1 span, 2 step; held while it restarts (R180). -/
def State.datumResult (s : State) (kind key : Nat) (v : Option Int) : State :=
  if s.prot.datumDown then { s with prot := { s.prot with backlog := s.prot.backlog ++ [(kind, key, v)] } }
  else if kind = 0 then s.donorResult key v
  else match v with
    | some l => if kind = 1 then s.spanResult key l else s.stepResult key l
    | none => s

/-! ### Reflected power (R190) and the walker (R191) -/

/-- A sense result counts as flagged OVR (R245). -/
def State.snsFlagged (s : State) (n : Nat) : Bool := !s.getB Fd.SNS_RES_VALID n || s.getB Fd.SNS_RES_OVR n

/-- The comparison of R190 for a TX lane: the return loss, and whether it is below the threshold. -/
def State.reflCompare (s : State) (n : Nat) : State × Bool :=
  let f := s.get Fd.FLT_LCFG_SNS_FWD n
  let r := s.get Fd.FLT_LCFG_SNS_REFL n
  if s.snsFlagged f || s.snsFlagged r then (s, true)
  else if s.get Fd.SNS_RES_CODE f < s.get Fd.FLT_THR_REFL_FWD_MIN then (s, false)
  else
    let rl := sat (Config.detectorLevel (s.get Fd.SNS_RES_CODE f) - Config.detectorLevel (s.get Fd.SNS_RES_CODE r)) 16
    (s.setI Fd.FLT_LSTAT_RL rl n, decide (rl < s.getI Fd.FLT_THR_REFL_RL_MIN))

/-- The reflected-power check of a TX lane at a sheet boundary. -/
def State.reflSheet (s : State) (n : Nat) : State :=
  if s.getB Fd.FLT_LCFG_REFL_EN n = false ∨ s.kindOn 5 = false then s
  else
    let (s, low) := s.reflCompare n
    if low && !(s.prot.held.any fun r => r.kind == 5 && r.target == n) then s.trip 5 2 [n] (s.getI Fd.FLT_LSTAT_RL n) else s

/-- The walker's requests take effect at grid tick 1 of their sheet (R191). -/
def State.walkerTick (s : State) : State :=
  forEach (List.range 16) s fun s w =>
    let req := s.walkerReq w
    if req = mapGet 0 s.prot.walker w then s
    else
      let s := { s with prot := { s.prot with walker := mapSet 0 s.prot.walker w req } }
      let held := s.prot.held.any fun r => r.kind == 6 && r.target == w
      let s := if req ≠ 0 ∧ held = false then s.trip 6 1 [w] 0 else s
      s.refreshStop w

/-! ### The sheet boundary -/

/-- The comparators that need no measurement of the datapath: reflected power from the sense results, and the age of the surveys. -/
def State.senseComparators (s : State) : State :=
  let s := forEach (List.range 16) s State.reflSheet
  forEach (List.range 16) s fun s w => s.addSat Fd.FLT_WEMS_AGE 1 w

/-- The comparators at a sheet boundary (R180), Datum software or not. -/
def State.protComparators (s : State) : State :=
  let s := forEach (s.domTable.map (·.1)) s State.clrFloorSheet
  let s := forEach (List.range 16) s State.nrsSheet
  s.senseComparators

/-- A PROT_RELEASE's targets: kind, class and target of each restriction it names. -/
def releaseTargets (c : Command) : List (Nat × Nat × Nat) :=
  let k := wbits (c.word 1) 3 0
  let t := (c.word 2).toNat
  if k = 8 then (maskList (wbits (c.word 2) 15 0) 16).map (fun w => (8, 1, w)) ++ (maskList (wbits (c.word 3) 15 0) 16).map fun n => (8, 2, n)
  else if k ≤ 1 then [(k, 0, t)]
  else if k = 2 ∨ k = 3 ∨ k = 6 then [(k, 1, t)]
  else if k = 4 then [(4, 1, t), (4, 2, t)]
  else [(k, 2, t)]

/-- The restriction that a release target names. -/
def State.heldBy (s : State) (p : Nat × Nat × Nat) : Option Restriction :=
  s.prot.held.find? fun r => r.kind == p.1 && r.cls == p.2.1 && r.target == p.2.2

/-- The condition of a trip persists (Table 9.6). -/
def State.persists (s : State) (r : Restriction) : Bool :=
  if r.kind = 1 then s.get Fd.CON_DCLR_SRC r.target != 0 && decide (s.getI Fd.CON_DCLR_CLR r.target < s.getI Fd.FLT_THR_CLR_FLOOR)
  else if r.kind = 3 then (s.windowNrs r.target).any fun v => decide (s.getI Fd.FLT_THR_NRS_MAX < v)
  else if r.kind = 4 ∧ r.cls = 1 then
    s.prot.spans.any fun p => p.1 / 2 == r.target && decide (s.getI Fd.FLT_THR_EMS_OVER < 32 * p.2)
  else if r.kind = 4 then s.prot.spurs.any fun p => (s.lanesAtStep p.1).contains r.target && decide (s.getI Fd.FLT_THR_SPUR_LIMIT < p.2)
  else if r.kind = 5 then (s.reflCompare r.target).2
  else if r.kind = 2 ∨ r.kind = 6 then !s.reenable r
  else r.kind == 7

/-- A PROT_RELEASE can be granted: it names a restriction, each latched or of the host, and no condition persists. -/
def State.releasable (s : State) (c : Command) : Bool :=
  let ps := releaseTargets c
  let rs := ps.filterMap s.heldBy
  let all := if wbits (c.word 1) 3 0 = 4 then !rs.isEmpty else !ps.isEmpty && rs.length == ps.length
  all && rs.all fun r => (r.kind == 8 || r.latched) && !s.persists r

/-- Release what a PROT_RELEASE names, n with it; a lane held by reflected power in its two steps (R190). -/
def State.releaseNow (s : State) (c : Command) : State :=
  forEach ((releaseTargets c).filterMap s.heldBy) s fun s r =>
    let s := { s with prot := { s.prot with trips := s.prot.trips.filter fun p => !(p.1 == r.kind && p.2.1 == r.cls && p.2.2.1 == r.target) } }
    let s := if r.cls = 0 then s.set Fd.FLT_DSTAT_N 0 r.target else if r.cls = 1 then s.set Fd.FLT_WRETRY_N 0 r.target
      else s.set Fd.FLT_LSTAT_N 0 r.target
    match s.heldBy (r.kind, r.cls, r.target) with
    | some q => s.release q
    | none => s

/-- The PROT_RELEASE commands at a sheet boundary. -/
def State.runReleases (s : State) : State :=
  let l := s.prot.releases
  let s := { s with prot := { s.prot with releases := [] } }
  forEach l s fun s q =>
    if s.releasable q.cmd then (s.releaseNow q.cmd).complete q.mb q.cmd 0x00 else s.complete q.mb q.cmd 0x07

/-- Releases at a sheet boundary (R184), after the position of the sheet: none while the Datum core restarts, whose hold timers run on (R180). -/
def State.protReleases (s : State) : State :=
  let s := if s.prot.held.any fun r => r.kind == 7 then { s with prot := { s.prot with goodTicks := s.prot.goodTicks + 1 } } else s
  let s := if s.prot.datumDown then s
    else (forEach (s.prot.held.filter s.releaseDue) s fun s r => s.release r).runReleases
  forEach (s.prot.held.map fun r => (r.cls, r.target)) s fun s p => s.refreshTarget p.1 p.2

/-! ### Gates (R193 to R196) -/

/-- H of R194, in active grid ticks. -/
def State.gateHold (s : State) (w : Nat) : Nat := s.get Fd.FLT_GCFG_SLOTS w * [640, 320, 160, 80, 370].getD (s.get Fd.FLT_GCFG_SCS w) 640

def State.setGate (s : State) (w i : Nat) (g : Gate) : State :=
  { s with win := { s.win with gates := mapSet Gate.reset s.win.gates (2048 * w + i) g } }

/-- Close a gate, its hold cleared. -/
def State.closeGate (s : State) (w i : Nat) : State :=
  (s.setGate w i { s.gate w i with isOpen := false, since := 0 }).refreshGates w

/-- GATE_CLOSE (R194): H active grid ticks have passed since the gate's last firing. -/
def execGateClose (w : Fin 16) (i : Nat) (s : State) : Out := s.whenLive <|
  let g := s.gate w i
  .next (if g.isOpen ∧ s.gateHold w ≤ g.since then s.closeGate w i else s)

/-! ### The grid tick (R35) and the Datum restart (R180) -/

/-- DATUM_TICK_TIMEOUT (R35): every PA enable is forced inactive, and the CRITICAL event of PROT_TICK asserts ALERT_N. -/
def execDatumTickTimeout (s : State) : Out := s.whenLive <|
  .next ({ s with prot := { s.prot with goodTicks := 0 } }.trip 7 2 (List.range 16) 0).enforce

/-- DATUM_RESTART (R180). -/
def execDatumRestart (s : State) : Out := s.whenLive <|
  .next (({ s with prot := { s.prot with datumDown := true } }.setB Fd.FLT_PSTAT_RESTART true).raise 488)

/-- DATUM_RESTART_DONE (R180, Table 13.15): results that waited are evaluated in order; a stop that Chart made is taken as reason HOST,
and Chart restores SRC_FW and EN beneath it. -/
def execDatumRestartDone (s : State) : Out := s.whenLive <|
  .next (if s.prot.datumDown then
    let back := s.prot.backlog
    let held := s.prot.standIn
    let s := { s with prot := { s.prot with datumDown := false, backlog := [], standIn := [] } }
    let s := (s.setB Fd.FLT_PSTAT_RESTART false).clearSource 488
    let s := forEach back s fun s r => s.datumResult (r.1) r.2.1 r.2.2
    let s := (forEach held s fun s p => s.trip 8 p.1 [p.2.1] 0).enforce
    forEach held s fun s p =>
      if p.1 = 1 then (if p.2.2 then { s with win := { s.win with binding := s.win.binding ||| 2 ^ p.2.1 } }.setB Fd.CHN_WCTL_EN true p.2.1 else s)
      else (s.setB Fd.LANE_TX_MUTE_SRC_FW p.2.2 p.2.1).updateMuted p.2.1
  else s)

/-! ### Commands (R198) -/

/-- PROT_STATUS (Table 9.6). -/
def execProtStatus (mb : Fin 20) (s : State) : Out := s.whenLive <|
  .next (s.runCommand mb 0x60 fun s c => s.checked mb c 2 false fun s =>
    s.complete mb c 0x00 ([s.reg (Reg.FLT_PSTAT.off 0 0)] ++ ((List.range 16).map fun w => s.reg (Reg.FLT_WSTAT.off w 0)) ++
      (List.range 16).map fun n => s.reg (Reg.FLT_LSTAT.off n 0)))

/-- PROT_STOP (Table 9.6): the Datum core holds the targets with reason HOST from the next grid tick boundary, at which the command
completes; during a Datum restart Chart stops them (Table 13.15). -/
def execProtStop (mb : Fin 20) (s : State) : Out := s.whenLive <|
  .next (s.runCommand mb 0x61 fun s c => s.checked mb c 1 false fun s =>
    let ws := maskList (wbits (c.word 1) 15 0) 16
    let ns := maskList (wbits (c.word 2) 15 0) 16
    if s.prot.datumDown then
      let olds := (ws.map fun w => (1, w, s.getB Fd.CHN_WCTL_EN w)) ++ ns.map fun n => (2, n, s.getB Fd.LANE_TX_MUTE_SRC_FW n)
      let new := olds.filter fun p => !(s.prot.standIn.any fun q => q.1 == p.1 && q.2.1 == p.2.1)
      let s := { s with prot := { s.prot with standIn := s.prot.standIn ++ new } }
      let s := forEach ws s State.unbindWindow
      let s := forEach ns s fun s n => (s.setB Fd.LANE_TX_MUTE_SRC_FW true n).updateMuted n
      s.complete mb c 0x00
    else
      let s := if ws = [] then s else s.trip 8 1 ws 0
      let s := if ns = [] then s else s.trip 8 2 ns 0
      { s with prot := { s.prot with stops := s.prot.stops ++ [⟨mb, c⟩] } })

/-- At a grid tick boundary the restrictions come into force and the PROT_STOP commands complete. -/
def State.protTick (s : State) : State :=
  let s := s.enforce
  let l := s.prot.stops
  let s := { s with prot := { s.prot with stops := [] } }
  forEach l s fun s q => s.complete q.mb q.cmd 0x00

/-- PROT_RELEASE (R184, Table 9.6). -/
def execProtRelease (mb : Fin 20) (s : State) : Out := s.whenLive <|
  .next (s.runCommand mb 0x62 fun s c => s.checked mb c 3 true fun s =>
    let k := wbits (c.word 1) 3 0
    let top := if k ≤ 1 then 256 else 16
    if 8 < k ∨ (k < 8 ∧ top ≤ (c.word 2).toNat) then s.complete mb c 0x04
    else if !s.releasable c then s.complete mb c 0x07
    else { s with prot := { s.prot with releases := s.prot.releases ++ [⟨mb, c⟩] } })

end Sys2Proof.Machine
end

