-- ==== Sys2Proof/Machine/Position.lean ====
section
/-!
DEFINITION. Position, the walker and trackside passage (06_track_atlas_and_position.md R119 to R137): the atlas and position
commands of Table 6.6, BANK_APPLY (R78), and what the position block does at a sheet boundary.
-/

namespace Sys2Proof.Machine

/-! ### Slots -/

def State.slot (s : State) (k : Nat) : Slot := if k = 0 then s.pos.slot0 else s.pos.slot1

def State.setSlot (s : State) (k : Nat) (a : Slot) : State :=
  { s with pos := if k = 0 then { s.pos with slot0 := a } else { s.pos with slot1 := a } }

def State.slotValid (s : State) (k : Nat) : Bool := if k = 0 then s.getB Fd.POS_ATLAS_S0_VALID else s.getB Fd.POS_ATLAS_S1_VALID

def State.setSlotValid (s : State) (k : Nat) (v : Bool) : State :=
  if k = 0 then s.setB Fd.POS_ATLAS_S0_VALID v else s.setB Fd.POS_ATLAS_S1_VALID v

/-- The image the walker reads: the active slot's; until a slot is active, one whose only region is region 0 of the sketch configuration
(R340). -/
def State.atlas (s : State) : Slot :=
  let k := s.get Fd.POS_ATLAS_ACT_SLOT
  if s.slotValid k then s.slot k
  else
    let l := (16, 1) :: s.start.sketch.region.map fun p => (0x1000 + p.1, p.2)
    { Slot.reset 0 2 with image := l, mirror := l }

/-- ATLAS.MIRROR_LOST follows the active slot (R119). -/
def State.syncMirror (s : State) : State :=
  s.setB Fd.POS_ATLAS_MIRROR_LOST (s.atlas.lost != 0)

/-- DRAM channels that are not lost, of channels `prefer` first. -/
def State.liveChannels (s : State) (prefer : List Nat) : List Nat :=
  (prefer ++ (List.range 4).filter fun c => !prefer.contains c).filter fun c => !s.getB Fd.DRC_CSTAT_LOST c

/-- A slot that a load has just filled (R119): its copies lie on its own channels, or on two survivors that differ. -/
def State.placeSlot (s : State) (k : Nat) (image : List (Nat × Byte)) : Slot :=
  match s.liveChannels (if k = 0 then [0, 2] else [1, 3]) with
  | p :: m :: _ => { image := image, mirror := image, chP := p, chM := m, lost := 0, bad := [] }
  | [p] => { image := image, mirror := image, chP := p, chM := p, lost := 2, bad := [] }
  | [] => { image := image, mirror := image, chP := 0, chM := 0, lost := 3, bad := [] }

/-- A lost DRAM channel takes its copies of both slots (R119). -/
def State.loseAtlasChannel (s : State) (c : Nat) : State :=
  let cut := fun (a : Slot) => { a with lost := a.lost ||| (if a.chP = c then 1 else 0) ||| (if a.chM = c then 2 else 0) }
  let hit := fun (k : Nat) => s.slotValid k && (cut (s.slot k)).lost != (s.slot k).lost
  let any := hit 0 || hit 1
  let s := (s.setSlot 0 (cut s.pos.slot0)).setSlot 1 (cut s.pos.slot1)
  let s := s.syncMirror
  if any then s.pulse 258 else s

/-! ### Atlas commands -/

/-- Complete a command, its answer a Field Book record whatever its flags (R121). -/
def State.completeRecorded (s : State) (mb : Nat) (c : Command) (status : Nat) : State :=
  let s := s.complete mb c status
  if bit c.flags 1 then s else s.commandRecord mb c.tag c.opcode status 0 0 0 0 0 c.payload

def State.posOff (s : State) : Bool := s.get Fd.POS_CTL_MODE == 0

/-- ATLAS_LOAD (opcode 0x20; R118, R120, R121). -/
def execAtlasLoad (mb : Fin 20) (s : State) : Out := s.whenLive <|
  .next (s.runCommand mb 0x20 fun s c => s.checked mb c 3 true fun s =>
    if s.posOff then s.complete mb c 7
    else if s.pos.load.isSome then s.complete mb c 6
    else if s.getB Fd.POS_ATLAS_SW_PEND then s.completeRecorded mb c 6
    else
      let s := s.acceptEarly mb c
      let s := { s with pos := { s.pos with load := some ⟨mb, c.accepted⟩ } }
      (s.setB Fd.POS_ATLAS_LOADING true).setSlotValid (1 - s.get Fd.POS_ATLAS_ACT_SLOT) false)

/-- ATLAS_LOAD_DONE (R118, R119): the bytes that the host memory held; the inactive slot takes a verified image, or the load fails. -/
def execAtlasLoadDone (bytes : List (Nat × Byte)) (s : State) : Out := s.whenLive <|
  match s.pos.load with
  | none => .next s
  | some q =>
    let k := 1 - s.get Fd.POS_ATLAS_ACT_SLOT
    let a := s.placeSlot k (imageOf bytes)
    let s := { s with pos := { s.pos with load := none } }
    let s := (s.setSlot k a).setB Fd.POS_ATLAS_LOADING false
    match a.verify (q.cmd.word 3).toNat with
    | some i => .next ((s.setSlotValid k false).complete q.mb q.cmd 8 [wd i])
    | none => .next ((s.setSlotValid k true).complete q.mb q.cmd 0)

/-- ATLAS_SWITCH (opcode 0x21; R121). -/
def execAtlasSwitch (mb : Fin 20) (s : State) : Out := s.whenLive <|
  .next (s.runCommand mb 0x21 fun s c => s.checked mb c 3 true fun s =>
    if s.posOff then s.complete mb c 7
    else if s.pos.load.isSome then s.completeRecorded mb c 7
    else if !s.slotValid (1 - s.get Fd.POS_ATLAS_ACT_SLOT) then s.complete mb c 7
    else
      let s := { s with pos := { s.pos with switches := s.pos.switches ++ [(⟨mb, c⟩ : PosWait)] } }
      s.setB Fd.POS_ATLAS_SW_PEND true)

/-- ATLAS_STATUS (opcode 0x22). -/
def execAtlasStatus (mb : Fin 20) (s : State) : Out := s.whenLive <|
  .next (s.runCommand mb 0x22 fun s c => s.checked mb c 2 false fun s =>
    s.complete mb c 0 [s.reg (Reg.POS_ATLAS.off 0 0), wd s.pos.slot0.atlasId, wd s.pos.slot0.crcEnt, wd s.pos.slot1.atlasId,
      wd s.pos.slot1.crcEnt])

/-! ### Position commands -/

/-- SIGMA of a fix, 1-1,000,000 mm. -/
def sigmaOk (v : Word) : Bool := decide (1 ≤ v.toNat) && decide (v.toNat ≤ 1000000)

/-- POS_FIX (opcode 0x23; R125): answered at the next sheet boundary. -/
def execPosFix (mb : Fin 20) (s : State) : Out := s.whenLive <|
  .next (s.runCommand mb 0x23 fun s c => s.checked mb c 3 false fun s =>
    if !sigmaOk (c.word 3) || wbits (c.word 5) 27 26 == 3 then s.complete mb c 4
    else if s.get Fd.POS_CTL_MODE ≠ 1 then s.complete mb c 7
    else { s with pos := { s.pos with fixes := s.pos.fixes ++ [(⟨mb, c⟩ : PosWait)] } })

/-- PASSAGE (opcode 0x25; R136): trackside only, answered at the next sheet boundary. -/
def execPassage (mb : Fin 20) (s : State) : Out := s.whenLive <|
  .next (s.runCommand mb 0x25 fun s c => s.checked mb c 3 false fun s =>
    if !sigmaOk (c.word 3) || wbits (c.word 6) 27 26 == 3 then s.complete mb c 4
    else if s.get Fd.POS_CTL_MODE ≠ 2 then s.complete mb c 7
    else { s with pos := { s.pos with fixes := s.pos.fixes ++ [(⟨mb, c⟩ : PosWait)] } })

/-- POS_ROUTE (opcode 0x24; R127): the list is replaced. -/
def execPosRoute (mb : Fin 20) (s : State) : Out := s.whenLive <|
  .next (s.runCommand mb 0x24 fun s c => s.checked mb c 3 false fun s =>
    let n := (c.word 1).toNat
    if n < 1 ∨ 8 < n then s.complete mb c 4
    else if s.posOff then s.complete mb c 7
    else
      let l := (List.range n).map fun i => wbits (c.word (i + 2)) 15 0
      { s with pos := { s.pos with routes := l } }.complete mb c 0)

/-! ### Fixes (R125, R126, R128) -/

/-- The grid tick of a stamp, counted as `time.gt` counts. -/
def State.stampTick (s : State) (opSec gt : Nat) : Int :=
  (s.time.secBase : Int) + ((opSec : Int) - (s.time.opSec : Int)) * 640000 + (gt : Int)

/-- A stamp older than 16,000 sheets, or later than the boundary. -/
def State.stampBad (s : State) (t : Int) : Bool := decide ((s.time.gt : Int) < t) || decide (t + 1280000 < (s.time.gt : Int))

/-- Sheets closed before this boundary whose distance counts since a stamp. -/
def State.sheetsSince (s : State) (t : Int) : Nat := ((s.sheet : Int) - 1 - t / 80).toNat

/-- The gate of R125: |dx| at most three times the joint σ; x in 1/65,536 mm, σ_f in mm. -/
def gatePass (dx : Int) (sig sf : Nat) : Bool :=
  let f := sf * 65536
  decide (dx * dx ≤ ((9 * (sig * sig + f * f) : Nat) : Int))

/-- The least n with n² b ≥ a. -/
def ceilSqrt (a b : Nat) : Nat := searchMax (fun n => n == 0 || decide ((n - 1) * (n - 1) * b < a)) (Nat.log2 (a + 1) + 2) 0 (a + 1)

/-- Position and σ after a fix that passes the gate. -/
def fuseFix (x : Int) (sig : Nat) (dx : Int) (sf : Nat) : Int × Nat :=
  let f := sf * 65536
  let d := sig * sig + f * f
  (x + divRnd (dx * ((sig * sig : Nat) : Int)) (d : Int), ceilSqrt (sig * sig * (f * f)) d)

/-- A rejected fix: STAT.FIX_REJ and its NOTE. -/
def State.noteReject (s : State) : State := (s.setB Fd.POS_STAT_FIX_REJ true).pulse 255

/-- σ after `rej` consecutive rejections, and the count that stands (R125). -/
def State.widen (s : State) (rej sig : Nat) (dx : Int) : Nat × Nat :=
  if s.legN 0x4017 ≤ rej then (max sig (divRnd (dx.natAbs : Int) 3).toNat, 0) else (sig, rej)

/-- A tacho channel's diameter after learning (R126): the fixes' distance and the channel's own, 1/65,536 mm. -/
def State.learnDiameter (s : State) (c : Nat) (fix own : Nat) : State :=
  if own = 0 then s
  else
    let d := (s.get Fd.POS_TDIAM_LEARNT c : Int)
    let nom := (s.get Fd.POS_TDIAM_NOM c : Int)
    let v := d + divRnd (d * ((fix : Int) - (own : Int))) (8 * (own : Int))
    (s.setI Fd.POS_TDIAM_LEARNT (min (clampI v ((95 * nom + 99) / 100) (105 * nom / 100)) 65535) c).setB Fd.POS_STAT_LEARN true

/-- An applied fix as the learning of diameters sees it (R126). -/
def State.learnFrom (s : State) (route : Nat) (chain : Int) (sigma since : Nat) : State :=
  let l := s.pos.steps.take since
  let c0 := s.pos.cum0 - (l.map (·.ds0)).sum
  let c1 := s.pos.cum1 - (l.map (·.ds1)).sum
  let s' := match s.pos.learn with
    | none => s
    | some q =>
      let lim := s.legN 0x4019
      let far := (chain - q.chain).natAbs
      if q.route = route ∧ q.clean ∧ q.sigma ≤ lim ∧ sigma ≤ lim ∧ s.legN 0x4018 ≤ far then
        (s.learnDiameter 0 (far * 65536) (c0 - q.cum0).natAbs).learnDiameter 1 (far * 65536) (c1 - q.cum1).natAbs
      else s
  { s' with pos := { s'.pos with learn := some ⟨route, chain, sigma, c0, c1, true⟩ } }

/-- In UNSURE a fix naming a hypothesis' route selects it (R128). -/
def State.selectHyp (s : State) (route : Nat) : State :=
  if s.get Fd.POS_STAT_STATE = 2 then
    if s.get Fd.POS_ROUTE_ROUTE = route then { s with pos := { s.pos with alt := none } }.set Fd.POS_STAT_STATE 1
    else match s.pos.alt with
      | some h =>
        if h.route = route then
          let s := { s with pos := { s.pos with alt := none, x := h.x, entry := h.entry } }
          ((s.set Fd.POS_ROUTE_ROUTE route).setB Fd.POS_ROUTE_SENSE h.up).set Fd.POS_STAT_STATE 1
        else s
      | none => s
  else s

/-- One on-board fix (R125): the state after it and the status answered. It is moved by the sense of travel as it stood; a relocation finds its
entry at once, so that the sheet's distance is added from there (Table 6.8). -/
def State.applyFix (s : State) (route : Nat) (chain : Int) (sigma : Nat) (stamp : Int) (force up : Bool) : State × Nat :=
  if s.stampBad stamp then (s, 0xD)
  else
    let n := s.sheetsSince stamp
    let moved := ((s.pos.steps.take n).map (·.ds)).sum
    let st := s.get Fd.POS_STAT_STATE
    let xp := fun s : State => chain * mm + (if s.getB Fd.POS_ROUTE_SENSE then moved else -moved)
    if force ∨ st = 0 ∨ st = 3 then
      let entry := (s.atlas.covering route (xp s)).map (·.index)
      let s := { s with pos := { s.pos with x := xp s, s := sigma * 65536, entry := entry, alt := none, scanned := 0, ahead := 0 } }
      let s := ((s.set Fd.POS_ROUTE_ROUTE route).setB Fd.POS_ROUTE_SENSE up).set Fd.POS_STAT_STATE (if entry.isSome then 1 else 4)
      (s.learnFrom route chain sigma n, 0)
    else
      let s := s.selectHyp route
      let dx := xp s - s.pos.x
      if s.get Fd.POS_ROUTE_ROUTE = route ∧ gatePass dx s.pos.s sigma then
        let p := fuseFix s.pos.x s.pos.s dx sigma
        let s := { s with pos := { s.pos with x := p.1, s := p.2 } }
        ((s.set Fd.POS_STAT_REJ_CNT 0).learnFrom route chain sigma n, 0)
      else
        let p := s.widen (s.get Fd.POS_STAT_REJ_CNT + 1) s.pos.s dx
        let s := { s with pos := { s.pos with s := p.1 } }
        ((s.set Fd.POS_STAT_REJ_CNT p.2).noteReject, 0xF)

/-! ### Trackside tracks (R136) -/

def State.track (s : State) (t : Nat) : Track := if t = 0 then s.pos.track0 else s.pos.track1

def State.setTrack (s : State) (t : Nat) (k : Track) : State :=
  { s with pos := if t = 0 then { s.pos with track0 := k } else { s.pos with track1 := k } }

/-- The site's bias, in 1/65,536 mm. -/
def siteBias : Int := 0x80000000 * mm

/-- A fix of a track at a position (1/65,536 mm), gated as R125 gates: the state after it and whether it was applied. -/
def State.trackFix (s : State) (t : Nat) (xp : Int) (sigma : Nat) (force : Bool) : State × Bool :=
  let k := s.track t
  if force ∨ k.occupied = false then
    (s.setTrack t { k with occupied := true, x := xp, s := sigma * 65536, quietFrom := s.sheet }, true)
  else if gatePass (xp - k.x) k.s sigma then
    let p := fuseFix k.x k.s (xp - k.x) sigma
    ((s.setTrack t { k with x := p.1, s := p.2, rej := 0, quietFrom := s.sheet }).set Fd.POS_STAT_REJ_CNT 0, true)
  else
    let p := s.widen (k.rej + 1) k.s (xp - k.x)
    (((s.setTrack t { k with s := p.1, rej := p.2, quietFrom := s.sheet }).set Fd.POS_STAT_REJ_CNT p.2).noteReject, false)

/-- A PRESENCE assertion at its sheet boundary (R136): a fix, and the speed of the track. -/
def State.trackAssert (s : State) (i : Nat) : State :=
  let t := s.get Fd.POS_PRES_TRACK i
  let off := s.getI Fd.POS_PRES_OFFSET i * 100
  let old := s.track t
  let s := (s.trackFix t (siteBias + off * mm) (s.legN 0x401C) false).1
  let k := s.track t
  if old.occupied then
    let speed := match old.lastAssert with
      | some (o, sh) => if o = off ∨ sh = s.sheet then k.speed else divRnd ((off - o) * 8000) (((s.sheet - sh : Nat)) : Int)
      | none => k.speed
    s.setTrack t { k with speed := speed, first := false, lastAssert := some (off, s.sheet) }
  else s.setTrack t { k with speed := s.legI 0x401E t, first := true, lastAssert := some (off, s.sheet) }

/-- A PASSAGE at its sheet boundary (R125, R136): the state and the status. It has arrived, whatever its stamp; it is moved by what the track
advanced in the sheets closed since its stamp, the sheet that closes being added after it. -/
def State.trackPassage (s : State) (c : Command) : State × Nat :=
  let t := wbits (c.word 1) 0 0
  let stamp := s.stampTick (c.word 5).toNat (wbits (c.word 6) 19 0)
  let s := s.setTrack t { s.track t with quietFrom := s.sheet }
  if s.stampBad stamp then (s, 0xD)
  else
    let moved := divRnd ((s.track t).speed * mm) 8000 * (s.sheetsSince stamp : Int)
    let p := s.trackFix t (siteBias + (c.word 2).toInt * mm + moved) (c.word 3).toNat (bit (c.word 6).toNat 25)
    if p.2 then (p.1.setTrack t { p.1.track t with speed := (c.word 4).toInt, first := false }, 0) else (p.1, 0xF)

/-- The advance of an occupied track over one sheet. -/
def State.trackAdvance (s : State) (t : Nat) : State :=
  let k := s.track t
  if k.occupied then
    let adv := divRnd (k.speed * mm) 8000
    let grow := divRnd ((adv.natAbs : Int) * (s.legN 0x401D : Int)) 1000000 +
      (if k.first then divRnd ((s.legN 0x401F : Int) * mm) 8000 else 0)
    s.setTrack t { k with x := k.x + adv, s := k.s + grow.toNat }
  else s

/-- The PRESENCE inputs of a track that stand asserted. -/
def State.presenceOn (s : State) (t : Nat) : Bool :=
  (List.range 8).any fun i => s.getB Fd.POS_PRES_EN i && s.get Fd.POS_PRES_TRACK i == t && s.getB Fd.POS_PRES_STATE i

/-- PRESENCE_ASSERT (R136): an enabled input whose pin has stood asserted for FILT sheets. -/
def execPresenceAssert (i : Fin 8) (s : State) : Out := s.whenLive <|
  let held := mapGet 0 s.pos.presHold i
  if s.get Fd.POS_CTL_MODE = 2 ∧ s.getB Fd.POS_PRES_EN i ∧ s.getB Fd.POS_PRES_STATE i = false ∧ 1 ≤ held ∧
      s.get Fd.POS_PRES_FILT i ≤ held then
    let s := { s with pos := { s.pos with asserted := s.pos.asserted ++ [i.val], presHold := mapSet 0 s.pos.presHold i 0 } }
    .next (s.setB Fd.POS_PRES_STATE true i)
  else .next s

/-- TRACK_EMPTY (R136): a track whose inputs have been deasserted for 8,000 sheets, with no PASSAGE in them. -/
def execTrackEmpty (track : Fin 2) (s : State) : Out := s.whenLive <|
  let k := s.track track
  if s.get Fd.POS_CTL_MODE = 2 ∧ k.occupied ∧ !s.presenceOn track ∧ k.quietFrom + 8000 ≤ s.sheet then
    .next (s.setTrack track Track.reset)
  else .next s

/-- The PRESENCE filters over one sheet: a deassertion held for FILT sheets counts here; an assertion waits for its event, and for
an input that is not enabled it only shows. -/
def State.filterPresence (s : State) (pins : Nat) : State :=
  forEach (List.range 8) s fun s i =>
    let level := bit pins i != s.getB Fd.POS_PRES_POL i
    let st := s.getB Fd.POS_PRES_STATE i
    let held := if level = st then 0 else mapGet 0 s.pos.presHold i + 1
    let flip := held != 0 && decide (s.get Fd.POS_PRES_FILT i ≤ held) && (st || !s.getB Fd.POS_PRES_EN i)
    let s := { s with pos := { s.pos with presHold := mapSet 0 s.pos.presHold i (if flip then 0 else min held 65535) } }
    if flip then s.setB Fd.POS_PRES_STATE (!st) i else s

/-! ### Odometry (R122 to R124) -/

/-- When a rail's filter takes a level that stands for `d` ns against its output, in ns from its start (R122). -/
def TachoRail.flipAt (r : TachoRail) (filt : Nat) (level : Bool) (d : Nat) : Option Nat :=
  if level = r.out then none else if 100 * filt - r.held ≤ d then some (100 * filt - r.held) else none

/-- A rail after a level for `d` ns. -/
def TachoRail.pass (r : TachoRail) (filt : Nat) (level : Bool) (d : Nat) : TachoRail :=
  if (r.flipAt filt level d).isSome then ⟨level, 0⟩ else if level = r.out then ⟨r.out, 0⟩ else ⟨r.out, r.held + d⟩

/-- Place in the quadrature cycle; A leads B in the positive sense (DESIGN CHOICE, log entry 124). -/
def quadPlace (a b : Bool) : Nat := if a then (if b then 2 else 1) else if b then 3 else 0

/-- The count of a transition: one place forward or back; a transition of both rails at once counts nothing. -/
def quadStep (a b a' b' : Bool) : Int :=
  match (quadPlace a' b' + 4 - quadPlace a b) % 4 with
  | 1 => 1
  | 3 => -1
  | _ => 0

/-- A channel after levels that stand for `d` ns, and its counts in them. -/
def Tacho.pass (t : Tacho) (filt : Nat) (a b : Bool) (d : Nat) : Tacho × Int :=
  let t' : Tacho := ⟨t.a.pass filt a d, t.b.pass filt b d⟩
  let n := match t.a.flipAt filt a d, t.b.flipAt filt b d with
    | some x, some y =>
      if x < y then quadStep t.a.out t.b.out t'.a.out t.b.out + quadStep t'.a.out t.b.out t'.a.out t'.b.out
      else if y < x then quadStep t.a.out t.b.out t.a.out t'.b.out + quadStep t.a.out t'.b.out t'.a.out t'.b.out
      else 0
    | _, _ => quadStep t.a.out t.b.out t'.a.out t'.b.out
  (t', n)

/-- The pins of a channel over a sheet (R122): the channel after them, and its counts, of which it accepts 500,000 per second (log entry
124). -/
def Tacho.sheet (t : Tacho) (filt : Nat) (pins : List (Bool × Bool × Nat)) : Tacho × Int :=
  let r := pins.foldl (fun (q : Tacho × Int) p => let v := q.1.pass filt p.1 p.2.1 p.2.2; (v.1, q.2 + v.2)) (t, 0)
  (r.1, clampI r.2 (-63) 63)

/-- Counts of a channel as its enable and INV take them. -/
def State.tachoCount (s : State) (c : Nat) (n : Int) : Int :=
  if s.getB Fd.POS_TCFG_EN c then (if s.getB Fd.POS_TCFG_INV c then -n else n) else 0

/-- Distance of a channel's counts, carried to 1/65,536 mm. -/
def State.tachoDistance (s : State) (c : Nat) (n : Int) : Int :=
  divRnd (n * (s.get Fd.POS_TDIAM_LEARNT c : Int) * 1024 * (piFixed : Int)) ((max (s.get Fd.POS_TCFG_PPR c) 1 * 2 ^ 120 : Nat) : Int)

/-- TCFG.FAULT of both channels and the MINOR event (R123). -/
def State.tachoFaults (s : State) (f0 f1 : Bool) : State :=
  let s := (s.setB Fd.POS_TCFG_FAULT f0 0).setB Fd.POS_TCFG_FAULT f1 1
  if f0 || f1 then s.raise 254 else s.clearSource 254

/-- One sheet of odometry (R122 to R124): the accepted distance, σ's growth, SLIP, SINGLE. -/
def State.odometry (s : State) (raw0 raw1 : Int) : State :=
  let n0 := s.tachoCount 0 raw0
  let n1 := s.tachoCount 1 raw1
  let d0 := s.tachoDistance 0 n0
  let d1 := s.tachoDistance 1 n1
  let l := s.pos.steps.take 63
  let c0 := n0.natAbs + (l.map (·.n0.natAbs)).sum
  let c1 := n1.natAbs + (l.map (·.n1.natAbs)).sum
  let s0 := d0 + (l.map (·.ds0)).sum
  let s1 := d1 + (l.map (·.ds1)).sum
  let f0 := !s.getB Fd.POS_TCFG_EN 0 || (c0 == 0 && decide (64 ≤ c1))
  let f1 := !s.getB Fd.POS_TCFG_EN 1 || (c1 == 0 && decide (64 ≤ c0))
  let before := ((s.pos.steps.take 64).map (·.ds)).sum
  let apart := decide (s.legN 0x4013 * max s0.natAbs s1.natAbs + s.legN 0x4014 * 65536 * 1000000 < (s0 - s1).natAbs * 1000000)
  let slip := apart && !f0 && !f1
  let ds := if f0 && f1 then 0
    else if f0 then d1
    else if f1 then d0
    else if slip then (if (s0 - before).natAbs ≤ (s1 - before).natAbs then d0 else d1)
    else divRnd (d0 + d1) 2
  let single := f0 != f1
  let s := s.tachoFaults f0 f1
  let s := if slip then (s.setB Fd.POS_STAT_SLIP true).raise 253 else s.clearSource 253
  let s := s.setB Fd.POS_STAT_SINGLE single
  let e := s.legN 0x4012 * (if single then 4 else 1)
  let sig := s.pos.s + (divRnd ((ds.natAbs * e : Nat) : Int) 1000000).toNat + (if slip then (d0 - d1).natAbs else 0) +
    (if f0 && f1 then 4 * 65536 else 0)
  let dir : Int := if s.getB Fd.POS_ROUTE_SENSE then 1 else -1
  let steps := (⟨ds, d0, d1, n0, n1⟩ : OdoStep) :: s.pos.steps.take 15999
  let spoil := slip || f0 || f1
  let alt := s.pos.alt.map fun (h : Hyp) => ({ h with x := h.x + (if h.up then ds else -ds) } : Hyp)
  let learn := s.pos.learn.map fun (q : LearnFix) => ({ q with clean := q.clean && !spoil } : LearnFix)
  { s with pos := { s.pos with
    x := s.pos.x + dir * ds
    s := min sig ((2 ^ 32 - 2) * 65536)
    alt := alt
    steps := steps
    cum0 := s.pos.cum0 + d0
    cum1 := s.pos.cum1 + d1
    learn := learn } }

/-- POS.SPEED: the accepted distance of the latest 64 sheets over 8 ms, signed along increasing chainage by the sense of travel that the
walker leaves (R124, R127). -/
def State.reportSpeed (s : State) : State :=
  let dir : Int := if s.getB Fd.POS_ROUTE_SENSE then 1 else -1
  s.setI Fd.POS_SPEED_SPEED (divRnd (dir * ((s.pos.steps.take 64).map (·.ds)).sum * 125) mm)

/-! ### The walker (R127 to R129) -/

/-- What a walk ends in: a position hypothesis and the route list, with a second hypothesis where it met an ambiguous link. -/
structure Walk where
  hyp : Hyp
  routes : List Nat
  second : Option Hyp
  deriving DecidableEq, Repr

/-- Follow a position through entries and links (R127), from its previous entry, or by a search. -/
def Slot.walk (a : Slot) : Nat → Hyp → List Nat → Walk
  | 0, h, rs => ⟨h, rs, none⟩
  | f + 1, h, rs =>
    match h.entry with
    | none => ⟨{ h with entry := (a.covering h.route h.x).map (·.index) }, rs, none⟩
    | some i =>
      let e := a.entry i
      let hi := (e.high : Int) * mm
      let lo := (e.chain : Int) * mm
      if a.unreadable i then ⟨{ h with entry := (a.covering h.route h.x).map (·.index) }, rs, none⟩
      else if lo ≤ h.x ∧ h.x < hi then ⟨h, rs, none⟩
      else
        let up := decide (hi ≤ h.x)
        let gone := if up then h.x - hi else lo - h.x
        let flip := fun rev => if rev then !h.up else h.up
        match a.follow e up rs with
        | (.none, rs) =>
          let j := if up then i + 1 else i - 1
          let n := a.entry j
          let joined := if up then decide (j < a.entryCount) && n.route == e.route && n.chain == e.high
            else decide (1 ≤ i) && n.route == e.route && n.high == e.chain
          a.walk f { h with entry := if joined then some j else none } rs
        | (.one j rev, rs) =>
          let t := a.enter j up rev gone
          a.walk f ⟨t.1, t.2.1, flip rev, some j⟩ rs
        | (.two j rj k rk, rs) =>
          let t := a.enter j up rj gone
          let u := a.enter k up rk gone
          ⟨⟨t.1, t.2.1, flip rj, some j⟩, rs, some ⟨u.1, u.2.1, flip rk, some k⟩⟩

/-- The state as a hypothesis, and put back. -/
def State.mainHyp (s : State) : Hyp := ⟨s.get Fd.POS_ROUTE_ROUTE, s.pos.x, s.getB Fd.POS_ROUTE_SENSE, s.pos.entry⟩

def State.setMainHyp (s : State) (h : Hyp) : State :=
  let s := { s with pos := { s.pos with x := h.x, entry := h.entry } }
  (s.set Fd.POS_ROUTE_ROUTE h.route).setB Fd.POS_ROUTE_SENSE h.up

/-- The position passes into LOST (R128). -/
def State.becomeLost (s : State) : State :=
  { s with pos := { s.pos with alt := none, entry := none } }.set Fd.POS_STAT_STATE 3

/-- Steps that suffice from a hypothesis' entry to its position: an entry is at least 1 dm long. -/
def Slot.walkSteps (a : Slot) (h : Hyp) : Nat :=
  match h.entry with
  | none => 1
  | some i => (h.x - ((a.entry i).chain : Int) * mm).natAbs / (100 * 65536) + 65540

/-- The walker's step at a sheet boundary, on board (R127, R128). -/
def State.walkMain (s : State) : State :=
  let st := s.get Fd.POS_STAT_STATE
  if st = 0 ∨ st = 3 then s
  else
    let w := s.atlas.walk (s.atlas.walkSteps s.mainHyp) s.mainHyp s.pos.routes
    let s := (s.setMainHyp w.hyp)
    let s := { s with pos := { s.pos with routes := w.routes } }
    match s.pos.alt, w.second with
    | none, none => s.set Fd.POS_STAT_STATE (if w.hyp.entry.isSome then 1 else 4)
    | none, some h => { s with pos := { s.pos with alt := some h } }.set Fd.POS_STAT_STATE 2
    | some _, some _ => s.becomeLost
    | some h, none =>
      let v := s.atlas.walk (s.atlas.walkSteps h) h s.pos.routes
      match v.second with
      | some _ => s.becomeLost
      | none => { s with pos := { s.pos with alt := some v.hyp, routes := v.routes } }.set Fd.POS_STAT_STATE 2

/-- The entry that covers the position: on board in TRACKING, OFF_ATLAS and UNSURE the main hypothesis'. -/
def State.coverEntry (s : State) : Option Entry := s.pos.entry.map s.atlas.entry

/-- The entry of an occupied track. -/
def State.trackEntry (s : State) (t : Nat) : Option Entry :=
  if (s.track t).occupied then s.atlas.covering (s.atlas.passRoute t) (s.track t).x else none

/-- The positions the zone and the region in force rest on: route, position, σ, speed. -/
def State.places (s : State) : List (Nat × Int × Nat × Int) :=
  if s.get Fd.POS_CTL_MODE = 2 then
    ([0, 1].filter fun t => (s.track t).occupied).map fun t =>
      (s.atlas.passRoute t, (s.track t).x, (s.track t).s, (s.track t).speed)
  else if s.get Fd.POS_STAT_STATE = 0 ∨ s.get Fd.POS_STAT_STATE = 3 then []
  else
    let v := s.getI Fd.POS_SPEED_SPEED
    (s.get Fd.POS_ROUTE_ROUTE, s.pos.x, s.pos.s, v) :: (match s.pos.alt with
      | some h => [(h.route, h.x, s.pos.s, if h.up = s.getB Fd.POS_ROUTE_SENSE then v else -v)]
      | none => [])

/-- The region in force (R128, R134): that of the covering entry; DEFAULT_REGION where there is none or two disagree. -/
def State.regionNow (s : State) : Nat :=
  let a := s.atlas
  if s.getB Fd.POS_CTL_WALK_EN = false then a.defaultRegion
  else
    match s.places.map fun p => (a.covering p.1 p.2.1).map (·.region) with
    | [some r] => r
    | [some r, some q] => if r = q then r else a.defaultRegion
    | _ => a.defaultRegion

/-- Both copies of an entry that the walker reads at this boundary fail, at a position or in a span traced from one (R129). -/
def State.entryBadNow (s : State) : Bool :=
  s.pos.spanBad || s.places.any fun p => match s.atlas.holding p.1 p.2.1 with
    | some e => s.atlas.unreadable e.index
    | none => false

/-! ### The zone of doubt (R131 to R135, R140) -/

/-- The spans from a place: upward and downward, `u` about it, `more` further in the sense of travel. -/
def spansOf (p : Nat × Int × Nat × Int) (u more : Int) (routes : List Nat) : List Span :=
  let v := p.2.2.2
  [⟨p.1, p.2.1, true, u + (if 0 < v then more else 0), 0, routes⟩, ⟨p.1, p.2.1, false, u + (if v < 0 then more else 0), 0, routes⟩]

/-- u = 3 σ + pos.lead_margin, and |SPEED| × 10 ms. -/
def State.halfWidth (s : State) (p : Nat × Int × Nat × Int) : Int := (3 * p.2.2.1 : Nat) + (s.legN 0x4010 : Int) * mm

def leadOf (p : Nat × Int × Nat × Int) : Int := divRnd ((p.2.2.2.natAbs : Int) * mm) 100

/-- Form Z (R131): trace at most 256 entries more than were traced before; what is left counts as DEFAULT_REGION (R140). -/
def State.formZone (s : State) : State :=
  let a := s.atlas
  let ps := s.places
  let walked := s.getB Fd.POS_CTL_WALK_EN
  let t := a.trace (s.pos.scanned + 256) (if walked then ps.flatMap fun p => spansOf p (s.halfWidth p) (leadOf p) s.pos.routes else [])
  let rs := t.1.map (·.region)
  let z := (if !walked || ps.isEmpty || !t.2.isEmpty then a.defaultRegion :: rs else rs).eraseDups
  let s := { s with pos := { s.pos with zone := z, scanned := t.1.length, spanBad := t.1.any (·.bad) } }
  let s := (s.setB Fd.POS_STAT_ZONE_SCAN (!t.2.isEmpty)).set Fd.POS_WALK_ZREG (min z.length 15)
  match ps with
  | p :: _ => s.setI Fd.POS_LEAD_LEAD (rnd (s.halfWidth p + leadOf p) 16)
  | [] => s.set Fd.POS_LEAD_LEAD 0

/-- Announce the regions that enter the span x ± (u + pos.prep_dist) (R135). -/
def State.announceRegions (s : State) : State :=
  if s.getB Fd.POS_CTL_WALK_EN = false then s
  else
    let prep := (s.legN 0x4011 : Int) * mm
    let t := s.atlas.trace (s.pos.ahead + 256) (s.places.flatMap fun p => spansOf p (s.halfWidth p + prep) 0 s.pos.routes)
    let rs := (t.1.map (·.region)).eraseDups
    let known := s.pos.announced
    let s := { s with pos := { s.pos with announced := rs, ahead := t.1.length, spanBad := s.pos.spanBad || t.1.any (·.bad) } }
    forEach (rs.filter fun r => !known.contains r) s fun s r =>
      let far := match t.1.find? fun q => q.region == r with
        | some q => q.far
        | none => 0
      s.notifyChart 0xF5 [wd (listMask s.enabledWindows), wd r, wdI (rnd far 16)]

/-- Two regions are equivalent for a window (R132). -/
def State.equivalent (s : State) (w p q : Nat) : Bool := s.atlas.equivalent (s.getB Fd.CHN_WCTL_LINK_EN w) w p q

/-- The tag of a bank is valid and covers Z (R132). -/
def State.tagCovers (s : State) (w b : Nat) : Bool :=
  let p := s.get Fd.POS_WTAG_REG_A w b
  let q := s.get Fd.POS_WTAG_REG_B w b
  let z := s.pos.zone
  s.getB Fd.POS_WTAG_VALID w b && (z.all fun r => s.equivalent w r p || s.equivalent w r q) &&
    (z.any fun r => s.equivalent w r p) && (z.any fun r => s.equivalent w r q)

/-- The smallest TOL of Z. -/
def State.zoneTol (s : State) : Nat := (s.pos.zone.map s.atlas.tol).foldl min 0xFFFFFFFF

/-- σ in force, 1/65,536 mm: the largest of the places'. -/
def State.sigmaNow (s : State) : Nat :=
  match s.places with
  | [] => (2 ^ 32 - 1) * 65536
  | l => (l.map (·.2.2.1)).foldl max 0

/-- The zone rule for one window (R133). -/
def State.zoneRule (s : State) (w : Nat) : State :=
  let put := fun (s : State) (r t b : Bool) =>
    ((s.setB Fd.POS_WLIM_REQ_REGION r w).setB Fd.POS_WLIM_REQ_TOL t w).setB Fd.POS_WLIM_REQ_BANK b w
  if s.getB Fd.CHN_WCTL_EN w = false then put s false false false
  else
    let region := s.pos.zone.any fun r => !s.atlas.licensed r w
    let tol := s.zoneTol
    let out := decide (tol ≠ 0xFFFFFFFF) && decide (tol * 65536 < s.sigmaNow)
    let stays := s.getB Fd.POS_WLIM_REQ_TOL w && decide (tol ≠ 0xFFFFFFFF) && decide (3 * tol * 65536 < 4 * s.sigmaNow)
    let act := s.actBank w
    let fits := s.tagCovers w act
    let bank := s.getB Fd.POS_WLIM_REQ_BANK w && !fits
    if region then put s true stays bank
    else if out || stays then put s false true bank
    else if fits then put s false false false
    else if s.tagCovers w (1 - act) then ((put s false false bank).requestSwap w).subbandSwaps
    else put s false false true

/-- WLIM.LIMGAIN and LIMOUT over Z (R134). -/
def State.zoneLimits (s : State) (w : Nat) : State :=
  let a := s.atlas
  let gains := (s.pos.zone.map fun r => a.maxGain r w).filter (· != 0)
  let outs := (s.pos.zone.map fun r => a.maxOut r w).filter (· != -128)
  let s := s.set Fd.POS_WLIM_LIMGAIN (match gains with
    | [] => 0
    | g :: gs => gs.foldl min g) w
  s.setI Fd.POS_WLIM_LIMOUT (match outs with
    | [] => -128
    | g :: gs => gs.foldl min g) w

/-! ### Relief and Doppler (R130, R137) -/

/-- Relief terms of an entry for a window under a σ: boost, gain relief, isolation. -/
def State.reliefOf (s : State) (e : Entry) (sig w : Nat) : Int × Int × Int :=
  let s1 := s.legN 0x4015
  let s2 := s.legN 0x4016
  let q : Int := if sig ≤ s1 * 65536 then 32768
    else if s2 * 65536 ≤ sig then 0
    else divRnd ((32768 * (s2 * 65536 - sig) : Nat) : Int) (((s2 - s1) * 65536 : Nat) : Int)
  let r := divRnd ((e.rwt : Int) * q) 15
  let o := 0x101000 + 32 * e.rset + 2 * w
  let b := if e.rset = 0 ∨ s.atlas.u8 o = 0 then 16 else s.atlas.u8 o
  let g := if e.rset = 0 then 0 else min (signed 8 (s.atlas.u8 (o + 1))) 0
  (16 + rnd (((b : Int) - 16) * r) 15, rnd (g * r) 15, rnd (e.iso * r) 15)

/-- The entries whose relief holds, with their σ: the covering entry in TRACKING, or those of the occupied tracks. -/
def State.reliefEntries (s : State) : List (Entry × Nat) :=
  if s.getB Fd.POS_CTL_WALK_EN = false then []
  else if s.get Fd.POS_CTL_MODE = 2 then
    [0, 1].filterMap fun t => (s.trackEntry t).map fun e => (e, (s.track t).s)
  else if s.get Fd.POS_STAT_STATE = 1 then (match s.coverEntry with
    | some e => [(e, s.pos.s)]
    | none => [])
  else []

/-- Write a window's relief: the larger boost, the lower gain relief and isolation term of the entries (R130, R136). -/
def State.writeRelief (s : State) (w : Nat) : State :=
  let l := s.reliefEntries.map fun p => s.reliefOf p.1 p.2 w
  let put := fun (s : State) (b g i : Int) =>
    ((s.setI Fd.CAN_WBOOST_BOOST b w).setI Fd.POS_WREL_GREL g w).setI Fd.POS_WREL_ISO i w
  match l with
  | [] => put s 16 0 0
  | p :: ps =>
    let m := ps.foldl (fun a q => (max a.1 q.1, min a.2.1 q.2.1, min a.2.2 q.2.2)) p
    put s m.1 m.2.1 m.2.2

/-- `rnd(20 × fd, 0)` of R137 in magnitude, at most 80,001, 0 where a and b are 0: v in mm/s, fc2 twice the window centre in Hz, a and b in mm. -/
def dopplerUnits (v : Nat) (fc2 a b : Nat) : Nat :=
  let n := a * a + b * b
  let num := 20 * (v * fc2 * a)
  if n = 0 then 0
  else searchMax (fun k => k == 0 || decide ((2 * k - 1) * (2 * k - 1) * (299792458000 * 299792458000) * n ≤ num * num)) 20 0 80001

/-- The target rotation of a window before its clamp (R137), 0.05 Hz units. -/
def State.dopplerTarget (s : State) (w : Nat) : Int :=
  match s.coverEntry, s.laneLo (s.get Fd.CHN_WLANE_RX_A w) true with
  | some e, some lo =>
    let b := s.atlas.bearing (s.get Fd.POS_ROUTE_REGION) w
    let xo := if b = 1 then e.xoff0 else e.xoff1
    let d := if b = 1 then e.d0 else e.d1
    if s.getB Fd.POS_CTL_DOP_EN = false ∨ s.get Fd.POS_STAT_STATE ≠ 1 ∨ b = 0 ∨ b = 3 ∨
        xo = -32768 ∨ s.legN 0x401A * 65536 < s.pos.s then 0
    else
      let fc2 := 2000 * (lo : Int) + 1000 * (s.getI Fd.CHN_WEDGE_LO_EDGE w + s.getI Fd.CHN_WEDGE_HI_EDGE w)
      let a := (e.chain : Int) + 1000 * xo - rnd s.pos.x 16
      let v := s.getI Fd.POS_SPEED_SPEED
      let n := (dopplerUnits v.natAbs fc2.natAbs a.natAbs (100 * d) : Int)
      if a * v * fc2 < 0 then n else -n
  | _, _ => 0

/-- One sheet of Doppler for a window (R137). -/
def State.dopplerStep (s : State) (w : Nat) : State :=
  let raw := s.dopplerTarget w
  let target := clampI raw (-80000) 80000
  let s := if raw = target then s else s.setB Fd.POS_STAT_DOP_CLAMP true
  let slew := (s.legN 0x401B : Int)
  let dop := s.getI Fd.CHN_DOP_FREQ_FREQ w
  s.setI Fd.CHN_DOP_FREQ_FREQ (dop + clampI (target - dop) (-slew) slew) w

/-! ### Banks that firmware writes (R78, R135) -/

/-- Bit i of a window's subband mask for a region: the window is licensed there, and the whole subband lies between the licensed
edges. -/
def State.subbandLicensed (s : State) (w r i : Nat) : Bool :=
  let p := s.get Fd.CHN_WCTL_PROFILE w
  match s.laneLo (s.get Fd.CHN_WLANE_RX_A w) true with
  | some lo =>
    let c2 := 2 * (lo : Int) + 2 * ((s.get Fd.CHN_WRX_RX_FIRST w + i : Nat) - (profM p / 2 : Nat) : Int) * (profSpacing p : Int)
    s.atlas.licensed r w && decide (2 * (s.atlas.licLo r w : Int) ≤ c2 - (profSpacing p : Int)) &&
      decide (c2 + (profSpacing p : Int) ≤ 2 * (s.atlas.licHi r w : Int))
  | none => false

/-- Word k of the mask of the regions of a tag. -/
def State.maskWord (s : State) (w p q k : Nat) : Word :=
  wd (listMask ((List.range 32).filter fun j =>
    decide (32 * k + j < s.get Fd.CHN_WRX_COUNT w) && s.subbandLicensed w p (32 * k + j) && s.subbandLicensed w q (32 * k + j)))

/-- Write a window's inactive bank (R78, R135): tables from `t`, the mask of regions `p` and `q`, BSEAL and the tag's regions. The tag
takes VALID once R281 gives the bank a CRC. -/
def State.buildBank (s : State) (w p q : Nat) (t : Nat → Nat → Word) : State :=
  let b := 1 - s.actBank w
  let k := 2 * w + b
  let s := forEach [0, 2, 3, 4] s fun s k => forEach (List.range (tblLen k)) s fun s i => s.setTbl w b k i (t k i)
  let s := forEach (List.range 40) s fun s i => s.setTbl w b 1 i (s.maskWord w p q i)
  let s := s.set Fd.CHN_BSEAL_SEAL (s.bankCrc w b).toNat w b
  let s := { s with
    integ := { s.integ with chnArmed := if s.integ.chnArmed.contains k then s.integ.chnArmed else k :: s.integ.chnArmed }
    win := { s.win with preps := if s.win.preps.contains k then s.win.preps else k :: s.win.preps } }
  ((s.set Fd.POS_WTAG_REG_A p w b).set Fd.POS_WTAG_REG_B q w b).setB Fd.POS_WTAG_VALID false w b

/-- The regions of the active bank's tag, or the region in force (R78 step 2). -/
def State.applyRegions (s : State) (w : Nat) : Nat × Nat :=
  let act := s.actBank w
  if s.getB Fd.POS_WTAG_VALID w act then (s.get Fd.POS_WTAG_REG_A w act, s.get Fd.POS_WTAG_REG_B w act)
  else (s.get Fd.POS_ROUTE_REGION, s.get Fd.POS_ROUTE_REGION)

/-- A bank's CRC is from a pass since its last write (R281). -/
def State.bankSwept (s : State) (k : Nat) : Bool := s.integ.chnBank.any fun p => p.1 == k

/-- Tags of built banks whose CRC now stands take VALID (R135). -/
def State.validateTags (s : State) : State :=
  let l := s.win.preps.filter s.bankSwept
  let s := { s with win := { s.win with preps := s.win.preps.filter fun k => !l.contains k } }
  forEach l s fun s k => s.setB Fd.POS_WTAG_VALID true (k / 2) (k % 2)

/-- The region at the forward end of the zone of doubt, in the direction of travel of the first place. -/
def State.regionAhead (s : State) : Option Nat :=
  match s.places with
  | [] => none
  | p :: _ =>
    ((s.atlas.trace 256 [⟨p.1, p.2.1, decide (0 ≤ p.2.2.2), s.halfWidth p + leadOf p, 0, s.pos.routes⟩]).1.getLast?).map (·.region)

/-- The tag of the bank that firmware prepares for a window (R135): where neither bank covers Z, one that does; where the active bank covers one
region, the intersection with a region announced; where it covers a border, the region ahead (log entry 124). -/
def State.wantedTag (s : State) (w : Nat) : Option (Nat × Nat) :=
  let act := s.actBank w
  let z := s.pos.zone
  let r := z.headD 0
  let other := z.find? fun q => !s.equivalent w r q
  if s.tagCovers w act then
    match other with
    | some _ => s.regionAhead.map fun f => (f, f)
    | none => (s.pos.announced.find? fun q => !s.equivalent w r q).map fun q => (r, q)
  else if z.isEmpty || s.tagCovers w (1 - act) then none
  else
    let q := other.getD r
    if z.all fun p => s.equivalent w p r || s.equivalent w p q then some (r, q) else none

/-- Firmware prepares the inactive bank of an enabled window for the regions it needs next, from the applied copies (R78, R135); not while a
swap or a BANK_APPLY of the window runs, nor before one has given the window applied copies. -/
def State.prepareBank (s : State) (w : Nat) : State :=
  let b := 1 - s.actBank w
  let free := s.getB Fd.CHN_WCTL_EN w && !s.getB Fd.CHN_WSTAT_SWAP_PEND w && !(s.win.applies.any fun a => bit a.named w) &&
    s.win.applTab.any fun p => p.1 / 2048 / 5 == w
  match (if free then s.wantedTag w else none) with
  | none => s
  | some (p, q) =>
    let held := (s.getB Fd.POS_WTAG_VALID w b || s.win.preps.contains (2 * w + b)) && s.get Fd.POS_WTAG_REG_A w b == p &&
      s.get Fd.POS_WTAG_REG_B w b == q
    if held then s else s.buildBank w p q (s.applWord w)

/-- The banks that firmware prepares at a sheet boundary. -/
def State.prepareBanks (s : State) : State :=
  if s.getB Fd.POS_CTL_WALK_EN then forEach (List.range 16) s State.prepareBank else s

/-- The reads of this boundary are done: the walker reads every entry again at the next (R129). An uncorrectable error that lasts is a DRAM_UE
again (log entry 124). -/
def State.forgetReads (s : State) : State :=
  (s.setSlot 0 { s.slot 0 with bad := [] }).setSlot 1 { s.slot 1 with bad := [] }

/-! ### The sheet boundary -/

/-- Switches take effect (R121): the walker finds the entries of its hypotheses in the new slot; a position that none holds is OFF_ATLAS. -/
def State.runSwitches (s : State) : State :=
  match s.pos.switches with
  | [] => s
  | l =>
    let s := { s with pos := { s.pos with switches := [], scanned := 0, ahead := 0 } }
    let s := (s.set Fd.POS_ATLAS_ACT_SLOT (1 - s.get Fd.POS_ATLAS_ACT_SLOT)).setB Fd.POS_ATLAS_SW_PEND false
    let find := fun (h : Hyp) => ({ h with entry := (s.atlas.covering h.route h.x).map (·.index) } : Hyp)
    let main := find s.mainHyp
    let st := s.get Fd.POS_STAT_STATE
    let placed := st = 1 ∨ st = 2 ∨ st = 4
    let s := if placed then
        let alt := if main.entry.isSome then s.pos.alt.map find else none
        let s := { s with pos := { s.pos with entry := main.entry, alt := alt } }
        if main.entry.isNone then s.set Fd.POS_STAT_STATE 4 else s
      else { s with pos := { s.pos with entry := none } }
    forEach l s.syncMirror fun s q => s.complete q.mb q.cmd 0

/-- The fixes and passages that wait, in the order received (R125, R136). -/
def State.runFixes (s : State) : State :=
  let l := s.pos.fixes
  let s := { s with pos := { s.pos with fixes := [] } }
  forEach l s fun s q =>
    let c := q.cmd
    if c.opcode = 0x25 then
      if s.get Fd.POS_CTL_MODE ≠ 2 then s.complete q.mb c 7
      else
        let p := s.trackPassage c
        p.1.complete q.mb c p.2
    else if s.get Fd.POS_CTL_MODE ≠ 1 then s.complete q.mb c 7
    else
      let p := s.applyFix (wbits (c.word 1) 15 0) (c.word 2).toNat (c.word 3).toNat
        (s.stampTick (c.word 4).toNat (wbits (c.word 5) 19 0)) (bit (c.word 5).toNat 25) (bit (c.word 5).toNat 24)
      p.1.complete q.mb c p.2

/-- Report position, σ and entry (Tables 6.13 to 6.15). -/
def State.reportPosition (s : State) : State :=
  let s := s.set Fd.POS_ROUTE_REGION s.regionNow
  if s.get Fd.POS_CTL_MODE = 2 then
    let t := if (s.track 0).occupied then 0 else 1
    let k := s.track t
    let e := s.trackEntry t
    let s := s.set Fd.POS_STAT_STATE (if k.occupied then 5 else 0)
    let s := s.setI Fd.POS_CHAIN_CHAIN (rnd k.x 16)
    let s := s.set Fd.POS_SIGMA_SIGMA (if k.occupied then (k.s + 65535) / 65536 else 0xFFFFFFFF)
    let s := s.setI Fd.POS_SPEED_SPEED k.speed
    let s := s.set Fd.POS_ROUTE_ROUTE (s.atlas.passRoute t)
    let s := (s.setB Fd.POS_WALK_VALID e.isSome).set Fd.POS_WALK_ENTRY ((e.map (·.index)).getD 0)
    s.setB Fd.POS_STAT_PORTAL ((e.map (·.portal)).getD false)
  else
    let st := s.get Fd.POS_STAT_STATE
    let e := s.coverEntry
    let s := s.setI Fd.POS_CHAIN_CHAIN (rnd s.pos.x 16)
    let s := s.set Fd.POS_SIGMA_SIGMA (if st = 0 ∨ st = 3 then 0xFFFFFFFF else (s.pos.s + 65535) / 65536)
    let s := (s.setB Fd.POS_WALK_VALID e.isSome).set Fd.POS_WALK_ENTRY ((e.map (·.index)).getD 0)
    let s := s.setB Fd.POS_STAT_PORTAL ((e.map (·.portal)).getD false)
    if st = 3 then s.raise 256 else s.clearSource 256

/-- Position closes at a sheet boundary (step 3 of Table 1.10; R121, R124 to R137). -/
def State.closePosition (s : State) (inp : SheetInput) : State :=
  let s := s.runSwitches
  let s := s.filterPresence inp.presence
  let t0 := s.pos.tacho0.sheet (s.get Fd.POS_TCFG_FILT 0) inp.tacho0
  let t1 := s.pos.tacho1.sheet (s.get Fd.POS_TCFG_FILT 1) inp.tacho1
  let s := { s with pos := { s.pos with tacho0 := t0.1, tacho1 := t1.1 } }
  let s := s.runFixes
  if s.posOff then s
  else
    let s :=
      if s.get Fd.POS_CTL_MODE = 2 then
        let l := s.pos.asserted
        let s := { s with pos := { s.pos with asserted := [] } }
        let s := forEach l s State.trackAssert
        let s := (s.trackAdvance 0).trackAdvance 1
        forEach [0, 1] s fun s t => if s.presenceOn t then s.setTrack t { s.track t with quietFrom := s.sheet } else s
      else if s.get Fd.POS_STAT_STATE = 0 then (s.odometry t0.2 t1.2).reportSpeed
      else ((s.odometry t0.2 t1.2).walkMain).reportSpeed
    let s := s.reportPosition
    let s := s.formZone.announceRegions
    let s := if s.entryBadNow then (s.setB Fd.POS_STAT_ENTRY_BAD true).raise 257 else s.clearSource 257
    let s := forEach (List.range 16) s fun s w =>
      let s := ((s.zoneRule w).zoneLimits w).writeRelief w
      if s.getB Fd.CHN_WSTAT_RUNNING w then s.dopplerStep w else s
    s.prepareBanks.forgetReads

/-- MODE leaves 0 (R126): LEARNT takes NOM. MODE enters 0 or changes: the estimator starts from NO_FIX. -/
def State.positionMode (s : State) (old new : Nat) : State :=
  if old = new then s
  else
    let s := if old = 0 then forEach [0, 1] s fun s c => s.set Fd.POS_TDIAM_LEARNT (s.get Fd.POS_TDIAM_NOM c) c else s
    let s := { s with pos := { s.pos with
      asserted := [], entry := none, alt := none, steps := [], cum0 := 0, cum1 := 0, learn := none, zone := [], scanned := 0,
      ahead := 0, announced := [], track0 := Track.reset, track1 := Track.reset } }
    let s := (s.set Fd.POS_STAT_STATE 0).set Fd.POS_SIGMA_SIGMA 0xFFFFFFFF
    if new = 0 then
      forEach (List.range 16) s fun s w =>
        let s := ((s.set Fd.CAN_WBOOST_BOOST 16 w).set Fd.POS_WREL_GREL 0 w).set Fd.POS_WREL_ISO 0 w
        s.setReg (Reg.POS_WLIM.off w 0) 0x80
    else s

/-! ### BANK_APPLY (R78) -/

/-- The first fault of a window's pending tables among the windows that a BANK_APPLY names (R68, R70): the entry, or 0xFFFF_FFFF for a
trim set. A domain of a lower named window's pending route counts as that window's. -/
def State.pendingFault (s : State) (named : List Nat) (w : Nat) : Option Nat :=
  let foreign := s.domainsOutside (w :: named) ++ ((named.filter fun v => decide (v < w)).flatMap fun v => s.domainsIn v (s.pendWord v 0))
  let n := if s.get Fd.CHN_WCTL_PROFILE w = 0 then 0 else min (s.get Fd.CHN_WRX_COUNT w) 1280
  match routeFault foreign ((List.range n).map fun i => s.pendWord w 0 i) 0 none [] with
  | some i => some i
  | none => if s.trimsOk w (s.pendWord w) then none else some 0xFFFFFFFF

/-- BANK_APPLY (opcode 0x35; R78): BUSY before the three steps. -/
def execBankApply (mb : Fin 20) (s : State) : Out := s.whenLive <|
  .next (s.runCommand mb 0x35 fun s c => s.checked mb c 3 true fun s =>
    let mask := wbits (c.word 1) 15 0
    let l := maskList mask 16
    let faults := l.filterMap fun w => (s.pendingFault l w).map fun i => (w, i)
    if l.any fun w => s.getB Fd.CHN_WSTAT_SWAP_PEND w || s.win.applies.any fun a => bit a.named w then s.complete mb c 6
    else match faults with
      | (w, i) :: _ => s.complete mb c 4 [wd w, wd i]
      | [] =>
        let s := s.acceptEarly mb c
        let s := forEach l s fun s w => s.buildBank w (s.applyRegions w).1 (s.applyRegions w).2 (s.pendWord w)
        if mask = 0 then s.complete mb c.accepted 0 [0]
        else { s with win := { s.win with applies := s.win.applies ++ [⟨mb, c.accepted, mask, 0, 0⟩] } })

/-- Built banks that have a latest CRC take their tag's VALID, and the swaps of BANK_APPLY commands to them are requested (R78, R281). -/
def State.requestApplies (s : State) : State :=
  (forEach s.win.applies s.validateTags fun s a =>
    let ready := (maskList a.toRequest 16).filter fun w => s.bankSwept (2 * w + (1 - s.actBank w))
    let m := listMask ready
    let upd := fun (x : BankWait) =>
      if x.mb = a.mb ∧ x.cmd.tag = a.cmd.tag then { x with toRequest := maskClear x.toRequest m, requested := x.requested ||| m } else x
    let s := { s with win := { s.win with applies := s.win.applies.map upd } }
    forEach ready s State.requestSwap).subbandSwaps

end Sys2Proof.Machine
end

