-- ==== Sys2Proof/Machine/Tdd.lean ====
section
/-!
DEFINITION. Clocks, frame timing, front-end control and RFFE (10_synthesisers_lane_states_tdd.md R201 to R203, R211 to R221), with
WIN_ENABLE (R77), which refuses a pattern that the guard of R217 forbids. Times are stream samples since the sheet counter was
cleared: 1,536 in a grid tick; a frame is 9,830,400.
-/

namespace Sys2Proof.Machine

/-! ### References (R201 to R203) -/

/-- CKPLL enters holdover (R202). -/
def State.enterHoldover (s : State) : State :=
  let s := { s with ref := { s.ref with holdAt := s.time.gt } }
  ((s.set Fd.SYN_REF_STAT_SEL 2).set Fd.SYN_REF_STAT_HOLD_SEC 0).raise 267

/-- REFIN or REFIN2 becomes invalid (R202). -/
def State.refLost (s : State) (second : Bool) : State :=
  let sel := s.get Fd.SYN_REF_STAT_SEL
  if second then
    let s := s.setB Fd.SYN_REF_STAT_REF2_OK false
    if sel = 1 then s.enterHoldover else s
  else
    let s := s.setB Fd.SYN_REF_STAT_REF_OK false
    let s := { s with ref := { s.ref with validSheets := 0 } }
    if sel = 0 then
      let s := s.raise 266
      if s.getB Fd.SYN_REF_CTL_REF2_EN && s.getB Fd.SYN_REF_STAT_REF2_OK then s.set Fd.SYN_REF_STAT_SEL 1 else s.enterHoldover
    else s

/-- REF_INVALID (R202). -/
def execRefInvalid (second : Bool) (s : State) : Out := s.whenLive <| .next (s.refLost second)

/-- REF_REVERT (R202): with REVERT = 1, once REFIN has been valid for ref.revert_sheets consecutive sheets. -/
def execRefRevert (s : State) : Out := s.whenLive <|
  if s.getB Fd.SYN_REF_CTL_REVERT ∧ s.get Fd.SYN_REF_STAT_SEL ≠ 0 ∧ s.getB Fd.SYN_REF_STAT_REF_OK ∧
      s.legN 0x1043 ≤ s.ref.validSheets then
    .next ((((s.set Fd.SYN_REF_STAT_SEL 0).clearSource 266).clearSource 267).clearSource 268)
  else .next s

/-- HOLDOVER_LONG (R202): holdover beyond 60 s. -/
def execHoldoverLong (s : State) : Out := s.whenLive <|
  if s.get Fd.SYN_REF_STAT_SEL = 2 ∧ s.ref.holdAt + 38400000 < s.time.gt then .next (s.raise 268) else .next s

/-- The references over the sheet that a boundary closes (R201, R202). An input that matched no frequency at power-up stays
invalid. -/
def State.refSheet (s : State) (inp : SheetInput) : State :=
  let ok1 := inp.ref1 && s.get Fd.SYN_REF_STAT_REF_FREQ != 7
  let ok2 := inp.ref2 && s.get Fd.SYN_REF_STAT_REF2_FREQ != 7
  let s := if ok1 then
      { s with ref := { s.ref with validSheets := s.ref.validSheets + 1 } }.setB Fd.SYN_REF_STAT_REF_OK true
    else if s.getB Fd.SYN_REF_STAT_REF_OK then s.refLost false else s
  let s := if ok2 then s.setB Fd.SYN_REF_STAT_REF2_OK true
    else if s.getB Fd.SYN_REF_STAT_REF2_OK then s.refLost true else s
  if s.get Fd.SYN_REF_STAT_SEL = 2 then s.set Fd.SYN_REF_STAT_HOLD_SEC (min ((s.time.gt - s.ref.holdAt) / 640000) 65535) else s

/-! ### Members -/

/-- Frame timing or a pattern comes into force: the active member of each linked window's pair is judged (R215). -/
def State.judgeActive (s : State) : State :=
  forEach (List.range 16) s fun s w =>
    if s.getB Fd.CHN_WCTL_LINK_EN w then s.setPair w { s.pair w with active := s.activeAt w s.now } else s

/-! ### Timing (R211, R212) -/

/-- Two phases agree within tdd.agree. -/
def State.agrees (s : State) (p q : Nat) : Bool :=
  decide ((samplesToNs (centred ((p : Int) - (q : Int)))).natAbs ≤ s.legN 0x6043)

/-- A step to a new phase (R212): at the first frame start of the new phase at least a sheet ahead; from the old phase's last frame
start before it the TX gates of linked windows are closed. -/
def State.planStep (s : State) (p : Nat) : State :=
  let soon := s.now + 122880
  let t := soon + (frameLen - (p + soon) % frameLen) % frameLen
  { s with tdd := { s.tdd with step := some (p, t, t - (s.tdd.phase0 + t) % frameLen) } }

/-- A timing result (R211, R212): the frame start at a stream sample. -/
def State.tddResult (s : State) (start : Int) : State :=
  let p := ((-start) % 9830400).toNat
  let eps := centred ((s.tdd.phase0 : Int) - (p : Int))
  let ns := samplesToNs eps
  let small := decide (ns.natAbs ≤ s.legN 0x6044)
  let st := s.get Fd.TDD_STAT_STATE
  let last := s.tdd.last
  let pair := match last with
    | some q => s.agrees p q
    | none => false
  let s := { s with tdd := { s.tdd with lastAt := s.time.gt } }
  if st = 1 then
    if pair then
      let s := { s with tdd := { s.tdd with phase0 := p, slew := 0, last := none, step := none } }
      ((s.set Fd.TDD_STAT_STATE 2).set Fd.TDD_STAT_ERR 0).judgeActive.clearSource 272
    else { s with tdd := { s.tdd with last := some p } }
  else if st = 2 then
    let s := s.setI Fd.TDD_STAT_ERR (sat ns 16)
    if small then { s with tdd := { s.tdd with slew := eps, last := none } }
    else if pair then { s with tdd := { s.tdd with last := none } }.planStep p
    else { s with tdd := { s.tdd with last := some p } }
  else if st = 3 then
    let s := s.setI Fd.TDD_STAT_ERR (sat ns 16)
    if small then { s with tdd := { s.tdd with slew := eps, last := none } }.set Fd.TDD_STAT_STATE 2 else s
  else s

/-- A write of TDD.CTL (R211): EN set starts ACQUIRING, EN cleared is OFF, a change of source returns to ACQUIRING. -/
def State.tddControl (s : State) (old new : Word) : State :=
  let on1 := bit new.toNat 0
  let moved := bit old.toNat 0 != on1 || (on1 && bit old.toNat 1 != bit new.toNat 1)
  if moved then
    let s := { s with tdd := { s.tdd with last := none, step := none, slew := 0, ppsLast := none } }
    (s.set Fd.TDD_STAT_STATE (if on1 then 1 else 0)).set Fd.TDD_STAT_ERR 0
  else s

/-- PPS_EDGE (R211): an edge of PPS_IN in the present grid tick, `off` samples into it. -/
def execPpsEdge (off : Fin 1536) (s : State) : Out := s.whenLive <|
  if s.getB Fd.TDD_CTL_EN ∧ s.get Fd.TDD_CTL_SRC = 1 then
    let t := s.now + off.val
    let valid := match s.tdd.ppsLast with
      | some p => decide (((t : Int) - (p : Int) - 983040000).natAbs ≤ 983)
      | none => false
    let s := { s with tdd := { s.tdd with ppsLast := some t } }
    if valid then
      .next (s.tddResult ((t : Int) + nsToSamples ((s.get Fd.TDD_PPS_OFF_OFFSET : Int) + s.getI Fd.TDD_TOFF_OFFSET)))
    else .next s
  else .next s

/-- Grid ticks between results of the source in use: a second for PPS, the job's interval for SSB. -/
def State.resultInterval (s : State) : Nat :=
  if s.get Fd.TDD_CTL_SRC = 1 then 640000 else 80 * s.get Fd.RCE_JCFG0_PERIOD (s.get Fd.TDD_CTL_JOB)

/-- TDD_RESULT_TIMEOUT (Table 10.6): no result in 16 sheets past its due time. -/
def execTddResultTimeout (s : State) : Out := s.whenLive <|
  if s.get Fd.TDD_STAT_STATE = 2 ∧ s.tdd.lastAt + s.resultInterval + 1280 ≤ s.time.gt then
    .next ({ s with tdd := { s.tdd with holdAt := s.time.gt, last := none, step := none } }.set Fd.TDD_STAT_STATE 3)
  else .next s

/-- TDD_HOLDOVER_EXPIRY (Table 10.6): HOLDOVER beyond tdd.hold_sheets is LOST, and ACQUIRING at once. -/
def execTddHoldoverExpiry (s : State) : Out := s.whenLive <|
  if s.get Fd.TDD_STAT_STATE = 3 ∧ s.tdd.holdAt + 80 * s.legN 0x6045 ≤ s.time.gt then
    .next (({ s with tdd := { s.tdd with last := none, slew := 0 } }.set Fd.TDD_STAT_STATE 1).raise 272)
  else .next s

/-- TDD_STEP (R212): the step whose instant lies in the present grid tick, or has passed, takes effect. -/
def execTddStep (s : State) : Out := s.whenLive <|
  match s.tdd.step with
  | some (p, t, _) =>
    if t < s.now + 1536 then .next ({ s with tdd := { s.tdd with phase0 := p, slew := 0, step := none } }.pulse 271) else .next s
  | none => .next s

/-- A frame start of the phase in force lies in the grid tick: one sample of a result is slewed in (R212). -/
def State.slewTick (s : State) : State :=
  let p := s.phaseAt s.now
  if s.timingHeld && s.tdd.slew != 0 && (p == 0 || decide (frameLen - 1536 < p)) then
    let up := decide (0 < s.tdd.slew)
    { s with tdd := { s.tdd with
      phase0 := (s.tdd.phase0 + (if up then frameLen - 1 else 1)) % frameLen
      slew := if up then s.tdd.slew - 1 else s.tdd.slew + 1 } }
  else s

/-! ### Patterns of windows (R214) -/

/-- Put a pattern in force for a window. -/
def State.takePattern (s : State) (w : Nat) (p : Pattern) (region : Nat) : State :=
  let s := s.setPair w { s.pair w with pattern := p, next := none }
  (s.set Fd.TDD_WTDD_REGION region w).setB Fd.TDD_WTDD_PAT_VALID p.valid w

/-- The region in force changes the pattern of linked windows (R214): the change waits for its first period start. -/
def State.syncPatterns (s : State) : State :=
  forEach (List.range 16) s fun s w =>
    let r := s.get Fd.POS_ROUTE_REGION
    let p := s.atlas.tddPattern r
    let e := s.pair w
    if s.getB Fd.CHN_WCTL_LINK_EN w = false ∨ s.posOff then s
    else if p = e.pattern then (s.setPair w { e with next := none }).set Fd.TDD_WTDD_REGION r w
    else match e.next with
      | some (q, _, t) => if q = p then s.setPair w { e with next := some (p, r, t) } else s.setPair w { e with next := some (p, r, s.now) }
      | none => s.setPair w { e with next := some (p, r, s.now) }

/-- PATTERN_CHANGE (R214): a changed pattern takes effect at its first period start; at once where it is not valid or no timing
is in force. -/
def execPatternChange (w : Fin 16) (s : State) : Out := s.whenLive <|
  match (s.pair w).next with
  | some (p, r, _) =>
    if !p.valid || !s.timingHeld || s.periodStarts p s.now then .next (s.takePattern w p r).judgeActive else .next s
  | none => .next s

/-! ### Gates, roles and guard (R215 to R217) -/

/-- tdd.guard in samples. -/
def State.guardSamples (s : State) : Nat := (nsToSamples (s.get Fd.TDD_GUARD_NS : Int)).toNat

/-- PA_EN outputs of a pair's TX lanes, from its downlink member. -/
def State.pairPa (s : State) (w : Nat) : List Nat :=
  s.fecsOf 1 (s.lanesOf w false ++ (match s.partner w with
    | some v => s.lanesOf v false
    | none => []))

/-- PA_EN and ROLE outputs of a pair. -/
def State.pairFecs (s : State) (w : Nat) : List Nat := s.pairPa w ++ s.fecsOf 2 [w]

def maxOf (l : List Nat) : Nat := l.foldl max 0

/-- R217 refuses the pattern and FEC set of a linked window: a GAP segment shorter than twice the guard plus ADV and HOLD of the
pair's outputs. -/
def State.guardShort (s : State) (w : Nat) : Bool :=
  if s.getB Fd.CHN_WCTL_LINK_EN w then
    let p := s.atlas.tddPattern (s.get Fd.POS_ROUTE_REGION)
    let fs := s.pairFecs (s.downMember w)
    let need := 2 * s.guardSamples + maxOf (fs.map fun f => s.get Fd.TDD_FCFG_ADV f) + maxOf (fs.map fun f => s.get Fd.TDD_FTIM_HOLD f)
    p.valid && p.segs.any fun e => e.1 == 2 && decide (e.2 * (70144 / 2 ^ p.scs) < need)
  else false

/-- SEGMENT_START (R215, R217): at a stream sample of the present grid tick the active member of a linked window's pair is judged anew, and
the gates of the uplink member close where its segment begins or ends (R195); a change of role and the PA_EN assertions after it wait for
the guard; those delayed set GUARD_HIT. -/
def execSegmentStart (w : Fin 16) (off : Fin 1536) (s : State) : Out := s.whenLive <|
  match s.partner w with
  | none => .next s
  | some v =>
    let t := s.now + off.val
    let d := s.downMember w
    let turn := fun (s : State) (x : Nat) =>
      let on1 := s.activeAt x t
      let moved := on1 != (s.pair x).active
      let s := s.setPair x { s.pair x with active := on1 }
      if moved && s.getB Fd.CHN_WCTL_TDD_UL x then s.closeGates x else s
    let s := turn (turn s w) v
    let e := s.pair d
    let dl := s.activeAt d t
    if s.patternInForce d ∧ dl ≠ (e.dlRole != e.rolePend) then
      let fs := s.pairPa d
      let due := t + s.memberDelay d
      let off1 := due + maxOf (fs.map fun f => s.get Fd.TDD_FTIM_HOLD f)
      let free := off1 + s.guardSamples
      let advs := match s.fecsOf 2 [d] with
        | [] => [0]
        | l => l.map fun f => s.get Fd.TDD_FCFG_ADV f
      let pend := advs.any fun a => decide (due - a < free)
      let last := maxOf (advs.map fun a => max (due - a) free)
      -- the outputs that the new segment asserts: those of the member that becomes active
      let u := if dl then d else (s.partner d).getD d
      let news := s.fecsOf 1 (s.lanesOf u false)
      let late := news.filter fun f => decide (t + s.memberDelay u - s.get Fd.TDD_FCFG_ADV f < last + s.guardSamples)
      let s := s.setPair d { e with
        active := dl, dlRole := if pend then e.dlRole else dl, rolePend := pend, paHeld := listMask late
        paOffAt := off1, roleDue := due, roleMin := free, roleAt := last }
      .next (forEach late s fun s f => s.setB Fd.TDD_FCFG_GUARD_HIT true f)
    else .next s

/-- GUARD_WAIT_END (R217): a role change, or the PA_EN assertions, held for the guard proceed. -/
def execGuardWaitEnd (w : Fin 16) (off : Fin 1536) (s : State) : Out := s.whenLive <|
  let t := s.now + off.val
  let d := s.downMember w
  let e := s.pair d
  let e := if e.rolePend ∧ e.roleAt ≤ t then { e with dlRole := !e.dlRole, rolePend := false } else e
  let e := if !e.rolePend ∧ e.roleAt + s.guardSamples ≤ t then { e with paHeld := 0 } else e
  .next (s.setPair d e)

/-! ### RFFE (R219 to R221) -/

def State.rffeWord (s : State) (m i : Nat) : Word := mapGet 0 s.tdd.words (256 * m + i)

/-- SCLK cycles of a sequence from word `i` on (Tables 10.8 and 10.10): it ends at END or at word 255; gaps of 2 between commands. -/
def State.rffeCycles (s : State) (m : Nat) : Nat → Nat → Bool → Nat
  | 0, _, _ => 0
  | f + 1, i, first =>
    let v := s.rffeWord m i
    let op := wbits v 31 28
    let bc := wbits v 7 4 + 1
    let gap := if first then 0 else 2
    if 255 ≤ i ∨ op = 0 ∨ 7 ≤ op then 0
    else if op = 1 then gap + 25 + s.rffeCycles m f (i + 1) false
    else if op = 2 then gap + 16 + s.rffeCycles m f (i + 1) false
    else if op = 3 then gap + 25 + 9 * bc + s.rffeCycles m f (i + 1 + (bc + 3) / 4) false
    else if op = 4 then gap + 26 + s.rffeCycles m f (i + 1) false
    else if op = 5 then gap + 26 + 9 * bc + s.rffeCycles m f (i + 1) false
    else wbits v 15 8 + s.rffeCycles m f (i + 1) false

/-- Data bytes of an extended write, byte 0 in [7:0] of the first word. -/
def State.rffeBytes (s : State) (m i n : Nat) : List Nat :=
  (List.range n).map fun k => (s.rffeWord m (i + k / 4)).toNat / 2 ^ (8 * (k % 4)) % 256

/-- The commands that a sequence puts on its bus from word `i` on, with the SCLK cycle at which each begins (R219, Tables 10.8 and 10.10). -/
def State.rffeCommands (s : State) (m : Nat) : Nat → Nat → Nat → Bool → List BusCommand
  | 0, _, _, _ => []
  | f + 1, i, at_, first =>
    let v := s.rffeWord m i
    let op := wbits v 31 28
    let bc := wbits v 7 4 + 1
    let at_ := if first ∨ op = 6 then at_ else at_ + 2
    let cmd := fun (data : List Nat) (n : Nat) => (⟨at_, op, wbits v 27 24, wbits v 23 16, data, n⟩ : BusCommand)
    if 255 ≤ i ∨ op = 0 ∨ 7 ≤ op then []
    else if op = 1 then cmd [wbits v 15 8] 1 :: s.rffeCommands m f (i + 1) (at_ + 25) false
    else if op = 2 then cmd [wbits v 15 8] 1 :: s.rffeCommands m f (i + 1) (at_ + 16) false
    else if op = 3 then cmd (s.rffeBytes m (i + 1) bc) bc :: s.rffeCommands m f (i + 1 + (bc + 3) / 4) (at_ + 25 + 9 * bc) false
    else if op = 4 then cmd [] 1 :: s.rffeCommands m f (i + 1) (at_ + 26) false
    else if op = 5 then cmd [] bc :: s.rffeCommands m f (i + 1) (at_ + 26 + 9 * bc) false
    else s.rffeCommands m f (i + 1) (at_ + wbits v 15 8) false

/-- A sequence holds a read. -/
def State.rffeReads (s : State) (m : Nat) : Nat → Nat → Bool
  | 0, _ => false
  | f + 1, i =>
    let v := s.rffeWord m i
    let op := wbits v 31 28
    if 255 ≤ i ∨ op = 0 ∨ 7 ≤ op then false
    else if op = 4 ∨ op = 5 then true
    else if op = 3 then s.rffeReads m f (i + 1 + (wbits v 7 4 + 4) / 4)
    else s.rffeReads m f (i + 1)

/-- START of a directory entry. -/
def State.rffeStart (s : State) (m q : Nat) : Nat := wbits (s.rffeWord m q) 23 16

/-- Bus time of a sequence in stream samples: its cycles at 2 (DIV + 1) samples. -/
def State.rffeTime (s : State) (m q : Nat) : Nat := s.rffeCycles m 256 (s.rffeStart m q) true * (2 * (s.get Fd.TDD_RCTL_DIV m + 1))

/-- ADV of a directory entry in samples: units of 0.25 µs. -/
def State.rffeAdv (s : State) (m q : Nat) : Nat := (divRnd (((wbits (s.rffeWord m q) 15 8 * 24576 : Nat)) : Int) 100).toNat

def State.rffeQueue (s : State) (m : Nat) : List RffeJob := mapGet [] s.tdd.rffe m

def State.setRffeQueue (s : State) (m : Nat) (l : List RffeJob) : State := { s with tdd := { s.tdd with rffe := mapSet [] s.tdd.rffe m l } }

/-- The sequence at the head of a master's queue begins at a stream sample: its commands go out on the bus. -/
def State.rffeBegin (s : State) (m t : Nat) : State :=
  match s.rffeQueue m with
  | j :: js =>
    let s := { s with out := { s.out with rffe := mapSet [] s.out.rffe m (s.rffeCommands m 256 (s.rffeStart m j.seq) 0 true) } }
    ((s.setRffeQueue m ({ j with begun := some t } :: js)).set Fd.TDD_RSTAT_SEQ j.seq m).setB Fd.TDD_RSTAT_BUSY true m
  | [] => s.setB Fd.TDD_RSTAT_BUSY false m

/-- A sequence starts on its master, queued behind those that started before (R220). -/
def State.rffePush (s : State) (m q instant t : Nat) (beam : Option (Nat × Command)) : State :=
  let l := s.rffeQueue m
  let s := s.setRffeQueue m (l ++ [⟨q, instant, none, beam⟩])
  if l.isEmpty then s.rffeBegin m t else s

/-- A write of RCTL.SW_TRIG (R220): the sequences of event 6 start; the event's instant lies ADV later. -/
def State.swTrig (s : State) (m : Nat) : State :=
  if s.getB Fd.TDD_RCTL_EN m then
    forEach ((List.range 16).filter fun q => wbits (s.rffeWord m q) 31 28 == 6) s fun s q =>
      s.rffePush m q (s.now + s.rffeAdv m q) s.now none
  else s

/-- The event of a directory entry has its instant at a stream sample (Table 10.9); that a lane enters or leaves ACTIVE is known before where
its next boundary brings it (ADV of R220). -/
def State.rffeEvent (s : State) (m q instant : Nat) : Bool :=
  let v := s.rffeWord m q
  let tg := wbits v 27 24
  let p := (s.pair tg).pattern
  let here := s.segmentAt p instant
  let starts := s.patternInForce tg && decide (1 ≤ instant) && here != s.segmentAt p (instant - 1)
  match wbits v 31 28 with
  | 1 => starts && here.2 == 0
  | 2 => starts && here.2 == 1
  | 3 => (bit s.tdd.entered tg && instant == s.now) || (s.get Fd.SYN_LSTATE_TX_STATE tg != 4 && s.txFrom tg == some instant)
  | 4 => (bit s.tdd.left tg && instant == s.now) ||
      (s.get Fd.SYN_LSTATE_TX_STATE tg == 4 && s.nextTx tg false != 4 && instant == s.now + 1536)
  | 5 => s.tdd.beams.any fun b => b.master == m && b.seq == q && b.instant == instant
  | _ => false

/-- RFFE_SEQUENCE_START (R220): at a stream sample of the present grid tick, ADV before the event's instant or later. -/
def execRffeSequenceStart (master : Fin 4) (seq : Fin 16) (instant : Nat) (off : Fin 1536) (s : State) : Out := s.whenLive <|
  let t := s.now + off.val
  if s.getB Fd.TDD_RCTL_EN master ∧ s.rffeEvent master seq instant ∧ instant ≤ t + s.rffeAdv master seq then
    let mine := fun (b : BeamWait) => b.master == master.val && b.seq == seq.val && b.instant == instant
    let beam := if wbits (s.rffeWord master seq) 31 28 = 5 then (s.tdd.beams.find? mine).map fun b => (b.mb, b.cmd) else none
    let s := if beam.isSome then { s with tdd := { s.tdd with beams := changeFirst mine (fun _ => []) s.tdd.beams } } else s
    .next (s.rffePush master seq instant t beam)
  else .next s

/-- RFFE_SEQUENCE_END (R219, R220): the running sequence has ended by the end of the present grid tick. `data` and `parity` are what
the slaves returned to its reads. -/
def execRffeSequenceEnd (master : Fin 4) (data : Word) (parity : Bool) (s : State) : Out := s.whenLive <|
  match s.rffeQueue master with
  | [] => .next s
  | j :: js =>
    match j.begun with
    | none => .next s
    | some b =>
      let ends := b + s.rffeTime master j.seq
      if s.now + 1536 < ends then .next s
      else
        let reads := s.rffeReads master 256 (s.rffeStart master j.seq)
        let s := if reads then s.set Fd.TDD_RDATA_DATA data.toNat master else s
        let s := if reads && parity then (s.setB Fd.TDD_RSTAT_PARITY true master).pulse 274 else s
        let s := if j.instant < ends then (s.addSat Fd.TDD_RSTAT_LATE 1 master).pulse 273 else s
        let s := (s.setRffeQueue master js).rffeBegin master ends
        match j.beam with
        | some (mb, c) => .next (s.complete mb c 0)
        | none => .next s

/-- BEAM_SET (opcode 0x3E; R221): 2 µs is 1,966.08 stream samples. -/
def execBeamSet (mb : Fin 20) (s : State) : Out := s.whenLive <|
  .next (s.runCommand mb 0x3E fun s c =>
    let m := wbits (c.word 1) 1 0
    let q := wbits (c.word 1) 7 4
    let at_ := s.stampTick (c.word 2).toNat (c.word 3).toNat * 1536
    s.checked mb c 3 true fun s =>
      if wbits (s.rffeWord m q) 31 28 ≠ 5 ∨ 639999 < (c.word 3).toNat then s.complete mb c 4
      else if at_ - ((c.acceptedAt * 1536 : Nat) : Int) < ((s.rffeTime m q + 1967 : Nat) : Int) then s.complete mb c 0xD
      else
        s.asOrder mb c false [(targetKey 0x3E (16 * m + q), at_.toNat)] [] fun s =>
          let s := s.acceptEarly mb c
          { s with tdd := { s.tdd with beams := s.tdd.beams ++ [⟨mb, c.accepted, m, q, at_.toNat⟩] } })

/-- A sequence word as stored: the reserved bits of a directory word stay 0 (Table 10.9, R15); those of a command word are kept, since a data
word of OP 3 may stand in its place (log entry 121). -/
def rseqWord (i : Nat) (v : Word) : Word := if i < 16 then wd (v.toNat &&& 0xFFFFFF00) else v

/-- An access to RSEQ_DATA (Table 10.17): the word at INDEX, and INDEX advances. -/
def State.rseqAccess (s : State) (m : Nat) (write : Option Word) : State × Word :=
  let i := s.get Fd.TDD_RSEQ_SEL_INDEX m
  let s' := s.set Fd.TDD_RSEQ_SEL_INDEX ((i + 1) % 256) m
  match write with
  | none => (s', s.rffeWord m i)
  | some v => ({ s' with tdd := { s'.tdd with words := mapSet 0 s'.tdd.words (256 * m + i) (rseqWord i v) } }.touchSweep setTdd, 0)

/-! ### Boundaries -/

/-- The TX lanes' transitions at a grid tick boundary, from which the lanes that enter and leave ACTIVE are noted anew; a TDD lane in TDD_WAIT
goes on where a period of its pattern starts. -/
def State.laneBoundary (s : State) : State :=
  let s := { s with tdd := { s.tdd with entered := 0, left := 0 } }
  s.laneTransitions fun n => (s.tddWindowsOf n).any fun w => s.periodStarts (s.pair w).pattern s.now

/-! ### WIN_ENABLE -/

/-- The first failing check of a WIN_ENABLE over the windows it enables, in ascending order (R77): status and payload. -/
def State.enableFault (s : State) : List Nat → List Nat → Option (Nat × List Word)
  | [], _ => none
  | w :: ws, others =>
    let e := s.bindErr w others
    let lim := s.legN 0x1140 w
    let max := maxThrough (s.get Fd.CHN_WCTL_PROFILE w) (s.get Fd.CHN_WCTL_PROTO w) (s.get Fd.CHN_WCTL_TRIM w)
    if e ≠ 0 then some (4, [wd w, wd e])
    else if s.loBad w then some (4, [wd w, 0xF])
    else if lim ≠ 0 ∧ lim < max then some (0xD, [wd w])
    else if s.branchesShare w 16 0 || s.guardShort w then some (4, [wd w, 0xF])
    else s.enableFault ws (w :: others)

/-- WIN_ENABLE (opcode 0x31; R77). "Both enables and disables" is judged on all addressed windows, not only on those whose EN changes
(DESIGN CHOICE, log entry 123). -/
def execWinEnable (mb : Fin 20) (s : State) : Out := s.whenLive <|
  .next (s.runCommand mb 0x31 fun s c =>
    let addressed := maskList (wbits (c.word 1) 15 0) 16
    let want := wbits (c.word 2) 15 0
    let ups := addressed.filter fun w => bit want w
    let downs := addressed.filter fun w => !bit want w
    let changed := addressed.filter fun w => s.getB Fd.CHN_WCTL_EN w != bit want w
    s.checked mb c 3 (changed.any fun w => bit want w) fun s =>
      if !ups.isEmpty && !downs.isEmpty then s.complete mb c 4
      else
        match s.enableFault (ups.filter changed.contains) s.enabledWindows with
        | some (st, p) => s.complete mb c st p
        | none =>
          s.asOrder mb c ups.isEmpty (changed.map fun w => (targetKey 0x31 w, b2n (bit want w)))
            (changed.map fun w => (Reg.CHN_WCTL.off w 0, 1)) fun s =>
            { s with win := { s.win with enables := s.win.enables ++ [⟨mb, c, !ups.isEmpty, listMask changed, false⟩] } })

end Sys2Proof.Machine
end

