-- ==== Sys2Proof/Machine/Recce.lean ====
section
/-!
DEFINITION. The Recce receiver (11_recce_receiver_and_coexistence.md): jobs, surveys and their scheduling (R224 to R230), results and
their consumers (R188, R189, R211, R225), and the coexistence links (R231 to R235). Times are stream samples where a microsecond
matters: 983.04 of them.
-/

namespace Sys2Proof.Machine

/-- Microseconds as stream samples, rounded up. -/
def usToSamples (us : Nat) : Nat := (us * 98304 + 99) / 100

def State.jobX (s : State) (j : Nat) : JobX := mapGet JobX.reset s.rce.jobs j

def State.setJobX (s : State) (j : Nat) (x : JobX) : State := { s with rce := { s.rce with jobs := mapSet JobX.reset s.rce.jobs j x } }

/-! ### Lengths and load (Table 11.2, R229) -/

/-- A host job of this kind is pinned (Table 11.2). -/
def pinned (kind : Nat) : Bool := kind == 1 || kind == 2

/-- A host job exists: a kind of Table 11.2 and a period. -/
def State.jobOn (s : State) (j : Nat) : Bool :=
  decide (1 ≤ s.get Fd.RCE_JCFG0_KIND j) && decide (s.get Fd.RCE_JCFG0_KIND j ≤ 4) && s.get Fd.RCE_JCFG0_PERIOD j != 0

/-- Preamble of a job, µs (R227): 128 with AERIAL = AUTO, 64 with a fixed aerial, none on RCMON. -/
def preambleUs (aerial : Nat) : Nat := if aerial = 0 then 128 else if aerial = 3 then 0 else 64

/-- SSB period, µs (Table 11.11). -/
def ssbPeriodUs (ssbp : Nat) : Nat := [5000, 10000, 20000, 40000, 80000, 160000].getD ssbp 20000

/-- Measurement interval of a job, µs (Table 11.2). -/
def State.intervalUs (s : State) (j : Nat) (tracking : Bool) : Nat :=
  let k := s.get Fd.RCE_JCFG0_KIND j
  if k = 1 then (if tracking then 1000 else ssbPeriodUs (s.get Fd.RCE_JCFG0_SSBP j) + 1000)
  else if k = 2 then (if tracking then 2000 else 50770)
  else 1000

/-- A sum of fractions, as numerator and denominator. -/
def addFrac (a b : Nat × Nat) : Nat × Nat := (a.1 * b.2 + b.1 * a.2, a.2 * b.2)

/-- The load U of R229, a fraction. `cfg` gives JCFG0 of a job. -/
def State.rceLoad (s : State) (cfg : Nat → Nat) (ems : Nat) (surveyRev spurRev : Nat) : Nat × Nat :=
  let jobs := (List.range 32).filterMap fun j =>
    let v := cfg j
    let kind := bitsAt v 31 28
    let per := bitsAt v 15 0
    if kind = 0 ∨ 4 < kind ∨ per = 0 then none
    else some (60 + preambleUs (bitsAt v 25 24) + (if kind = 2 then 2000 else 1000), 125 * per)
  let tx := ((List.range 16).filter fun n => s.getB Fd.LANE_CTL_TX_EN n).length
  jobs.foldl addFrac (addFrac (320 * ems, 125 * max surveyRev 1) (4800 * tx, 125 * max spurRev 1))

/-- Windows with EMS_EN = 1. -/
def State.emsCount (s : State) : Nat := ((List.range 16).filter fun w => s.getB Fd.FLT_WCFG_EMS_EN w).length

/-- STAT.LOAD: U in per mille, as the registers in force give it. -/
def State.loadMille (s : State) : Nat :=
  let u := s.rceLoad (fun j => (s.reg (Reg.RCE_JCFG0.off j 0)).toNat) s.emsCount (s.get Fd.FLT_THR_EMS_REV) (s.get Fd.FLT_THR_SPUR_REV)
  min (1000 * u.1 / max u.2 1) 65535

/-! ### Waiting work (R189, R228) -/

/-- Lower edges, kHz, of the spurious steps: LO ± 300 MHz of every enabled TX lane in 20 MHz steps, those that overlap a licensed span
of the region in force skipped (R189). -/
def State.spurSteps (s : State) : List Nat :=
  let los := ((List.range 16).filter fun n => s.getB Fd.LANE_CTL_TX_EN n).filterMap fun n => s.laneLo n false
  let all := (los.eraseDups.flatMap fun lo => (List.range 30).map fun k => lo - 300000 + 20000 * k).eraseDups
  let r := s.get Fd.POS_ROUTE_REGION
  all.filter fun st => !((List.range 16).any fun w =>
    s.atlas.licensed r w && decide (s.atlas.licLo r w < st + 20000) && decide (st < s.atlas.licHi r w))

/-- Surveys and spurious steps that are due: half the revisit time after their last measurement (DESIGN CHOICE, log entry
75). -/
def State.surveysDue (s : State) : List RceWork :=
  let spans := ((List.range 32).filter fun p => s.getB Fd.FLT_WCFG_EMS_EN (p / 2)).filterMap fun p =>
    let due := match (s.rce.spans.find? fun q => q.1 == p).map (·.2) with
      | some t => t + s.get Fd.FLT_THR_EMS_REV / 2
      | none => 0
    if due ≤ s.sheet then some (⟨1, 1, p, due⟩ : RceWork) else none
  let steps := s.spurSteps.filterMap fun p =>
    let due := match (s.rce.steps.find? fun q => q.1 == p).map (·.2) with
      | some t => t + s.get Fd.FLT_THR_SPUR_REV / 2
      | none => 0
    if due ≤ s.sheet then some (⟨3, 2, p, due⟩ : RceWork) else none
  spans ++ steps

/-- Period between bursts of a pinned job, stream samples: the SSB period, or a 51-frame multiframe of 3,060 ÷ 13 ms (PRESUMED, log
entry 76). -/
def State.burstPeriod (s : State) (j : Nat) : Nat :=
  if s.get Fd.RCE_JCFG0_KIND j = 1 then ssbPeriodUs (s.get Fd.RCE_JCFG0_SSBP j) * 98304 / 100 else 983040 * 3060 / 13

/-- The job would use the shared aerial (R230). -/
def State.wantsShared (s : State) (j : Nat) : Bool :=
  let share := s.get Fd.RCE_CTL_OSHARE
  let cfg := s.get Fd.RCE_JCFG0_AERIAL j
  share != 0 && cfg != 3 && (cfg == 0 || cfg == share)

/-- From the start of a job to its measurement interval, stream samples, where the receiver settles in `settle` µs: CX_OREQ leads the
preamble by rce.oreq_adv µs (R230). -/
def State.jobLead (s : State) (j settle : Nat) : Nat :=
  usToSamples (max settle (if s.wantsShared j then s.legN 0x6003 else 0) + preambleUs (s.get Fd.RCE_JCFG0_AERIAL j))

/-- Stream sample at which the first tracking interval of a job begins that the receiver reaches with `lead` samples from sample `t` (R224):
250 µs before the predicted burst. -/
def State.nextInterval (s : State) (j t lead : Nat) : Option Nat :=
  let x := s.jobX j
  if pinned (s.get Fd.RCE_JCFG0_KIND j) && x.tracking then
    match x.burst with
    | some b =>
      let per := max (s.burstPeriod j) 1
      let earliest := t + lead + usToSamples 250
      let k := if earliest ≤ b then 0 else (earliest - b + per - 1) / per
      some (b + k * per - usToSamples 250)
    | none => none
  else none

/-- Centre frequency of work, kHz: JCFG1.FREQ, the middle of an adjacent span (R186), or of a spurious step (R189). -/
def State.workFreq (s : State) (w : RceWork) : Nat :=
  if w.kind = 0 then s.get Fd.RCE_JCFG1_FREQ w.idx
  else if w.kind = 1 then
    let r := s.get Fd.POS_ROUTE_REGION
    let half := s.legN 0x5014 (w.idx / 2) / 2
    if w.idx % 2 = 0 then s.atlas.licLo r (w.idx / 2) - half else s.atlas.licHi r (w.idx / 2) + half
  else w.idx + 10000

/-- Wake from OFF, µs (Table 11.1; DESIGN CHOICE, log entry 129: its maximum). -/
def State.wakeUs (s : State) : Nat := if s.get Fd.RCE_STAT_STATE = 0 then 40 else 0

/-- TUNING of work, µs (Tables 11.1, 11.4; DESIGN CHOICE, log entry 129: its maximum): 0 where SYNRC is already locked at its frequency. -/
def State.tuneUs (s : State) (w : RceWork) : Nat := if s.rce.freq = some (s.workFreq w) then 0 else 60

/-- Lead of a host job from a receiver that has to wake, where it rested in OFF, and to tune. -/
def State.coldLead (s : State) (j rest : Nat) : Nat := s.jobLead j (60 + if rest = 0 then 40 else 0)

/-- Start of the measurement interval, and end, of work started at sample `t`. -/
def State.workSpan (s : State) (w : RceWork) (t : Nat) : Nat × Nat :=
  let settle := s.wakeUs + s.tuneUs w
  if w.kind = 0 then
    let lead := s.jobLead w.idx settle
    let o := (s.nextInterval w.idx t lead).getD (t + lead)
    (o, o + usToSamples (s.intervalUs w.idx (s.jobX w.idx).tracking))
  else (t + usToSamples settle, t + usToSamples (settle + 100))

/-- Sheets from this one to the next, later, sheet at which a job falls due (R228); SHEET wraps (R29). -/
def State.sheetsToDue (s : State) (j : Nat) : Nat :=
  let per := max (s.get Fd.RCE_JCFG0_PERIOD j) 1
  let at_ := s.sheet % 2 ^ 32
  let n := (j % per + per - at_ % per - 1) % per + 1
  if at_ + n < 2 ^ 32 then n else 2 ^ 32 - at_ + j % per

/-- The tracking interval of a pinned job that comes next: when its tuning must begin, its start and its end. -/
structure NextPinned where
  job : Nat
  tune : Nat
  openAt : Nat
  endAt : Nat

/-- The next tracking interval of every other pinned job that waits, or from its next due, where the receiver then comes from the state
`rest`. -/
def State.pinnedNext (s : State) (t rest : Nat) (w : RceWork) : List NextPinned :=
  (List.range 32).filterMap fun j =>
    if s.jobOn j && !(w.kind == 0 && w.idx == j) then
      let lead := s.coldLead j rest
      let from_ := if s.rce.waiting.any fun q => q.kind == 0 && q.idx == j then t else (s.sheet + s.sheetsToDue j) * 122880
      (s.nextInterval j (max t from_) lead).map fun o => ⟨j, o - lead, o, o + usToSamples (s.intervalUs j true)⟩
    else none

/-- State in which work leaves the receiver (R226). -/
def State.workRet (s : State) (w : RceWork) : Nat := if w.kind = 0 then s.get Fd.RCE_JCFG0_RET w.idx else s.rce.ret

/-- Work is the next tracking interval of a pinned job. -/
def State.tracks (s : State) (w : RceWork) (t : Nat) : Bool := w.kind == 0 && (s.nextInterval w.idx t 0).isSome

/-- Work may start now (R228): a pinned tracking job once its tuning must begin; no work that would still occupy the front end when the
tuning of a later pinned interval must begin. Where pinned intervals overlap the index decides instead (`displaced`). -/
def State.mayStart (s : State) (t : Nat) (w : RceWork) : Bool :=
  let (o, e) := s.workSpan w t
  let others := s.pinnedNext t (s.workRet w) w
  if s.tracks w t then
    decide (o ≤ t + 1536 + s.jobLead w.idx (s.wakeUs + s.tuneUs w)) && others.all fun q => decide (q.openAt < e) || decide (e ≤ q.tune)
  else others.all fun q => decide (e ≤ q.tune)

/-- A pinned interval [o, e) of job `j` is displaced by one of lower index (R228; DEDUCED, log entry 129). -/
def displaced (others : List NextPinned) (j o e : Nat) : Bool :=
  others.any fun q => decide (q.job < j) && decide (q.openAt < e) && decide (o < q.endAt)

/-- The lowest class, then the earliest due, then the lowest index (R228). -/
def firstWork (l : List RceWork) : Option RceWork :=
  let key := fun (w : RceWork) => (w.cls * 2 ^ 40 + w.due) * 2 ^ 40 + w.idx
  l.foldl (fun a w => match a with
    | none => some w
    | some b => if key w < key b then some w else a) none

/-! ### The end of work -/

/-- Enter the return state (R226, Table 11.4): LISTEN stays on the last aerial, OFF switches SYNRC off; the job goes from STAT. -/
def State.rceReturn (s : State) (ret : Nat) : State :=
  let s := { s with rce := { s.rce with cur := none, freq := (if ret = 0 then none else s.rce.freq) } }
  let s := if ret = 2 then s else s.set Fd.RCE_STAT_AERIAL 0
  ((s.set Fd.RCE_STAT_STATE (min ret 2)).set Fd.RCE_STAT_JOB 0).setB Fd.RCE_STAT_SURVEY false

/-- Put a result into processing; its source is raised (Tables 11.3, 11.9). -/
def State.rceDone (s : State) (d : RceDone) : State :=
  let s := { s with rce := { s.rce with done := s.rce.done ++ [d] } }
  if d.status = 3 ∨ d.status = 4 ∨ d.status = 5 then s.pulse 275
  else if d.status = 6 then s.pulse 276
  else if d.status = 7 then s.pulse 277
  else s

/-- A host job that ended without starting. -/
def State.skipJob (s : State) (j status : Nat) : State :=
  s.rceDone ⟨⟨0, 0, j, s.sheet⟩, s.get Fd.RCE_JCFG0_KIND j, status, -32768, 0, 0, 0, 0, 0, s.time.gt⟩

/-- The work in progress ends with a status; a measured value comes with OK. -/
def State.endWork (s : State) (r : RceRun) (status : Nat) (level : Int) (ssb ident phase burst : Nat) : State :=
  let s := s.rceReturn r.ret
  s.rceDone ⟨r.work, r.jkind, status, level, ssb, ident, phase, burst, r.aerial, s.time.gt⟩

/-- A link with RCE_SKIP = 1 holds a request now (R235). -/
def State.cxMeets (s : State) : Bool :=
  (List.range 2).any fun i => s.getB Fd.RCE_CXCFG_RCE_SKIP i && (s.cxLink i).since.isSome

/-! ### Rows of the receiver -/

/-- The receiver is enabled and its domain has power: it is off in compass mode (R226, Table 1.12). -/
def State.recceOn (s : State) : Bool := s.getB Fd.RCE_CTL_EN && s.get Fd.PWR_SVC_STATE != 6

/-- RECCE_JOB_DUE (R228): at a sheet boundary with SHEET mod PERIOD = j mod PERIOD. A job that still waits from its last due ends
SKIPPED_LATE (Table 11.3). -/
def execRecceJobDue (j : Fin 32) (s : State) : Out := s.whenLive <|
  .next (
    let per := s.get Fd.RCE_JCFG0_PERIOD j
    let k := s.get Fd.RCE_JCFG0_KIND j
    if s.recceOn ∧ s.jobOn j ∧ s.time.gt % 80 = 0 ∧ s.sheet % 2 ^ 32 % per = j.val % per ∧ (s.jobX j).lastDue ≠ some s.sheet then
      let late := s.rce.waiting.any fun w => w.kind == 0 && w.idx == j.val
      let rest := s.rce.waiting.filter fun w => !(w.kind == 0 && w.idx == j.val)
      let s := { s with rce := { s.rce with waiting := rest ++ [(⟨if pinned k then 0 else 2, 0, j, s.sheet⟩ : RceWork)] } }
      let s := s.setJobX j { s.jobX j with lastDue := some s.sheet }
      if late then s.skipJob j 3 else s
    else s)

/-- The aerial of a job (R227): the stronger of the two, the last one within 1 dB. -/
def chooseAerial (cfg last : Nat) (pa pb : Int) : Nat :=
  if cfg ≠ 0 then cfg
  else if 16 ≤ pa - pb then 1
  else if 16 ≤ pb - pa then 2
  else if last = 2 then 2 else 1

/-- Begin work `w` at sample `t` (R226 to R230): its times, its aerial, and the pinned jobs it displaces. A waiting pinned job of higher
index whose interval overlaps is SKIPPED_LATE. -/
def State.beginWork (s : State) (w : RceWork) (t : Nat) (pa pb : Int) (ognt : Bool) (others : List NextPinned) : State :=
  let (o, e) := s.workSpan w t
  let host := w.kind == 0
  let share := s.get Fd.RCE_CTL_OSHARE
  let cfg := if host then s.get Fd.RCE_JCFG0_AERIAL w.idx else 3
  let want := chooseAerial cfg (s.jobX w.idx).aerial pa pb
  let uses := host && s.wantsShared w.idx
  -- an AUTO job without the grant uses the other aerial alone; a fixed one waits
  let aerial := if uses && !ognt && cfg == 0 then 3 - share else want
  let wait := uses && !ognt && cfg == share
  let jkind := if host then s.get Fd.RCE_JCFG0_KIND w.idx else 0
  let ret := s.workRet w
  let pre := o - usToSamples (preambleUs cfg)
  let run : RceRun := {
    work := w, tuneAt := t + usToSamples s.wakeUs, preAt := pre, openAt := o, endAt := e,
    reqAt := pre - usToSamples (s.legN 0x6003), aerial := aerial, uses := uses, shared := uses && aerial == share, waitGrant := wait,
    jkind := jkind, ret := ret, freq := s.workFreq w, cx := false }
  let lost := if s.tracks w t then
      (others.filter fun q => decide (w.idx < q.job) && decide (q.openAt < e) && decide (o < q.endAt) &&
        s.rce.waiting.any fun x => x.kind == 0 && x.idx == q.job).map (·.job)
    else []
  let rest := s.rce.waiting.filter fun q => q != w && !(q.kind == 0 && lost.contains q.idx)
  let s := if run.tuneAt ≤ t then s.set Fd.RCE_STAT_STATE 3 else s
  let s := { s with rce := { s.rce with waiting := rest, cur := some run, ret := ret, freq := some run.freq } }
  let s := if host then s.setJobX w.idx { s.jobX w.idx with aerial := aerial } else s
  let s := forEach lost s fun s q => s.skipJob q 3
  ((s.set Fd.RCE_STAT_JOB (if host then w.idx else 0)).setB Fd.RCE_STAT_SURVEY (!host)).set Fd.RCE_STAT_AERIAL aerial

/-- RECCE_JOB_START (R228, R230): the free front end starts the first work that may start; a pinned job displaced by one of lower index
ends SKIPPED_LATE instead. `pa` and `pb` are the preamble's powers of RCIN_A and RCIN_B in 1/16 dBm, `ognt` the level of CX_OGNT when it
starts. -/
def execRecceJobStart (pa pb : Int) (ognt : Bool) (s : State) : Out := s.whenLive <|
  .next (
    let t := s.now
    match s.rce.cur, firstWork ((s.rce.waiting ++ s.surveysDue).filter (s.mayStart t)) with
    | none, some w =>
      if s.recceOn = false then s
      else
        let others := s.pinnedNext t (s.workRet w) w
        let (o, e) := s.workSpan w t
        if s.tracks w t && displaced others w.idx o e then
          { s with rce := { s.rce with waiting := s.rce.waiting.filter fun q => q != w } }.skipJob w.idx 3
        else s.beginWork w t pa pb ognt others
    | _, _ => s)

/-- The grant has come to a fixed job that awaited it (R230): its preamble starts at sample `t`; one that tracks takes the next burst in
reach (DEDUCED, log entry 129). -/
def State.takeGrant (s : State) (r : RceRun) (t : Nat) : RceRun :=
  let j := r.work.idx
  let lead := usToSamples (preambleUs (s.get Fd.RCE_JCFG0_AERIAL j))
  let o := (s.nextInterval j t lead).getD (t + lead)
  { r with preAt := o - lead, openAt := o, endAt := o + usToSamples (s.intervalUs j (s.jobX j).tracking), waitGrant := false }

/-- The receiver at a grid tick boundary (Table 11.4): OFF until its wake ends, then TUNING, the preamble, the measurement interval; a job
that awaits its grant takes it. -/
def State.recceTick (s : State) : State :=
  match s.rce.cur with
  | none => s
  | some r =>
    let r := if r.waitGrant && s.rce.ognt && decide (r.preAt ≤ s.now) then s.takeGrant r s.now else r
    let cx := r.cx || (!r.waitGrant && decide (r.openAt ≤ s.now) && s.cxMeets)
    let s := { s with rce := { s.rce with cur := some { r with cx := cx } } }
    if s.now < r.tuneAt then s
    else s.set Fd.RCE_STAT_STATE (if r.waitGrant then 3 else if r.openAt ≤ s.now then 5 else if r.preAt ≤ s.now then 4 else 3)

/-- RECCE_JOB_END (R226, R235): the measurement interval ends in this grid tick; an overload ends it early (Table 11.3). -/
def execRecceJobEnd (r : RecceResult) (s : State) : Out := s.whenLive <|
  .next (match s.rce.cur with
    | none => s
    | some q =>
      if q.waitGrant ∨ s.now + 1536 ≤ (if r = .overload then q.openAt else q.endAt) then s
      else if q.cx ∨ s.cxMeets then s.endWork q 4 (-32768) 0 0 0 0
      else match r with
        | .found level ssb ident phase burst => s.endWork q 1 level ssb ident phase burst
        | .notFound => s.endWork q 2 (-32768) 0 0 0 0
        | .overload => s.endWork q 7 (-32768) 0 0 0 0)

/-- SYNRC_UNLOCK (Tables 11.7, 11.9): the job in progress ends UNLOCK; SYNRC locks again at the next job's tuning. -/
def execSynrcUnlock (s : State) : Out := s.whenLive <|
  .next (match s.rce.cur with
    | none => if s.rce.freq.isNone then s else { s with rce := { s.rce with freq := none } }.pulse 276
    | some q =>
      let t := s.endWork q 6 (-32768) 0 0 0 0
      { t with rce := { t.rce with freq := none } })

/-- CX_OGNT_DEASSERT (R230): the shared aerial in use is released and the job ends NO_AERIAL. -/
def execCxOgntDeassert (s : State) : Out := s.whenLive <|
  let s := { s with rce := { s.rce with ognt := false } }
  .next (match s.rce.cur with
    | some q => if q.shared ∧ q.waitGrant = false ∧ q.preAt < s.now + 1536 then s.endWork q 5 (-32768) 0 0 0 0 else s
    | none => s)

/-- The pins that the receiver and the links read at a grid tick boundary (R230, R231). -/
def State.takePins (s : State) (pri : Nat) (ognt : Bool) : State :=
  forEach (List.range 2) { s with rce := { s.rce with ognt := ognt } } fun s i => s.setB Fd.RCE_CXSTAT_PRI (bit pri i) i

/-- OGRANT_TIMEOUT (R230): rce.ogrant_to µs after CX_OREQ a job fixed on the shared aerial ends NO_AERIAL. -/
def execOgrantTimeout (s : State) : Out := s.whenLive <|
  .next (match s.rce.cur with
    | some q =>
      if q.waitGrant ∧ q.reqAt + usToSamples (s.legN 0x6002) < s.now + 1536 then
        s.endWork q 5 (-32768) 0 0 0 0
      else s
    | none => s)

/-- Level of CX_OREQ at a stream sample (R230): from rce.oreq_adv µs before the preamble to the end of the interval or the abort. -/
def State.oreq (s : State) (t : Nat) : Bool :=
  match s.rce.cur with
  | some r => r.uses && decide (r.reqAt ≤ t) && (r.waitGrant || decide (t < r.endAt))
  | none => false

/-! ### Results (R225) -/

/-- Tracking of a pinned job after a result (R224). -/
def JobX.after (x : JobX) (status burst : Nat) : JobX :=
  if status = 1 then { x with tracking := true, misses := 0, burst := some burst }
  else if status = 2 then
    if 1 ≤ x.misses then { x with tracking := false, misses := 0, burst := none } else { x with misses := x.misses + 1 }
  else x

/-- The fields of a result that its kind has (Table 11.11): the SSB index and the frame phase of an NR job, 0 for the others; the PCI of an
NR job, the BSIC in [5:0] of the others. -/
def RceDone.fields (d : RceDone) : Nat × Nat × Nat :=
  if d.jkind = 1 then (d.ssb, d.ident, d.phase % 9830400) else (0, d.ident % 64, 0)

/-- A host job's result: registers, tracking, and its consumers (R188, R211). -/
def State.postJob (s : State) (d : RceDone) : State :=
  let j := d.work.idx
  let (ssb, ident, phase) := d.fields
  let s := ((s.setI Fd.RCE_JRES0_LEVEL d.level j).set Fd.RCE_JRES0_SSB ssb j).set Fd.RCE_JRES0_IDENT ident j
  let count := match s.rce.live.find? fun p => p.1 == j with
    | some p => wbits p.2.2 15 0
    | none => 0
  let r2 := wd (d.status * 2 ^ 28 + d.aerial * 2 ^ 26 + (count + 1) % 2 ^ 16)
  let s := { s with rce := { s.rce with live := mapInsert (mapErase s.rce.live j) j (wd phase, r2) } }
  let s := if pinned d.jkind then s.setJobX j ((s.jobX j).after d.status d.burst) else s
  let s := if d.status = 1 ∧ d.jkind ≤ 3 then s.datumResult 0 j (some d.level)
    else if d.status = 2 ∧ d.jkind ≤ 3 then s.datumResult 0 j none else s
  if d.status = 1 ∧ d.jkind = 1 ∧ s.getB Fd.TDD_CTL_EN ∧ s.get Fd.TDD_CTL_SRC = 0 ∧ s.get Fd.TDD_CTL_JOB = j then
    s.tddResult ((phase : Int) + nsToSamples (s.getI Fd.TDD_TOFF_OFFSET))
  else s

/-- A survey's result for the Datum core; the span or step has been measured (R189). -/
def State.postSurvey (s : State) (d : RceDone) : State :=
  let k := d.work.idx
  if d.status ≠ 1 then s
  else if d.work.kind = 1 then
    { s with rce := { s.rce with spans := mapInsert (mapErase s.rce.spans k) k s.sheet } }.datumResult 1 k (some d.level)
  else
    { s with rce := { s.rce with steps := mapInsert (mapErase s.rce.steps k) k s.sheet } }.datumResult 2 k (some d.level)

/-- RESULT_POST (R225): at a grid tick boundary after its processing the oldest result is posted. -/
def execResultPost (s : State) : Out := s.whenLive <|
  .next (match s.rce.done with
    | d :: ds =>
      if d.endAt < s.time.gt then
        let s := { s with rce := { s.rce with done := ds } }
        if d.work.kind = 0 then s.postJob d else s.postSurvey d
      else s
    | [] => s)

/-- A read of JRES0 latches JRES1 and JRES2 of the same result (R225): the state after, and the word. -/
def State.jres0Read (s : State) (j : Nat) : State × Word :=
  let v := s.reg (Reg.RCE_JRES0.off j 0)
  match s.rce.live.find? fun p => p.1 == j with
  | some p => ((s.setReg (Reg.RCE_JRES1.off j 0) p.2.1).setReg (Reg.RCE_JRES2.off j 0) p.2.2, v)
  | none => (s, v)

/-- SURVEY_STALE (R229): a span not surveyed for 2 × prot.survey_rev sheets; the Datum core writes M = 0x8000. -/
def execSurveyStale (span : Fin 32) (s : State) : Out := s.whenLive <|
  let w := span.val / 2
  let last := ((s.rce.spans.find? fun p => p.1 == span.val).map (·.2)).getD 0
  .next (if s.getB Fd.FLT_WCFG_EMS_EN w ∧ last + 2 * s.get Fd.FLT_THR_EMS_REV ≤ s.sheet then
    let s := { s with prot := { s.prot with spans := s.prot.spans.filter fun p => p.1 != span.val } }
    (s.set Fd.FLT_WEMS_M 0x8000 w).pulseOn 278 0 (s.windowDomains w)
  else s)

/-- RCE.CTL written (R226): a clear of EN aborts any job and leads to OFF. -/
def State.rceControl (s : State) (old new : Bool) : State :=
  if old ∧ new = false then { s with rce := { s.rce with waiting := [] } }.rceReturn 0 else s

/-- A write that changes KIND or FREQ of a job returns it to acquiring (R224). -/
def State.jobChanged (s : State) (j : Nat) : State := s.setJobX j { s.jobX j with tracking := false, misses := 0, burst := none }

/-- The Recce part of a sheet boundary: LISTEN over the closed sheet (R226). -/
def State.recceSheet (s : State) (inp : SheetInput) : State :=
  s.setI Fd.RCE_LISTEN_PWR (if s.get Fd.RCE_STAT_STATE = 2 then sat inp.listen 16 else -32768)

/-! ### Coexistence links (R231 to R235) -/

/-- A gate of a window is open. -/
def State.gateOpen (s : State) (w : Nat) : Bool := s.win.gates.any fun p => p.1 / 2048 == w && p.2.isOpen

/-- The windows of a link's deferral need not wait (R233). -/
def State.deferDone (s : State) (i : Nat) (ws : Nat) : Bool :=
  s.getB Fd.RCE_CXSTAT_PRI i || !s.getB Fd.RCE_CXCFG_DEFER i || !((maskList ws 16).any s.gateOpen)

/-- Reset, compass and freeze pass CX_REQ to CX_GNT (R234). -/
def State.cxCopies (s : State) : Bool := s.get Fd.PWR_SVC_STATE == 6 || s.get Fd.PWR_SVC_STATE == 7 || s.start.inReset

/-- Largest T_out of R183 over the running windows of a mask, stream samples rounded up. -/
def State.cxLatency (s : State) (ws : Nat) : Nat :=
  ((maskList ws 16).filter s.running).foldl (fun a w =>
    let p := s.get Fd.CHN_WCTL_PROFILE w
    let ls := if p = 0 then 0 else latency p (s.get Fd.CHN_WCTL_PROTO w) 0 / 2
    max a (s.get Fd.CHN_WSTAT_DELAY w - ls + 325)) 0

/-- Blank windows for a link: their gates close with their holds cleared (R232). -/
def State.blank (s : State) (i ws : Nat) : State :=
  let l := s.cxLink i
  forEach (maskList ws 16) (s.setCxLink i { l with blanks := l.blanks ||| ws }) State.closeGates

/-- The last blank of a request took effect at this boundary: the grant follows T later (R233). -/
def State.scheduleGrant (s : State) (i : Nat) : State :=
  let l := s.cxLink i
  if l.since.isSome && l.atB0 == 0 && l.deferred == 0 then
    s.setCxLink i { l with grantAt := some (s.now + s.cxLatency (s.get Fd.RCE_CXCFG_WMASK i)) }
  else s

/-- The deferred windows are blanked. -/
def State.endDeferral (s : State) (i : Nat) : State :=
  let l := s.cxLink i
  let s := s.setCxLink i { l with deferred := 0 }
  let s := (s.blank i l.deferred).setB Fd.RCE_CXSTAT_DEFERRING false i
  (s.set Fd.RCE_CXSTAT_DEFER_T (min (s.time.gt - l.b0) 128) i).scheduleGrant i

/-- The boundary B0 of a request (R233): its windows are blanked, but those of a deferral; without one the grant is scheduled. -/
def State.cxBegin (s : State) (i : Nat) : State :=
  let l := s.cxLink i
  let both := l.atB0 &&& s.get Fd.RCE_CXFR_FMASK i
  let wait := if s.deferDone i both then 0 else both
  let s := (s.setCxLink i { l with atB0 := 0, deferred := wait }).blank i (maskClear l.atB0 wait)
  (s.setB Fd.RCE_CXSTAT_DEFERRING (wait != 0) i).scheduleGrant i

/-- CX_REQ_ASSERT (R233, R235). -/
def execCxReqAssert (i : Fin 2) (pri : Bool) (s : State) : Out := s.keepTime <|
  .next (
    let l := s.cxLink i
    if l.since.isSome then s
    else
      let s := (((s.setB Fd.RCE_CXSTAT_REQ true i).setB Fd.RCE_CXSTAT_PRI pri i).addSat Fd.RCE_CXSTAT_COUNT 1 i)
      let en := s.getB Fd.RCE_CXCFG_EN i
      let s := s.setCxLink i { l with
        since := some s.time.gt, atB0 := if en then s.get Fd.RCE_CXCFG_WMASK i else 0, deferred := 0
        b0 := if en then s.time.gt + 1 else 0, grantAt := none, long := false }
      let s := if s.cxCopies then s.setB Fd.RCE_CXSTAT_GNT true i else s
      match s.rce.cur with
      | some r =>
        if s.getB Fd.RCE_CXCFG_RCE_SKIP i ∧ r.waitGrant = false ∧ r.openAt < s.now + 1536 then
          { s with rce := { s.rce with cur := some { r with cx := true } } }
        else s
      | none => s)

/-- The links at a grid tick boundary (R233, R234): lifting, the blanks of B0, deferrals that end. -/
def State.cxTick (s : State) : State :=
  forEach (List.range 2) s fun s i =>
    let l := s.cxLink i
    let s := if l.lifting then s.setCxLink i { l with lifting := false, blanks := 0 } else s
    let l := s.cxLink i
    if l.since.isNone || l.b0 == 0 || !s.getB Fd.RCE_CXCFG_EN i || s.cxCopies then s
    else if s.time.gt < l.b0 then s
    else if l.deferred ≠ 0 then
      if l.b0 + 128 ≤ s.time.gt ∨ s.deferDone i l.deferred then s.endDeferral i else s
    else if l.grantAt.isNone then s.cxBegin i
    else s

/-- CX_PRI_ASSERT (R231, R233): the deferred windows are blanked at the next boundary. -/
def execCxPriAssert (i : Fin 2) (s : State) : Out := s.whenLive <|
  .next (if (s.cxLink i).since.isSome then s.setB Fd.RCE_CXSTAT_PRI true i else s)

/-- DEFERRAL_TIMEOUT (R233). -/
def execDeferralTimeout (i : Fin 2) (s : State) : Out := s.whenLive <|
  let l := s.cxLink i
  .next (if l.deferred ≠ 0 ∧ l.b0 + 128 ≤ s.time.gt then s.endDeferral i else s)

/-- CX_GNT_ASSERT (R233): in the grid tick that holds B + T. -/
def execCxGntAssert (i : Fin 2) (s : State) : Out := s.whenLive <|
  .next (match (s.cxLink i).grantAt with
    | some t => if t < s.now + 1536 then s.setB Fd.RCE_CXSTAT_GNT true i else s
    | none => s)

/-- CX_REQ_DEASSERT (R234). -/
def execCxReqDeassert (i : Fin 2) (s : State) : Out := s.keepTime <|
  let l := s.cxLink i
  .next (if l.since.isSome then
    let s := s.setCxLink i { l with since := none, atB0 := 0, deferred := 0, grantAt := none, lifting := true }
    ((s.setB Fd.RCE_CXSTAT_REQ false i).setB Fd.RCE_CXSTAT_GNT false i).setB Fd.RCE_CXSTAT_DEFERRING false i
  else s)

/-- CX_MAX_HOLD (R235): a request held beyond cx.max_hold stays honoured. -/
def execCxMaxHold (i : Fin 2) (s : State) : Out := s.whenLive <|
  let l := s.cxLink i
  .next (match l.since with
    | some t => if l.long = false ∧ t + 80 * s.legN 0x6064 < s.time.gt then (s.setCxLink i { l with long := true }).pulse 279 else s
    | none => s)

/-- CXCFG.EN cleared: the link drives CX_GNT low and blanks nothing (R234). -/
def State.cxDisable (s : State) (i : Nat) : State :=
  let l := s.cxLink i
  (s.setCxLink i { l with blanks := 0, atB0 := 0, deferred := 0, b0 := 0, grantAt := none }).setB Fd.RCE_CXSTAT_GNT (s.cxCopies && l.since.isSome) i |>.setB
    Fd.RCE_CXSTAT_DEFERRING false i

end Sys2Proof.Machine
end

