-- ==== Sys2Proof/Machine/Sense.lean ====
section
/-!
DEFINITION. The sense converters (12_sense_converters.md): the slots of a sequence and its decimation (R239 to R245), banks (R246),
injected conversions (R247) and calibrations (R248).
-/

namespace Sys2Proof.Machine

def State.snsInput (s : State) (n : Nat) : SnsInput := mapGet SnsInput.reset s.sns.inputs n

def State.setSnsInput (s : State) (n : Nat) (x : SnsInput) : State :=
  { s with sns := { s.sns with inputs := mapSet SnsInput.reset s.sns.inputs n x } }

def State.snsConv (s : State) (c : Nat) : SnsConv := mapGet SnsConv.reset s.sns.convs c

def State.setSnsConv (s : State) (c : Nat) (x : SnsConv) : State :=
  { s with sns := { s.sns with convs := mapSet SnsConv.reset s.sns.convs c x } }

/-! ### The bank in force (R239) -/

/-- The input at a position of a list of a bank: 32 is SNS_CHK, which stands at position 0; none where the position is unused. -/
def State.snsEntry (s : State) (b c p : Nat) : Option Nat :=
  if p = 0 then some 32
  else if s.getB Fd.SNS_ENTRY_USED b (16 * c + p) then some (s.get Fd.SNS_ENTRY_INPUT b (16 * c + p)) else none

/-- The listed inputs of a bank with converter and position, in the order of decimation: ascending position, SA0 before SA1. -/
def State.snsListed (s : State) (b : Nat) : List (Nat × Nat × Nat) :=
  (List.range (s.get Fd.SNS_SEQ_LEN b)).flatMap fun p => [0, 1].filterMap fun c =>
    if p = 0 then none else (s.snsEntry b c p).map fun n => (n, c, p)

/-- The position converted in a slot: none for the spare slot and for a discarded conversion; `ins` is the position whose over-range
was met by an insertion in this round (R241). -/
def slotPosition (len slot : Nat) (ins : Option Nat) : Option Nat :=
  match ins with
  | none => if slot < len then some slot else none
  | some p => if slot ≤ p then some slot else if slot = p + 1 then none else some (slot - 1)

/-! ### Injected conversions (R247) -/

/-- A conversion's clamped code (R238). -/
def senseCode (a : SenseConv) : Nat := if a.low then 0 else if a.high then 0xFFFF else a.code.val

/-- Queue a request on a converter: at most four; a further one is dropped, counted and raised. -/
def State.snsQueue (s : State) (c input : Nat) (flt : Bool) : State :=
  let x := s.snsConv c
  if x.queue.length < 4 then s.setSnsConv c { x with queue := x.queue ++ [(input, flt, s.time.gt)] }
  else (s.addSat Fd.SNS_STAT_INJ_DROP 1).pulse 284

/-- Queue the conversions that the collector has requested (R294). -/
def State.snsSnapshots (s : State) : State :=
  let l := s.flt.snapReq
  forEach l { s with flt := { s.flt with snapReq := [] } } fun s r => s.snsQueue r.1 (min r.2 32) true

/-- A request of grid tick `t` arrived while the calibration step that ended in grid tick `e` ran: 16 µs, 10.24 grid ticks (R248; DEDUCED, log
entry 130). -/
def duringStep (t e : Nat) : Bool := decide (t ≤ e) && decide (e < t + 11)

/-- A conversion sampled at sample `k` of this grid tick ends, after 1 µs of acquisition, later than 6.5 µs before the next trigger (R247). -/
def State.tooLate (s : State) (k : Nat) : Bool := s.getB Fd.SNS_CTL_EN && decide (115507 < s.time.gt % 80 * 1536 + k)

/-- INJECTED_CONVERSION: the oldest request of a converter, between sequences while it ends in time or in the spare slot of a round without
insertion; `k` is its sample of the grid tick. -/
def execInjectedConversion (c : Fin 2) (a : SenseConv) (k : Fin 1536) (s : State) : Out := s.whenLive <|
  let s := s.snsSnapshots
  let x := s.snsConv c
  let free := (!s.sns.active && !s.tooLate k) ||
    (s.sns.active && decide (s.sns.slot = s.get Fd.SNS_SEQ_LEN (s.get Fd.SNS_STAT_ACT_BANK)) && s.sns.ins.isNone && !x.spareUsed)
  match x.queue with
  | [] => .next s
  | (input, flt, at_) :: rest =>
    if !free then .next s
    else
      let delayed := x.stepped && duringStep at_ x.stepAt
      let s := s.setSnsConv c { x with queue := rest, spareUsed := s.sns.active }
      let code := senseCode a
      let s := (s.setB Fd.SNS_INJ_RES_DONE true c).setB Fd.SNS_INJ_RES_OVR (a.low || a.high) c
      let s := (s.setB Fd.SNS_INJ_RES_CAL_DELAYED delayed c).setB Fd.SNS_INJ_RES_FLT flt c
      let s := (s.set Fd.SNS_INJ_RES_INPUT input c).set Fd.SNS_INJ_RES_CODE code c
      .next (s.set Fd.SNS_INJ_TIME_GT s.gtInSec c)

/-! ### Slots (R239, R241) -/

/-- An over-range conversion of an input: its flags and event (R241). -/
def State.snsOverRange (s : State) (n : Nat) : State :=
  let s := if n < 32 then
      (s.setSnsInput n { s.snsInput n with ovr := true }).set Fd.SNS_OVR_INPUT (s.get Fd.SNS_OVR_INPUT ||| 2 ^ n)
    else s
  s.pulse 280

/-- The sample accepted for input `n` of converter `c`: the conversion's, or, where it is discarded, the input's previous one. -/
def State.snsAccept (s : State) (c n code : Nat) : State :=
  let x := s.snsConv c
  let key := if n = 32 then 32 + c else n
  let i := s.snsInput key
  let (s, v) :=
    if x.drop then
      match i.now ++ i.hist with
      | v :: _ => (s, v)
      | [] => ({ s with draws := s.draws + 1 }, (Config.senseSample s.draws).toNat)
    else (s, code)
  let s := s.setSnsConv c { x with drop := false, chkSum := if n = 32 then x.chkSum + v else x.chkSum }
  let i := s.snsInput key
  s.setSnsInput key { i with now := v :: i.now, first := some (i.first.getD v) }

/-- One converter's conversion of a position; true where it is over-range. -/
def State.snsConvert (s : State) (b c p : Nat) (a : SenseConv) : State × Bool :=
  match s.snsEntry b c p with
  | none => (s, false)
  | some n =>
    let s := s.snsAccept c n (senseCode a)
    if a.low || a.high then (s.snsOverRange n, true) else (s, false)

/-- SENSE_SLOT, R239, R241: both converters convert the position of the slot; an over-range inserts one discarded conversion per round,
and a further one discards the sample that follows it on its converter. -/
def execSenseSlot (a0 a1 : SenseConv) (s : State) : Out := s.whenLive <|
  let b := s.get Fd.SNS_STAT_ACT_BANK
  let len := s.get Fd.SNS_SEQ_LEN b
  if !s.sns.active || decide (s.get Fd.SNS_SEQ_ROUNDS b ≤ s.sns.round) then .next s
  else
    let s := match slotPosition len s.sns.slot s.sns.ins with
      | none => s
      | some p =>
        let had := s.sns.ins.isSome
        let (s, o0) := s.snsConvert b 0 p a0
        let (s, o1) := s.snsConvert b 1 p a1
        if had then
          let s := if o0 then s.setSnsConv 0 { s.snsConv 0 with drop := true } else s
          if o1 then s.setSnsConv 1 { s.snsConv 1 with drop := true } else s
        else if o0 || o1 then { s with sns := { s.sns with ins := some p } } else s
    let s := (s.setSnsConv 0 { s.snsConv 0 with spareUsed := false }).setSnsConv 1 { s.snsConv 1 with spareUsed := false }
    .next (if s.sns.slot < len then { s with sns := { s.sns with slot := s.sns.slot + 1 } }
      else { s with sns := { s.sns with slot := 0, round := s.sns.round + 1, ins := none } })

/-! ### Decimation (R243, R244) -/

/-- One list convolved with a box of r ones: running sums. -/
def boxSum (r : Nat) (l : List Nat) : List Nat :=
  (List.range (l.length + r - 1)).map fun i => ((List.range r).map fun j => if j ≤ i then l.getD (i - j) 0 else 0).sum

/-- h of R243: a box of r ones convolved with itself k times, of length k (r − 1) + 1. -/
def sincTaps (r : Nat) : Nat → List Nat
  | 0 => [1]
  | k + 1 => boxSum r (sincTaps r k)

/-- Number of sequences after which a setting has settled (Table 12.4). -/
def senseSettle (k notch : Nat) : Nat := k + (if bit notch 1 then 159 else 0) + (if bit notch 0 then 478 else 0)

/-- One input's y0, y1 and code from its samples (R243); NOTCH bit 0 is 16.7 Hz, bit 1 is 50 Hz. -/
def senseDecimate (r k : Nat) (scs : Bool) (notch : Nat) (i : SnsInput) : Int × Int × Nat :=
  let fst := i.first.getD 0
  let y0 : Int :=
    if scs || k == 1 then divRnd (256 * (i.now.sum : Nat)) r
    else
      let x := i.now ++ i.hist
      let acc := ((sincTaps r k).zipIdx.map fun p => p.1 * x.getD p.2 fst).sum
      divRnd (256 * (acc : Nat)) (r ^ k : Nat)
  let missing : Int := 256 * (fst : Nat)
  let mean := fun (n : Nat) (l : List Int) => divRnd ((l.take n).sum + (n - l.length : Nat) * missing) n
  let y1 := if bit notch 1 then mean 160 (y0 :: i.y0) else y0
  let y2 := if bit notch 0 then mean 479 (y1 :: i.y1) else y1
  (y0, y1, (usat (rnd y2 8) 16).toNat)

/-- The result of one listed input at the end of a sequence: its RES word, staged, and its histories moved on. -/
def State.snsResult (s : State) (b n : Nat) (chkErr : Bool) : State :=
  let r := s.get Fd.SNS_SEQ_ROUNDS b
  let scs := s.getB Fd.SNS_SEQ_SCS b
  let k := s.get Fd.SNS_FILT_ORDER b n
  let notch := s.get Fd.SNS_FILT_NOTCH b n
  let i := s.snsInput n
  let (y0, y1, code) := senseDecimate r k scs notch i
  let seqs := i.seqs + 1
  let settling := decide (seqs < senseSettle k notch)
  let valid := !settling && !chkErr
  let word := wd (b2n valid * 2 ^ 31 + b2n i.ovr * 2 ^ 30 + b2n chkErr * 2 ^ 29 + b2n settling * 2 ^ 28 + code)
  let keep := if scs then 0 else k * (r - 1) + 1
  let i := { i with
    now := []
    hist := (i.now ++ i.hist).take (max keep 1)
    y0 := if bit notch 1 then (y0 :: i.y0).take 159 else []
    y1 := if bit notch 0 then (y1 :: i.y1).take 478 else []
    seqs := min seqs 1000
    ovr := false }
  let s := s.setSnsInput n i
  { s with sns := { s.sns with staged := s.sns.staged ++ [(n, word)] } }

/-- SENSE_SEQUENCE_END, R240, R242, R243: the check means, the results staged, LAST_END. -/
def execSenseSequenceEnd (s : State) : Out := s.whenLive <|
  let b := s.get Fd.SNS_STAT_ACT_BANK
  let r := s.get Fd.SNS_SEQ_ROUNDS b
  if !s.sns.active || decide (s.sns.round < r) then .next s
  else
    let m0 := (divRnd ((s.snsConv 0).chkSum : Nat) r).toNat
    let m1 := (divRnd ((s.snsConv 1).chkSum : Nat) r).toNat
    let s := (s.set Fd.SNS_CHK_SA0 m0).set Fd.SNS_CHK_SA1 m1
    let bad := decide (s.get Fd.SNS_CAL_CFG_CHK_TOL < max m0 m1 - min m0 m1)
    let s := if bad then s.pulse 281 else s
    let s := forEach (s.snsListed b) s fun s e => s.snsResult b e.1 bad
    let s := forEach [32, 33] s fun s n => let i := s.snsInput n
      s.setSnsInput n { i with now := [], hist := (i.now ++ i.hist).take 1 }
    let halves := (s.get Fd.SNS_SEQ_LEN b + 1) * r * (if s.getB Fd.SNS_SEQ_SCS b then 2 else 1)
    let s := s.set Fd.SNS_STAT_LAST_END (6 + halves / 2)
    .next { s with sns := { s.sns with active := false, ended := true } }

/-! ### The sheet boundary (R240, R245, R246) -/

/-- Step 1 of Table 1.10: RES takes the results of the sequence of the sheet just ended; an input without one reads VALID = 0. -/
def State.senseResults (s : State) : State :=
  let b := s.get Fd.SNS_STAT_ACT_BANK
  let listed := s.snsListed b
  let s := forEach (List.range 32) s fun s n =>
    let w := match s.sns.staged.find? fun p => p.1 == n with
      | some p => p.2
      | none => 0
    let failed := listed.any fun e => e.1 == n && (s.snsConv e.2.1).failed
    let s := s.setReg (Reg.SNS_RES.off n 0) w
    if failed then s.setB Fd.SNS_RES_VALID false n else s
  let s := { s with sns := { s.sns with staged := [], ended := false } }
  (s.setSnsConv 0 { s.snsConv 0 with failed := false }).setSnsConv 1 { s.snsConv 1 with failed := false }

/-- The swept words of a bank (R280): SEQ, both lists with position 0 apart, FILT, ascending. -/
def State.snsBankWords (s : State) (b : Nat) : List Word :=
  let w := fun (off mask : Nat) => wd ((s.reg off).toNat &&& mask)
  [w (Reg.SNS_SEQ.off b 0) 0xFF1F01] ++
    (([0, 1].flatMap fun c => (List.range 15).map fun p => 16 * c + p + 1).map fun e => w (Reg.SNS_ENTRY.off b e) 0x7F) ++
    (List.range 32).map fun n => w (Reg.SNS_FILT.off b n) 0x37

/-- An input is listed twice. -/
def listedTwice : List Nat → Bool
  | [] => false
  | n :: l => l.contains n || listedTwice l

/-- The code of Table 12.5 for a bank as a swap target. -/
def State.snsCheckBank (s : State) (b : Nat) : Nat :=
  let len := s.get Fd.SNS_SEQ_LEN b
  let r := s.get Fd.SNS_SEQ_ROUNDS b
  let scs := s.getB Fd.SNS_SEQ_SCS b
  let inputs := (s.snsListed b).map fun e => e.1
  if len < 2 ∨ 16 < len ∨ r < 1 ∨ 96 < r ∨ 192 < (len + 1) * r * (if scs then 2 else 1) then 1
  else if listedTwice inputs then 2
  else if scs && inputs.any (fun n => s.get Fd.SNS_FILT_ORDER b n != 1 || s.get Fd.SNS_FILT_NOTCH b n != 0) then 3
  else match s.integ.snsBank.find? fun p => p.1 == b with
    | some p => if p.2.toNat = s.get Fd.SNS_BSEAL_SEAL b then 0 else 4
    | none => 4

/-- The pending swap at a trigger (R246): checked, then taken with the histories that it keeps, or refused. -/
def State.senseSwap (s : State) : State :=
  if !s.getB Fd.SNS_STAT_SWAP_PEND then s
  else
    let a := s.get Fd.SNS_STAT_ACT_BANK
    let b := 1 - a
    let code := s.snsCheckBank b
    let s := (s.setB Fd.SNS_STAT_SWAP_PEND false).set Fd.SNS_STAT_ERR code
    if code ≠ 0 then s.pulse 283
    else
      let same := s.get Fd.SNS_SEQ_SCS a == s.get Fd.SNS_SEQ_SCS b && s.get Fd.SNS_SEQ_ROUNDS a == s.get Fd.SNS_SEQ_ROUNDS b
      let keeps := fun (n : Nat) =>
        same && (s.snsListed b).any (fun e => e.1 == n && (s.snsListed a).contains e) &&
          s.get Fd.SNS_FILT_ORDER a n == s.get Fd.SNS_FILT_ORDER b n && s.get Fd.SNS_FILT_NOTCH a n == s.get Fd.SNS_FILT_NOTCH b n
      let s := forEach (List.range 32) s fun s n => if keeps n then s else s.setSnsInput n SnsInput.reset
      -- an input that the new bank does not list reads VALID = 0 (R245)
      let s := forEach (List.range 32) s fun s n => if (s.snsListed b).any fun e => e.1 == n then s else s.setB Fd.SNS_RES_VALID false n
      s.set Fd.SNS_STAT_ACT_BANK b

/-- Step 4 of Table 1.10: the trigger. A sequence that has not ended is given up. -/
def State.senseTrigger (s : State) : State :=
  let on_ := s.getB Fd.SNS_CTL_EN
  let s := if on_ then s.senseSwap else s
  let s := forEach (List.range 34) s fun s n => s.setSnsInput n { s.snsInput n with now := [], ovr := false }
  let fresh := fun (x : SnsConv) => ({ x with chkSum := 0, drop := false, spareUsed := false, stepped := false } : SnsConv)
  let s := (s.setSnsConv 0 (fresh (s.snsConv 0))).setSnsConv 1 (fresh (s.snsConv 1))
  { s with sns := { s.sns with active := on_, round := 0, slot := 0, ins := none } }

/-! ### Calibrations (R248) -/

/-- The BUSY and result fields of a converter. -/
def snsBusy (c : Nat) : Fld := if c = 0 then Fd.SNS_STAT_CAL0_BUSY else Fd.SNS_STAT_CAL1_BUSY

def snsCalStat (c : Nat) : Fld := if c = 0 then Fd.SNS_CAL_STAT_SA0 else Fd.SNS_CAL_STAT_SA1

/-- A calibration of a converter starts, unless one runs: 16 steps. -/
def State.snsCalibrate (s : State) (c : Nat) : State :=
  let x := s.snsConv c
  if x.calLeft ≠ 0 then s
  else (s.setSnsConv c { x with calLeft := 16, calBad := false }).setB (snsBusy c) true

/-- SNS_CAL_DUE, R248: the interval has passed since the last calibration, or the die temperature, now `temp` °C, has moved. -/
def execSnsCalDue (c : Fin 2) (temp : Int) (s : State) : Out := s.whenLive <|
  let x := s.snsConv c
  if x.calAt + s.get Fd.SNS_CAL_CFG_IVL * 38400000 ≤ s.time.gt ∨ s.get Fd.SNS_CAL_CFG_TEMP < (temp - x.calTemp).natAbs then
    .next (s.snsCalibrate c)
  else .next s

/-- SNS_CAL_STEP, R248: one step in the gap after the sequence ends; it waits while an injected conversion is queued that did not arrive while
it ran. The 16th ends the
calibration; a result other than PASS raises SNS_CAL. -/
def execSnsCalStep (c : Fin 2) (r : CalResult) (s : State) : Out := s.whenLive <|
  let x := s.snsConv c
  if decide (x.calLeft = 0) || s.sns.active || x.stepped || x.queue.any (fun q => !duringStep q.2.2 s.time.gt) then .next s
  else
    let bad := r != .pass
    let x := { x with calLeft := x.calLeft - 1, calBad := x.calBad || bad, stepped := true, stepAt := s.time.gt, failed := x.failed || bad }
    if x.calLeft ≠ 0 then .next (s.setSnsConv c x)
    else
      let s := (s.setSnsConv c { x with calAt := s.time.gt, calTemp := mapGet 0 s.lane.die 16 }).setB (snsBusy c) false
      let s := s.set (snsCalStat c) (if x.calBad then 2 else 1)
      .next (if x.calBad then s.pulse 282 else s)

/-- Freeze stops a step and injected conversions; no result is posted, and the calibration is repeated at the next start (R248). -/
def State.senseFreeze (s : State) : State :=
  let stop := fun (x : SnsConv) =>
    ({ x with queue := [], stepped := false, calLeft := if x.calLeft = 0 then 0 else 16, calBad := false } : SnsConv)
  let s := (s.setSnsConv 0 (stop (s.snsConv 0))).setSnsConv 1 (stop (s.snsConv 1))
  { s with sns := { s.sns with active := false } }

end Sys2Proof.Machine
end

