-- ==== Sys2Proof/Machine/System.lean ====
section
/-!
DEFINITION. Resets, Chart failover and warm restart (13_chart_mailbox_protocol.md R259, R260; 18_startup_freeze_ageing.md R344 to R346),
and the system commands of Table 13.8.
-/

namespace Sys2Proof.Machine

/-! ### Commands across a reset (R260) -/

/-- Insert a response by the grid tick at which its command was accepted. -/
def insertByAcceptance (r : Response) : List Response → List Response
  | [] => [r]
  | q :: qs => if r.cmd.acceptedAt ≤ q.cmd.acceptedAt then r :: q :: qs else q :: insertByAcceptance r qs

/-- A mailbox after a reset: TOKENS, QUEUED and RSP stay; every accepted command without a posted response is answered ABORTED with RST,
in acceptance order; the staging set is empty. -/
def Mailbox.aborted (b : Mailbox) (now : Nat) : Mailbox :=
  let cmds := if b.cmdBusy then b.queue ++ [b.copied] else b.queue
  let owed := (b.waiting.map fun r => r.cmd) ++ cmds.filter fun c => !c.early
  let rs : List Response := owed.map fun c => ⟨c, 0x0A, c.tag, 2, [], now, 0⟩
  { b with
    cmdBusy := false, queue := [], staging := [], levelPending := []
    waiting := rs.foldr insertByAcceptance [] }

/-- Take every command out of the lists of commands that wait. -/
def State.clearWaits (s : State) : State :=
  { s with
    lane := { s.lane with waits := [], tunes := [], configs := [], cals := [] }
    can := { s.can with waits := [] }
    win := { s.win with enables := [], applies := [] }
    tdd := { s.tdd with beams := [] }
    pos := { s.pos with load := none, switches := [], fixes := [] }
    con := { s.con with modes := [], measures := [] }
    prot := { s.prot with stops := [], releases := [] }
    age := { s.age with waits := [] }
    capt := { s.capt with cmd := none }
    start := { s.start with writing := none }
    fw := { s.fw with dones := [] } }

/-- Commands without a posted response. -/
def Mailbox.owed (b : Mailbox) : Nat := b.waiting.length + (b.queue.filter fun c => !c.early).length + b2n b.cmdBusy

/-- Every mailbox as a reset leaves it, the lock released (R260). The outcome of a command answered ACCEPTED is ABORTED (R258). -/
def State.abortMailboxes (s : State) : State :=
  let n := ((List.range 20).map fun m => (s.mb m).owed).sum
  let s := forEach (List.range 20) s fun s m =>
    let early := (s.mb m).queue.filter fun c => c.early
    let s := forEach early s fun s c => s.notifyNow 0xF0 [wd m, wd c.tag, 0x0A]
    s.setMb m ((s.mb m).aborted s.time.gt)
  let s := s.clearWaits
  { s.dropLock with start := { s.start with aborted := n } }

/-! ### Resets -/

/-- Registers that the always-on domain or MRAM keeps across every reset (R260, R357). -/
def keptRegs : List Nat :=
  [Reg.PWR_START.off 0 0, Reg.FRZ_STAT.off 0 0, Reg.FRZ_LAST_SEC.off 0 0, Reg.FRZ_LAST_GT.off 0 0, Reg.MBX_NQ.off 0 0, Reg.AGE_NEXT.off 0 0]

/-- An IMAGE record (Table 18.10). -/
def State.imageRecord (s : State) (image result : Nat) : State :=
  s.offer ⟨0x15, 311, 1, 0, false, false, s.stamp, wd (image + result * 256) :: List.replicate 9 0⟩

/-- The state that a reset leaves: registers at their reset values, MRAM and the always-on domain kept; DRAM kept where `vin` holds (R260,
R312, R344, R345; a lost DRAM channel stays fenced, R286). `kind` 0 VIN, 1 RESET_N, 2 ordered by the Datum core. -/
def State.resetDevice (s : State) (kind : Nat) (vin : Bool) : State :=
  let s := if s.start.writing.isSome && vin then s.imageRecord (1 - s.fw.bootImage) 2 else s
  let s := s.abortMailboxes
  let z := State.reset
  let soon := fun (r : Response) => ({ r with doneAt := 0, postAt := 0 } : Response)
  let mbox := s.mbox.map fun p =>
    (p.1, ({ p.2 with acceptCnt := 0, rspCnt := 0, cmd := [], dbOvf := false, waiting := p.2.waiting.map soon } : Mailbox))
  let raised := s.fw.notices.raised.map fun n => ({ n with postAt := 0 } : Notification)
  let capt := if vin && s.start.frozen && s.capt.state == 4 then s.capt else SampleCapture.reset
  let pulse := s.flt.alertEnd.map fun e => e - s.time.gt
  let csr := (s.csr.filter fun p => keptRegs.contains p.1)
  let t : State := { z with
    csr := csr
    time := { z.time with opSec := s.time.mramSec + 1, mramSec := s.time.mramSec + 1, pwrCyc := s.time.pwrCyc }
    mbox := if vin then mbox else []
    fw := { z.fw with
      notices := if vin then { s.fw.notices with raised := raised } else z.fw.notices
      legend := s.fw.legend.filter fun p => p.1 / 65536 == 0xB010 }
    flt := { z.flt with alertEnd := if vin then pulse else none }
    book := { s.book with
      apertures := [], fifo := if vin then s.book.fifo else [], shadow := if vin then s.book.shadow else []
      nonce := if vin then s.book.nonce else none }
    can := { z.can with
      imageA := if vin then s.can.imageA else none, imageB := if vin then s.can.imageB else none
      genCount := s.can.genCount, fromImage := vin }
    pmc := { z.pmc with ring := if vin then s.pmc.ring else [] }
    capt := capt
    start := { z.start with
      vin := s.start.vin, good := s.start.good, inReset := s.start.inReset, kind := kind, phase := 0
      afterFreeze := s.start.frozen, aborted := if vin then s.start.aborted else 0
      keyHash := s.start.keyHash, secverMin := s.start.secverMin }
    age := { s.age with running := none, waits := [] }
    cx := if vin then (s.cx.filter fun p => p.2.since.isSome).map fun p => (p.1, { CxLink.reset with since := some 0 }) else []
    tap := s.tap
    pci := { s.pci with l0 := false }
    draws := s.draws
    pending := s.pending }
  if vin then
    let t := t.set Fd.MBX_CSTAT_FAILOVERS (s.get Fd.MBX_CSTAT_FAILOVERS)
    let t := t.set Fd.AGE_STAT_PLANS (s.get Fd.AGE_STAT_PLANS)
    let t := forEach (List.range 2) t fun t i =>
      (t.setB Fd.RCE_CXSTAT_REQ (s.getB Fd.RCE_CXSTAT_REQ i) i).setB Fd.RCE_CXSTAT_PRI (s.getB Fd.RCE_CXSTAT_PRI i) i
    let t := forEach (List.range 4) t fun t c =>
      let lost := s.getB Fd.DRC_CSTAT_LOST c
      (t.setB Fd.DRC_CSTAT_LOST lost c).setB Fd.DRC_CSTAT_SELF_REFRESH (!lost) c
    if pulse.isSome then t.setB Fd.FLT_ALERT_PULSE true else t
  else t

/-- A start failure (R346): counted, with its reason, record and event. -/
def State.startFailure (s : State) (reason : Nat) : State :=
  let s := (s.addSat Fd.PWR_START_FAILS 1).set Fd.PWR_START_REASON reason
  let s := s.offer ⟨0x11, 493, 1, 0, false, false, s.stamp, wd (reason + s.get Fd.PWR_START_FAILS * 256) :: List.replicate 9 0⟩
  s.pulse 493

/-- FULL was entered less than 60 s ago (R346). -/
def State.earlyRestart (s : State) : Bool := s.start.wasFull && decide (s.sheet < s.start.fullAt + 480000)

/-- A start from step 3 (R338): ROM boot begins, BOOT_SEL is sampled. -/
def State.beginStart (s : State) (sel : Nat) : State := { s with start := { s.start with phase := 1, bootSel := sel } }

/-- A start ordered by the Datum core (R338, R346); one that a RESTART ends in is ordered by RESTART. -/
def State.orderStart (s : State) (sel : Nat) : State :=
  let s := if s.earlyRestart && !(s.start.warm && s.start.ordered) then s.startFailure 2 else s
  (s.resetDevice 2 true).beginStart sel

/-- DATUM_ORDERED_START, R338. -/
def execDatumOrderedStart (sel : Fin 4) (s : State) : Out := s.whenLiveTimed <| .next (s.orderStart sel)

/-! ### Service state -/

/-- A change of service state: PWR.SVC.STATE and its SERVICE record (R343). -/
def State.setService (s : State) (st : Nat) : State :=
  let s := s.set Fd.PWR_SVC_STATE st
  s.offer ⟨0x12, 0x3FF, 0, 0, false, false, s.stamp, [wd st, wd s.sheet] ++ List.replicate 8 0⟩

/-! ### Warm restart (R344) -/

/-- A warm restart begins: STATE is RESTART, READY reads 0, the mailboxes follow R260; one that RESTART did not order counts as a start
failure within 60 s of FULL (R346). -/
def State.startWarm (s : State) (ordered : Bool) : State :=
  let before := if s.start.warm then s.start.before else s.get Fd.PWR_SVC_STATE
  let s := if !ordered && s.earlyRestart then s.startFailure 2 else s
  let s := (s.setService 5).setB Fd.MBX_CSTAT_READY false
  let s := (if s.start.writing.isSome then s.imageRecord (1 - s.fw.bootImage) 2 else s).abortMailboxes
  let s := s.setB Fd.POS_ATLAS_LOADING false
  { s with start := { s.start with warm := true, ordered := ordered, before := before }, failAt := none, readyAt := none }

/-- RESTART, 0x05. -/
def execRestart (mb : Fin 20) (s : State) : Out := s.whenLive <|
  .next (s.runCommand mb 0x05 fun s c => s.checked mb c 3 false fun s =>
    if c.word 1 ≠ 0x52455354 then s.complete mb c 0x04 else s.startWarm true)

/-- WARM_RESTART_DONE, R344: the image copy in DRAM verifies (`ok`) and firmware restores its state from the latest capture; else the
Datum core orders a start. -/
def execWarmRestartDone (ok : Bool) (s : State) : Out := s.whenLiveTimed <|
  if !s.start.warm then .next s
  else match ok, s.fw.captures with
    | true, k :: _ =>
      let s := { s with
        fw := { s.fw with legend := k.legend, orders := k.orders }
        win := { s.win with pendTab := k.pendTab, applTab := k.applTab }
        start := { s.start with
          warm := false, ordered := false, fullAt := if s.start.before = 4 then s.sheet else s.start.fullAt } }
      let s := s.setService s.start.before
      let s := (s.setB Fd.MBX_CSTAT_READY true).setB Fd.MBX_CSTAT_STANDBY true
      .next ((s.notifyChart 0xF2 [1, wd s.start.aborted]).pulse 310)
    | _, _ => .next (s.orderStart s.start.bootSel)

/-! ### Failover (R34, R259) -/

/-- The capture of a sheet boundary (R34); the state of a pair that has stopped is not captured. -/
def State.takeCapture (s : State) : State :=
  if s.failAt.isSome || s.start.warm then s else
  let k : Capture := ⟨s.time.gt, s.csr, s.fw.legend, s.fw.orders,
    (List.range 20).filterMap (fun m => if (s.mb m).staging.isEmpty then none else some (m, (s.mb m).staging)),
    s.fw.lockHolder, s.fw.leaseEnd, s.win.tables, s.win.pendTab, s.win.applTab, s.can.amap, s.tdd.words⟩
  { s with fw := { s.fw with captures := (k :: s.fw.captures).take 2 } }

/-- LOCKSTEP_MISMATCH, R34, R259, R344: the active pair stops; with a standby pair it takes over at the next sheet boundary; without one a
warm restart begins. A capture of the same grid tick is invalid. -/
def execLockstepMismatch (s : State) : Out := s.whenLive <|
  let s := s.pulse (489 + s.get Fd.MBX_CSTAT_PAIR)
  let s := { s with fw := { s.fw with captures := s.fw.captures.filter fun k => k.at_ != s.time.gt } }
  .next (if s.getB Fd.MBX_CSTAT_STANDBY then
    { s.setB Fd.MBX_CSTAT_READY false with failAt := some s.time.gt, readyAt := none }
  else s.startWarm false)

/-- Register sets whose configuration Chart owns: write level Chart in Table 14.2. -/
def chartSet (i : Nat) : Bool := !(i == 1 || i == 2 || i == 28 || i == 30 || i == 32 || i == 34)

/-- Mask of the configuration fields of a register: RW and RWE. -/
def RegDesc.configMask (r : RegDesc) : Nat :=
  r.fields.foldl (fun a f => if f.acc == .rw || f.acc == .rwe then a ||| (2 ^ f.width - 1) * 2 ^ f.lsb else a) 0

/-- Enables whose value 0 in hardware is a restrictive change that stays in force (R31, R259): offset base, stride, count, bit. -/
def stickyEnables : List (RegDesc × Nat) :=
  [(Reg.CHN_WCTL, 0), (Reg.CON_DCTL, 0), (Reg.CAN_PCFG0, 31), (Reg.LANE_CTL, 1), (Reg.LANE_CTL, 0)]

/-- Signed gain limits, and unsigned fields, of which the lower value restricts; the attenuation, of which the higher does (R31). -/
def lowerSigned : List Fld := [Fd.CON_GLIM_GMAX, Fd.CON_GLIM_GMIN, Fd.CON_GSAFE_SAFE]

/-- A field of a rewritten word: the more restrictive of hardware's value and the capture's. -/
def keepRestrictive (p : RegAt) (now v : Word) : Word :=
  let f := fun (f : Fld) (lower : Nat → Nat → Bool) (v : Word) =>
    if p.reg = f.reg ∧ lower (getBits now f.lsb f.width) (getBits v f.lsb f.width) then
      setBits v f.lsb f.width (getBits now f.lsb f.width) else v
  let v := lowerSigned.foldl (fun v g => f g (fun a b => decide (signed g.width a < signed g.width b)) v) v
  f Fd.LANE_TX_ATTEN_ATTEN (fun a b => decide (b < a)) (f Fd.LANE_RX_GAIN_LIMIT (fun a b => decide (a < b)) v)

/-- A configuration word rewritten from the capture: its configuration fields take the capture's value; an enable that hardware has
cleared, a firmware mute that it has set and a gain that it has lowered stay. -/
def State.rewritten (s : State) (off : Nat) (old : Word) : Word :=
  match findReg off with
  | none => s.reg off
  | some p =>
    let m := p.reg.configMask
    let now := (s.reg off).toNat
    let v := maskClear now m + (old.toNat &&& m)
    let v := stickyEnables.foldl (fun v e =>
      if p.reg = e.1 ∧ !now.testBit e.2 then maskClear v (2 ^ e.2) else v) v
    let v := if p.reg = Reg.LANE_TX_MUTE then v ||| (now &&& m) else v
    keepRestrictive p (s.reg off) (wd v)

/-- Rewrite the indirect tables from a capture: the banks that neither govern nor await a swap (R74), the allocation map, RFFE words, and the
pending and applied copies. -/
def State.rewriteTables (s : State) (k : Capture) : State :=
  let keys := ((s.win.tables ++ k.tables).map Prod.fst).eraseDups
  let s := forEach keys s fun s q =>
    let b := q / 2048 / 5
    if mapGet 0 s.win.tables q = mapGet 0 k.tables q ∨ s.bankBusy (b / 2) (b % 2) then s
    else s.setTbl (b / 2) (b % 2) (q / 2048 % 5) (q % 2048) (mapGet 0 k.tables q)
  let s := if s.can.amap = k.amap then s else { s with can := { s.can with amap := k.amap } }.touchSweep setCan
  let s := if s.tdd.words = k.words then s else { s with tdd := { s.tdd with words := k.words } }.touchSweep setTdd
  { s with win := { s.win with pendTab := k.pendTab, applTab := k.applTab } }

/-- Rewrite every Chart-owned configuration from a capture. -/
def State.rewriteConfig (s : State) (k : Capture) : State :=
  let offs := ((s.csr ++ k.csr).map Prod.fst).eraseDups.filter fun o => chartSet (setOf o)
  let s := forEach offs s fun s o =>
    let old := mapGet (wd (resetAt o)) k.csr o
    if old = s.reg o then s else s.setReg o (s.rewritten o old)
  s.rewriteTables k

/-- One mailbox at the takeover (R259): completions recorded in the capture are posted with FO; commands started before it and not
complete are answered ABORTED with FO; the others are executed anew. Datum commands are not affected. True count of ABORTED. -/
def Mailbox.takeover (b : Mailbox) (at_ now : Nat) : Mailbox × Nat :=
  let datum := fun (c : Command) => datumOpcode c.opcode
  let inC := fun (r : Response) => datum r.cmd || decide (r.postAt ≤ at_ + 1)
  let posted := (b.waiting.filter inC).map fun r =>
    if datum r.cmd then r else ({ r with flags := r.flags ||| 1, postAt := now + 1 } : Response)
  let again := (b.waiting.filter fun r => !inC r).map fun r => r.cmd
  let all := again ++ b.queue
  let dead := all.filter fun c => !datum c && c.started && decide (c.startedAt < at_) && !c.early
  let stay := all.filter fun c => datum c || c.early || !(c.started && decide (c.startedAt < at_))
  let redo := stay.map fun c => if datum c || c.early then c else ({ c with started := false, startedAt := 0, fo := true } : Command)
  let rs : List Response := dead.map fun c => ⟨c, 0x0A, c.tag, 1, [], now, now + 1⟩
  ({ b with queue := redo, waiting := posted ++ rs }, dead.length)

/-- The latest capture that preceded a fault of grid tick `t`: one of that same grid tick is invalid (R34). -/
def State.captureBefore (s : State) (t : Nat) : Option Capture := s.fw.captures.find? fun k => decide (k.at_ < t)

/-- FAILOVER_TAKEOVER, R34, R259: at the sheet boundary after the mismatch the standby pair takes over from the latest capture that
preceded it. -/
def execFailoverTakeover (s : State) : Out := s.whenLive <|
  match s.failAt, s.failAt.bind s.captureBefore with
  | some t, some k =>
    if s.time.gt % 80 ≠ 0 ∨ s.time.gt ≤ t then .next s
    else
      let s := s.rewriteConfig k
      let dones := s.fw.dones
      let s := { s with fw := { s.fw with
        legend := k.legend, orders := k.orders, dones := dones.filter fun d => d.restrictive
        lockHolder := k.lockHolder, leaseEnd := k.leaseEnd } }
      let n := ((List.range 20).map fun m => ((s.mb m).takeover k.at_ s.time.gt).2).sum
      let s := forEach (List.range 20) s fun s m =>
        let b := ((s.mb m).takeover k.at_ s.time.gt).1
        let old := s.mb m
        let s := forEach (old.queue.filter fun c => !(b.queue.any fun x => x.tag == c.tag && x.started)) s fun s c => s.dropWaits m c.tag
        let staging := match k.staging.find? fun p => p.1 == m with
          | some p => p.2
          | none => []
        s.setMb m { b with staging := staging }
      let s := (s.setB Fd.MBX_CSTAT_PAIR (!s.getB Fd.MBX_CSTAT_PAIR)).setB Fd.MBX_CSTAT_STANDBY false
      let s := s.addSat Fd.MBX_CSTAT_FAILOVERS 1
      let s := { s with failAt := none, readyAt := some (s.time.gt + 1) }
      .next (s.notify 0xF1 [wd (s.get Fd.MBX_CSTAT_PAIR), wd (k.at_ / 80), wd n] (s.time.gt + 1))
  | some t, none => if s.time.gt % 80 ≠ 0 ∨ s.time.gt ≤ t then .next s else .next (s.startWarm false)
  | none, _ => .next s

/-- At a grid tick boundary: READY sets when its time has come. -/
def State.readyTick (s : State) : State :=
  match s.readyAt with
  | some t => if t ≤ s.time.gt then { s.setB Fd.MBX_CSTAT_READY true with readyAt := none } else s
  | none => s

/-! ### System commands (Table 13.8) -/

/-- NOP, 0x00. -/
def execNop (mb : Fin 20) (s : State) : Out := s.whenLive <|
  .next (s.runCommand mb 0x00 fun s c => s.checked mb c 1 false fun s => s.complete mb c 0x00 c.payload)

/-- IDENTIFY, 0x01. -/
def execIdentify (mb : Fin 20) (s : State) : Out := s.whenLive <|
  .next (s.runCommand mb 0x01 fun s c => s.checked mb c 1 false fun s =>
    s.complete mb c 0x00 [s.reg (Reg.SYS_DEV_ID.off 0 0), s.fw.version, s.reg (Reg.SYS_SERIAL_LO.off 0 0),
      s.reg (Reg.SYS_SERIAL_HI.off 0 0), wd (s.get Fd.MBX_CSTAT_PAIR + s.fw.bootImage * 256)])

/-- MB_LEVEL, 0x02. -/
def execMbLevel (mb : Fin 20) (s : State) : Out := s.whenLive <|
  .next (s.runCommand mb 0x02 fun s c => s.checked mb c 3 false fun s =>
    let m := wbits (c.word 1) 4 0
    let l := wbits (c.word 1) 9 8
    if m = 0 ∨ m = 15 ∨ 19 < m ∨ l = 0 then s.complete mb c 0x04
    else
      let s := s.complete mb c 0x00
      s.setMb mb { s.mb mb with levelPending := (s.mb mb).levelPending ++ [(c.tag, m, l)] })

/-- NOTIFY_MASK, 0x03. -/
def execNotifyMask (mb : Fin 20) (s : State) : Out := s.whenLive <|
  .next (s.runCommand mb 0x03 fun s c => s.checked mb c 3 false fun s =>
    (s.set Fd.MBX_NMASK_EN (wbits (c.word 1) 15 0)).complete mb c 0x00)

/-- TIMESTAMP, 0x04. -/
def execTimestamp (mb : Fin 20) (s : State) : Out := s.whenLive <|
  .next (s.runCommand mb 0x04 fun s c => s.checked mb c 1 false fun s =>
    s.latchTime.complete mb c 0x00 [wd s.time.opSec, wd s.time.pwrCyc, wd s.gtInSec])

end Sys2Proof.Machine
end

