-- ==== Sys2Proof/Machine/Start.lean ====
section
/-!
DEFINITION. Start-up, sketch service, training, start failures, compass mode, freeze and power (18_startup_freeze_ageing.md R338 to
R350; 19_balls_electrical_package.md R362, R366), and the loss of DRAM channels (14_register_interface.md R286).
-/

namespace Sys2Proof.Machine

/-! ### DRAM channels (R286) -/

/-- A DRAM channel is lost (R286): fenced, DRC_LOST raised, its checkpoint runs, atlas copies, capture and dump in flight lost. -/
def State.loseDram (s : State) (c : Nat) (inj : Bool := false) : State :=
  if s.getB Fd.DRC_CSTAT_LOST c then s
  else
    let s := s.setB Fd.DRC_CSTAT_LOST true c
    let s := if s.getB Fd.FLT_SSTAT_ACTIVE (285 + c) then s else s.raiseCycle [⟨285 + c, inj, false, 0, 0⟩]
    let s := (s.loseImages c).loseAtlasChannel c
    let s := if c = Config.heapChannel then { s with book := { s.book with shadow := [] } } else s
    let s := if (s.capt.state = 1 ∨ s.capt.state = 2) ∧ s.capt.onChannel c then s.captureStop [] else s
    s.dropDramInFlight c

/-- An uncorrectable error of a live channel: counted; the fourth within 8,000 sheets of the first loses the channel (R286, R7). -/
def State.dramUe (s : State) (ch : Nat) (inj : Bool) : State :=
  let s := s.addSat Fd.DRC_CECC_UE 1 ch
  let p := mapGet (0, 0) s.dram ch
  let p := if p.2 = 0 ∨ p.1 + 640000 ≤ s.time.gt then (s.time.gt, 1) else (p.1, p.2 + 1)
  if 4 ≤ p.2 then { s with dram := mapErase s.dram ch }.loseDram ch inj else { s with dram := mapSet (0, 0) s.dram ch p }

/-- DRAM_UE, R286. `entry` names the atlas copy that the word held: 2 × entry + copy, slot above. -/
def execDramUe (ch : Fin 4) (entry : Option Nat) (s : State) : Out := s.whenLive <|
  if s.getB Fd.DRC_CSTAT_LOST ch then .next s
  else
    let s := match entry with
      | none => s
      | some e =>
        let k := e % 2
        let a := s.slot k
        let m := if a.chP = ch.val then 1 else if a.chM = ch.val then 2 else 0
        s.setSlot k { a with bad := mapSet 0 a.bad (e / 2) (mapGet 0 a.bad (e / 2) ||| m) }
    .next (s.dramUe ch false)

/-- DRAM_CMD_TIMEOUT, R286. -/
def execDramCmdTimeout (ch : Fin 4) (s : State) : Out := s.whenLive <| .next (s.loseDram ch)

/-! ### Power and reset (R362, R366, R338) -/

/-- VIN_VALID, R362, R27: the power-cycle count advances; the device waits for its rails. -/
def execVinValid (s : State) : Out := s.keepQueue <|
  if s.start.vin then .next s
  else .next { s with
    start := { s.start with vin := true, kind := 0 }
    time := { s.time with pwrCyc := min (s.time.pwrCyc + 1) 0xFFFFFF } }

/-- RAILS_READY, R362: PWR_GOOD asserts; ROM boot begins where RESET_N is released, and BOOT_SEL is sampled. -/
def execRailsReady (sel : Fin 4) (s : State) : Out := s.keepQueue <|
  if !s.start.vin || s.start.good then .next s
  else
    let s := { s with start := { s.start with good := true } }
    .next (if s.start.inReset then s else s.beginStart sel)

/-- VIN_LOSS, R362: as on RESET_N, and everything that only VIN holds is lost. -/
def execVinLoss (s : State) : Out := s.keepQueue <|
  if !s.start.vin then .next s
  else
    let t := s.resetDevice 0 false
    .next { t with start := { t.start with vin := false, good := false } }

/-- The mean VIN of a sheet (Table 18.15): VIN_LOW is raised while it lies below 2,700 mV. -/
def State.vinSheet (s : State) (mv : Nat) : State :=
  let s := s.set Fd.PWR_VIN_MV (min mv 65535)
  if mv < 2700 then (s.setB Fd.PWR_VIN_LOW true).raise 497 else (s.setB Fd.PWR_VIN_LOW false).clearSource 497

/-- VIN_LOW, R362, Table 18.15: the mean VIN of the sheet lay below 2,700 mV. -/
def execVinLow (mv : Fin 2700) (s : State) : Out := s.whenLive <| .next (s.vinSheet mv)

/-- RESET_N_ASSERT, R366. -/
def execResetNAssert (s : State) : Out := s.keepQueue <|
  if s.start.inReset then .next s
  else if !s.start.good then .next { s with start := { s.start with inReset := true } }
  else
    let t := (s.resetDevice 1 true).cxCopy
    .next { t with start := { t.start with inReset := true } }

/-- RESET_N_RELEASE, R338. -/
def execResetNRelease (sel : Fin 4) (s : State) : Out := s.keepQueue <|
  if !s.start.inReset then .next s
  else
    let s := { s with start := { s.start with inReset := false } }
    .next (if s.start.good then s.cxLow.beginStart sel else s)

/-! ### ROM boot (Table 18.2, R338) -/

/-- The order of images that BOOT_SEL selects (R339). -/
def bootOrder (sel : Nat) : List Nat := [[0, 1], [1, 0], [0], [1]].getD sel []

/-- A DRAM channel after training: trained and out of self-refresh, or lost (R286). -/
def State.trainDram (s : State) (trained c : Nat) : State :=
  let s := s.setB Fd.DRC_CSTAT_SELF_REFRESH false c
  if s.getB Fd.DRC_CSTAT_LOST c then s.raise (285 + c)
  else if bit trained c then s.setB Fd.DRC_CSTAT_TRAINED true c
  else s.loseDram c

/-- CKPLL at power-up (R201): the nominal frequencies found, and the source in use. -/
def State.bootRefs (s : State) (ref1 ref2 : Nat) : State :=
  let f := fun (r : Nat) => if r < 4 then r else 7
  let s := (s.set Fd.SYN_REF_STAT_REF_FREQ (f ref1)).set Fd.SYN_REF_STAT_REF2_FREQ (f ref2)
  let s := (s.setB Fd.SYN_REF_STAT_REF_OK (decide (ref1 < 4))).setB Fd.SYN_REF_STAT_REF2_OK (decide (ref2 < 4))
  let s := s.setB Fd.SYN_REF_STAT_CK_LOCK true
  if ref1 < 4 then s else s.refLost false

/-- ROM_BOOT_DONE (Table 18.2, steps 3 and 4): `ms` milliseconds after the start the sheet counter is cleared; the channels in `trained`
have trained; the references show frequencies `ref1` and `ref2`; the Field Book's test words verify where `mainOk`, `spareOk`. -/
def execRomBootDone (ms trained ref1 ref2 : Nat) (mainOk spareOk : Bool) (s : State) : Out := s.keepQueue <|
  if s.start.phase ≠ 1 ∨ !s.start.good ∨ s.start.inReset ∨ s.start.frozen then .next s
  else
    let s := { s with
      time := { s.time with gt := 0, sheetsRun := 0, secBase := 0 }
      start := { s.start with phase := 2, preMs := ms, order := bootOrder s.start.bootSel } }
    let s := s.bookRebuild mainOk spareOk
    let s := s.bootRefs ref1 ref2
    .next (forEach (List.range 4) s fun s c => s.trainDram trained c)

/-! ### Images (R339) -/

/-- Little-endian number at a byte offset of a list. -/
def leAt (bs : List Byte) (off n : Nat) : Nat :=
  (List.range n).foldr (fun i a => (bs.getD (off + i) 0).toNat + 256 * a) 0

/-- SECVER of an image (Table 18.3). -/
def imageSecver (i : BootImage) : Nat := leAt i.header 4 4

/-- FW_VERSION of an image. -/
def imageVersion (i : BootImage) : Nat := leAt i.header 12 4

/-- The bytes of a list as numbers. -/
def byteNats (bs : List Byte) : List Nat := bs.map (·.toNat)

/-- The four steps of R339. -/
def State.imageOk (s : State) (i : BootImage) : Bool :=
  let h := i.header
  let length := leAt h 8 4
  let pub := byteNats ((h.drop 16).take 64)
  let sig := byteNats ((h.drop 80).take 64)
  decide (h.length = 256) && leAt h 0 4 == 0x4C4D5631 && decide (length % 4096 = 0) && decide (4096 ≤ length) &&
    decide (length ≤ 16773120) && decide (length = i.body.length) && (h.drop 144).all (· == 0) &&
    (sha256 pub == byteNats s.start.keyHash) &&
    decide (imageSecver i ≤ 63) && decide (s.start.secverMin ≤ imageSecver i) &&
    ecdsaVerify pub sig (sha256 (byteNats (h.take 80 ++ h.drop 144 ++ i.body)))

/-- RESTARTED at a start (Table 13.9). -/
def State.restarted (s : State) : State :=
  let code := if s.start.kind = 0 then 3 else if s.start.kind = 1 then 0 else 2
  s.notifyChart 0xF2 [wd code, wd (if s.start.kind = 0 then 0 else s.start.aborted)]

/-- READY sets at the end of step 5, with a standby pair. -/
def State.releaseChart (s : State) : State := ((s.setB Fd.MBX_CSTAT_READY true).setB Fd.MBX_CSTAT_STANDBY true).restarted

/-- COMPASS is entered (R347). -/
def State.enterCompass (s : State) (noImage : Bool) : State :=
  let s := { s with start := { s.start with phase := 0, noImage := noImage } }
  ((s.setService 6).cxCopy.raise 494).releaseChart

/-- A re-plan begins (R351): kind 0 start, 1 periodic, 2 commanded. -/
def State.startPlan (s : State) (kind : Nat) : State :=
  if s.age.running.isSome then s
  else { s with age := { s.age with running := some kind, waiting := false } }.setB Fd.AGE_STAT_BUSY true

/-- The sketch configuration in the registers: a window declared fine is set up as medium P0 (R341). -/
def State.applySketch (s : State) (k : SketchConfig) : State :=
  let s := forEach k.regs s fun s p => s.setReg p.1 p.2
  let s := { s with win := { s.win with tables := k.tables.foldl (fun m p =>
    mapSet 0 m p.1 (wd (p.2.toNat &&& tblMask (p.1 / 2048 % 5) (p.1 % 2048)))) s.win.tables } }
  forEach (maskList k.windows 16) s fun s w =>
    let s := s.setB Fd.CHN_WCTL_EN false w
    if s.get Fd.CHN_WCTL_PROFILE w = 3 then (s.set Fd.CHN_WCTL_PROFILE 2 w).set Fd.CHN_WCTL_PROTO 0 w else s

/-- A lane pair's start calibrations begin (Table 2.7): both sides of every pair, TX muted by SRC_CAL; the sides of the sketch lanes are
enabled. -/
def State.startLaneCal (s : State) (k : SketchConfig) (n : Nat) : State :=
  let s := if bit k.rx n then s.setB Fd.LANE_CTL_RX_EN true n else s
  let s := if bit k.tx n then s.setB Fd.LANE_CTL_TX_EN true n else s
  let s := (s.setB Fd.LANE_CAL_STAT_RX_BUSY true n).setB Fd.LANE_CAL_STAT_TX_BUSY true n
  ((s.setB Fd.LANE_TX_MUTE_SRC_CAL true n).updateMuted n).refreshRx n

/-- CAL is entered (Table 18.2, step 5). -/
def State.enterCal (s : State) : State :=
  let k := s.start.sketch
  let s := { s with start := { s.start with phase := 3 } }
  let s := (s.setService 1).releaseChart
  let s := s.applySketch k
  let s := forEach (List.range 16) s fun s n => s.startLaneCal k n
  ((s.snsCalibrate 0).snsCalibrate 1).startPlan 0

/-- IMAGE_VERIFY_DONE, R339: the image at the head of the order as its device holds it, verified; CAL or COMPASS is entered, or the next
image is tried, or no image is left. -/
def execImageVerifyDone (img : BootImage) (s : State) : Out := s.whenLive <|
  if s.start.phase ≠ 2 ∨ s.start.inReset ∨ s.start.frozen then .next s
  else match s.start.order with
    | [] => .next s
    | n :: rest =>
      if s.imageOk img then
        let s := { s with
          fw := { s.fw with bootImage := n, version := wd (imageVersion img), secver := wd (imageSecver img) }
          start := { s.start with order := [], sketch := img.sketch } }
        .next (if s.legN 0x0040 ≤ s.get Fd.PWR_START_FAILS then s.enterCompass false else s.enterCal)
      else
        let s := (s.pulse 311).imageRecord n 1
        let s := { s with start := { s.start with order := rest } }
        .next (if rest.isEmpty then (s.startFailure 3).enterCompass true else s)

/-! ### Sketch service (R341) -/

/-- The result of a start calibration in a list. -/
def findResult (l : List (Nat × CalResult)) (n : Nat) : Option CalResult := (l.find? fun p => p.1 == n).map (·.2)

/-- A sense converter's start calibration ends (R248). -/
def State.endSnsStart (s : State) (c : Nat) (r : CalResult) : State :=
  let x := s.snsConv c
  if x.calLeft = 0 then s
  else
    let bad := r != .pass
    let s := (s.setSnsConv c { x with calLeft := 0, calBad := bad, calAt := s.time.gt }).setB (snsBusy c) false
    let s := s.set (snsCalStat c) (if bad then 2 else 1)
    if bad then s.pulse 282 else s

/-- A side of a lane pair still calibrates. -/
def State.startCalRuns (s : State) : Bool :=
  (List.range 16).any fun n => s.getB Fd.LANE_CAL_STAT_RX_BUSY n || s.getB Fd.LANE_CAL_STAT_TX_BUSY n

/-- The isolation measurement begins (Table 18.2, step 6): the sketch windows are enabled, their TX lanes requested, their domains opened
and evaluation enabled. -/
def State.openSketch (s : State) : State :=
  let k := s.start.sketch
  let ws := maskList k.windows 16
  let s := { s with
    start := { s.start with phase := 4 }
    win := { s.win with binding := s.win.binding ||| listMask ws } }
  let s := forEach ws s fun s w =>
    let s := s.setB Fd.CHN_WCTL_EN true w
    forEach (s.routeDomains w) s fun s d => (s.setB Fd.CON_DCTL_EN true d).domainEnable d (s.getB Fd.CON_DCTL_EN d) true
  let s := s.setB Fd.CON_CTL_EN true
  forEach (maskList k.tx 16) s fun s n => s.setB Fd.SYN_LSTATE_TX_REQ true n

/-- START_CAL_DONE, R341: results of start calibrations by lane and converter; once the last side has ended, step 6 begins. -/
def execStartCalDone (rx tx sns : List (Nat × CalResult)) (s : State) : Out := s.whenLive <|
  if s.start.phase ≠ 3 ∨ s.start.frozen then .next s
  else
    let s := forEach (List.range 16) s fun s n =>
      let s := match findResult rx n with
        | some r => s.endCal n false r
        | none => s
      match findResult tx n with
      | some r => s.endCal n true r
      | none => s
    let s := forEach [0, 1] s fun s c => match findResult sns c with
      | some r => s.endSnsStart c r
      | none => s
    .next (if s.startCalRuns then s else s.openSketch)

/-- WISO is valid on every sketch window. -/
def State.isoValid (s : State) : Bool := (maskList s.start.sketch.windows 16).all fun w => s.reg (Reg.CON_WISO.off w 0) != 0

/-- Milliseconds since the start. -/
def State.startMs (s : State) : Nat := s.start.preMs + s.time.gt / 640

/-- SKETCH_ENTRY, R341, R338: sketch ceilings are set, SKETCH_MS shows the time taken, and START_SLOW is raised beyond 450 ms. -/
def execSketchEntry (s : State) : Out := s.whenLive <|
  if s.start.phase ≠ 4 || s.start.frozen || !s.isoValid then .next s
  else
    let s := { s with start := { s.start with phase := 0 } }
    let s := s.set Fd.PWR_START_SKETCH_MS (min s.startMs 0xFFFF)
    let s := forEach (maskList s.start.sketch.windows 16) s fun s w =>
      forEach (s.routeDomains w) s fun s d => s.setDomX d { s.domX d with ceil := some (s.sketchCeil w) }
    let s := s.setService 2
    let w0 := s.start.kind + s.fw.bootImage * 256 + wbits s.fw.secver 7 0 * 65536
    let s : State := s.offer ⟨0x10, 0x3FF, 0, 0, false, false, s.stamp, [wd w0, wd s.startMs] ++ List.replicate 8 0⟩
    .next (if 450 < s.startMs then s.pulse 308 else s)

/-! ### Training and full service (R342, R343) -/

/-- The window of a domain that starts TRAINING, where it is a sketch window. -/
def State.sketchWindowOf (s : State) (d : Nat) : Option Nat :=
  (maskList s.start.sketch.windows 16).find? fun w => (s.routeDomains w).contains d

/-- TRAINING begins at the sheet boundary at which the first path binds (R342): every enabled domain takes its ceiling. -/
def State.enterTraining (s : State) : State :=
  if s.get Fd.PWR_SVC_STATE ≠ 2 ∨ s.can.paths.isEmpty then s
  else
    let s := (s.setService 3)
    let s := { s with start := { s.start with trainAt := s.sheet, rampAt := s.sheet } }
    forEach ((List.range 256).filter fun d => s.getB Fd.CON_DCTL_EN d) s fun s d =>
      let g := s.getI Fd.CON_GAPP_APPLIED d
      let c := match s.sketchWindowOf d with
        | some w => min g (s.sketchCeil w)
        | none => g
      s.setDomX d { s.domX d with ceil := some c, trainOk := 0 }

/-- The condition of R342 for one sheet: the clearance measurement lies 3 dB above the effective set point. -/
def State.trainMet (s : State) (tab : List (Nat × Nat)) (d : Nat) : Bool :=
  s.get Fd.CON_DCLR_SRC d != 0 && decide (s.setPoint (windowIn tab d) d 0 + 1536 ≤ s.getI Fd.CON_DCLR_CLR d)

/-- The sheets in which R342's condition has held, counted over the running eight. -/
def State.trainSheet (s : State) (tab : List (Nat × Nat)) : State :=
  let st := s.get Fd.PWR_SVC_STATE
  if st ≠ 3 ∧ st ≠ 4 then s
  else forEach (s.con.dom.filter fun p => p.2.ceil.isSome) s fun s p =>
    if s.trainMet tab p.1 then s.setDomX p.1 { s.domX p.1 with trainOk := (s.domX p.1).trainOk + 1 } else s

/-- One domain's ceiling at the end of the sheets since the last ramp, eight of them (R342). -/
def State.rampDomain (s : State) (sheets d : Nat) : State :=
  let x := s.domX d
  match x.ceil with
  | none => s
  | some c =>
    let c := if sheets ≤ x.trainOk then c + (s.legN 0x0041 : Int) else c
    s.setDomX d { x with trainOk := 0, ceil := if s.getI Fd.CON_GLIM_GMAX d ≤ c then none else some c }

/-- TRAINING_RAMP, R342: every eight sheets. -/
def execTrainingRamp (s : State) : Out := s.whenLive <|
  let st := s.get Fd.PWR_SVC_STATE
  if (st ≠ 3 ∧ st ≠ 4) ∨ s.sheet < s.start.rampAt + 8 then .next s
  else
    let n := s.sheet - s.start.rampAt
    let s := { s with start := { s.start with rampAt := s.sheet } }
    .next (forEach (s.con.dom.filter fun p => p.2.ceil.isSome) s fun s p => s.rampDomain n p.1)

/-- Every enabled domain has been released (R343). -/
def State.allReleased (s : State) : Bool :=
  (List.range 256).all fun d => !s.getB Fd.CON_DCTL_EN d || (s.domX d).ceil.isNone

/-- FULL_ENTRY, R343; a periodic re-plan that fell in TRAINING runs (R351). -/
def execFullEntry (s : State) : Out := s.whenLive <|
  let late := s.start.trainAt + s.legN 0x0042 ≤ s.sheet
  if s.get Fd.PWR_SVC_STATE ≠ 3 ∨ s.time.gt % 80 ≠ 0 ∨ (!s.allReleased ∧ ¬late) then .next s
  else
    let slow := !s.allReleased
    let s := s.setService 4
    let s := { s with start := { s.start with fullAt := s.sheet, wasFull := true } }
    let s := if slow then s.pulse 309 else s
    .next (if s.age.waiting then s.startPlan 1 else s)

/-! ### Start failures (R346, R347) -/

/-- START_FAIL_TIMEOUT, R346: 5 s have passed since the start without SKETCH; the reason is the one that applies (Table 18.4). -/
def execStartFailTimeout (s : State) : Out := s.whenLive <|
  let late := s.start.phase = 1 ∨ 40000 ≤ s.start.preMs * 8 + s.sheet
  if s.start.phase = 0 ∨ s.start.failed ∨ s.start.frozen ∨ ¬late then .next s
  else
    let trained := ((List.range 4).filter fun c => s.getB Fd.DRC_CSTAT_TRAINED c).length
    let txOk := (maskList s.start.sketch.tx 16).any fun n => s.get Fd.LANE_CAL_STAT_TX_RESULT n == 1
    let reason := if s.start.phase ≠ 1 ∧ trained < 2 then 5 else if s.start.phase = 4 ∧ !txOk then 4 else 1
    .next ({ s with start := { s.start with failed := true } }.startFailure reason)

/-- FAIL_COUNT_CLEAR, R346: after 4,800,000 sheets of FULL. -/
def execFailCountClear (s : State) : Out := s.whenLive <|
  if s.get Fd.PWR_SVC_STATE = 4 ∧ s.start.fullAt + 4800000 ≤ s.sheet then .next (s.set Fd.PWR_START_FAILS 0) else .next s

/-- START_STATUS, 0x71. -/
def execStartStatus (mb : Fin 20) (s : State) : Out := s.whenLive <|
  .next (s.runCommand mb 0x71 fun s c => s.checked mb c 1 false fun s =>
    s.complete mb c 0x00 [s.reg (Reg.PWR_SVC.off 0 0), s.reg (Reg.PWR_START.off 0 0), wd s.fw.bootImage, s.fw.version, s.fw.secver,
      s.reg (Reg.FRZ_STAT.off 0 0), s.reg (Reg.FRZ_LAST_SEC.off 0 0)])

/-- START_RETRY, 0x72. -/
def execStartRetry (mb : Fin 20) (s : State) : Out := s.whenLiveTimed <|
  .next (s.runCommand mb 0x72 fun s c => s.checked mb c 3 false fun s =>
    if c.word 1 ≠ 0x52455452 then s.complete mb c 0x04
    else if s.get Fd.PWR_SVC_STATE ≠ 6 then s.complete mb c 0x07
    else (s.set Fd.PWR_START_FAILS (s.legN 0x0040 - 1)).orderStart s.start.bootSel)

/-- IMAGE_WRITE, 0x73. -/
def execImageWrite (mb : Fin 20) (s : State) : Out := s.whenLive <|
  .next (s.runCommand mb 0x73 fun s c => s.checked mb c 3 false fun s =>
    if s.start.writing.isSome then s.complete mb c 0x06
    else
      let s := s.acceptEarly mb c
      { s with start := { s.start with writing := some (mb.val, c.accepted) } })

/-- IMAGE_WRITE_DONE, R339: the image read from host memory verifies and is written to the device not booted, or fails. -/
def execImageWriteDone (img : BootImage) (s : State) : Out := s.whenLive <|
  match s.start.writing with
  | none => .next s
  | some (mb, c) =>
    let ok := s.imageOk img
    let t := { s with start := { s.start with writing := none } }
    let t := t.imageRecord (1 - s.fw.bootImage) (b2n (!ok))
    .next (if ok then t.complete mb c 0x00 else (t.pulse 311).complete mb c 0x08)

/-! ### Freeze (R348, R349) -/

/-- A freeze request with its cause and number, honoured in every state except FROZEN (R348): the steps of Table 18.5. -/
def State.requestFreeze (s : State) (cause who : Nat) : State :=
  if s.start.frozen || s.start.inReset || !s.start.good then s
  else
    let active := listMask ((List.range 16).filter fun n => s.get Fd.SYN_LSTATE_TX_STATE n == 4)
    let s := (((s.set Fd.FRZ_STAT_CAUSE cause).set Fd.FRZ_STAT_WHO who).set Fd.FRZ_STAT_TXMASK active)
    let s := (s.set Fd.FRZ_LAST_SEC_OP_SEC s.time.opSec).set Fd.FRZ_LAST_GT_GT s.gtInSec
    let s := forEach (List.range 16) s fun s n => (s.setB Fd.LANE_TX_MUTE_SRC_FRZ true n).updateMuted n
    let s := forEach (List.range 16) s fun s n =>
      (s.setB Fd.LANE_CAL_STAT_RX_BUSY false n).setB Fd.LANE_CAL_STAT_TX_BUSY false n
    let s := s.senseFreeze.captureFreeze
    let s := (s.raise 495).postDue
    let s := s.offer ⟨0x13, 495, 3, 0, false, false, s.stamp, [wd (cause + who * 65536), wd active] ++ List.replicate 8 0⟩
    let s := forEach (List.range 4) s fun s c => if s.getB Fd.DRC_CSTAT_LOST c then s else s.setB Fd.DRC_CSTAT_SELF_REFRESH true c
    let s := ((s.set Fd.PWR_SVC_STATE 7).setB Fd.MBX_CSTAT_READY false).cxCopy
    { s with
      start := { s.start with frozen := true }
      pmc := { s.pmc with writing := none }
      rce := { s.rce with cur := none, freq := none } }

/-- FREEZE, 0x70: answered after the reset (R349). -/
def execFreeze (mb : Fin 20) (s : State) : Out := s.whenLive <|
  .next (s.runCommand mb 0x70 fun s c => s.checked mb c 1 false fun s =>
    if c.word 1 ≠ 0x46525A4E then s.complete mb c 0x04 else s.requestFreeze 2 mb)

/-- FREEZE_N_ASSERT, R348. -/
def execFreezeNAssert (s : State) : Out := s.whenLive <| .next (if s.getB Fd.FRZ_CTL_PIN_EN then s.requestFreeze 1 0 else s)

/-- A fault source with FRZ = 1 has requested freeze (R294). -/
def State.takeFreezeReq (s : State) : State :=
  match s.flt.freezeReq with
  | some src => { s with flt := { s.flt with freezeReq := none } }.requestFreeze 3 src
  | none => s

end Sys2Proof.Machine
end

