-- ==== Sys2Proof/Machine/Age.lean ====
section
/-!
DEFINITION. Ageing (18_startup_freeze_ageing.md R351 to R355).
-/

namespace Sys2Proof.Machine

/-! ### Canaries and the depth of a window (R352, R354) -/

/-- AGE_CANARY, R352: canary `k` fires. -/
def execAgeCanary (k : Fin 48) (s : State) : Out := s.whenLive <|
  let s := if k.val < 32 then s.set Fd.AGE_CANARY_LO_FIRED (s.get Fd.AGE_CANARY_LO_FIRED ||| 2 ^ k.val)
    else s.set Fd.AGE_CANARY_HI_FIRED (s.get Fd.AGE_CANARY_HI_FIRED ||| 2 ^ (k.val - 32))
  .next ({ s with age := { s.age with fired := s.age.fired ||| 2 ^ k.val } }.pulse 313)

/-- The readings of DEPTH_MEAN of a sheet that is counted for its window, put into the period's count (R354). -/
def State.depthSheet (s : State) : State :=
  let counted := s.con.masks.ran &&& s.con.masks.busy &&& s.con.masks.unmuted
  let add := fun (m : List (Nat × Nat)) (p : Nat) =>
    let w := s.pWin p
    if bit counted w then
      let k := 65536 * w + (s.getI Fd.CAN_PDEPTH_DEPTH_MEAN p + 32768).toNat
      mapSet 0 m k (mapGet 0 m k + 1)
    else m
  { s with age := { s.age with depth := s.activePaths.foldl add s.age.depth } }

/-- The element at a place of a list of (value, count) pairs. -/
def nthCounted : List (Nat × Nat) → Nat → Nat
  | [], _ => 0
  | (v, n) :: l, i => if i < n then v else nthCounted l (i - n)

/-- D_w (R354): the median of the period's readings of a window, in Q1.15 scale; none without a reading. -/
def State.depthMedian (s : State) (w : Nat) : Option Int :=
  let l := (s.age.depth.filter fun p => p.1 / 65536 == w).map fun p => (p.1 % 65536, p.2)
  let n := (l.map (·.2)).sum
  if n = 0 then none else some (2 * ((nthCounted l ((n - 1) / 2) : Int) - 32768))

/-- m_w of a window. -/
def State.margin (s : State) (w : Nat) : Nat := s.legN 0xB010 w

/-- m_w after a re-plan (R354); it never falls, and a window without a baseline or a reading keeps it. -/
def State.newMargin (s : State) (w : Nat) : Nat :=
  match s.age.base.find? fun p => p.1 == w, s.depthMedian w with
  | some (_, b), some d =>
    let x := b - d - s.legI 0xB001
    let up := 256 * (-((-x) / 256))
    max (s.margin w) (min 3072 up).toNat
  | _, _ => s.margin w

/-! ### Re-plans (R351 to R355) -/

/-- PWR.VCORE.TRIM after a re-plan (R352): one step up, not beyond +12. -/
def State.replanTrim (s : State) : State :=
  let n := ((List.range 48).filter fun k => bit s.age.fired k).length
  let trim := s.getI Fd.PWR_VCORE_TRIM
  let s := if s.legN 0xB000 ≤ n ∧ trim < 12 then s.setI Fd.PWR_VCORE_TRIM (trim + 1) else s
  if n ≠ 0 ∧ s.getI Fd.PWR_VCORE_TRIM = 12 then s.pulse 314 else s

/-- lane.recal_interval after a re-plan (R353), from the drift of monitors 2 and 4 since the last one. -/
def State.replanRecal (s : State) (used : List Nat) : State :=
  let drift := fun (k : Nat) => used.getD k 0 - s.age.used.getD k 0
  let worst := max (drift 2) (drift 4)
  let calm := if worst < 125 then s.age.calm + 1 else 0
  let iv := s.legN 0x1018
  if 500 < worst then { s.setLeg 0x1018 0 (wd (max 24 (iv / 2))) with age := { s.age with calm := 0 } }
  else if 4 ≤ calm then { s.setLeg 0x1018 0 (wd (min 2000 (iv * 3 / 2))) with age := { s.age with calm := 0 } }
  else { s with age := { s.age with calm := calm } }

/-- MON[k].USED and its alarm (R351). -/
def State.replanMonitor (s : State) (k used : Nat) : State :=
  let u := min used 65535
  let s := s.set Fd.AGE_MON_USED u k
  if s.legN 0xB002 ≤ u then (s.setB Fd.AGE_MON_ALARM true k).pulse 312 else s

/-- Every second element, the first kept. -/
def everySecond {α : Type} : List α → List α
  | [] => []
  | [x] => [x]
  | x :: _ :: l => x :: everySecond l

/-- The history with an entry: at 16,384 entries the oldest 8,192 are thinned to 4,096 (R355). -/
def historyAdd (h : List (List Word)) (e : List Word) : List (List Word) :=
  (if h.length < 16384 then h else everySecond (h.take 8192) ++ h.drop 8192) ++ [e]

/-- An entry of the ageing history (R355): eight words. -/
def State.historyEntry (s : State) (kind : Nat) (used : List Nat) : List Word :=
  let u := fun (k : Nat) => min (used.getD k 0) 65535
  let m := ((List.range 16).map s.margin).foldl max 0
  [wd s.time.opSec, wd (s.time.pwrCyc + kind * 2 ^ 24), wd (s.get Fd.PWR_VCORE_TRIM + m * 2 ^ 16)] ++
    ((List.range 4).map fun i => wd (u (2 * i) + u (2 * i + 1) * 65536)) ++ [0]

/-- The payload of a REPLAN record (Table 18.10). -/
def State.replanPayload (s : State) (rose : Nat) (used : List Nat) : List Word :=
  let u := fun (k : Nat) => min (used.getD k 0) 65535
  [wd (s.get Fd.PWR_VCORE_TRIM + rose * 65536)] ++ ((List.range 4).map fun i => wd (u (2 * i) + u (2 * i + 1) * 65536)) ++
    [s.leg 0x1018] ++ List.replicate 4 0

/-- REPLAN_DONE, R351: `used` are the eight monitors' uses as measured. -/
def execReplanDone (used : List Nat) (s : State) : Out := s.whenLive <|
  match s.age.running with
  | none => .next s
  | some kind =>
    let s := forEach (List.range 8) s fun s k => s.replanMonitor k (used.getD k 0)
    let s := (s.replanTrim).replanRecal used
    let before := (List.range 16).map s.margin
    let news := (List.range 16).map s.newMargin
    let rose := listMask ((List.range 16).filter fun w => decide (before.getD w 0 < news.getD w 0))
    let s := forEach (List.range 16) s fun s w => s.setLeg 0xB010 w (wd (news.getD w 0))
    let s := s.offer ⟨0x14, 312, 0, 0, false, false, s.stamp, s.replanPayload rose used⟩
    let s := (s.set Fd.AGE_CANARY_LO_FIRED 0).set Fd.AGE_CANARY_HI_FIRED 0
    let s := (s.setB Fd.AGE_STAT_BUSY false).addSat Fd.AGE_STAT_PLANS 1
    let s := s.set Fd.AGE_NEXT_OP_SEC (s.time.opSec + 86400)
    let waits := s.age.waits
    let s := { s with age := { s.age with
      lastPlan := s.time.opSec, running := none, waits := [], depth := [], fired := 0, used := (List.range 8).map fun k => used.getD k 0
      history := historyAdd s.age.history (s.historyEntry kind used) } }
    let s := s.notifyChart 0xFA []
    .next (forEach waits s fun s p => s.complete p.1 p.2 0x00)

/-- PERIODIC_REPLAN_DUE, R351: 86,400 operating seconds after the last re-plan; in TRAINING it waits until FULL. -/
def execPeriodicReplanDue (s : State) : Out := s.whenLive <|
  if !s.getB Fd.AGE_CTL_EN || decide (s.time.opSec < s.age.lastPlan + 86400) || s.age.running.isSome then .next s
  else if s.get Fd.PWR_SVC_STATE = 3 then .next { s with age := { s.age with waiting := true } }
  else .next (s.startPlan 1)

/-! ### Commands (Table 18.9) -/

/-- AGE_STATUS, 0x74. -/
def execAgeStatus (mb : Fin 20) (s : State) : Out := s.whenLive <|
  .next (s.runCommand mb 0x74 fun s c => s.checked mb c 2 false fun s =>
    s.complete mb c 0x00 ([s.reg (Reg.AGE_STAT.off 0 0), s.reg (Reg.PWR_VCORE.off 0 0)] ++
      ((List.range 8).map fun k => s.reg (Reg.AGE_MON.off k 0)) ++ (List.range 16).map fun w => s.leg 0xB010 w))

/-- AGE_REPLAN, 0x75. -/
def execAgeReplan (mb : Fin 20) (s : State) : Out := s.whenLive <|
  .next (s.runCommand mb 0x75 fun s c => s.checked mb c 3 false fun s =>
    let s := s.startPlan 2
    { s with age := { s.age with waits := s.age.waits ++ [(mb.val, c)] } })

/-- AGE_BASELINE, 0x76: B_w takes the present D_w, and m_w is 0 (R354). -/
def execAgeBaseline (mb : Fin 20) (s : State) : Out := s.whenLive <|
  .next (s.runCommand mb 0x76 fun s c => s.checked mb c 3 true fun s =>
    let ws := maskList (wbits (c.word 1) 15 0) 16
    s.asOrder mb c false (ws.map fun w => (legendKey 0xB010 w, 0)) [] fun s =>
      let set := fun (m : List (Nat × Int)) (w : Nat) => match s.depthMedian w with
        | some d => mapInsert (mapErase m w) w d
        | none => mapErase m w
      let s := { s with age := { s.age with base := ws.foldl set s.age.base } }
      (forEach ws s fun s w => s.setLeg 0xB010 w 0).complete mb c 0x00)

/-- AGE_READ, 0x77. -/
def execAgeRead (mb : Fin 20) (s : State) : Out := s.whenLive <|
  .next (s.runCommand mb 0x77 fun s c => s.checked mb c 2 false fun s =>
    let first := (c.word 1).toNat
    let n := wbits (c.word 2) 1 0
    if n = 0 then s.complete mb c 0x04
    else if s.age.history.length < first + n then s.complete mb c 0x0D
    else s.complete mb c 0x00 ((s.age.history.drop first).take n).flatten)

end Sys2Proof.Machine
end

