-- ==== Sys2Proof/Machine/Datapath.lean ====
section
/-!
DEFINITION. The datapath over one grid tick, sample by sample, from the subband samples that leave stage 7 to those that leave stage 12
(01_architecture_and_cadence.md Table 1.2): subtraction (R80), domain gain (R153), route (R67), edge trims and the direct FIR (R70),
Doppler rotation (R71, R72); the reference (R81), filtering (R90) and adaptation (R91, R92) of the canceller; the gate detectors (R193 to
R196) and the oscillation detector (R165). The channel filters of stages 7 and 13 and the analogue stages are outside: their samples
come in with the grid tick.
-/

namespace Sys2Proof.Machine

/-! ### Samples -/

/-- Key of a subband of a lane. -/
def chanKey (lane sub : Nat) : Nat := 2048 * lane + sub

/-- The `n` samples listed for a key, first first; those not listed are 0. -/
def samplesOf (l : List (Nat × List (Int × Int))) (key n : Nat) : List (Int × Int) :=
  let v := mapGet [] l key
  (List.range n).map fun i => v.getD i (0, 0)

/-- A sample with both rails scaled and narrowed. -/
def scaleSample (c : Int) (sh : Nat) (narrow : Int → Int) (z : Int × Int) : Int × Int :=
  (narrow (rnd (z.1 * c) sh), narrow (rnd (z.2 * c) sh))

/-- Power of a sample, and of a list. -/
def powerOf (z : Int × Int) : Nat := (z.1 * z.1 + z.2 * z.2).toNat

def powerSum (l : List (Int × Int)) : Nat := l.foldl (fun a z => a + powerOf z) 0

/-- Narrowing to 18 bits, and the symmetric clamp of a direct window's stream. -/
def sat18 (v : Int) : Int := sat v 18

def clamp16 (v : Int) : Int := clampI v (-32767) 32767

/-- Samples per grid tick at a window's rate. -/
def State.winRate (s : State) (w : Nat) : Nat := profRate (s.get Fd.CHN_WCTL_PROFILE w)

/-- A complex FIR over samples, newest first: `Σ h[m] × x[m]`, rounded by 15 and narrowed. -/
def firSum (narrow : Int → Int) (h : List (Int × Int)) (x : List (Int × Int)) : Int × Int :=
  let acc := (h.zip x).foldl (fun (a : Int × Int) p =>
    (a.1 + p.1.1 * p.2.1 - p.1.2 * p.2.2, a.2 + p.1.1 * p.2.2 + p.1.2 * p.2.1)) (0, 0)
  (narrow (rnd acc.1 15), narrow (rnd acc.2 15))

/-- A FIR over a block, `hist` newest first: the outputs first first, and the history after it. -/
def firBlock (f : List (Int × Int) → Int × Int) (keep : Nat) : List (Int × Int) → List (Int × Int) → List (Int × Int) × List (Int × Int)
  | [], hist => ([], hist)
  | x :: xs, hist =>
    let h := x :: hist
    let r := firBlock f keep xs (h.take keep)
    (f h :: r.1, r.2)

/-- A history with nothing but zeros is not listed. -/
def trimZero (l : List (Int × Int)) : List (Int × Int) := if l.all fun z => z == (0, 0) then [] else l

/-- A complex word, real part in [31:16]. -/
def complexWord (v : Word) : Int × Int := (signed 16 (wbits v 31 16), signed 16 (wbits v 15 0))

/-- The RX gate of a lane for the input sample at an instant (R215): every running window that names it is linked and idle (DEDUCED, log
entry 128). -/
def State.rxShut (s : State) (n t : Nat) : Bool :=
  let ws := (s.windowsOf n true).filter s.running
  !ws.isEmpty && ws.all fun w => s.linked w && !s.activeAt w t

/-- The TX gate of a lane for the sample that leaves stage 13 at an instant, 0.32 µs before TXOUT (R215): every running window that names it is
linked and its gate closed (DEDUCED, log entry 128). -/
def State.txShut (s : State) (n t : Nat) : Bool :=
  let ws := (s.windowsOf n false).filter s.running
  !ws.isEmpty && ws.all fun w => s.linked w && !s.txGate w (t + 315)

/-- The receive samples that stages 6 and 7 give (R59, R66, R208, R215): narrowed; 0 from a lane outside ON, at instants at which its RX gate is
closed, and from what a bank's cleared history would build. -/
def State.received (s : State) (rx : List (Nat × List (Int × Int))) : List (Nat × List (Int × Int)) :=
  (rx.filter fun p => bit s.lane.rxLive (p.1 / 2048)).map fun p =>
    if p.1 % 2048 = 0 then
      (p.1, (p.2.zip (List.range p.2.length)).map fun q =>
        if s.rxShut (p.1 / 2048) (s.now + q.2) then (0, 0) else (clamp16 q.1.1, clamp16 q.1.2))
    else
      let d := profD (s.get Fd.CHN_LPROF_RX_PROFILE (p.1 / 2048))
      let from_ := mapGet 0 s.win.fresh (2 * (p.1 / 2048) + 1)
      (p.1, (p.2.zip (List.range p.2.length)).map fun q =>
        if s.now + q.2 * d < from_ || s.rxShut (p.1 / 2048) (s.now + q.2 * d) then (0, 0) else (sat18 q.1.1, sat18 q.1.2))

/-! ### Stages 8 to 10 (R80, R153, R67) -/

/-- The residual of receive subband `k` of an RX lane over the grid tick (R80). -/
def State.residual (s : State) (rx : List (Nat × List (Int × Int))) (lane k n : Nat) : List (Int × Int) :=
  let rs := samplesOf rx (chanKey lane k) n
  let es := (s.covering lane k).map fun p => samplesOf s.can.est (rowKey p (k - s.pFirst p)) n
  (List.range n).map fun i =>
    let r := rs.getD i (0, 0)
    let e := es.foldl (fun (a : Int × Int) l => (a.1 + (l.getD i (0, 0)).1, a.2 + (l.getD i (0, 0)).2)) (0, 0)
    (sat18 (r.1 - e.1), sat18 (r.2 - e.2))

/-- A row under reload closes its subband on its receive branch (R97). -/
def State.rowShut (s : State) (lane k : Nat) : Bool :=
  (s.covering lane k).any fun p =>
    let x := s.row p (k - s.pFirst p)
    x.restoring && decide (x.shutAt ≤ s.time.gt)

/-- The domain of entry `i` of a window where its subband is open at stage 9 on a receive lane (R67, R97, R153, R193, R233). -/
def State.openDomain (s : State) (w i lane : Nat) : Option Nat :=
  if s.blanked w || (s.gated w i && !(s.gate w i).isOpen) || s.rowShut lane (s.get Fd.CHN_WRX_RX_FIRST w + i) ||
      !bit (s.tbl w (s.actBank w) 1 (i / 32)).toNat (i % 32) then none
  else match routeDomain (s.tbl w (s.actBank w) 0 i) with
    | some d => if s.domOpen d then some d else none
    | none => none

/-- The factor of stage 9: `rnd(2^24 × 10^(applied ÷ 10240), 0)`. -/
def State.gainFactor (s : State) (d : Nat) : Int := (pow10Round (2 ^ 24) (s.getI Fd.CON_GAPP_APPLIED d) 10240 (2 ^ 36) : Int)

/-! ### Stage 11 (R70) -/

/-- Taps of the trim set that lists transmit subband `j` of a window, in the active bank. -/
def State.trimTapsOf (s : State) (w j : Nat) : Option (List (Int × Int)) :=
  let n := trimTaps (s.get Fd.CHN_WCTL_TRIM w)
  let t := fun k i => s.tbl w (s.actBank w) k i
  let lists := fun k => decide (trimFirst (t k 0) ≤ j) && decide (j < trimFirst (t k 0) + trimSubs (t k 0))
  let taps := fun k => (List.range n).map fun m => complexWord (t k (1 + 7 * (j - trimFirst (t k 0)) + m))
  if lists 2 then some (taps 2) else if lists 3 then some (taps 3) else none

/-- One output of stage 11 from the samples, newest first. -/
def trimSample (taps : Option (List (Int × Int))) (l : Nat) (x : List (Int × Int)) : Int × Int :=
  match taps with
  | some h => firSum sat18 h x
  | none => x.getD l (0, 0)

/-- Stage 11 for a transmit subband over the grid tick: outputs and the history after. -/
def State.trimBlock (s : State) (w lane j : Nat) (xs : List (Int × Int)) : List (Int × Int) × List (Int × Int) :=
  let n := trimTaps (s.get Fd.CHN_WCTL_TRIM w)
  if n = 0 then (xs, [])
  else firBlock (trimSample (s.trimTapsOf w j) ((n - 1) / 2)) 6 xs (mapGet [] s.win.trimHist (chanKey lane j))

/-! ### Stage 12 (R71, R72) -/

/-- The phase step of a window: `(fq × 2^40) ÷ (20 × rate)`, half away from zero. -/
def phaseStep (fq : Int) (perTick : Nat) : Int := divRnd (fq * 2 ^ 40) (((20 * perTick * 640000 : Nat) : Int))

/-- Angle indexes of the samples of a grid tick, and the phase after it. -/
def State.angles (s : State) (w n : Nat) : List Nat × Nat :=
  let inc := phaseStep (signed 18 (mapGet 0 s.win.dopNow w)) n
  let ph := fun i : Nat => ((((mapGet 0 s.win.phase w : Nat) : Int) + inc * ((i : Int) + 1)) % 2 ^ 40).toNat
  ((List.range n).map fun i => ph i / 2 ^ 24, if n = 0 then mapGet 0 s.win.phase w else ph (n - 1))

/-- A sample rotated. -/
def rotate (p : Nat) (x : Int × Int) : Int × Int :=
  if p = 0 then (sat18 (rnd (x.1 * rotC 0 - x.2 * rotS 0) 15), sat18 (rnd (x.2 * rotC 0 + x.1 * rotS 0) 15))
  else (sat18 (rnd (x.1 * rotC p - x.2 * rotS p) 15), sat18 (rnd (x.2 * rotC p + x.1 * rotS p) 15))

def rotateBlock (angles : List Nat) (xs : List (Int × Int)) : List (Int × Int) :=
  (angles.zip xs).map fun p => if p.2 = (0, 0) then (0, 0) else rotate p.1 p.2

/-! ### One window over a grid tick -/

/-- A subband that a route entry with its mask bit gives to a domain, over a grid tick: branch, TX key, whether it was open at stage 9, its
samples, and its power before stage 9 and after stage 12. -/
structure SubTick where
  dom : Nat
  branch : Nat
  key : Nat
  isOpen : Bool
  samples : Nat
  zpow : Nat
  xpow : Nat
  deriving DecidableEq, Repr

/-- What a grid tick of a window gives: residuals by RX key, stage-12 outputs by TX key, the trim and FIR histories after, the subbands of its
domains. -/
structure TickOut where
  z : List (Nat × List (Int × Int))
  x : List (Nat × List (Int × Int))
  trim : List (Nat × List (Int × Int))
  fir : List (Nat × List (Int × Int))
  subs : List SubTick
  deriving DecidableEq, Repr

def TickOut.none : TickOut := ⟨[], [], [], [], []⟩

def TickOut.join (a b : TickOut) : TickOut := ⟨a.z ++ b.z, a.x ++ b.x, a.trim ++ b.trim, a.fir ++ b.fir, a.subs ++ b.subs⟩

/-- Entry `i` of a subband window on branch `b`. -/
def State.entryTick (s : State) (rx : List (Nat × List (Int × Int))) (w b i : Nat) (angles : List Nat) : TickOut :=
  let n := s.winRate w
  let rl := (s.lanesOf w true).getD b 0
  let tl := (s.lanesOf w false).getD b 0
  let k := s.get Fd.CHN_WRX_RX_FIRST w + i
  let j := s.get Fd.CHN_WTX_TX_FIRST w + i
  let z := s.residual rx rl k n
  let dom := if s.tddIdle w then none else s.openDomain w i rl
  let y := match dom with
    | some d => z.map (scaleSample (s.gainFactor d) 24 sat18)
    | none => z.map fun _ => (0, 0)
  let t := s.trimBlock w tl j y
  let x := if s.tddIdle w then y else rotateBlock angles t.1
  ⟨[(chanKey rl k, z)], [(chanKey tl j, x)], [(chanKey tl j, trimZero t.2)], [],
    match routeDomain (s.tbl w (s.actBank w) 0 i) with
    | some d => if bit (s.tbl w (s.actBank w) 1 (i / 32)).toNat (i % 32) then
        [⟨d, b, chanKey tl j, dom.isSome, n, powerSum z, powerSum x⟩] else []
    | none => []⟩

/-- A direct window on branch `b`: the window FIR, the gain and the rotation of its stream (R23, R70, R153). -/
def State.directTick (s : State) (rx : List (Nat × List (Int × Int))) (w b : Nat) (angles : List Nat) : TickOut :=
  let rl := (s.lanesOf w true).getD b 0
  let tl := (s.lanesOf w false).getD b 0
  let taps := (List.range (if s.get Fd.CHN_WCTL_PROTO w = 0 then 257 else 129)).map fun m => complexWord (s.tbl w (s.actBank w) 4 m)
  let r := firBlock (firSum clamp16 taps) 256 (samplesOf rx (chanKey rl 0) 1536) (mapGet [] s.win.firHist rl)
  let d := s.get Fd.CHN_WDOM_DOMAIN w
  let open1 := s.domOpen d && !s.blanked w && !s.tddIdle w
  let y := if open1 then r.1.map (scaleSample (s.gainFactor d) 24 clamp16) else r.1.map fun _ => (0, 0)
  let x := rotateBlock angles y
  ⟨[], [(chanKey tl 0, x)], [], [(rl, trimZero r.2)], [⟨d, b, chanKey tl 0, open1, 1536, powerSum r.1, powerSum x⟩]⟩

/-- A running window over the grid tick, both branches. -/
def State.windowTick (s : State) (rx : List (Nat × List (Int × Int))) (w : Nat) : TickOut :=
  let n := s.winRate w
  let angles := (s.angles w n).1
  if s.get Fd.CHN_WCTL_PROFILE w = 0 then (s.directTick rx w 0 angles).join (s.directTick rx w 1 angles)
  else (List.range (s.get Fd.CHN_WRX_COUNT w)).foldl (fun a i =>
    (a.join (s.entryTick rx w 0 i angles)).join (s.entryTick rx w 1 i angles)) TickOut.none

/-- The running windows. -/
def State.runningWindows (s : State) : List Nat := (List.range 16).filter s.running

/-! ### Stages 13 to 16 (R23, R25, R44, R52, R53, R59) -/

/-- The stream of a TX lane after stage 13: what the synthesis bank rebuilds, or a direct window's stream unchanged, clamped; 0 until the
through-delay after the bank's load (R66), and where the lane's TX gate is closed (R215). -/
def State.composite (s : State) (x synth : List (Nat × List (Int × Int))) (n : Nat) : List (Int × Int) :=
  let direct := (s.windowsOf n false).any fun w => s.running w && s.get Fd.CHN_WCTL_PROFILE w == 0
  let z := if direct then mapGet [] x (chanKey n 0) else mapGet [] synth n
  (z.zip (List.range z.length)).map fun v =>
    if s.now + v.2 < mapGet 0 s.win.fresh (2 * n) || s.txShut n (s.now + v.2) then (0, 0) else (clamp16 v.1.1, clamp16 v.1.2)

/-- The stream after stage 14: the probe is added where the pilot is present, and the sum clamped. -/
def State.withProbe (s : State) (probe : List (Nat × List (Int × Int))) (n : Nat) (z : List (Int × Int)) : List (Int × Int) :=
  if s.pilotOn n then
    let p := mapGet [] probe n
    (List.range (max z.length p.length)).map fun i =>
      let a := z.getD i (0, 0)
      let b := p.getD i (0, 0)
      (clamp16 (a.1 + b.1), clamp16 (a.2 + b.2))
  else z

/-- A quarter-wave of the raised cosine over 256 rail samples, rising, with 15 fraction bits. -/
def raisedCosine (k : Nat) : Int := if 256 ≤ k then 32768 else (32768 - rotC (128 * k)) / 2

/-- The factor of the mute stage at rail sample `k` of the grid tick, 15 fraction bits: 0 while the lane is muted or its unmute ramp has yet
to begin, along the ramp while one runs, which takes the first 256 samples of the tick (log entry 122). -/
def State.muteFactor (s : State) (n k : Nat) : Int :=
  let ramp := s.getB Fd.LANE_TX_MUTE_RAMPING n
  if s.getB Fd.LANE_TX_MUTE_MUTED n || bit s.lane.unmute n then (if ramp then 32768 - raisedCosine k else 0)
  else if ramp then raisedCosine k else 32768

/-- The code of a DAC slice: `clamp(rnd(x, 2), −8191, 8191)` (R44). -/
def dacCode (x : Int) : Int := clampI (rnd x 2) (-8191) 8191

/-- The codes of a TX lane's slices over the grid tick, from its corrected rails. -/
def State.dacTick (s : State) (n : Nat) (rails : List (Int × Int)) : List (Int × Int) :=
  let swap := s.getB Fd.LANE_CTL_TX_IQSWAP n
  let inv := s.getB Fd.LANE_CTL_TX_INV n
  (rails.zip (List.range rails.length)).map fun p =>
    let v := polarity swap inv p.1
    let f := s.muteFactor n p.2
    (dacCode (rnd (v.1 * f) 15), dacCode (rnd (v.2 * f) 15))

/-- Entries of a sparse list that are not all zeros. -/
def listed (l : List (Nat × List (Int × Int))) : List (Nat × List (Int × Int)) := l.filter fun p => !(p.2.all fun v => v == (0, 0))

/-- The TX lanes over the grid tick that ends: their share of the sheet's power at stage 13, their streams and slice codes. -/
def State.sendTick (s : State) (inp : TickInput) (x : List (Nat × List (Int × Int))) : State :=
  let l := (List.range 16).map fun n => (n, s.composite x inp.synth n)
  let stream := l.map fun p => (p.1, s.withProbe inp.probe p.1 p.2)
  let dac := inp.dac.map fun p => (p.1, s.dacTick p.1 p.2)
  let s := forEach l s fun s p =>
    let q := powerSum p.2
    if q = 0 then s else s.setLaneX p.1 { s.laneX p.1 with sent := (s.laneX p.1).sent + q }
  { s with out := { s.out with tx := listed x, stream := listed stream, dac := listed dac } }

/-! ### Gates (R193 to R196) -/

/-- Gates exist in the window: its own, and for a linked window only with the uplink role (R195). -/
def State.gateWindow (s : State) (w : Nat) : Bool :=
  s.get Fd.CHN_WCTL_PROFILE w != 0 && (!s.getB Fd.CHN_WCTL_LINK_EN w || s.getB Fd.CHN_WCTL_TDD_UL w)

/-- The floor F of a gate, a fraction (R196): the lowest mean among the sheets in which the gate was closed for half of the active
ticks, among every sheet until there is one. -/
def Gate.floor (g : Gate) : Option (Nat × Nat) :=
  let l := if g.sheets.any fun q => q.2.2 then g.sheets.filter fun q => q.2.2 else g.sheets
  match l with
  | [] => none
  | q :: qs => some (qs.foldl (fun a x => if x.1 * a.2 < a.1 * x.2.1 then (x.1, x.2.1) else a) (q.1, q.2.1))

/-- The detector fires: a sum over 2S samples above `2S × F × 10^(THRESH ÷ 10)`. -/
def gateFires (sum n thresh : Nat) (floor : Option (Nat × Nat)) : Bool :=
  match floor with
  | some (f, len) => decide ((2 * n * f) ^ 10 * 10 ^ thresh < (sum * len) ^ 10)
  | none => false

/-- A gate over one grid tick in which its window was active, with the power of the tick. -/
def Gate.tick (g : Gate) (n thresh now : Nat) : Gate :=
  let fires := gateFires (g.last + now) n thresh g.floor
  { g with
    isOpen := g.isOpen || fires
    since := if fires then 0 else g.since + 1
    last := now
    sheetSum := g.sheetSum + now
    sheetLen := g.sheetLen + n
    openTicks := g.openTicks + b2n g.isOpen
    activeTicks := g.activeTicks + 1 }

/-- The gates of a window over the grid tick; the stronger branch counts. The gates of a window that does not run are cleared. -/
def State.gateTick (s : State) (z : List (Nat × List (Int × Int))) (w : Nat) : State :=
  if !s.gateWindow w then s
  else if !s.running w then
    if s.win.gates.any fun p => p.1 / 2048 == w then
      { s with win := { s.win with gates := s.win.gates.filter fun p => p.1 / 2048 != w } }.refreshGates w
    else s
  else if s.tddIdle w then
    let upd := fun (p : Nat × Gate) => if p.1 / 2048 = w then (p.1, ({ p.2 with last := 0 } : Gate)) else p
    { s with win := { s.win with gates := s.win.gates.map upd } }
  else
    let pow := fun lane i => powerSum (mapGet [] z (chanKey lane (s.get Fd.CHN_WRX_RX_FIRST w + i)))
    let s := forEach ((List.range (s.get Fd.CHN_WRX_COUNT w)).filter fun i => s.gated w i) s fun s i =>
      let now := ((s.lanesOf w true).map fun n => pow n i).foldl max 0
      let g := (s.gate w i).tick (s.winRate w) (s.get Fd.FLT_GCFG_THRESH w) now
      { s with win := { s.win with gates := mapSet Gate.reset s.win.gates (2048 * w + i) g } }
    s.refreshGates w

/-- A gate at a sheet boundary: its sheet enters the floor's list of the latest `most` sheets (R196). -/
def Gate.closeSheet (g : Gate) (most : Nat) : Gate :=
  let sheets := if g.sheetLen = 0 then g.sheets
    else ((g.sheetSum, g.sheetLen, decide (g.activeTicks ≤ 2 * (g.activeTicks - g.openTicks))) :: g.sheets).take most
  { g with sheets := sheets, sheetSum := 0, sheetLen := 0, openTicks := 0, activeTicks := 0 }

/-- The gates at a sheet boundary: GSTAT.DUTY, saturating in Q1.15, then the floors. -/
def State.closeGateSheets (s : State) : State :=
  let s := forEach (List.range 16) s fun s w =>
    let l := s.win.gates.filter fun p => p.1 / 2048 == w
    let act := (l.map fun p => p.2.activeTicks).sum
    let on1 := (l.map fun p => p.2.openTicks).sum
    s.set Fd.FLT_GSTAT_DUTY (if act = 0 then 0 else min (divRnd ((32768 * on1 : Nat) : Int) (act : Int)).toNat 32767) w
  let most := s.legN 0x5023
  { s with win := { s.win with gates := s.win.gates.map fun p => (p.1, p.2.closeSheet most) } }

/-! ### Oscillation (R165) -/

/-- Ticks of power kept per domain and branch: COUNT × Lg + 1 at most. -/
def powerTicks : Nat := 766

/-- `a ≥ 10^(g ÷ 160) × b`, exactly. -/
def grown (g a b : Nat) : Bool := decide (10 ^ g * b ^ 160 ≤ a ^ 160)

/-- `p ≥ n × 10^(f ÷ 160) × 2^30`: mean power over `n` samples of open subbands at or above FLOOR. -/
def aboveFloor (f : Int) (p n : Nat) : Bool := decide ((n * 2 ^ 30) ^ 160 * 10 ^ f.toNat ≤ p ^ 160 * 10 ^ (-f).toNat)

/-- The chain of COUNT periods of growth, newest first. -/
def chain (grow lg : Nat) (l : List (Option Nat)) : Nat → Nat → Bool
  | 0, _ => true
  | k + 1, i =>
    match l.getD (i * lg) none, l.getD ((i + 1) * lg) none with
    | some a, some b => grown grow a b && chain grow lg l k (i + 1)
    | _, _ => false

/-- The detector of a domain on a branch in the grid tick that ends: `p` its power, none where the tick breaks the chain, over `n`
samples. -/
def State.oscTick (s : State) (w d b : Nat) (p : Option Nat) (n : Nat) : State :=
  let old := mapGet [] s.con.power (2 * d + b)
  let l := if p.isNone ∧ old.all Option.isNone then [] else (p :: old).take powerTicks
  let s := { s with con := { s.con with power := mapSet [] s.con.power (2 * d + b) l } }
  let lg := s.get Fd.CON_WOSC_LG w
  match p with
  | none => s
  | some v =>
    let count := s.get Fd.CON_OSC_CFG_COUNT
    if s.getB Fd.CON_OSC_CFG_EN && aboveFloor (s.getI Fd.CON_OSC_CFG_FLOOR) v n && chain (s.get Fd.CON_OSC_CFG_GROW) lg l count 0 &&
        !(s.con.osc.any fun q => q.1 == d) then
      let before := match l.getD lg none with
        | some x => x
        | none => 0
      let growth := if before = 0 then 32767 else logRound 160 v before
      { s with con := { s.con with osc := s.con.osc ++ [(d, s.time.gt + 2, growth)] } }
    else s

/-- The detectors of every domain of the running windows; those of a domain whose window does not run see their chain broken (R165). -/
def State.oscTicks (s : State) (subs : List SubTick) : State :=
  let tab := s.domTable.filter fun p => s.running p.2
  let s := forEach tab s fun s p =>
    let s := s.refreshLg p.2
    forEach [0, 1] s fun s b =>
      let l := subs.filter fun q => q.dom == p.1 && q.branch == b && q.isOpen
      let broken := l.isEmpty || s.tddIdle p.2 || s.gatedShut p.2 p.1 || !s.domOpen p.1
      s.oscTick p.2 p.1 b (if broken then none else some (l.map (·.zpow)).sum) (l.length * s.winRate p.2)
  let still := s.con.power.filter fun p => !(tab.any fun q => q.1 == p.1 / 2)
  forEach still s fun s p => s.oscTick 0 (p.1 / 2) (p.1 % 2) none 0

/-! ### The reference (R81) -/

/-- Emission factor of a TX lane and whether it is RAMPING, as it stands, in the first 128 stream samples of the grid tick and after them: a
ramp of 256 rail samples takes the first (R52, R53). The factor is 0 while MUTED or RAMPING, and until an unmute ramp begins, else
`min(rnd(32768 × 10^(−ATTEN ÷ 40)), 32767)`. -/
def State.emission (s : State) (n : Nat) : (Int × Bool) × (Int × Bool) :=
  let ramp := s.getB Fd.LANE_TX_MUTE_RAMPING n
  if s.getB Fd.LANE_TX_MUTE_MUTED n || bit s.lane.unmute n then ((0, ramp), (0, false))
  else
    let full : Int := pow10Round 32768 (-((s.laneX n).attenNow : Int)) 40 32767
    (if ramp then (0, true) else (full, false), (full, false))

/-- Ls of R81, stream samples: half the digital latency with trims off. -/
def emissionDelay (prof proto : Nat) : Nat := latency prof proto 0 / 2

/-- The emission factor of sample `q` of the grid tick that ends: that of its emission instant, in this grid tick or the next. -/
def State.factorAt (s : State) (w q : Nat) (this next : (Int × Bool) × (Int × Bool)) : Int × Bool :=
  let prof := s.get Fd.CHN_WCTL_PROFILE w
  let at_ := q * profD prof + emissionDelay prof (s.get Fd.CHN_WCTL_PROTO w)
  let f := if at_ < 1536 then this else next
  if at_ % 1536 < 128 then f.1 else f.2

def RefSample.zero : RefSample := ⟨0, 0, 0, 0, false⟩

/-- Samples of the sequence of a pilot (R161). -/
def pilotPeriod : Nat := 2147483647

/-- The pilots' subband samples over the grid tick that ends (R161): in subbands that are open at stage 9, on lanes whose pilot is present, at
the level of their domain. -/
def State.pilotTick (s : State) (subs : List SubTick) : List (Nat × List (Int × Int)) :=
  (subs.filter fun q => q.isOpen && s.pilotOn (q.key / 2048)).filterMap fun q =>
    (s.con.pilots.find? fun p => p.1 == 256 * (q.key / 2048) + q.dom).map fun lv =>
      (q.key, (List.range q.samples).map fun i =>
        Config.pilotSample (q.key / 2048) (q.key % 2048) ((s.time.gt * q.samples + i) % pilotPeriod) lv.2)

/-- What a grid tick adds to the sums of the domains (R143, R159, R160), the reference apart. -/
def State.sumTick (s : State) (subs : List SubTick) : State :=
  forEach ((subs.map (·.dom)).eraseDups) s fun s d =>
    let l := subs.filter fun q => q.dom == d
    let o := l.filter (·.isOpen)
    let count := fun b => ((o.filter fun q => q.branch == b).map (·.samples)).sum
    s.addSum d ⟨(l.map (·.xpow)).sum, o.map fun q => (q.key, q.xpow, q.samples), max (count 0) (count 1), 0, 0, 0, 0⟩

/-- The power of the latest `n` samples of a reference, newest first, and their correlation with the samples `lag` before. -/
def refSums (l : List RefSample) (n lag : Nat) : Nat × Int × Int :=
  (List.range n).foldl (fun (a : Nat × Int × Int) q =>
    let u := l.getD q RefSample.zero
    let v := l.getD (q + lag) RefSample.zero
    (a.1 + powerOf (u.ri, u.rq), a.2.1 + u.ri * v.ri + u.rq * v.rq, a.2.2 + u.rq * v.ri - u.ri * v.rq)) (0, 0, 0)

/-- The reference over the open subbands of the domains in the grid tick that ended (R159). -/
def State.sumRefs (s : State) (subs : List SubTick) : State :=
  let tab := s.domTable
  forEach (subs.filter (·.isOpen)) s fun s q =>
    let w := (windowIn tab q.dom).getD 0
    if s.get Fd.CHN_WCTL_PROFILE w = 0 then s
    else
      let r := refSums (mapGet [] s.can.refs q.key) q.samples (s.loopLag w)
      s.addSum q.dom ⟨0, [], 0, r.1, q.samples, r.2.1, r.2.2⟩

/-- The reference samples of one TX lane over the grid tick that ends, newest first, by subband. -/
def State.laneRefs (s : State) (x pilot : List (Nat × List (Int × Int))) (n : Nat) (this next : (Int × Bool) × (Int × Bool)) :
    List (Nat × List RefSample) :=
  let ws := (s.windowsOf n false).filter fun w => s.running w && s.get Fd.CHN_WCTL_PROFILE w != 0
  match ws with
  | [] => []
  | w0 :: _ =>
    let rate := s.winRate w0
    let subs := ws.flatMap fun w => (List.range (s.get Fd.CHN_WRX_COUNT w)).map fun i => s.get Fd.CHN_WTX_TX_FIRST w + i
    let lin := subs.map fun j =>
      let a := samplesOf x (chanKey n j) rate
      let b := samplesOf pilot (chanKey n j) rate
      (j, (List.range rate).map fun q =>
        let f := (s.factorAt w0 q this next).1
        let v := ((a.getD q (0, 0)).1 + (b.getD q (0, 0)).1, (a.getD q (0, 0)).2 + (b.getD q (0, 0)).2)
        scaleSample f 15 sat18 v)
    let envq := (List.range rate).map fun q =>
      usat (rnd (((lin.map fun p => powerOf (p.2.getD q (0, 0))).sum : Nat) : Int) 15) 16
    lin.map fun p => (chanKey n p.1, (List.range rate).reverse.map fun q =>
      let r := p.2.getD q (0, 0)
      let c := scaleSample (envq.getD q 0) 15 sat18 r
      ⟨r.1, r.2, c.1, c.2, (s.factorAt w0 q this next).2⟩)

/-- Samples kept per reference: the longest lag and two grid ticks. -/
def refDepth : Nat := 2112

/-- Every reference moves on by a grid tick; where nothing ran, by zeros. -/
def State.pushRefs (s : State) (new : List (Nat × List RefSample)) : State :=
  let keys := ((s.can.refs.map Prod.fst) ++ (new.map Prod.fst)).eraseDups
  let refs := keys.foldl (fun m k =>
    let rate := match s.windowsOf (k / 2048) false with
      | w :: _ => s.winRate w
      | [] => 16
    let add := match mapGet [] new k with
      | [] => List.replicate rate RefSample.zero
      | l => l
    let l := (add ++ mapGet [] s.can.refs k).take refDepth
    mapSet [] m k (if l.all fun r => r == RefSample.zero then [] else l)) ([] : List (Nat × List RefSample))
  { s with can := { s.can with refs := refs } }

/-! ### Filtering (R90) -/

/-- A row's reference list, and a sample of it at an age, 0 from before the path was enabled. -/
def State.rowRef (s : State) (p r : Nat) : List RefSample := mapGet [] s.can.refs (chanKey (s.pTx p) (s.pFirst p + r))

/-- Grid ticks since the path was bound. -/
def State.pathTicks (s : State) (p : Nat) : Nat :=
  match s.pathX p with
  | some x => s.time.gt - x.since
  | none => 0

/-- Grid ticks for which a row's reference counts: since its path was bound (R90), and since the ring it reads began to fill (R113,
R114). -/
def State.rowTicks (s : State) (p r : Nat) : Nat :=
  let ring := s.svy.rings.find? fun g =>
    some g.party == s.svy.partyOf p r && g.lane == s.pTx p && g.cubic == s.pCubic p && g.sub == s.pFirst p + r
  match ring with
  | some g => min (s.pathTicks p) (s.time.gt - g.since)
  | none => 0

/-- The reference sample `age` samples before the last one of the grid tick that ended. -/
def refAt (l : List RefSample) (cubic : Bool) (limit age : Nat) : Int × Int :=
  if limit ≤ age then (0, 0)
  else
    let r := l.getD age RefSample.zero
    if cubic then (r.ci, r.cq) else (r.ri, r.rq)

/-- The contributions of a row for the grid tick that begins. -/
def State.rowEstimate (s : State) (p r : Nat) : List (Int × Int) :=
  let coef := (s.row p r).coef
  let l := s.rowRef p r
  if coef.isEmpty || l.isEmpty then []
  else
    let n := s.pS p
    let lag := s.pLag p
    let limit := n * s.rowTicks p r
    let e := 14 + s.pWexp p
    let w18 := coef.map fun w => (sat (rnd w.1 6) 18, sat (rnd w.2 6) 18)
    (List.range n).map fun q =>
      let acc := (w18.zip (List.range w18.length)).foldl (fun (a : Int × Int) t =>
        let u := refAt l (s.pCubic p) limit (lag + t.2 - 1 - q)
        (a.1 + t.1.1 * u.1 - t.1.2 * u.2, a.2 + t.1.1 * u.2 + t.1.2 * u.1)) (0, 0)
      (sat (rnd acc.1 e) 20, sat (rnd acc.2 e) 20)

/-- The contributions of every row of every bound path for the grid tick that begins. -/
def State.estimates (s : State) : State :=
  let est := s.activePaths.foldl (fun m p =>
    (List.range (s.pRows p)).foldl (fun m r => mapSet [] m (rowKey p r) (trimZero (s.rowEstimate p r))) m) ([] : List (Nat × List (Int × Int)))
  { s with can := { s.can with est := est } }

/-! ### Adaptation (R91, R92) -/

/-- A value shifted right with rounding, or left where the shift is negative. -/
def shiftBy (v sh : Int) : Int := if 0 < sh then rnd v sh.toNat else v * 2 ^ (-sh).toNat

/-- The normaliser of a row: sk and sh from the sum of squares of the sheet that closed. -/
def normaliser (taps sumsq dsh mu boost wexp : Nat) : Int × Int :=
  let den := (rnd ((taps * sumsq : Nat) : Int) 6).toNat + 2 ^ dsh
  let e := Nat.log2 den + 1
  let m := min (divRnd ((2 ^ (e + 14) : Nat) : Int) (den : Int)) 32767
  let mue := min (rnd ((mu * boost : Nat) : Int) 4) 32767
  (rnd (mue * m) 15, (e : Int) - 6 - (wexp : Int))

/-- The normalisers at a sheet boundary, with the BOOST of the position closed at it (R91, R93). -/
def State.normaliseRows (s : State) : State :=
  forEach s.activePaths s fun s p =>
    let w := s.pWin p
    forEach (List.range (s.pRows p)) s fun s r =>
      let x := s.row p r
      let q := normaliser (s.pTaps p) x.sumsq (s.get Fd.CAN_PCFG3_DSH p) (s.get Fd.CAN_PCFG3_MU p) (s.get Fd.CAN_WBOOST_BOOST w)
        (s.pWexp p)
      s.setRow p r { x with skNext := q.1, shNext := q.2, sumsq := 0 }

/-- The normalisers computed at the boundary govern from grid tick 1. -/
def State.takeNormalisers (s : State) : State :=
  { s with can := { s.can with rows := s.can.rows.map fun k => (k.1, ({ k.2 with sk := k.2.skNext, sh := k.2.shNext } : RowX)) } }

/-- The sample ages that an update of a row reads: per tap, over the samples of the grid tick before the one that ended. -/
def updateAge (n lag j q : Nat) : Nat := 2 * n - 1 - q + lag + j

/-- An update of a row is skipped (R92). -/
def State.updateHeld (s : State) (p r : Nat) : Bool :=
  let x := s.row p r
  let n := s.pS p
  let l := s.rowRef p r
  let first := updateAge n (s.pLag p) 0 (n - 1)
  x.frozen || x.restoring || !bit s.can.prevRan (s.pWin p) || bit s.can.prevClip (s.pRx p) ||
    (((l.drop first).take (n + s.pTaps p - 1)).any fun u => u.ramp)

/-- Taps of a row that a late piece leaves as they are (R108). -/
def State.skippedTap (s : State) (p r j : Nat) : Bool :=
  s.svy.skipped.any fun q => q.path == p && decide (q.row ≤ r ∧ r < q.row + q.rows) && decide (q.tap ≤ j ∧ j < q.tap + q.taps)

/-- One tap after an update: its new rails, and whether one saturated. -/
def updateTap (w g : Int × Int) (sk sh : Int) (lsh : Nat) : (Int × Int) × Bool :=
  let one := fun (v g : Int) =>
    let leak := if lsh = 0 then 0 else rnd v lsh
    let t := v - leak + shiftBy (g * sk) sh
    (sat t 24, decide (sat t 24 ≠ t))
  ((one w.1 g.1).1, (one w.2 g.2).1) |> fun v => (v, (one w.1 g.1).2 || (one w.2 g.2).2)

/-- Coefficients without the zeros at the far end. -/
def dropZeros (l : List (Int × Int)) : List (Int × Int) := (l.reverse.dropWhile fun w => w == (0, 0)).reverse

/-- The update of a row in the grid tick that ended; sk is halved for 80 sheets after a reopening (R97). -/
def State.updateRow (s : State) (p r : Nat) : State :=
  let x := s.row p r
  let n := s.pS p
  let zs := samplesOf s.can.zPrev (chanKey (s.pRx p) (s.pFirst p + r)) n
  let l := s.rowRef p r
  let limit := n * s.rowTicks p r
  let sk := if x.halfEnd.isSome then rnd x.sk 1 else x.sk
  let taps := (List.range (s.pTaps p)).map fun j =>
    let w := x.coef.getD j (0, 0)
    if s.skippedTap p r j then (w, false)
    else
      let g := (List.range n).foldl (fun (a : Int × Int) q =>
        let z := zs.getD q (0, 0)
        let u := refAt l (s.pCubic p) limit (updateAge n (s.pLag p) j q)
        (a.1 + z.1 * u.1 + z.2 * u.2, a.2 + z.2 * u.1 - z.1 * u.2)) (0, 0)
      updateTap w g sk x.sh (s.get Fd.CAN_PCFG2_LSH p)
  let full := taps.any fun t => t.2
  let s := s.setRow p r { x with coef := dropZeros (taps.map fun t => t.1), satNow := x.satNow || full }
  if full then s.setB Fd.CAN_PSTAT_SAT true p else s

/-- The updates of a path in grid tick `g` of the sheet: rows with (g + r) mod K = 0; those skipped, in all or in the taps of a piece that was
not accepted (R110), set HOLD and are counted. -/
def State.updatePath (s : State) (g p : Nat) : State :=
  let k := s.pK p
  if k = 0 then { s with can := { s.can with held := if s.can.held.contains p then s.can.held else p :: s.can.held } }
  else
    let due := (List.range (s.pRows p)).filter fun r => (g + r) % k == 0
    if due.isEmpty then s
    else
      let skip := due.filter fun r => s.updateHeld p r
      let part := due.filter fun r => !skip.contains r && s.svy.skipped.any fun q => q.path == p && decide (q.row ≤ r ∧ r < q.row + q.rows)
      let s := forEach (due.filter fun r => !skip.contains r) s fun s r => s.updateRow p r
      let rest := s.can.held.filter fun q => q != p
      let s := { s with can := { s.can with held := if skip.isEmpty && part.isEmpty then rest else p :: rest } }
      s.count 7 0 0x10 (skip.length + part.length)

/-! ### The grid tick -/

/-- The receive and residual power of every row over the grid tick (R96). -/
def State.rowPowers (s : State) (rx z : List (Nat × List (Int × Int))) : State :=
  forEach s.activePaths s fun s p =>
    forEach (List.range (s.pRows p)) s fun s r =>
      let key := chanKey (s.pRx p) (s.pFirst p + r)
      let a := powerSum (samplesOf rx key (s.pS p))
      let b := powerSum (mapGet [] z key)
      if a = 0 ∧ b = 0 then s
      else
        let x := s.row p r
        s.setRow p r { x with pr := x.pr + a, pz := x.pz + b }

/-- Reference squares of the rows in grid ticks 16 to 79 of the sheet (R91). -/
def State.rowSquares (s : State) (g : Nat) : State :=
  if g < 16 then s
  else forEach s.activePaths s fun s p =>
    forEach (List.range (s.pRows p)) s fun s r =>
      let limit := s.pS p * s.rowTicks p r
      let a := ((List.range (s.pS p)).map fun m => powerOf (refAt (s.rowRef p r) (s.pCubic p) limit m)).sum
      if a = 0 then s
      else
        let x := s.row p r
        s.setRow p r { x with sumsq := x.sumsq + a }

/-- What the grid tick that ends leaves for after the boundary: its residuals and outputs, the emission factors of the TX lanes, the
windows that ran, the receive rails. -/
structure TickRest where
  z : List (Nat × List (Int × Int))
  x : List (Nat × List (Int × Int))
  factors : List ((Int × Bool) × (Int × Bool))
  ran : Nat
  rails : List (Nat × RailTick)
  subs : List SubTick
  pilot : List (Nat × List (Int × Int))
  deriving DecidableEq, Repr

/-- The samples of the grid tick that ends, under the state that governed it. -/
def State.closeSamples (s : State) (inp : TickInput) : State × TickRest :=
  let ws := s.runningWindows
  let rx := s.received inp.rx
  let t := ws.foldl (fun a w => a.join (s.windowTick rx w)) TickOut.none
  let whole := fun w => s.activeAt w s.now && s.activeAt w (s.now + 1535)
  let ran := listMask (ws.filter fun w => (!s.linked w || whole w) && !bit s.can.broke w)
  let rest : TickRest := ⟨t.z, t.x, (List.range 16).map s.emission, ran,
    inp.raw.map fun p => (p.1, s.railTick p.1 p.2), t.subs, s.pilotTick t.subs⟩
  let s := s.rowPowers rx t.z
  let s := (s.oscTicks t.subs).sumTick t.subs
  let s := forEach (List.range 16) s fun s w => s.gateTick t.z w
  let phase := ws.foldl (fun m w => mapSet 0 m w (s.angles w (s.winRate w)).2) s.win.phase
  let trim := t.trim.foldl (fun m p => mapSet [] m p.1 p.2) s.win.trimHist
  let fir := t.fir.foldl (fun m p => mapSet [] m p.1 p.2) s.win.firHist
  let s := s.sendTick inp t.x
  ({ s with
    win := { s.win with phase := phase, trimHist := trim, firHist := fir }
    lane := { s.lane with rails := listed (rest.rails.map fun r => (r.1, r.2.rails)) } }, rest)

/-- After the boundary: references, contributions for the grid tick that begins, the updates of the one that ended, `g` its number in
the sheet. The contributions rest on the coefficients before those updates. -/
def State.openSamples (s : State) (rest : TickRest) (g : Nat) : State :=
  let new := (List.range 16).flatMap fun n => s.laneRefs rest.x rest.pilot n (rest.factors.getD n ((0, false), (0, false))) (s.emission n)
  let s := ((s.pushRefs new).sumRefs rest.subs).rowSquares g
  let s := s.estimates
  let s := forEach s.activePaths s fun s p => s.updatePath g p
  let s := if g = 0 then s.takeNormalisers else s
  { s with can := { s.can with
    zPrev := listed rest.z
    prevRan := rest.ran
    prevClip := listMask ((rest.rails.filter fun r => r.2.clips != 0).map Prod.fst) } }

/-- The gain index, TX_ATTEN and, at grid tick 1 of the sheet, DOP_FREQ take effect (R42, R51, R72). -/
def State.takeSettings (s : State) : State :=
  let s := forEach (List.range 16) s fun s n =>
    (s.setLaneX n { s.laneX n with attenNow := s.get Fd.LANE_TX_ATTEN_ATTEN n }).refreshApplied n
  if s.time.gt % 80 = 1 then
    { s with win := { s.win with dopNow := (List.range 16).foldl (fun m w => mapSet 0 m w (s.get Fd.CHN_DOP_FREQ_FREQ w)) s.win.dopNow } }
  else s

end Sys2Proof.Machine
end

