-- ==== Sys2Proof/Machine/Registers.lean ====
section
/-!
DEFINITION. The register interface (14_register_interface.md R269 to R286, 00_scope.md R17 to R19): views and levels, reads with their
side effects, writes under the access codes, refused accesses, the alias window, the mailbox pages (13_chart_mailbox_protocol.md R251
to R254) and the service SPI (R267).
-/

namespace Sys2Proof.Machine

/-! ### Masters and levels (Tables 14.1, 14.2, 14.6) -/

/-- Level at which a master is served: 1 maintainer, 2 host-user, 3 host-privileged, 4 Chart, 5 Datum. -/
def State.masterLevel (s : State) : Master → Nat
  | .datum => 5
  | .chart => 4
  | .pciePriv => 3
  | .pcieUser => 2
  | .pcieAlias => 3
  | .spi => s.get Fd.PCI_SPI_RD_LEVEL

/-- Master code of Table 14.6. -/
def masterCode : Master → Nat
  | .datum => 0
  | .chart => 1
  | .pciePriv => 2
  | .pcieUser => 3
  | .pcieAlias => 4
  | .spi => 5

/-- FILT.MST bit of a master (Table 17.8): host 5, maintainer 4, Chart 3, Datum 2. -/
def masterBit : Master → Nat
  | .datum => 2
  | .chart => 3
  | .spi => 4
  | _ => 5

/-- Write level of a register set's block (Table 14.2). -/
def blockWriteLevel (i : Nat) : Nat :=
  if i = 1 ∨ i = 2 ∨ i = 30 then 3 else if i = 28 ∨ i = 32 ∨ i = 34 then 5 else 4

/-- Level that a write of a register needs (R274): OSC_CFG is the Datum core's, FLT.ALERT Chart's, CURSOR and AP_CTL of a bank its
view's (R316). -/
def writeLevel (m : Master) (off : Nat) : Nat :=
  if off = Reg.CON_OSC_CFG.base then 5
  else if off = Reg.FLT_ALERT.base then 4
  else if off = Reg.FBK_CURSOR.base ∨ off = Reg.FBK_AP_CTL.base then
    (match m with
    | .pciePriv | .pcieAlias => 3
    | .pcieUser => 2
    | _ => 4)
  else blockWriteLevel (setOf off)

/-- Level that a read of a register needs (Table 14.2, R285, R337). -/
def State.readLevel (s : State) (off : Nat) : Nat :=
  if off = Reg.SYS_DEV_ID.base ∨ off = Reg.SYS_SERIAL_LO.base ∨ off = Reg.SYS_SERIAL_HI.base then 1
  else if setOf off = 30 then (if s.getB Fd.PMC_CTL_USER_EN then 2 else 3)
  else 2

/-- Instance of the block's counters to which an access of an offset belongs: the LANE instance, the DRAM channel; 32 where the block's
counters are per instance and the register belongs to none. -/
def accessInst (off : Nat) : Nat :=
  let i := setOf off
  if 3 ≤ i ∧ i < 19 then i - 3
  else if i = 22 then 32
  else if i = 31 then (if 0x3C100 ≤ off ∧ off < 0x3C140 then (off - 0x3C100) / 16 else 32)
  else 0

/-- Count a CSR access event (Table 17.2, codes 0x03 to 0x05). -/
def State.countAccess (s : State) (m : Master) (off code : Nat) : State :=
  s.count (blockCode (setOf off)) (accessInst off) code 1
    ⟨some (s.masterLevel m - 1), some (masterBit m), none, some off, some 0⟩

/-- Answer a read. -/
def State.answer (s : State) (v : Word) : State := { s with out := { s.out with readData := v } }

/-- A refused or malformed access (R270, R271, R276) of register set `i`: kind 1 LEVEL, 2 NARROW, 3 ALIAS, 4 READ_WINDOW. -/
def State.refuse (s : State) (m : Master) (i kind off : Nat) (write : Bool) : State :=
  let s := if s.getB (Fd.BLK_STAT_ACC_ERR i) then s
    else (((s.set (Fd.ACC_ADDR_MASTER i) (masterCode m)).set (Fd.ACC_ADDR_KIND i) kind).setB (Fd.ACC_ADDR_WRITE i) write).set
      (Fd.ACC_ADDR_OFFSET i) off
  ((s.setB (Fd.BLK_STAT_ACC_ERR i) true).countAccess m (Reg.setBase i) 5).pulse (regSource i 1)

/-! ### Values that a register shows (the live views) -/

/-- ALERT_N is asserted (R293, R349, R366). -/
def State.alertPin (s : State) : Bool :=
  s.start.frozen || s.flt.alertEnd.isSome || (s.getB Fd.FLT_ALERT_SW && !s.start.inReset)

/-- FEC outputs whose PA_EN is forced inactive (R218): by the Datum core; in freeze and compass mode every one. -/
def State.forcedFec (s : State) : Nat :=
  let st := s.get Fd.PWR_SVC_STATE
  s.paForced ||| (if st = 6 ∨ st = 7 then listMask ((List.range 32).filter fun f => s.get Fd.TDD_FCFG_FUNC f == 1) else 0)

/-- Slot of the last-resort ring written next. -/
def Book.ringNext (b : Book) : Nat :=
  if b.ring.length < 16 then freeSlot b.ring 16
  else match b.ring with
    | k :: _ => k.slot
    | [] => 0

/-- A word with some bits replaced. -/
def withBits (v : Word) (lsb width x : Nat) : Word := setBits v lsb width x

/-- FBK registers (Tables 16.10, 16.11), the aperture apart. -/
def State.bookView (s : State) (p : RegAt) (off : Nat) : Word :=
  let b := s.book
  let r := p.reg.base
  if r = Reg.FBK_STAT.base then b.statWord
  else if r = Reg.FBK_NEXT_SEQ.base then wd b.nextSeq
  else if r = Reg.FBK_OLDEST_SEQ.base then wd b.oldest
  else if r = Reg.FBK_RETAINED.base then wd b.all.length
  else if r = Reg.FBK_OVW.base then wd (mapGet 0 b.ovw p.i)
  else if r = Reg.FBK_DROP.base then wd (mapGet 0 b.drop p.i)
  else if r = Reg.FBK_COAL.base then wd b.coal
  else if r = Reg.FBK_CLR_TOTAL.base then wd b.clrTotal
  else if r = Reg.FBK_RETRIES.base then wd b.retries
  else if r = Reg.FBK_CRC_CNT.base then wd b.crcCnt
  else if r = Reg.FBK_CAUSE.base then wd b.cause
  else if r = Reg.FBK_LRR_STAT.base then wd (b.ring.length * 16 + b.ringNext)
  else if r = Reg.FBK_LRR.base then
    (match b.ring.find? fun k => k.slot == p.i with
    | some k => nth k.words p.j
    | none => 0)
  else s.reg off

/-- The aperture registers of a bank (R316, R317). -/
def State.apertureView (s : State) (bank : Nat) (p : RegAt) : Word :=
  let a := s.aperture bank
  let r := p.reg.base
  if r = Reg.FBK_CURSOR.base then wd a.cursor
  else if r = Reg.FBK_AP_CTL.base then wd (b2n a.auto)
  else if r = Reg.FBK_AP_STAT.base then wd a.stat
  else nth a.words p.i

/-- A register of the aperture. -/
def isAperture (p : RegAt) : Bool :=
  let r := p.reg.base
  r == Reg.FBK_CURSOR.base || r == Reg.FBK_AP_CTL.base || r == Reg.FBK_AP_STAT.base || r == Reg.FBK_AP.base

/-- MBX.LOCK. -/
def State.lockWord (s : State) : Word :=
  match s.fw.lockHolder with
  | some h => wd (2 ^ 31 + h * 2 ^ 16 + s.leaseLeft)
  | none => 0

/-- FLT.ACTIVE[i]. -/
def State.activeWord (s : State) (i : Nat) : Word :=
  wd (listMask ((List.range 32).filter fun b => s.getB Fd.FLT_SSTAT_ACTIVE (32 * i + b)))

/-- FLT.FI_STAT with its live fields. -/
def State.fiStatWord (s : State) (off : Nat) : Word :=
  let left := match s.flt.unlockEnd with
    | some e => e - s.time.opSec
    | none => 0
  withBits (withBits (s.reg off) 31 1 (b2n s.flt.unlockEnd.isSome)) 0 10 left

/-- What a read of a register returns, without side effects; `bank` is the aperture bank. -/
def State.view (s : State) (bank : Nat) (p : RegAt) (off : Nat) : Word :=
  let r := p.reg.base
  let v := s.reg off
  if setOf off = 29 ∧ 0x38040 ≤ off then (if isAperture p then s.apertureView bank p else s.bookView p off)
  else if r = Reg.SYS_GT_SEC.base then wd s.gtInSec
  else if r = Reg.MBX_LOCK.base then s.lockWord
  else if r = Reg.MBX_NQ.base then withBits v 0 7 s.fw.notices.queue.length
  else if r = Reg.CHN_TBL_DATA.base then (s.tblAccess none).2
  else if r = Reg.CHN_WSTAT.base then s.wstatWord p.i
  else if r = Reg.CAN_PSTAT.base then s.pstatWord p.i
  else if r = Reg.CAN_POOL_FREE.base then wd s.can.freeLatch
  else if r = Reg.CAN_AMAP_DATA.base then (s.amapAccess none).2
  else if r = Reg.CON_ST_DATA.base then (s.stRead false).2
  else if r = Reg.CON_DCTL.base then withBits v 16 4 ((windowIn s.domTable p.i).getD 0)
  else if r = Reg.TDD_FRAME.base then withBits v 0 24 (s.phaseAt s.now)
  else if r = Reg.TDD_WTDD.base then withBits v 1 1 (b2n (s.memberActive p.i))
  else if r = Reg.TDD_FCFG.base then withBits v 26 1 (b2n (bit s.forcedFec p.i))
  else if r = Reg.TDD_RSEQ_DATA.base then (s.rseqAccess p.i none).2
  else if r = Reg.RCE_STAT.base then withBits v 16 16 s.loadMille
  else if r = Reg.SNS_ENTRY.base ∧ p.j % 16 = 0 then 0x60
  else if r = Reg.FLT_STAT.base then s.fltStat
  else if r = Reg.FLT_ALERT.base then withBits v 30 1 (b2n s.alertPin)
  else if r = Reg.FLT_FI_STAT.base then s.fiStatWord off
  else if r = Reg.FLT_ACTIVE.base then s.activeWord p.i
  else v

/-! ### Reads -/

/-- Bits of the RC fields of a register. -/
def RegDesc.rcMask (r : RegDesc) : Nat :=
  r.fields.foldl (fun a f => if f.acc == .rc then a ||| (2 ^ f.width - 1) * 2 ^ f.lsb else a) 0

/-- The side effects of a served read that are not an RC clear, and its answer (R276). -/
def State.readEffect (s : State) (m : Master) (p : RegAt) (off : Nat) (clear ue : Bool) : State :=
  let r := p.reg.base
  if r = Reg.SYS_GT_SEC.base then
    s.latchTime.answer (wd s.gtInSec)
  else if r = Reg.CAN_POOL_USED.base then
    { s with can := { s.can with freeLatch := s.get Fd.CAN_POOL_FREE_FREE } }.answer (s.reg off)
  else if r = Reg.CHN_TBL_DATA.base then let (t, v) := s.tblAccess none; t.answer v
  else if r = Reg.CAN_AMAP_DATA.base then let (t, v) := s.amapAccess none; t.answer v
  else if r = Reg.CON_ST_DATA.base then let (t, v) := s.stRead clear; t.answer v
  else if r = Reg.TDD_RSEQ_DATA.base then let (t, v) := s.rseqAccess p.i none; t.answer v
  else if r = Reg.RCE_JRES0.base then let (t, v) := s.jres0Read p.i; t.answer v
  else if r = Reg.PMC_VAL_LO.base then s.readValLo p.i
  else if r = Reg.FBK_AP.base ∧ p.i = 0 then s.readAp0 (bankOf m) ue
  else if r = Reg.FBK_AP.base ∧ p.i = 15 then s.readAp15 (bankOf m)
  else s.answer (s.view (bankOf m) p off)

/-- Clear the RC fields of a register after a read at its block's write level (R17, R273). -/
def State.clearRc (s : State) (p : RegAt) (off : Nat) : State :=
  if p.reg.rcMask = 0 then s else s.setReg off (wd (maskClear (s.reg off).toNat p.reg.rcMask))

/-- A read of one register by a master (R270 to R273): an offset that names no register reads 0; a narrow read and one below the read
level are refused; `ue` where an MRAM read met an uncorrectable error. -/
def State.csrRead (s : State) (m : Master) (off : Nat) (narrow ue : Bool) : State :=
  match findReg off with
  | none => s.answer 0
  | some p =>
    if narrow then (s.refuse m (setOf off) 2 off false).answer 0
    else if s.masterLevel m < s.readLevel off then (s.refuse m (setOf off) 1 off false).answer 0
    else
      let clear := decide (blockWriteLevel (setOf off) ≤ s.masterLevel m)
      let s := (s.countAccess m off 3).readEffect m p off clear ue
      if clear then s.clearRc p off else s

/-! ### Writes: the access codes (R17, R278) -/

/-- Mask of a register's fields of an access code. -/
def RegDesc.accMask (r : RegDesc) (a : Acc) : Nat :=
  r.fields.foldl (fun m f => if f.acc == a then m ||| (2 ^ f.width - 1) * 2 ^ f.lsb else m) 0

/-- The block or instance of a register counts as enabled for its RWE fields (R57, R79, R100, R139, R223). -/
def State.rweEnabled (s : State) (p : RegAt) (off : Nat) : Bool :=
  let i := setOf off
  if (3 ≤ i ∧ i < 19) ∨ i = 19 then s.getB Fd.LANE_CTL_RX_EN p.i || s.getB Fd.LANE_CTL_TX_EN p.i
  else if i = 20 then s.getB Fd.CHN_WCTL_EN p.i
  else if i = 21 then s.getB Fd.CAN_PCFG0_EN p.i
  else if i = 24 then s.get Fd.POS_CTL_MODE != 0
  else false

/-- Replace a field of a word by a function of its value. -/
def mapField (v : Word) (lsb width : Nat) (f : Nat → Nat) : Word := setBits v lsb width (f (getBits v lsb width))

/-- A field at least `lo`. -/
def atLeast (lo : Nat) (x : Nat) : Nat := max lo x

/-- A field at most `hi`. -/
def atMost (hi : Nat) (x : Nat) : Nat := min hi x

/-- A value replaced by another. -/
def instead (old new x : Nat) : Nat := if x = old then new else x

/-- A coefficient of 0 to 32,767 whose other writes store 0. -/
def coefField (x : Nat) : Nat := if 0x8000 ≤ x then 0 else x

/-- The word stored where a field stores a clamped or substituted value (the Effect columns of the field tables). -/
def clampWord (p : RegAt) (v : Word) : Word :=
  let r := p.reg.base
  if r = Reg.MBX_MBCFG.base then mapField v 8 2 (atLeast 1)
  else if r = Reg.PCI_SPI_RD.base then mapField v 0 2 fun x => if x = 0 ∨ x = 3 then 1 else x
  else if r = Reg.LANE_RX_GAIN.base then mapField v 8 6 (atMost 39)
  else if r = Reg.LANE_RX_FAST.base then
    mapField (mapField (mapField v 16 3 (atLeast 1)) 12 4 fun x => min (max x 1) 12) 0 12 (atLeast 1)
  else if r = Reg.SYN_REF_CTL.base then mapField v 10 2 (instead 3 0)
  else if r = Reg.CHN_WCTL.base then mapField v 29 2 (instead 3 1)
  else if r = Reg.CAN_CTL.base then mapField v 16 4 (atMost 12)
  else if r = Reg.CAN_DIV_CFG.base then mapField (mapField (mapField v 12 4 (atLeast 1)) 8 4 (atLeast 1)) 4 4 (atLeast 1)
  else if r = Reg.CAN_PCFG2.base then storePcfg2 v
  else if r = Reg.CAN_PCFG3.base then storePcfg3 v
  else if r = Reg.CON_ORDER_LEN.base then mapField v 0 9 (atMost 256)
  else if r = Reg.CON_ST_SEL.base then mapField v 16 11 (atMost 1535)
  else if r = Reg.CON_OSC_CFG.base then mapField (mapField v 16 8 (atLeast 16)) 12 2 (atLeast 1)
  else if r = Reg.CON_PCTL.base then mapField v 8 5 fun x => min (max x 10) 30
  else if r = Reg.CON_DCTL.base then mapField v 28 2 (instead 3 0)
  else if r = Reg.CON_GSAFE.base then mapField v 0 16 fun x => min (max x 1) 32767
  else if r = Reg.CON_CCFG0.base then mapField v 0 16 coefField
  else if r = Reg.CON_CCFG1.base ∨ r = Reg.CON_CCFG2.base then mapField (mapField v 16 16 coefField) 0 16 coefField
  else if r = Reg.CON_CCFG3.base then mapField v 0 15 (atLeast 1)
  else if r = Reg.POS_CTL.base then mapField v 0 2 (instead 3 0)
  else if r = Reg.POS_TCFG.base then mapField v 16 11 fun x => min (max x 1) 1024
  else if r = Reg.TDD_RCTL.base then mapField v 0 14 (atLeast 18)
  else if r = Reg.RCE_CTL.base then mapField v 4 2 (instead 3 0)
  else if r = Reg.RCE_JCFG0.base then
    let v := mapField (mapField v 26 2 (instead 3 1)) 22 2 fun x => if 2 ≤ x then 0 else x
    mapField (mapField v 19 3 fun x => if 6 ≤ x then 2 else x) 0 16 fun x => if 1 ≤ x ∧ x < 8 then 8 else x
  else if r = Reg.SNS_INJ_REQ.base then mapField v 0 6 (atMost 32)
  else if r = Reg.SNS_CAL_CFG.base then mapField v 0 8 (atLeast 1)
  else if r = Reg.SNS_SEQ.base then mapField v 16 8 (atLeast 1)
  else if r = Reg.SNS_FILT.base then mapField v 0 3 fun x => min (max x 1) 4
  else if r = Reg.FLT_FI_POLICY.base then mapField v 0 2 fun x => if bit v.toNat 31 then 1 else if x = 3 then 0 else x
  else if r = Reg.FLT_SCFG.base then
    let v := mapField v 28 2 (instead 3 1)
    if p.i < 480 then mapField (mapField v 30 2 (instead 3 2)) 0 16 (atLeast 1) else mapField v 0 24 fun _ => 0
  else if r = Reg.FLT_GCFG.base then
    mapField (mapField (mapField v 12 3 fun x => if 5 ≤ x then 0 else x) 8 4 fun x => min (max x 1) 8) 0 5 fun x => min (max x 3) 20
  else if r = Reg.PMC_CTL.base then mapField v 0 16 (atLeast 1)
  else if r = Reg.PMC_HR_SIZE.base then mapField v 0 16 (atLeast 2)
  else v

/-- The word that a write leaves in the writable fields, the rest as it stood (R278). -/
def mergeWord (p : RegAt) (old data : Word) (on1 : Bool) : Word :=
  let m := p.reg.accMask .rw ||| (if on1 then 0 else p.reg.accMask .rwe)
  wd (maskClear old.toNat m + (data.toNat &&& m))

/-- A write would have changed an RWE field that keeps its value. -/
def rweIgnored (p : RegAt) (old data : Word) (on1 : Bool) : Bool :=
  let m := p.reg.accMask .rwe
  on1 && decide (old.toNat &&& m ≠ (clampWord p (mergeWord p old data false)).toNat &&& m)

/-- WIGN, its address held since WIGN was last cleared, and the event (R278). -/
def State.noteIgnored (s : State) (m : Master) (off : Nat) : State :=
  let i := setOf off
  let s := if s.getB (Fd.BLK_STAT_WIGN i) then s
    else (s.set (Fd.WIGN_ADDR_MASTER i) (masterCode m)).set (Fd.WIGN_ADDR_OFFSET i) off
  (s.setB (Fd.BLK_STAT_WIGN i) true).pulse (regSource i 0)

/-! ### Writes: what a register does -/

/-- WCTL written (R64, R73): EN set awaits its grid tick boundary, EN cleared stops the window at once; SWAP requests a swap. -/
def State.writeWctl (s : State) (w : Nat) (old new data : Word) : State :=
  let was := bit old.toNat 0
  let now := bit new.toNat 0
  let s := (s.setReg (Reg.CHN_WCTL.off w 0) new).reportDelay w
  let s := if now && !was then { s with win := { s.win with binding := s.win.binding ||| 2 ^ w } }
    else if was && !now then s.unbindWindow w else s
  if bit data.toNat 31 then (s.requestSwap w).subbandSwaps else s

/-- PCFG0 written (R88): EN set awaits the next grid tick boundary, EN cleared the next sheet boundary. -/
def State.writePcfg0 (s : State) (p : Nat) (old new : Word) : State :=
  let was := bit old.toNat 31
  let now := bit new.toNat 31
  let s := s.setReg (Reg.CAN_PCFG0.off p 0) new
  if now && !was then { s with can := { s.can with binding := if s.can.binding.contains p then s.can.binding else s.can.binding ++ [p] } }
  else if was && !now then s.disablePath p else s

/-- A write to content of a sense bank; to the active bank or one with a swap pending it is ignored (R246). -/
def State.writeSnsBank (s : State) (b off : Nat) (v : Word) : State :=
  if s.get Fd.SNS_STAT_ACT_BANK = b ∨ s.getB Fd.SNS_STAT_SWAP_PEND then s
  else
    let s := s.setReg off v
    { s with integ := { s.integ with
      snsBank := mapErase s.integ.snsBank b
      snsDirty := if s.integ.snsDirty.contains b then s.integ.snsDirty else b :: s.integ.snsDirty } }

/-- SEAL_CTL.HOLD written (R283). -/
def State.writeHold (s : State) (i : Nat) (on1 : Bool) : State :=
  let s := (s.setB (Fd.SEAL_CTL_HOLD i) on1).setB (Fd.BLK_STAT_HOLD i) on1
  if on1 then s.setSweeper i { s.sweeper i with holdAt := s.time.gt } else s

/-- A CHN bank seal written: its in-service check is armed (R75). -/
def State.writeBseal (s : State) (w b : Nat) (v : Word) : State :=
  let k := 2 * w + b
  let s := s.setReg (Reg.CHN_BSEAL.off w b) v
  { s with integ := { s.integ with chnArmed := if s.integ.chnArmed.contains k then s.integ.chnArmed else k :: s.integ.chnArmed } }

/-- LANE registers. -/
def State.writeLane (s : State) (p : RegAt) (off : Nat) (v data : Word) : State :=
  let r := p.reg.base
  let n := p.i
  if r = Reg.LANE_CTL.base then s.writeLaneCtl n v
  else if r = Reg.LANE_TX_MUTE.base then (s.setReg off v).updateMuted n
  else if r = Reg.LANE_CAL_CTL.base then
    let s := if bit data.toNat 0 then s.startCal n false else s
    if bit data.toNat 1 then s.startCal n true else s
  else s.setReg off v

/-- CON registers. -/
def State.writeCon (s : State) (p : RegAt) (off : Nat) (old v data : Word) : State :=
  let r := p.reg.base
  if r = Reg.CON_DCTL.base then
    (s.setReg off v).domainEnable p.i (bit old.toNat 31) (bit v.toNat 31)
  else if r = Reg.CON_WLCTL.base then if bit data.toNat 0 then s.loopStart p.i else s
  else s.setReg off v

/-- RCE registers. -/
def State.writeRce (s : State) (p : RegAt) (off : Nat) (old v : Word) : State :=
  let r := p.reg.base
  let t := s.setReg off v
  if r = Reg.RCE_CTL.base then t.rceControl (bit old.toNat 0) (bit v.toNat 0)
  else if r = Reg.RCE_JCFG0.base then
    if wbits old 31 28 = wbits v 31 28 then t else t.jobChanged p.i
  else if r = Reg.RCE_JCFG1.base then if wbits old 22 0 = wbits v 22 0 then t else t.jobChanged p.i
  else if r = Reg.RCE_CXCFG.base then if bit old.toNat 31 && !bit v.toNat 31 then t.cxDisable p.i else t
  else t

/-- SNS registers. -/
def State.writeSns (s : State) (p : RegAt) (off : Nat) (v data : Word) : State :=
  let r := p.reg.base
  if r = Reg.SNS_SEQ.base ∨ r = Reg.SNS_FILT.base then s.writeSnsBank p.i off v
  else if r = Reg.SNS_ENTRY.base then if p.j % 16 = 0 then s else s.writeSnsBank p.i off v
  else if r = Reg.SNS_CTL.base then
    let s := s.setReg off v
    let s := if bit data.toNat 2 then s.snsCalibrate 0 else s
    let s := if bit data.toNat 3 then s.snsCalibrate 1 else s
    if bit data.toNat 1 then s.setB Fd.SNS_STAT_SWAP_PEND true else s
  else if r = Reg.SNS_INJ_REQ.base then
    let s := s.setReg off v
    if bit data.toNat 31 then s.snsQueue (wbits v 30 30) (wbits v 5 0) false else s
  else s.setReg off v

/-- PMC registers. -/
def State.writePmc (s : State) (p : RegAt) (off : Nat) (v data : Word) : State :=
  let s := s.setReg off v
  if p.reg.base = Reg.PMC_CTL.base then if bit data.toNat 29 then s.clearCounters else s
  else s.refreshRings

/-- A served write of register `p`: `old` and `v` are its word before and after under the access codes, `data` the word written. -/
def State.writeEffect (s : State) (m : Master) (p : RegAt) (off : Nat) (old v data : Word) : State :=
  let r := p.reg.base
  let i := setOf off
  if off - Reg.setBase i < 0x40 then
    if r = (Reg.SEAL i).base then s.writeSeal i data
    else if r = (Reg.SEAL_CTL i).base then s.writeHold i (bit data.toNat 0)
    else s
  else if i = 1 then if r = Reg.MBX_MBCFG.base ∧ (p.i = 0 ∨ p.i = 15) then s.setReg off (withBits v 8 2 (wbits old 9 8)) else s.setReg off v
  else if 3 ≤ i ∧ i < 19 then s.writeLane p off v data
  else if r = Reg.SYN_SCFG.base then s.writeFreq p.i (wbits v 22 0)
  else if r = Reg.SYN_LSRC.base then s.writeLsrc p.i v
  else if r = Reg.SYN_LSTATE.base then
    (s.setReg off v).setLaneX p.i { s.laneX p.i with pendFrom := s.time.gt }
  else if r = Reg.CHN_TBL_DATA.base then (s.tblAccess (some data)).1
  else if r = Reg.CHN_WCTL.base then s.writeWctl p.i old v data
  else if r = Reg.CHN_BSEAL.base then s.writeBseal p.i p.j v
  else if r = Reg.CAN_AMAP_DATA.base then (s.amapAccess (some data)).1
  else if r = Reg.CAN_PCFG0.base then s.writePcfg0 p.i old v
  else if r = Reg.SVY_CTL.base then
    let s := s.setReg off v
    if bit data.toNat 16 then s.fenceEngine (wbits v 15 8) else s
  else if i = 23 then s.writeCon p off old v data
  else if r = Reg.POS_CTL.base then (s.setReg off v).positionMode (wbits old 1 0) (wbits v 1 0)
  else if r = Reg.TDD_CTL.base then (s.setReg off v).tddControl old v
  else if r = Reg.TDD_RCTL.base then
    let s := s.setReg off v
    if bit data.toNat 30 then s.swTrig p.i else s
  else if r = Reg.TDD_RSEQ_DATA.base then (s.rseqAccess p.i (some data)).1
  else if i = 26 then s.writeRce p off old v
  else if i = 27 then s.writeSns p off v data
  else if r = Reg.FBK_CURSOR.base then s.setAperture (bankOf m) { s.aperture (bankOf m) with cursor := data.toNat }
  else if r = Reg.FBK_AP_CTL.base then s.setAperture (bankOf m) { s.aperture (bankOf m) with auto := bit data.toNat 0 }
  else if i = 30 then s.writePmc p off v data
  else if r = Reg.AGE_CTL.base then
    let s := s.setReg off v
    if bit data.toNat 1 then s.startPlan 2 else s
  else s.setReg off v

/-- A served write of a whole word under the access codes (R278): an ignored RWE change is noted; swept content that is written discards
the running pass of its seal (R281). -/
def State.writeWord (s : State) (m : Master) (p : RegAt) (off : Nat) (data : Word) : State :=
  let old := s.reg off
  let on1 := s.rweEnabled p off
  let v := clampWord p (mergeWord p old data on1)
  let s := if rweIgnored p old data on1 then s.noteIgnored m off else s
  let s := if p.reg.swMask ≠ 0 && !sweptAsTable off then s.touchSweep (setOf off) else s
  s.writeEffect m p off old v data

/-- A write of one register by a master (R270 to R272). -/
def State.csrWrite (s : State) (m : Master) (off : Nat) (narrow : Bool) (data : Word) : State :=
  match findReg off with
  | none => s
  | some p =>
    if narrow then s.refuse m (setOf off) 2 off true
    else if s.masterLevel m < writeLevel m off then s.refuse m (setOf off) 1 off true
    else (s.countAccess m off 4).writeWord m p off data

/-! ### The alias window (R19, R275, R276) -/

/-- A register whose read has a side effect other than an RC clear (R276). -/
def isDataPort (p : RegAt) : Bool :=
  let r := p.reg.base
  r == Reg.CHN_TBL_DATA.base || r == Reg.CAN_AMAP_DATA.base || r == Reg.CON_ST_DATA.base || r == Reg.TDD_RSEQ_DATA.base

/-- The access code of a bit of a register; RO where it lies in no field. -/
def RegDesc.accOf (r : RegDesc) (b : Nat) : Acc :=
  match r.fields.find? fun f => decide (f.lsb ≤ b) && decide (b < f.lsb + f.width) with
  | some f => f.acc
  | none => .ro

/-- A read of bit `b` through the alias window (Table 14.3). -/
def State.aliasRead (s : State) (m : Master) (off b : Nat) (narrow : Bool) : State :=
  match findReg off with
  | none => s.answer 0
  | some p =>
    if narrow then (s.refuse m (setOf off) 2 off false).answer 0
    else if s.masterLevel m < s.readLevel off then (s.refuse m (setOf off) 1 off false).answer 0
    else
      let v := bit (s.view (bankOf m) p off).toNat b && p.reg.accOf b != .wp
      let s := (s.countAccess m off 3).answer (wd (b2n v))
      if p.reg.accOf b == .rc && decide (blockWriteLevel (setOf off) ≤ s.masterLevel m) then
        s.setReg off (wd (maskClear (s.reg off).toNat (2 ^ b)))
      else s

/-- A write of bit `b` through the alias window: the register written with that one bit changed; a data port ignores and records it. -/
def State.aliasWrite (s : State) (m : Master) (off b : Nat) (narrow v : Bool) : State :=
  match findReg off with
  | none => s
  | some p =>
    if narrow then s.refuse m (setOf off) 2 off true
    else if s.masterLevel m < writeLevel m off then s.refuse m (setOf off) 1 off true
    else if isDataPort p then s.refuse m (setOf off) 3 off true
    else
      let s := s.countAccess m off 4
      let a := p.reg.accOf b
      if a == .ro || a == .rc then s
      else
        let cur := maskClear (s.view (bankOf m) p off).toNat (p.reg.accMask .wp ||| 2 ^ b)
        s.writeWord m p off (wd (cur + b2n v * 2 ^ b))

/-- ALIAS_ACCESS, R275: through BAR4 by its offset, or internally by the offset in the alias range of R19. A narrow access is refused and
recorded (R14, R271). -/
def execAliasAccess (port : AliasPort) (addr : Nat) (acc : AliasAccess) (s : State) : Out := s.whenLive <|
  let m := match port with
    | .datum => Master.datum
    | .chart => Master.chart
    | .bar4 => Master.pcieAlias
  let off := addr / 128 * 4
  let b := addr % 128 / 4
  if 0x800000 ≤ addr ∨ addr % 4 ≠ 0 then .next (if acc.write.isNone then s.answer 0 else s)
  else match acc.write with
    | none => .next (s.aliasRead m off b acc.narrow)
    | some v => .next (s.aliasWrite m off b acc.narrow v)

/-! ### Mailbox pages (Tables 13.2 to 13.4) -/

/-- The mailboxes that are served: all while READY, only MB0 and MB16 by the Datum ROM (R347). -/
def State.servesMailbox (s : State) (m : Nat) : Bool := s.getB Fd.MBX_CSTAT_READY && s.romServes m

/-- STATUS of a page (Table 13.4). -/
def State.pageStatus (s : State) (m : Nat) : Word :=
  let b := s.mb m
  let other := match s.fw.lockHolder with
    | some h => h != m
    | none => false
  wd (b2n (s.servesMailbox m) * 2 ^ 31 + b2n (s.fw.lockHolder == some m) * 2 ^ 30 + b2n other * 2 ^ 29 +
    s.get Fd.MBX_MBCFG_LEVEL m * 2 ^ 16 + b2n b.rspValid * 2 ^ 15 + b2n b.cmdBusy * 2 ^ 14 + b2n b.dbOvf * 2 ^ 13 +
    b.queued * 2 ^ 8 + (if m = 15 then 0 else b.tokens))

/-- A read of a word of a page. -/
def State.pageRead (s : State) (m off : Nat) : State :=
  let b := s.mb m
  if off < 0x100 then s.answer (mapGet 0 b.cmd (off / 4))
  else if off < 0x200 then s.answer (nth b.rsp ((off - 0x100) / 4))
  else if off = 0x204 then (s.answer (s.pageStatus m)).setMb m { b with dbOvf := false }
  else if off = 0x208 then s.answer b.acceptCnt
  else if off = 0x20C then s.answer b.rspCnt
  else s.answer 0

/-- A write of a word of a page: CMD while it is not being copied; DOORBELL, ACK before RING (R253, R254). -/
def State.pageWrite (s : State) (m off : Nat) (v : Word) : State :=
  let b := s.mb m
  if off < 0x100 then
    if b.cmdBusy then s.setMb m { b with dbOvf := true } else s.setMb m { b with cmd := mapSet 0 b.cmd (off / 4) v }
  else if off = 0x200 then
    let s := if bit v.toNat 1 then s.ack m else s
    if bit v.toNat 0 then s.ring m else s
  else s

/-! ### Bus accesses (Table 14.1) -/

/-- The register access that a bus address makes: master and CSR offset. -/
def busTarget (port : Port) (addr : Nat) : Option (Master × Nat) :=
  match port with
  | .datum => if addr < 0x40000 then some (.datum, addr) else none
  | .chart => if addr < 0x40000 then some (.chart, addr) else none
  | .bar2 => if addr < 0x40000 then some (.pciePriv, addr) else if addr < 0x80000 then some (.pcieUser, addr - 0x40000) else none
  | .bar0 => none

/-- A read over a bus. -/
def State.busRead (s : State) (port : Port) (addr : Nat) (narrow : Bool) : State :=
  if addr % 4 ≠ 0 then s.answer 0
  else match port with
    | .bar0 =>
      if 0x10000 ≤ addr then s.answer 0
      else if narrow then (s.refuse .pciePriv 1 2 addr false).answer 0
      else s.pageRead (addr / 0x1000) (addr % 0x1000)
    | _ => match busTarget port addr with
      | some (m, off) => s.csrRead m off narrow false
      | none => s.answer 0

/-- A write over a bus. -/
def State.busWrite (s : State) (port : Port) (addr : Nat) (narrow : Bool) (v : Word) : State :=
  if addr % 4 ≠ 0 then s
  else match port with
    | .bar0 =>
      if 0x10000 ≤ addr then s
      else if narrow then s.refuse .pciePriv 1 2 addr true
      else s.pageWrite (addr / 0x1000) (addr % 0x1000) v
    | _ => match busTarget port addr with
      | some (m, off) => s.csrWrite m off narrow v
      | none => s

/-- REGISTER_WRITE, R278. -/
def execRegisterWrite (port : Port) (addr : Nat) (narrow : Bool) (data : Word) (s : State) : Out := s.whenLive <| .next (s.busWrite port addr narrow data)

/-- CLEARING_READ, R273. -/
def execClearingRead (port : Port) (addr : Nat) (narrow : Bool) (s : State) : Out := s.whenLive <| .next (s.busRead port addr narrow)

/-! ### The service SPI (R267, R285) -/

/-- The words of an SPI read, one after another. -/
def State.spiRead (s : State) (space addr : Nat) : Nat → State
  | 0 => s
  | n + 1 =>
    let s := if space = 0 then (if addr < 0x4000 then s.pageRead (16 + addr / 0x1000) (addr % 0x1000) else s.answer 0)
      else if space = 1 then (if addr < 0x40000 then s.csrRead .spi addr false false else s.answer 0)
      else s.answer 0
    let s := { s with out := { s.out with spiOut := s.out.spiOut ++ [s.out.readData] } }
    s.spiRead space (addr + 4) n

/-- The words of an SPI write: mailbox pages are written; a write to the read window is ignored and recorded (R285). -/
def State.spiWrite (s : State) (space addr : Nat) : List Word → State
  | [] => s
  | v :: vs =>
    let s := if space = 0 then (if addr < 0x4000 then s.pageWrite (16 + addr / 0x1000) (addr % 0x1000) v else s)
      else if space = 1 then (match findReg addr with
        | some _ => s.refuse .spi (setOf addr) 4 addr true
        | none => s)
      else s
    s.spiWrite space (addr + 4) vs

/-- SSPI_TRANSACTION, R267: the opening word, then data words written, or `reads` words read after the dummy word. -/
def execSspiTransaction (opening : Word) (data : List Word) (reads : Nat) (s : State) : Out := s.whenLive <|
  let space := wbits opening 30 28
  let addr := wbits opening 23 0 / 4 * 4
  if bit opening.toNat 31 then .next (({ s with out := { s.out with spiOut := [] } }).spiWrite space addr data)
  else
    let s := { s with draws := s.draws + 1, out := { s.out with spiOut := [Config.spiDummy s.draws] } }
    .next (s.spiRead space addr reads)

/-! ### Rows of reads with side effects -/

/-- GT_SEC_READ, R28. -/
def execGtSecRead (s : State) : Out := s.whenLive <| .next (s.csrRead .chart Reg.SYS_GT_SEC.base false false)

/-- POOL_USED_READ, R85. -/
def execPoolUsedRead (m : Master) (s : State) : Out := s.whenLive <| .next (s.csrRead m Reg.CAN_POOL_USED.base false false)

/-- ST_DATA_READ, R157. -/
def execStDataRead (m : Master) (s : State) : Out := s.whenLive <| .next (s.csrRead m Reg.CON_ST_DATA.base false false)

/-- JRES0_READ, R225. -/
def execJres0Read (m : Master) (j : Fin 32) (s : State) : Out := s.whenLive <| .next (s.csrRead m (Reg.RCE_JRES0.off j 0) false false)

/-- VAL_LO_READ, R326. -/
def execValLoRead (m : Master) (i : Fin 384) (s : State) : Out := s.whenLive <| .next (s.csrRead m (Reg.PMC_VAL_LO.off i 0) false false)

/-- AP0_READ, R317. -/
def execAp0Read (m : Master) (ue : Bool) (s : State) : Out := s.whenLive <| .next (s.csrRead m (Reg.FBK_AP.off 0 0) false ue)

/-- AP15_READ, R317. -/
def execAp15Read (m : Master) (s : State) : Out := s.whenLive <| .next (s.csrRead m (Reg.FBK_AP.off 15 0) false false)

/-- An access to a data port: a read, or a write of a word. -/
def State.portAccess (s : State) (m : Master) (off : Nat) (write : Option Word) : State :=
  match write with
  | none => s.csrRead m off false false
  | some v => s.csrWrite m off false v

/-- TBL_DATA_ACCESS, R74. -/
def execTblDataAccess (m : Master) (write : Option Word) (s : State) : Out := s.whenLive <| .next (s.portAccess m Reg.CHN_TBL_DATA.base write)

/-- AMAP_DATA_ACCESS, R89. -/
def execAmapDataAccess (m : Master) (write : Option Word) (s : State) : Out := s.whenLive <| .next (s.portAccess m Reg.CAN_AMAP_DATA.base write)

/-- RSEQ_DATA_ACCESS, R220. -/
def execRseqDataAccess (m : Master) (master : Fin 4) (write : Option Word) (s : State) : Out := s.whenLive <|
  .next (s.portAccess m (Reg.TDD_RSEQ_DATA.off master 0) write)

/-! ### Rows of writes with an effect of their own -/

/-- WCTL_EN_WRITE, R64. -/
def execWctlEnWrite (m : Master) (w : Fin 16) (data : Word) (s : State) : Out := s.whenLive <| .next (s.csrWrite m (Reg.CHN_WCTL.off w 0) false data)

/-- WCTL_SWAP, R73. -/
def execWctlSwap (m : Master) (w : Fin 16) (data : Word) (s : State) : Out := s.whenLive <| .next (s.csrWrite m (Reg.CHN_WCTL.off w 0) false data)

/-- PCFG0_EN_WRITE, R88. -/
def execPcfg0EnWrite (m : Master) (p : Fin 256) (data : Word) (s : State) : Out := s.whenLive <| .next (s.csrWrite m (Reg.CAN_PCFG0.off p 0) false data)

/-- CAL_CTL_RX_START, R55. -/
def execCalCtlRxStart (m : Master) (n : Fin 16) (data : Word) (s : State) : Out := s.whenLive <| .next (s.csrWrite m (Reg.LANE_CAL_CTL.off n 0) false data)

/-- CAL_CTL_TX_START, R55. -/
def execCalCtlTxStart (m : Master) (n : Fin 16) (data : Word) (s : State) : Out := s.whenLive <| .next (s.csrWrite m (Reg.LANE_CAL_CTL.off n 0) false data)

/-- SVY_FENCE, R111. -/
def execSvyFence (m : Master) (data : Word) (s : State) : Out := s.whenLive <| .next (s.csrWrite m Reg.SVY_CTL.base false data)

/-- SNS_CAL0, R248. -/
def execSnsCal0 (m : Master) (data : Word) (s : State) : Out := s.whenLive <| .next (s.csrWrite m Reg.SNS_CTL.base false data)

/-- SNS_CAL1, R248. -/
def execSnsCal1 (m : Master) (data : Word) (s : State) : Out := s.whenLive <| .next (s.csrWrite m Reg.SNS_CTL.base false data)

/-- SNS_SWAP, R246. -/
def execSnsSwap (m : Master) (data : Word) (s : State) : Out := s.whenLive <| .next (s.csrWrite m Reg.SNS_CTL.base false data)

/-- INJ_REQ_GO, R247. -/
def execInjReqGo (m : Master) (data : Word) (s : State) : Out := s.whenLive <| .next (s.csrWrite m Reg.SNS_INJ_REQ.base false data)

/-- PMC_CLEAR, R327. -/
def execPmcClear (m : Master) (data : Word) (s : State) : Out := s.whenLive <| .next (s.csrWrite m Reg.PMC_CTL.base false data)

/-- LOOP_START, R162. -/
def execLoopStart (m : Master) (w : Fin 16) (data : Word) (s : State) : Out := s.whenLive <| .next (s.csrWrite m (Reg.CON_WLCTL.off w 0) false data)

/-- SW_TRIG, R220. -/
def execSwTrig (m : Master) (master : Fin 4) (data : Word) (s : State) : Out := s.whenLive <|
  .next (s.csrWrite m (Reg.TDD_RCTL.off master 0) false data)

/-- AGE_NOW, R351. -/
def execAgeNow (m : Master) (data : Word) (s : State) : Out := s.whenLive <| .next (s.csrWrite m Reg.AGE_CTL.base false data)

/-- SEAL_WRITE, R282. -/
def execSealWrite (m : Master) (set : Fin 35) (data : Word) (s : State) : Out := s.whenLive <| .next (s.csrWrite m ((Reg.SEAL set).off 0 0) false data)

/-- SEAL_HOLD_WRITE, R283. -/
def execSealHoldWrite (m : Master) (set : Fin 35) (data : Word) (s : State) : Out := s.whenLive <|
  .next (s.csrWrite m ((Reg.SEAL_CTL set).off 0 0) false data)

/-- SCFG_FREQ_WRITE, R205. -/
def execScfgFreqWrite (m : Master) (syn : Fin 8) (data : Word) (s : State) : Out := s.whenLive <| .next (s.csrWrite m (Reg.SYN_SCFG.off syn 0) false data)

/-- LSRC_WRITE, R204. -/
def execLsrcWrite (m : Master) (n : Fin 16) (data : Word) (s : State) : Out := s.whenLive <| .next (s.csrWrite m (Reg.SYN_LSRC.off n 0) false data)

/-- TX_EN_WRITE, R207. -/
def execTxEnWrite (m : Master) (n : Fin 16) (data : Word) (s : State) : Out := s.whenLive <| .next (s.csrWrite m (Reg.LANE_CTL.off n 0) false data)

/-- RX_EN_WRITE, R208. -/
def execRxEnWrite (m : Master) (n : Fin 16) (data : Word) (s : State) : Out := s.whenLive <| .next (s.csrWrite m (Reg.LANE_CTL.off n 0) false data)

/-- DCTL_EN_WRITE, R150. -/
def execDctlEnWrite (m : Master) (d : Fin 256) (data : Word) (s : State) : Out := s.whenLive <| .next (s.csrWrite m (Reg.CON_DCTL.off d 0) false data)

/-- CCFG3_EN_WRITE, R150. -/
def execCcfg3EnWrite (m : Master) (k : Fin 1536) (data : Word) (s : State) : Out := s.whenLive <| .next (s.csrWrite m (Reg.CON_CCFG3.off k 0) false data)

/-- CON_EN_WRITE, R154. -/
def execConEnWrite (m : Master) (data : Word) (s : State) : Out := s.whenLive <| .next (s.csrWrite m Reg.CON_CTL.base false data)

/-- ALERT_SW_WRITE, R293. -/
def execAlertSwWrite (m : Master) (data : Word) (s : State) : Out := s.whenLive <| .next (s.csrWrite m Reg.FLT_ALERT.base false data)

/-- TDD_CTL_WRITE, R211. -/
def execTddCtlWrite (m : Master) (data : Word) (s : State) : Out := s.whenLive <| .next (s.csrWrite m Reg.TDD_CTL.base false data)

/-- RCE_CTL_WRITE, R226. -/
def execRceCtlWrite (m : Master) (data : Word) (s : State) : Out := s.whenLive <| .next (s.csrWrite m Reg.RCE_CTL.base false data)

/-! ### Seals, the sweep and the scrubber (R279 to R283) -/

/-- SEAL_HOLD_TIMEOUT, R283: 64 sheets after HOLD was set. -/
def execSealHoldTimeout (set : Fin 35) (s : State) : Out := s.whenLive <|
  let i := set.val
  if s.getB (Fd.SEAL_CTL_HOLD i) && decide ((s.sweeper i).holdAt + 5120 ≤ s.time.gt) then
    let s := (s.setB (Fd.SEAL_CTL_HOLD i) false).setB (Fd.BLK_STAT_HOLD i) false
    .next ((s.setB (Fd.BLK_STAT_HOLD_TO i) true).pulse (regSource i 4))
  else .next s

/-- A seal mismatch (R282, R75), with the domains that REG_SEAL names (R290). -/
def State.sealError (s : State) (i : Nat) : State := (s.setB (Fd.BLK_STAT_SEAL_ERR i) true).pulseOn (regSource i 3) 0 (s.sealDomains i)

/-- A completed sweep pass over bank `k` (R75, R281), 2 w + b: the latest CRC, and whether it differs from BSEAL as it stands. A mismatch is
found where two consecutive completed passes differ, the bank is active and its BSEAL armed; a pass that a write discarded is none. -/
def State.sweepChnBank (s : State) (k : Nat) : State :=
  if s.integ.chnDirty.contains k then { s with integ := { s.integ with chnDirty := s.integ.chnDirty.filter fun x => x != k } }
  else
    let w := k / 2
    let b := k % 2
    let crc := s.bankCrc w b
    let was := s.integ.chnBad.contains k
    let old := s.integ.chnFound.contains k
    let differs := crc.toNat != s.get Fd.CHN_BSEAL_SEAL w b
    let found := differs && was && s.actBank w == b && s.integ.chnArmed.contains k
    let put := fun (on : Bool) (l : List Nat) => if on then k :: l.filter fun x => x != k else l.filter fun x => x != k
    let s := { s with integ := { s.integ with
      chnBank := mapInsert (mapErase s.integ.chnBank k) k crc
      chnBad := put differs s.integ.chnBad
      chnFound := put found s.integ.chnFound } }
    if found && !old then s.sealError setChn else s

/-- A pass ends for one sense bank. -/
def State.sweepSnsBank (s : State) (b : Nat) : State :=
  if s.integ.snsDirty.contains b then { s with integ := { s.integ with snsDirty := s.integ.snsDirty.filter fun x => x != b } }
  else { s with integ := { s.integ with snsBank := mapInsert (mapErase s.integ.snsBank b) b (crcWords (s.snsBankWords b)) } }

/-- SWEEP_PASS_DONE, R281, R282. A mismatch that persists is found once (DEDUCED, log entry 12). -/
def execSweepPassDone (set : Fin 35) (s : State) : Out := s.whenLive <|
  let i := set.val
  let x := s.sweeper i
  let crc := s.sweepCrc i
  let s := s.addWrap (Fd.SWEEP_CNT_PASSES i) 1
  let s := if x.dirty then s.setSweeper i { x with dirty := false }
    else
      let s := (s.set (Fd.SWEEP_CRC i) crc.toNat).setB (Fd.BLK_STAT_SWEEP_VALID i) true
      let bad := crc.toNat != s.get (Fd.SEAL_SEAL i)
      let now := bad && x.mismatched && s.getB (Fd.BLK_STAT_ARMED i) && !s.getB (Fd.SEAL_CTL_HOLD i)
      let s := s.setSweeper i { x with mismatched := bad, found := now }
      if now && !x.found then s.sealError i else s
  .next (if i = setChn then forEach (List.range 32) s State.sweepChnBank
    else if i = setSns then forEach [0, 1] s State.sweepSnsBank else s)

/-- Offsets of the T3 words of a register set. -/
def t3Words (i : Nat) : List Nat :=
  (regsCommon i ++ regsOfSet i).flatMap fun r =>
    if r.fields.any (·.t3) then
      (List.range r.count).flatMap fun a => ((List.range r.count2).map fun b => r.off a b).filter fun o => setOf o == i
    else []

/-- An injected vote disagreement, found as the scrubber reaches its word (R279, R299); which word that is, the spec leaves open. -/
def State.scrubBlock (s : State) (code : Nat) : State :=
  let sets := (List.range 35).filter fun i => blockCode i == code
  let (t, hit) := s.takeInjection 4 code
  if hit.isNone then s
  else match sets[Config.scrubPick s.draws % max 1 sets.length]? with
    | none => s
    | some i =>
      let ws := t3Words i
      let off := ws.getD (Config.scrubPick (s.draws + 1) % max 1 ws.length) 0
      let t := { t with draws := s.draws + 2 }
      let t := (t.addSat (Fd.VOTE_CNT_COUNT i) 1).set (Fd.VOTE_ADDR_OFFSET i) off
      (t.setB (Fd.BLK_STAT_VOTE i) true).pulseInj (regSource i 2) true 0 0

/-- Sheets in which the patrol scrub reads every word of a channel: 3,600 s (R286). -/
def patrolSheets : Nat := 28800000

/-- The patrol scrub of a live channel over a sheet (R286): its pass goes on, and its next read sees an injected error (R299;
DEDUCED, log entry 130). -/
def State.patrolChannel (s : State) (c : Nat) : State :=
  if s.getB Fd.DRC_CSTAT_LOST c || s.getB Fd.DRC_CSTAT_SELF_REFRESH c || !s.getB Fd.DRC_CSTAT_TRAINED c || !s.getB Fd.DRC_CSTAT_SCRUB_EN c
  then s
  else
    let s := { s with patrol := mapSet 0 s.patrol c ((mapGet 0 s.patrol c + 1) % patrolSheets) }
    match s.takeInjection 1 c with
    | (_, none) => s
    | (t, some bits) => if bits = 1 then ((t.addSat Fd.DRC_CECC_CE 1 c).count 0x11 c 0x10 1).pulse 289 else (t.dramUe c true).pulse 289

/-- The scrubber's visit of every T3 word, once per sheet (R279), and the patrol scrub of DRAM. -/
def State.scrub (s : State) : State :=
  let s := if s.flt.armed.any fun a => a.code == 4 then forEach ((List.range 20).map (· + 1)) s State.scrubBlock else s
  forEach (List.range 4) s State.patrolChannel

end Sys2Proof.Machine
end

