-- ==== Sys2Proof/Machine/Legend.lean ====
section
/-!
DEFINITION. The Legend commands and the sets that take effect at a sheet boundary (13_chart_mailbox_protocol.md R262 to R265, R381,
Table 13.11), with the registers that the parameters govern (R155, R176, R199, R222, R236, R249, R303) and the cross-parameter rules of
the chapters.
-/

namespace Sys2Proof.Machine

/-! ### Values in force -/

/-- The word in force for an element; the read-only parameters of Table 18.13 are read where they live. -/
def State.legendValue (s : State) (id i : Nat) : Word :=
  if id = 0xB011 then wd (s.get Fd.AGE_MON_USED i)
  else if id = 0xB012 then wdI (60 - 5 * s.getI Fd.PWR_VCORE_TRIM)
  else s.leg id i

/-- The word that a set leaves for an element: the set's last, else the one in force. -/
def State.valueAfter (s : State) (es : List Elem) (id i : Nat) : Word :=
  match es.reverse.find? fun e => e.id == id && e.idx == i with
  | some e => e.val
  | none => s.leg id i

/-- A word's value under the type of its parameter. -/
def State.intAfter (s : State) (es : List Elem) (id i : Nat) : Int := (s.valueAfter es id i).toInt

/-- Elements of a set that change a value in force. -/
def State.changedElems (s : State) (es : List Elem) : List Elem := es.filter fun e => e.val != s.leg e.id e.idx

/-- A change of an element is restrictive (R264). -/
def State.elemRestricts (s : State) (e : Elem) : Bool :=
  match findParam e.id with
  | some p => p.restricts e.idx (s.leg e.id e.idx) e.val
  | none => false

/-- A set is a permissive order (R264). -/
def State.setPermissive (s : State) (es : List Elem) : Bool := (s.changedElems es).any fun e => !s.elemRestricts e

/-! ### Checks (R263) -/

/-- An element breaks its range or type. -/
def elemBad (e : Elem) : Bool :=
  match findParam e.id with
  | some p => !p.admits e.idx e.val
  | none => true

/-- Gain limits of a domain after a set (R155): GMAX below GMIN, or SAFE outside them. -/
def State.limitsBad (s : State) (es : List Elem) (d : Nat) : Bool :=
  let hi := s.intAfter es 0x3081 d
  let lo := s.intAfter es 0x3082 d
  let safe := s.intAfter es 0x3083 d
  decide (hi < lo) || decide (safe < lo) || decide (hi < safe)

/-- The Recce load after a set exceeds 0.8 (R229). -/
def State.loadBad (s : State) (es : List Elem) : Bool :=
  let u := s.rceLoad (fun j => (s.valueAfter es 0x6000 (2 * j)).toNat) s.emsCount (s.valueAfter es 0x5006 0).toNat
    (s.valueAfter es 0x5008 0).toNat
  decide (4 * u.2 < 5 * u.1)

/-- A linked window's pattern and outputs break R217 under a new guard. -/
def State.guardBad (s : State) (v : Word) : Bool := (List.range 16).any fun w => (s.set Fd.TDD_GUARD_NS v.toNat).guardShort w

/-- An element of a set breaks a cross-parameter rule of a chapter, the rest of the set considered. -/
def State.crossBad (s : State) (es : List Elem) (e : Elem) : Bool :=
  match e.id with
  | 0x3081 | 0x3082 | 0x3083 => s.limitsBad es e.idx
  | 0x30B1 | 0x30B2 => decide ((s.valueAfter es 0x30B1 0).toNat < (s.valueAfter es 0x30B2 0).toNat)
  | 0x4015 | 0x4016 => decide ((s.valueAfter es 0x4016 0).toNat ≤ (s.valueAfter es 0x4015 0).toNat)
  | 0x6000 | 0x5006 | 0x5008 => s.loadBad es
  | 0x6046 => s.guardBad e.val
  | _ => false

/-- Sheet of effect of a set whose check ends now: the next boundary before grid tick 76, else the one after. -/
def State.effectSheet (s : State) : Nat := if s.time.gt % 80 < 76 then s.sheet + 1 else s.sheet + 2

/-- The first element that fails step 1 of R263, judged beside the sets already scheduled for its boundary or an earlier one (R155). -/
def State.failingElem (s : State) (es : List Elem) : Option Elem :=
  let due := s.fw.orders.filter fun o => decide (o.sheet ≤ s.effectSheet)
  let after := (due.flatMap fun o => o.elems) ++ es
  es.find? fun e => elemBad e || s.crossBad after e

/-! ### Registers that the parameters govern -/

/-- A word written to a register by firmware, under its access codes. -/
def State.firmwareWrite (s : State) (off : Nat) (v : Word) : State :=
  match findReg off with
  | some p => s.writeWord .chart p off v
  | none => s

/-- A field written by firmware. -/
def State.poke (s : State) (f : Fld) (v : Nat) (i : Nat := 0) : State :=
  let off := f.reg.off i 0
  s.firmwareWrite off (setBits (s.reg off) f.lsb f.width v)

/-- The configuration words of a contour from its parameters (R155, Table 7.12). -/
def State.writeContour (s : State) (k : Nat) : State :=
  let lo := fun id => bitsAt (s.legN id k) 15 0
  let sh := s.legN 0x3015 k
  let s := s.firmwareWrite (Reg.CON_CCFG0.off k 0) (wd (lo 0x3000 * 65536 + lo 0x3010))
  let s := s.firmwareWrite (Reg.CON_CCFG1.off k 0) (wd (lo 0x3011 * 65536 + lo 0x3012))
  let s := s.firmwareWrite (Reg.CON_CCFG2.off k 0) (wd (lo 0x3013 * 65536 + lo 0x3014))
  s.firmwareWrite (Reg.CON_CCFG3.off k 0) (wd (s.legN 0x3001 k * 2 ^ 31 + bitsAt sh 2 0 * 2 ^ 24 + bitsAt sh 6 4 * 2 ^ 20 +
    bitsAt sh 10 8 * 2 ^ 16 + s.legN 0x3016 k))

/-- SCFG of a privileged source from its parameter (Table 15.9). -/
def privScfg (v : Nat) : Word :=
  wd (bitsAt v 1 0 * 2 ^ 30 + bitsAt v 5 4 * 2 ^ 28 + bitsAt v 6 6 * 2 ^ 27 + bitsAt v 7 7 * 2 ^ 26 + bitsAt v 8 8 * 2 ^ 25)

/-- The register that word `i` of sns.bank goes to in bank `b` (Table 12.7). -/
def snsBankReg (b i : Nat) : Nat :=
  if i = 0 then Reg.SNS_SEQ.off b 0
  else if i < 16 then Reg.SNS_ENTRY.off b (16 + i)
  else if i < 31 then Reg.SNS_ENTRY.off b (i - 15)
  else Reg.SNS_FILT.off b (i - 31)

/-- sns.bank goes to the inactive bank with its seal, and the swap is requested (R249). -/
def State.writeSnsLegend (s : State) : State :=
  let b := 1 - s.get Fd.SNS_STAT_ACT_BANK
  if s.getB Fd.SNS_STAT_SWAP_PEND then s
  else
    let s := forEach (List.range 63) s fun s i => s.firmwareWrite (snsBankReg b i) (s.leg 0x7010 i)
    let s := s.firmwareWrite (Reg.SNS_BSEAL.off b 0) (crcWords (s.snsBankWords b))
    s.setB Fd.SNS_STAT_SWAP_PEND true

/-- An element that takes effect is written to the register it governs; the others firmware holds. Contours and sns.bank are written
once per set. -/
def State.writeElem (s : State) (e : Elem) : State :=
  let v := e.val.toNat
  let i := e.idx
  match e.id with
  | 0x1042 => s.poke Fd.SYN_REF_CTL_REVERT v
  | 0x3080 => s.poke Fd.CON_DCTL_EN v i
  | 0x3081 => s.poke Fd.CON_GLIM_GMAX v i
  | 0x3082 => s.poke Fd.CON_GLIM_GMIN v i
  | 0x3083 => s.poke Fd.CON_GSAFE_SAFE v i
  | 0x3084 => s.poke Fd.CON_GSAFE_UP_RATE v i
  | 0x3085 => s.poke Fd.CON_DCTL_RELIEF_EN v i
  | 0x3086 => s.firmwareWrite (Reg.CON_ORDER.off i 0) e.val
  | 0x3090 => s.poke Fd.CON_WBASE_BASE v i
  | 0x30B0 => s.poke Fd.CON_PCTL_DEPTH v i
  | 0x5000 => s.poke Fd.FLT_PCTL_EN (v / 2)
  | 0x5001 => s.poke Fd.FLT_THR_CLR_FLOOR v
  | 0x5002 => s.poke Fd.FLT_THR_CLR_SHEETS v
  | 0x5003 => s.poke Fd.FLT_THR_NRS_MAX v
  | 0x5004 => s.poke Fd.FLT_THR_NRS_SHEETS v
  | 0x5005 => s.poke Fd.FLT_THR_EMS_OVER v
  | 0x5006 => s.poke Fd.FLT_THR_EMS_REV v
  | 0x5007 => s.poke Fd.FLT_THR_SPUR_LIMIT v
  | 0x5008 => s.poke Fd.FLT_THR_SPUR_REV v
  | 0x5009 => s.poke Fd.FLT_THR_DONOR_MIN v
  | 0x500A => s.poke Fd.FLT_THR_DONOR_MISSES v
  | 0x500B => s.poke Fd.FLT_THR_REFL_RL_MIN v
  | 0x500C => s.poke Fd.FLT_THR_REFL_FWD_MIN v
  | 0x500D => s.poke Fd.FLT_HOLD_HOLD v i
  | 0x500E => s.poke Fd.FLT_HOLD_LIMIT v i
  | 0x500F => s.firmwareWrite (Reg.FLT_RETRY_WIN.off 0 0) e.val
  | 0x5020 => s.poke Fd.FLT_GCFG_THRESH v i
  | 0x5021 => s.poke Fd.FLT_GCFG_SLOTS v i
  | 0x5022 => s.poke Fd.FLT_GCFG_SCS v i
  | 0x6000 => s.firmwareWrite (if i % 2 = 0 then Reg.RCE_JCFG0.off (i / 2) 0 else Reg.RCE_JCFG1.off (i / 2) 0) e.val
  | 0x6001 => s.poke Fd.RCE_CTL_OSHARE v
  | 0x6040 => s.poke Fd.TDD_CTL_SRC v
  | 0x6041 => s.firmwareWrite (Reg.TDD_TOFF.off 0 0) e.val
  | 0x6042 => s.firmwareWrite (Reg.TDD_PPS_OFF.off 0 0) e.val
  | 0x6046 => s.poke Fd.TDD_GUARD_NS v
  | 0x6060 => s.poke Fd.RCE_CXCFG_WMASK v i
  | 0x6061 => s.poke Fd.RCE_CXFR_FMASK v i
  | 0x6062 => s.poke Fd.RCE_CXCFG_DEFER v i
  | 0x6063 => s.poke Fd.RCE_CXCFG_RCE_SKIP v i
  | 0x7000 => s.poke Fd.SNS_CAL_CFG_IVL v
  | 0x7001 => s.poke Fd.SNS_CAL_CFG_TEMP v
  | 0x7002 => s.poke Fd.SNS_CAL_CFG_CHK_TOL v
  | 0x8000 => s.firmwareWrite (Reg.FLT_SCFG.off i 0) e.val
  | 0x8001 => s.firmwareWrite (Reg.FLT_SCFG.off (480 + i) 0) (privScfg v)
  | 0x8002 => s.firmwareWrite (Reg.FLT_SNAP_CFG.off 0 0) e.val
  | 0x8003 => s.poke Fd.FLT_CTL_FF_MIN v
  | 0x8005 => s.poke Fd.FLT_CTL_LOG_NOTE v
  | _ => s

/-- IDs of the parameters that the configuration words of a contour hold. -/
def isContourId (id : Nat) : Bool := id == 0x3000 || id == 0x3001 || (0x3010 ≤ id && id ≤ 0x3016)

/-- A set takes effect: every element is in force, then the registers follow. -/
def State.applySet (s : State) (es : List Elem) : State :=
  let s := forEach es s fun s e => s.setLeg e.id e.idx e.val
  let s := forEach ((es.filter fun e => isContourId e.id).map fun e => e.idx).eraseDups s fun s k => s.writeContour k
  let s := forEach es s fun s e => s.writeElem e
  if es.any fun e => e.id == 0x7010 then s.writeSnsLegend else s

/-! ### The boundary (R263, R265) -/

/-- Targets of an order in the terms of R264. -/
def Order.targets (o : Order) : List (Nat × Nat) := o.elems.map fun e => (legendKey e.id e.idx, e.val.toNat)

/-- Two orders contradict (R264). -/
def Order.against (a b : Order) : Bool := !a.same && !b.same && a.mb != b.mb && contradict a.targets b.targets

/-- Of two contradicting permissive orders, `a` comes before `b` (R265 item 3). -/
def State.precedes (s : State) (a b : Order) : Bool := s.winsPermissive a.mb b.mb

/-- Insert an order by precedence. -/
def State.insertOrder (s : State) (o : Order) : List Order → List Order
  | [] => [o]
  | x :: xs => if s.precedes o x then o :: x :: xs else x :: s.insertOrder o xs

/-- The permissive orders that win, taken in precedence, none against one taken before. -/
def admitOrders : List Order → List Order → List Order
  | [], taken => taken
  | o :: os, taken => if taken.any o.against then admitOrders os taken else admitOrders os (taken ++ [o])

/-- The winners among the orders of a boundary (R265 items 1 to 3). -/
def State.winners (s : State) (os : List Order) : List Order :=
  let firm := os.filter fun o => o.restrictive
  let rest := (os.filter fun o => !o.restrictive).filter fun o => !firm.any o.against
  admitOrders (rest.foldl (fun l o => s.insertOrder o l) []) firm

/-- The more restrictive of two words of an element (R265 item 1); of two masks, the bits of both. -/
def moreRestrictive (e : Elem) (a b : Word) : Word :=
  match findParam e.id with
  | some p =>
    if p.isMask then a ||| b
    else if p.senseAt e.idx = 1 then (if p.value a ≤ p.value b then a else b)
    else if p.senseAt e.idx = 2 then (if p.value a ≤ p.value b then b else a)
    else b
  | none => b

/-- The elements in force after the winners, in order of acceptance; where orders of two mailboxes set an element, the more restrictive
word holds. -/
def mergeElems : List Order → List (Nat × Elem) → List (Nat × Elem)
  | [], acc => acc
  | o :: os, acc =>
    mergeElems os (o.elems.foldl (fun acc e =>
      let same := fun (x : Nat × Elem) => x.2.id == e.id && x.2.idx == e.idx
      match acc.find? same with
      | some x =>
        let v := if x.1 = o.mb then e.val else moreRestrictive e x.2.val e.val
        (acc.filter fun y => !same y) ++ [(o.mb, { e with val := v })]
      | none => acc ++ [(o.mb, e)]) acc)

/-- Completes an order with a status; a winning COMMIT empties its staging set. -/
def State.endOrder (s : State) (o : Order) (won : Bool) : State :=
  let s := if won ∧ o.opcode = 0x13 then s.setMb o.mb { s.mb o.mb with staging := [] } else s
  let s := if won then s.notifyChart 0xF7 [wd o.mb, wd o.sheet, wd o.elems.length] else s
  match (s.mb o.mb).queue.find? (isStarted o.opcode o.tag) with
  | some c => if won then s.complete o.mb c 0x00 [wd o.sheet, wd o.elems.length] else s.complete o.mb c 0x0C
  | none => s

/-- The record of one order of a contradiction (R265 item 5), and for a loser the CONFLICT notification. -/
def State.recordConflict (s : State) (os wins : List Order) (o : Order) : State :=
  match os.filter o.against with
  | [] => s
  | rivals =>
    let won := wins.contains o
    let r := ((rivals.find? fun x => wins.contains x != won).getD (rivals.headD o))
    let key := contested o.targets r.targets
    let p := contestedWords key
    let s := s.commandRecord o.mb o.tag o.opcode (if won then 0x00 else 0x0C) (if won then 1 else 2) r.mb r.tag p.1 p.2 o.payload
    if won then s else s.notifyChart 0xF8 [wd r.mb, wd r.tag, wd o.mb, wd o.tag, wd p.1, wd p.2]

/-- The sets whose boundary has come take effect (R263, R265). -/
def State.legendBoundary (s : State) : State :=
  let due := s.fw.orders.filter fun o => decide (o.sheet ≤ s.sheet)
  if due.isEmpty then s
  else
    let s := { s with fw := { s.fw with orders := s.fw.orders.filter fun o => !decide (o.sheet ≤ s.sheet) } }
    let wins := s.winners due
    let s := s.applySet ((mergeElems (due.filter wins.contains) []).map Prod.snd)
    let s := forEach due s fun s o => s.recordConflict due wins o
    forEach due s fun s o => s.endOrder o (wins.contains o)

/-! ### Commands (Table 13.11) -/

/-- ID, first index and count of GET, SET and STAGE. -/
def Command.legId (c : Command) : Nat := wbits (c.word 1) 15 0
def Command.legIdx (c : Command) : Nat := wbits (c.word 1) 31 16
def Command.legCount (c : Command) : Nat := wbits (c.word 2) 5 0

/-- The elements that SET and STAGE carry. -/
def Command.legElems (c : Command) : List Elem :=
  (List.range c.legCount).map fun k => ⟨c.legId, c.legIdx + k, c.word (3 + k)⟩

/-- Level that SET and STAGE need: the write level of the ID; none permits a read-only one. -/
def Command.legLevel (c : Command) : Nat :=
  match findParam c.legId with
  | some p => if p.level = 0 then 4 else p.level
  | none => 1

/-- The payload check of GET, SET and STAGE: an undefined ID or a count outside 1 to `most` is BAD_PARAM, an index beyond the array
RANGE. -/
def Command.legFault (c : Command) (most : Nat) : Option Nat :=
  match findParam c.legId with
  | none => some 0x04
  | some p =>
    if c.legCount = 0 ∨ most < c.legCount then some 0x04
    else if p.len < c.legIdx + c.legCount then some 0x0D
    else none

/-- A COMMIT of the mailbox runs (R263): from its start until its response is posted. -/
def State.commitRuns (s : State) (m : Nat) : Bool :=
  (s.mb m).queue.any (fun c => c.started && c.opcode == 0x13) ||
    (s.mb m).waiting.any fun r => r.cmd.opcode == 0x13 && r.status != 0x06

/-- Check a set and schedule it (R263). -/
def State.scheduleSet (s : State) (m : Nat) (c : Command) (es : List Elem) : State :=
  match s.failingElem es with
  | some e => s.complete m c 0x04 [wd (e.id + e.idx * 65536)]
  | none =>
    let s := s.acceptEarly m c
    let o : Order := ⟨m, c.tag, c.opcode, c.flags, c.fo, c.payload, es, s.effectSheet, !s.setPermissive es, (s.changedElems es).isEmpty⟩
    { s with fw := { s.fw with orders := s.fw.orders ++ [o] } }

/-- GET, 0x10. -/
def execGet (mb : Fin 20) (s : State) : Out := s.whenLive <|
  .next (s.runCommand mb 0x10 fun s c => s.checked mb c 2 false fun s =>
    match c.legFault 62 with
    | some st => s.complete mb c st
    | none =>
      let staged := fun i => if bit (c.word 2).toNat 31 then (s.mb mb).staging.find? fun e => e.id == c.legId && e.idx == i else none
      s.complete mb c 0x00 (c.word 1 :: (List.range c.legCount).map fun k =>
        match staged (c.legIdx + k) with
        | some e => e.val
        | none => s.legendValue c.legId (c.legIdx + k)))

/-- SET, 0x11. -/
def execSet (mb : Fin 20) (s : State) : Out := s.whenLive <|
  .next (s.runCommand mb 0x11 fun s c =>
    let ok := (c.legFault 61).isNone
    s.checked mb c c.legLevel (ok && s.setPermissive c.legElems) fun s =>
      match c.legFault 61 with
      | some st => s.complete mb c st
      | none => s.scheduleSet mb c c.legElems)

/-- An element staged again replaces the earlier one. -/
def stageElem (l : List Elem) (e : Elem) : List Elem :=
  let same := fun (x : Elem) => x.id == e.id && x.idx == e.idx
  if l.any same then changeFirst same (fun _ => [e]) l else l ++ [e]

/-- STAGE, 0x12. -/
def execStage (mb : Fin 20) (s : State) : Out := s.whenLive <|
  .next (s.runCommand mb 0x12 fun s c => s.checked mb c c.legLevel false fun s =>
    match c.legFault 61 with
    | some st => s.complete mb c st
    | none =>
      if s.commitRuns mb then s.complete mb c 0x06
      else if c.legElems.any elemBad then s.complete mb c 0x04
      else
        let l := c.legElems.foldl stageElem (s.mb mb).staging
        if 4096 < l.length then s.complete mb c 0x0D
        else (s.setMb mb { s.mb mb with staging := l }).complete mb c 0x00)

/-- COMMIT, 0x13. An empty set takes the same steps, with 0 elements. -/
def execCommit (mb : Fin 20) (s : State) : Out := s.whenLive <|
  .next (
    let runs := s.commitRuns mb
    s.runCommand mb 0x13 fun s c => s.checked mb c 3 (s.setPermissive (s.mb mb).staging) fun s =>
      if runs then s.complete mb c 0x06
      else s.scheduleSet mb c (s.mb mb).staging)

/-- DISCARD, 0x14. -/
def execDiscard (mb : Fin 20) (s : State) : Out := s.whenLive <|
  .next (s.runCommand mb 0x14 fun s c => s.checked mb c 1 false fun s =>
    if s.commitRuns mb then s.complete mb c 0x06
    else
      let n := (s.mb mb).staging.length
      (s.setMb mb { s.mb mb with staging := [] }).complete mb c 0x00 [wd n])

/-- Type code of DESCRIBE. -/
def LegendType.code : LegendType → Nat
  | .u32 => 0
  | .s32 => 1
  | .q15 => 2

/-- The dotted name as 8 words, NUL-padded, byte 0 lowest. -/
def nameWords (n : String) : List Word :=
  let bs := n.toList.map Char.toNat
  (List.range 8).map fun k => wd ((List.range 4).foldl (fun a j => a + bs.getD (4 * k + j) 0 * 256 ^ j) 0)

/-- DESCRIBE, 0x15. -/
def execDescribe (mb : Fin 20) (s : State) : Out := s.whenLive <|
  .next (s.runCommand mb 0x15 fun s c => s.checked mb c 2 false fun s =>
    match findParam c.legId with
    | none => s.complete mb c 0x04
    | some p =>
      if p.len ≤ c.legIdx then s.complete mb c 0x0D
      else s.complete mb c 0x00 ([wd p.id, wd (p.typ.code + p.len * 65536), wdI p.min, wdI p.max, legendDefault p.id c.legIdx,
        wd (p.senseAt c.legIdx + p.level * 16 + p.cls * 256)] ++ nameWords p.name ++ [0, 0]))

end Sys2Proof.Machine
end

