-- ==== Sys2Proof/Machine/Ports.lean ====
section
/-!
DEFINITION. The ports: the PCIe endpoint (19_balls_electrical_package.md R370, R376), the test access port with its inset
read-out (R373, 18_startup_freeze_ageing.md R350), and what the FEC, SYNC_OUT and CX_OREQ pins show (10_synthesisers_lane_states_tdd.md
R203, R216 to R218, 11_recce_receiver_and_coexistence.md R230).
-/

namespace Sys2Proof.Machine

/-! ### PCIe (R370, R332) -/

/-- The PCI block's registers take their reset values, SPI_RD apart. -/
def State.resetPci (s : State) : State :=
  { s with csr := s.csr.filter fun p => setOf p.1 != 2 || p.1 == Reg.PCI_SPI_RD.base }.touchSweep 2

/-- PERST_N_ASSERT. No mailbox state changes (R370, Table 19.16). -/
def execPerstNAssert (s : State) : Out := s.keepTime <|
  .next ({ s.resetPci.dropHostInFlight with pci := { perst := true, l0 := false, master := false } })

/-- The link is in L0 at a width of 1, 2 or 4 lanes and a speed of Gen1 to Gen4. -/
def State.linkUp (s : State) (width speed : Nat) (master : Bool) : State :=
  if width = 0 ∨ width = 3 ∨ speed = 0 then s
  else
    let s := (s.set Fd.PCI_LNK_STAT_WIDTH width).set Fd.PCI_LNK_STAT_SPEED speed
    { s with pci := { perst := false, l0 := true, master := master } }

/-- PERST_N_DEASSERT: the link trains once the rails are good and RESET_N is released too. -/
def execPerstNDeassert (width speed : Fin 5) (master : Bool) (s : State) : Out := s.keepTime <|
  .next (if s.pci.perst ∧ s.start.good ∧ s.start.inReset = false then s.linkUp width speed master else s)

/-- PCI_LINK (R301, Table 15.1): the link leaves L0 other than by PERST_N, and is down. -/
def execPciLink (s : State) : Out := s.keepTime <|
  .next (if s.pci.l0 then
      let s := { s with pci := { s.pci with l0 := false } }.dropHostInFlight
      ((s.set Fd.PCI_LNK_STAT_WIDTH 0).set Fd.PCI_LNK_STAT_SPEED 0).pulse 290
    else s)

/-- LINK_L0_RETURN: DL_Init re-establishes credits; dumps to the host ring resume. -/
def execLinkL0Return (width speed : Fin 5) (master : Bool) (s : State) : Out := s.keepTime <|
  .next (if s.pci.perst ∨ s.pci.l0 then s else s.linkUp width speed master)

/-! ### Test access port (R373, Table 18.6) -/

/-- Bits of a word, least significant first. -/
def wordBits (v : Word) : List Bool := (List.range 32).map v.getLsbD

/-- What the bypass register returns: its captured 0, then the bits shifted in. -/
def bypassed (bits : List Bool) : List Bool := (false :: bits).take bits.length

/-- A TAP instruction in force, with what TDO returned. -/
def State.tapShift (s : State) (ir : Nat) (tdo : List Bool) : State :=
  { s with tap := { s.tap with ir := ir, driving := false }, out := { s.out with tdo := tdo } }

/-- The boundary-scan register drives the outputs (R373). -/
def State.extestDrives (s : State) : Bool := s.tap.driving && (s.start.frozen || s.start.inReset)

/-- EXTEST: the pins are captured and the shifted bits drive the balls; BYPASS unless FROZEN or in reset. -/
def execExtest (pins data : List Bool) (s : State) : Out := s.keepTime <|
  .next (if s.start.frozen ∨ s.start.inReset then
      let s := s.tapShift 0 pins
      { s with tap := { s.tap with scan := data, driving := true } }
    else s.tapShift 0xFF (bypassed data))

/-- SAMPLE_PRELOAD. -/
def execSamplePreload (pins data : List Bool) (s : State) : Out := s.keepTime <|
  .next (let s := s.tapShift 1 pins
    { s with tap := { s.tap with scan := data } })

/-- BYPASS, 0xFF and every undefined code. -/
def execBypass (bits : List Bool) (s : State) : Out := s.keepTime <| .next (s.tapShift 0xFF (bypassed bits))

/-- TEST_LOGIC_RESET selects BYPASS. -/
def execTestLogicReset (s : State) : Out := s.keepTime <| .next (s.tapShift 0xFF [])

/-! ### Inset read-out (R350, Table 18.7) -/

/-- Words of a region; 0 where there is none. -/
def regionWords (r : Nat) : Nat :=
  if r = 1 then 10485760 else if r = 2 then 4096 else if r = 3 then 12288 else if r = 4 then 4112 else if r = 5 then 3072
  else if r = 6 then 65536 else if 0x10 ≤ r ∧ r ≤ 0x13 then 134217728 else 0

/-- A CSR by offset, without side effects. -/
def State.insetCsr (s : State) (off : Nat) : Word :=
  match findReg off with
  | some p => s.view 0 p off
  | none => 0

/-- A word of the staging FIFO; SEQ and CRC are not assigned before the write, so that `raw` shows there, as in an empty entry. -/
def State.insetFifo (s : State) (i : Nat) (raw : Word) : Word :=
  let l := s.book.fifo.filter fun e => e.drops == decide (4096 ≤ i)
  match l[if i < 4096 then i / 16 else 0]? with
  | some e => if i % 16 = 0 ∨ i % 16 = 5 then raw else nth (recordWords e.final 0 false false) (i % 16)
  | none => raw

/-- A word of a region. `raw` is what the cells hold where the spec gives no layout: party SRAM outside coefficient runs, the SVY
scoreboards, DRAM. -/
def State.insetWord (s : State) (raw : Word) : Word :=
  let r := s.tap.region
  let i := s.tap.word
  if regionWords r ≤ i then 0
  else if r = 1 then s.sramWord i raw
  else if r = 3 then nth (s.ctX (i / 8)).words (i % 8)
  else if r = 4 then s.insetFifo i raw
  else if r = 5 then s.insetCsr (Reg.setBase 28 + (if i < 2048 then 4 * i else 0x3000 + 4 * (i - 2048)))
  else if r = 6 then s.insetCsr (4 * i)
  else raw

/-- INSET_SEL: acts only in FROZEN. -/
def execInsetSel (region : Fin 256) (word : Nat) (s : State) : Out := s.keepTime <|
  .next (let s := s.tapShift 0xC0 []
    if s.start.frozen then { s with tap := { s.tap with region := region, word := word % 2 ^ 32 } } else s)

/-- INSET_READ: the word is returned and the word advances; an uncorrectable one is returned as read and counted. -/
def execInsetRead (raw : Word) (ue : Bool) (s : State) : Out := s.keepTime <|
  .next (if s.start.frozen then
      let s := s.tapShift 0xC1 (wordBits (s.insetWord raw))
      { s with tap := { s.tap with word := (s.tap.word + 1) % 2 ^ 32, bad := min (s.tap.bad + b2n ue) 65535 } }
    else s.tapShift 0xC1 (wordBits 0))

/-- INSET_STAT: frozen, region ready, uncorrectable words met. -/
def execInsetStat (s : State) : Out := s.keepTime <|
  .next (s.tapShift 0xC2 (wordBits (if s.start.frozen then
      wd (2 ^ 31 + b2n (regionWords s.tap.region != 0) * 2 ^ 30 + s.tap.bad) else 0)))

/-! ### Output pins -/

/-- Instants between two, no further apart than half of the shortest symbol, both ends among them. -/
def instants (a b : Nat) : List Nat := ((List.range ((b - a) / 4384 + 1)).map fun i => a + 4384 * i) ++ [b]

/-- The instants between two at TXOUT at which a TX lane emits, gates apart: from its entry to ACTIVE on, until its output has ended. -/
def State.emits (s : State) (n a b : Nat) : Option (Nat × Nat) :=
  if s.get Fd.SYN_LSTATE_TX_STATE n = 4 then some (a, b)
  else
    let past := match (s.laneX n).endedAt with
      | some e => if a < e then some (a, min b (e - 1)) else none
      | none => none
    let next := match s.txFrom n with
      | some p => if p ≤ b then some (max a p, b) else none
      | none => none
    past <|> next

/-- PA_EN of TX lane `n` at output `f` (R216, R217): from ADV samples before its output begins to HOLD samples after it ends, outside the guard
of its pair. -/
def State.paEnable (s : State) (n f t : Nat) : Bool :=
  let ws := s.tddWindowsOf n
  let held := ws.any fun w => s.guardOn w t || (bit (s.pair (s.downMember w)).paHeld f && decide ((s.pair (s.downMember w)).paOffAt ≤ t))
  let span := s.emits n (t - s.get Fd.TDD_FTIM_HOLD f) (t + s.get Fd.TDD_FCFG_ADV f)
  !s.getB Fd.LANE_TX_MUTE_SRC_FLT n && !s.getB Fd.LANE_TX_MUTE_SRC_DATUM n && !s.getB Fd.LANE_TX_MUTE_SRC_FRZ n && !held &&
    span.any fun r => ws.isEmpty || ws.any fun w => (instants r.1 r.2).any fun u => s.txGate w u

/-- The DL role is in force at the TXOUT pins of a pair's downlink member, at an output of advance `adv` (R216, R217). -/
def State.rolePin (s : State) (w adv t : Nat) : Bool :=
  let e := s.pair w
  let own := e.roleDue - adv
  let new := e.dlRole != e.rolePend
  if (!e.rolePend || decide (e.roleMin ≤ own)) && decide (max own e.roleMin ≤ t) then new else !new

/-- The function that an output drives, before POL (R216). -/
def State.fecFunction (s : State) (f t : Nat) : Bool :=
  let n := s.get Fd.TDD_FCFG_TARGET f
  let adv := s.get Fd.TDD_FCFG_ADV f
  match s.get Fd.TDD_FCFG_FUNC f with
  | 1 => s.paEnable n f t
  | 2 => s.rolePin n adv t
  | 3 =>
    let p := (s.pair n).pattern
    s.patternInForce n && decide (s.patternTime p (t + adv) % max p.periodSamples 1 < 983)
  | 4 =>
    let ws := (s.windowsOf n true).filter fun w => s.getB Fd.CHN_WCTL_LINK_EN w
    s.get Fd.SYN_LSTATE_RX_STATE n == 3 && (ws.isEmpty || ws.any fun w => (instants t (t + adv)).any fun u => s.activeAt w u)
  | _ => s.getB Fd.TDD_FCFG_LEVEL f

/-- Level of FEC[f] at a stream sample (R216, R218): 0 in reset; an output forced inactive shows its inactive level. -/
def State.fecPin (s : State) (f t : Nat) : Bool :=
  if s.start.inReset ∨ s.start.good = false then false
  else (!bit s.forcedFec f && s.fecFunction f t) != s.getB Fd.TDD_FCFG_POL f

/-- Level of SYNC_OUT over the present grid tick (R203). -/
def State.syncPin (s : State) : Bool :=
  let p := s.phaseAt s.now
  match s.get Fd.SYN_REF_CTL_SYNC_SEL with
  | 1 => s.time.gt == s.time.secBase
  | 2 => s.timingHeld && (p == 0 || decide (frameLen - 1536 < p))
  | _ => false

/-- Level of CX_OREQ at a stream sample (R230): low in reset, OFF, compass mode and freeze. -/
def State.oreqPin (s : State) (t : Nat) : Bool :=
  let st := s.get Fd.PWR_SVC_STATE
  s.oreq t && !s.start.inReset && s.start.good && st != 0 && st != 6 && st != 7

end Sys2Proof.Machine
end

