-- ==== Sys2Proof/Machine/Boundary.lean ====
section
/-!
DEFINITION. The cadence (01_architecture_and_cadence.md R26 to R35): what the block does of itself at a grid tick boundary (Table 1.9),
at a sheet boundary (Table 1.10), and at an operating-second boundary (R27). Grid ticks run from step 4 of Table 18.2. A time-driven
effect that has a row of its own takes place by that row.
-/

namespace Sys2Proof.Machine

/-! ### Windows at a grid tick boundary (R64, R77) -/

/-- Windows bound. -/
def State.boundWindows (s : State) : List Nat := maskList s.win.bound 16

/-- A window whose EN was written 1 binds, or EN reads 0 and ERR takes the code (R64); on a link mismatch both members report it (R69). -/
def State.bindOne (s : State) (w : Nat) : State :=
  let s := { s with win := { s.win with binding := maskClear s.win.binding (2 ^ w) } }
  if s.getB Fd.CHN_WCTL_EN w then
    let e := s.bindErr w s.boundWindows
    if e = 0 then (s.bindWindow w).recheckPaths w
    else
      let s := (s.setB Fd.CHN_WCTL_EN false w).set Fd.CHN_WSTAT_ERR e w
      let s := match s.partner w with
        | some p => if e = 5 then s.set Fd.CHN_WSTAT_ERR 5 p else s
        | none => s
      s.refreshRunning w
  else s

/-- A WIN_ENABLE at its boundary (R77): all its windows change, or none. Enables wait for the coverage test (R115). -/
def State.runWinWait (s : State) (q : WinWait) : State :=
  let ws := maskList q.mask 16
  if q.enable then
    match s.enableFault ws s.boundWindows with
    | some (st, p) => s.complete q.mb q.cmd st p
    | none =>
      let s := forEach ws s fun s w => ((s.setB Fd.CHN_WCTL_EN true w).bindWindow w).recheckPaths w
      { s with win := { s.win with enables := s.win.enables ++ [{ q with covering := true }] } }
  else (forEach ws s State.unbindWindow).complete q.mb q.cmd 0

/-- The windows whose enable or disable reaches its grid tick boundary. -/
def State.bindWindows (s : State) : State :=
  let l := s.win.enables.filter fun q => !q.covering
  let s := { s with win := { s.win with enables := s.win.enables.filter fun q => q.covering } }
  let s := forEach l s State.runWinWait
  forEach (maskList s.win.binding 16) s State.bindOne

/-- WIN_ENABLE commands whose windows bound without a coverage test to wait for complete. -/
def State.settleWindows (s : State) : State :=
  if s.getB Fd.SVY_SSTAT_COVER_BUSY then s
  else
    let l := s.win.enables.filter fun q => q.covering
    let s := { s with win := { s.win with enables := s.win.enables.filter fun q => !q.covering } }
    forEach l s fun s q => s.complete q.mb q.cmd 0

/-! ### The grid tick (Table 1.9) -/

/-- A grid tick `k` of a sheet lies after tick `a` and not after tick `b`. -/
def crosses (a b k : Nat) : Bool := decide ((a + 80 - k) / 80 < (b + 80 - k) / 80)

/-- The pool sum, and the token sum of every mailbox (R302, Table 15.8): POOL_USED + POOL_FREE = 5,242,880, TOKENS + QUEUED = 4. The tile count
holds of itself: the scoreboard of R109 takes a piece once, and one that is never accepted SVY_REEXEC reports. -/
def State.conserved (s : State) : Bool :=
  s.get Fd.CAN_POOL_USED_USED + s.get Fd.CAN_POOL_FREE_FREE == 5242880 &&
    (List.range 20).all fun m => m == 15 || (s.mb m).tokens + (s.mb m).queued == 4

/-- The conservation check of R302. -/
def State.consTick (s : State) : State := if s.conserved then s.clearSource 492 else s.raise 492

/-- The end of `n` grid ticks: the INO references of a sheet that ends with them, before any reduction that its clips make at the boundary
(R48, R147); the receive rails of the last one, ramps, counted events, and what held in them. -/
def State.endTick (s : State) (n : Nat) (rails : List (Nat × RailTick)) : State :=
  let s := if (s.time.gt + n) % 80 = 0 then
      { s with con := { s.con with inoRef := (List.range 16).map fun w => (w, s.inoAref w) } }
    else s
  let s := forEach (List.range 16) s State.keepIndex
  let s := forEach rails s fun s r => if r.1 < 16 then s.closeRails r.1 r.2 else s
  (((((s.countPending n).endRamps).copyTick n).scrubTick n).perfTick n).markTick

/-- The collector and the Datum core at a grid tick boundary: pairs of momentary events return to healthy, reactions and restrictions
come into force, the conservation check. -/
def State.datumTick (s : State) : State := s.clearPulses.readyTick.applyReactions.protTick.consTick

/-- The RX lanes ON at the boundary of a grid tick deliver their samples in it (R206, R208). -/
def State.takeRx (s : State) : State :=
  { s with lane := { s.lane with rxLive := listMask ((List.range 16).filter fun n => s.get Fd.SYN_LSTATE_RX_STATE n == 3) } }

/-- Enables that an undone order (R265) or a takeover (R259) has rewritten take their course (DESIGN CHOICE, log entry 130). -/
def State.followEnables (s : State) : State :=
  let s := forEach (List.range 16) s fun s w =>
    let en := s.getB Fd.CHN_WCTL_EN w
    if bit s.win.bound w && !en then s.unbindWindow w
    else if en && !bit s.win.bound w then { s with win := { s.win with binding := s.win.binding ||| 2 ^ w } }
    else s
  forEach s.activePaths s fun s p =>
    let en := s.getB Fd.CAN_PCFG0_EN p
    let leaving := s.can.unbinding.contains p
    if !en && !leaving then s.disablePath p
    else if en && leaving && !s.can.binding.contains p && s.get Fd.CAN_PSTAT_ERR p == 0 then
      { s with can := { s.can with binding := s.can.binding ++ [p] } }
    else s

/-- Lanes, windows and paths at a grid tick boundary. -/
def State.bindTick (s : State) : State :=
  let l := s.lane.configs
  let s := (s.applyLaneConfigs.laneBoundary.finishLaneConfigs l).beginRamps.takeSettings.markLost.takeRx
  let s := s.followEnables.bindWindows.bindPaths.settleWindows
  (s.runSwaps false).requestApplies

/-- The datapath at the boundary of the present grid tick, `old` being the tick that ended (Table 1.9; R33, R72, R191, R378). -/
def State.datapathTick (s : State) (old : Nat) : State :=
  let s := s.bindTick.cxTick.recceTick.slewTick.reopenRows.gainTicks
  let s := if crosses old s.time.gt 13 then s.contourEvents else s
  s.issuePieces

/-- Compass mode has the RF, Recce, datapath and surveyor domains off (Table 1.12, R347). -/
def State.datapathOn (s : State) : Bool := s.get Fd.PWR_SVC_STATE != 6

/-- What a window did at the boundary governs from it: within the grid tick that begins it has not changed (R92). -/
def State.freshTick (s : State) : State := { s with can := { s.can with broke := 0 } }

/-- Grid tick `t` begins. A freeze that a source has requested ends it at once (R294). The walker's requests are in force from grid tick 1
(R191). -/
def State.beginTick (s : State) (t : Nat) : State :=
  let old := s.time.gt
  let s := { s with time := { s.time with gt := t } }.takeFreezeReq
  if s.start.frozen then s
  else
    let s := if s.datapathOn && crosses old t 1 then s.walkerTick else s
    let s := s.datumTick
    let s := if s.datapathOn then s.datapathTick old else s
    s.snsSnapshots.raiseWraps.freshTick

/-- A grid tick boundary with the samples of the tick that ends. -/
def State.gridTick (s : State) (inp : TickInput) : State :=
  let g := s.time.gt % 80
  let (a, rest) := s.closeSamples inp
  let b := ((a.endTick 1 rest.rails).takePins inp.pri.val inp.ognt).beginTick (s.time.gt + 1)
  if b.start.frozen ∨ b.datapathOn = false then b
  else
    let c := (b.openPosts inp).openSamples rest g
    { c with svy := { c.svy with skipped := [] } }

/-- GRID_TICK_BOUNDARY, R30. -/
def execGridTickBoundary (inp : TickInput) (s : State) : Out := s.whenLiveTimed <|
  if s.start.phase = 1 then .next s else .next { s.gridTick inp with time := { s.time with gt := s.time.gt + 1 } }

/-! ### The sheet boundary (Table 1.10) -/

/-- The grid tick at which the next sheet boundary falls. -/
def State.nextSheetTick (s : State) : Nat := (s.sheet + 1) * 80

/-- The block taken to its next sheet boundary, where that of the present grid tick has been run: one passage over the grid ticks
between, without samples. -/
def State.toSheet (s : State) : State := if s.sheetDue then s else (s.endTick (s.nextSheetTick - s.time.gt) []).beginTick s.nextSheetTick

/-- The collector's reactions with AUTO_REC = 1 of sources no longer active are released, but for those of protection (R292). -/
def State.autoRelease (s : State) : State :=
  let l := ((s.flt.reactions.filter fun r => r.inForce).map fun r => r.source).eraseDups.filter fun n =>
    s.getB Fd.FLT_SCFG_AUTO_REC n && !s.getB Fd.FLT_SSTAT_ACTIVE n && !(decide (480 ≤ n) && decide (n ≤ 488))
  forEach l s State.releaseReactions

/-- RX_PWR and the estimators of every lane, from what the lane and its observation receiver saw; a lane without a measurement saw zeros. -/
def State.closeRx (s : State) (inp : SheetInput) : State :=
  forEach (List.range 16) s fun s n =>
    (s.closeRxSheet n ((inp.rx.find? fun p => p.1 == n).map (·.2))).closeTxSheet n
      (((inp.tx.find? fun p => p.1 == n).map (·.2)).getD 0) ((inp.obs.find? fun p => p.1 == n).map (·.2))

/-- What the sheet summed of every domain, its clearance, and the pilots' levels after it (R158 to R161). -/
def State.closeDomains (s : State) (inp : SheetInput) (tab : List (Nat × Nat)) : State :=
  let meas := fun d => (inp.dom.find? fun p => p.1 == d).map (·.2)
  let s := forEach (List.range 256) s fun s d => s.closeSum d (tab.any fun p => p.1 == d) (meas d)
  (forEach (List.range 256) s fun s d => s.closeClearance d (windowIn tab d) (meas d)).movePilots

/-- Step 1: the measurements of the sheet that ended close. -/
def State.closeMeasurements (s : State) (inp : SheetInput) : State :=
  let s := s.senseResults.closeRx inp
  let s := (s.refSheet inp).divergenceCheck
  let s := s.closePilots inp
  let s := s.closeDomains inp s.domTable
  (s.recceSheet inp).depthSheet

/-- Step 2: staged sets become active, mode changes take effect (R168, R169); the immediate orders of the sheet that ended are settled. -/
def State.activateLegend (s : State) : State :=
  let s := s.legendBoundary.finishModes
  { s with fw := { s.fw with dones := [] } }

/-- Step 3: the counter snapshot, the Chart capture, the position and what follows from it. -/
def State.closePlace (s : State) (inp : SheetInput) : State :=
  let s := (s.perfSheet inp).takeCapture
  (s.closePosition inp).syncPatterns

/-- Step 4: the comparators of the Datum core, the evaluation of every domain, the releases (a released domain is initialised at the
sheet boundary after, R166), the sense trigger. -/
def State.evaluateSheet (s : State) (inp : SheetInput) (clipped : Nat) (ino : List (Nat × Int)) : State :=
  let s := s.protComparators
  let tab := s.domTable
  let s := (s.trainSheet tab).enterTraining
  let s := s.writeDemands.evaluateAll ⟨inp, clipped, ino⟩
  s.protReleases.senseTrigger

/-- What a sheet counts starts anew. -/
def State.freshSheet (s : State) : State :=
  let s := s.closeGateSheets.freshGains
  { s with
    con := { s.con with masks := { ran := 0xFFFF, busy := 0, unmuted := 0, opened := 0, counted := 0, rxLost := 0, txLost := 0, pilot := 0xFFFF } }
    book := { s.book with ovwRaised := false }
    svy := { s.svy with lostMeas := [] } }.markLost

/-- RX lanes that counted a clipped grid tick in the sheet that ends. -/
def State.clippedLanes (s : State) : Nat := listMask ((List.range 16).filter fun n => (s.laneX n).clips != 0)

/-- The datapath's part of a sheet boundary, in the order of Table 1.10. -/
def State.datapathSheet (s : State) (inp : SheetInput) : State :=
  let clipped := s.clippedLanes
  let s := (s.runSwaps true).unbindPaths
  let s := ((s.closeMeasurements inp).activateLegend.closePlace inp).normaliseRows
  (s.evaluateSheet inp clipped s.con.inoRef).freshSheet

/-- In compass mode a sheet boundary closes the sense results, activates the Legend, latches the counters and triggers a sequence; the Datum
core's comparators and releases go on (R36), those that need a measurement of the datapath without one. -/
def State.compassSheet (s : State) (inp : SheetInput) : State :=
  let s := (s.senseResults.refSheet inp).activateLegend
  let s := ((s.perfSheet inp).takeCapture).senseComparators.protReleases.senseTrigger
  { s with book := { s.book with ovwRaised := false } }

/-- The sheet boundary of the present grid tick. The unmute ramps of sources cleared at it begin at it (R53). Its own completions form part
of its capture (R256). -/
def State.sheetBoundary (s : State) (inp : SheetInput) : State :=
  let s := ({ s with lane := { s.lane with die := inp.die } }.autoRelease.vinSheet inp.vin).scrub
  let s := (if s.datapathOn then (s.datapathSheet inp).runCalDue else s.compassSheet inp).beginRamps.freshTick
  { s with time := { s.time with sheetsRun := s.sheet + 1 } }

/-- SHEET_BOUNDARY, R32. -/
def execSheetBoundary (inp : SheetInput) (s : State) : Out := s.whenLiveTimed <|
  if s.start.phase = 1 then .next s
  else
    let t := s.toSheet
    let gt := if s.sheetDue then s.time.gt else s.nextSheetTick
    .next { (if t.start.frozen then t else t.sheetBoundary inp) with
      time := { s.time with gt := gt, sheetsRun := if t.start.frozen then s.time.sheetsRun else gt / 80 + 1 } }

/-! ### The operating second (R27) -/

/-- OPERATING_SECOND: 640,000 grid ticks after the last one began, the counter advances and is stored in MRAM. -/
def execOperatingSecond (s : State) : Out := s.whenLiveTimed <|
  if s.start.phase = 1 ∨ s.time.gt < s.time.secBase + 640000 then .next s
  else .next { s with time := { s.time with
    opSec := s.time.opSec + 1, mramSec := s.time.opSec + 1, secBase := s.time.secBase + 640000 } }

end Sys2Proof.Machine
end

