-- ==== Sys2Proof/Machine/Dispatch.lean ====
section
/-!
DEFINITION. The dispatch of a command to its meaning: one arm per row of opcode_table.json.
-/

namespace Sys2Proof.Machine

def exec (i : Instr) (s : State) : Host.Outcome State Fault Refusal :=
  match i with
  | .doorbellRing mb => Sys2Proof.Machine.execDoorbellRing mb s
  | .doorbellAck mb => Sys2Proof.Machine.execDoorbellAck mb s
  | .cmdCopyDone mb => Sys2Proof.Machine.execCmdCopyDone mb s
  | .responsePost mb => Sys2Proof.Machine.execResponsePost mb s
  | .notificationPost => Sys2Proof.Machine.execNotificationPost s
  | .nop mb => Sys2Proof.Machine.execNop mb s
  | .identify mb => Sys2Proof.Machine.execIdentify mb s
  | .mbLevel mb => Sys2Proof.Machine.execMbLevel mb s
  | .notifyMask mb => Sys2Proof.Machine.execNotifyMask mb s
  | .timestamp mb => Sys2Proof.Machine.execTimestamp mb s
  | .restart mb => Sys2Proof.Machine.execRestart mb s
  | .get mb => Sys2Proof.Machine.execGet mb s
  | .set mb => Sys2Proof.Machine.execSet mb s
  | .stage mb => Sys2Proof.Machine.execStage mb s
  | .commit mb => Sys2Proof.Machine.execCommit mb s
  | .discard mb => Sys2Proof.Machine.execDiscard mb s
  | .describe mb => Sys2Proof.Machine.execDescribe mb s
  | .atlasLoad mb => Sys2Proof.Machine.execAtlasLoad mb s
  | .atlasLoadDone bytes => Sys2Proof.Machine.execAtlasLoadDone bytes s
  | .atlasSwitch mb => Sys2Proof.Machine.execAtlasSwitch mb s
  | .atlasStatus mb => Sys2Proof.Machine.execAtlasStatus mb s
  | .posFix mb => Sys2Proof.Machine.execPosFix mb s
  | .posRoute mb => Sys2Proof.Machine.execPosRoute mb s
  | .passage mb => Sys2Proof.Machine.execPassage mb s
  | .winConfig mb => Sys2Proof.Machine.execWinConfig mb s
  | .winEnable mb => Sys2Proof.Machine.execWinEnable mb s
  | .routeLoad mb => Sys2Proof.Machine.execRouteLoad mb s
  | .trimLoad mb => Sys2Proof.Machine.execTrimLoad mb s
  | .firLoad mb => Sys2Proof.Machine.execFirLoad mb s
  | .bankApply mb => Sys2Proof.Machine.execBankApply mb s
  | .winStatus mb => Sys2Proof.Machine.execWinStatus mb s
  | .pathConfig mb => Sys2Proof.Machine.execPathConfig mb s
  | .amapLoad mb => Sys2Proof.Machine.execAmapLoad mb s
  | .pathEnable mb => Sys2Proof.Machine.execPathEnable mb s
  | .pathStatus mb => Sys2Proof.Machine.execPathStatus mb s
  | .domainMode mb => Sys2Proof.Machine.execDomainMode mb s
  | .laneTx mb => Sys2Proof.Machine.execLaneTx mb s
  | .laneTune mb => Sys2Proof.Machine.execLaneTune mb s
  | .beamSet mb => Sys2Proof.Machine.execBeamSet mb s
  | .laneConfig mb => Sys2Proof.Machine.execLaneConfig mb s
  | .captureArm mb => Sys2Proof.Machine.execCaptureArm mb s
  | .captureTrigger => Sys2Proof.Machine.execCaptureTrigger s
  | .captureDone data => Sys2Proof.Machine.execCaptureDone data s
  | .captureAbort mb data => Sys2Proof.Machine.execCaptureAbort mb data s
  | .captureRead mb => Sys2Proof.Machine.execCaptureRead mb s
  | .captureStatus mb => Sys2Proof.Machine.execCaptureStatus mb s
  | .loopMeasure mb => Sys2Proof.Machine.execLoopMeasure mb s
  | .calStart mb => Sys2Proof.Machine.execCalStart mb s
  | .pmcExport mb => Sys2Proof.Machine.execPmcExport mb s
  | .pmcStatus mb => Sys2Proof.Machine.execPmcStatus mb s
  | .fbStatus mb => Sys2Proof.Machine.execFbStatus mb s
  | .fbRead mb ue => Sys2Proof.Machine.execFbRead mb ue s
  | .fbNonce mb => Sys2Proof.Machine.execFbNonce mb s
  | .fbSeek mb => Sys2Proof.Machine.execFbSeek mb s
  | .fbClearCompat run => Sys2Proof.Machine.execFbClearCompat run s
  | .fbClear run => Sys2Proof.Machine.execFbClear run s
  | .fbKey run => Sys2Proof.Machine.execFbKey run s
  | .protStatus mb => Sys2Proof.Machine.execProtStatus mb s
  | .protStop mb => Sys2Proof.Machine.execProtStop mb s
  | .protRelease mb => Sys2Proof.Machine.execProtRelease mb s
  | .faultStatus mb => Sys2Proof.Machine.execFaultStatus mb s
  | .faultClear mb => Sys2Proof.Machine.execFaultClear mb s
  | .fiUnlock mb => Sys2Proof.Machine.execFiUnlock mb s
  | .fiInject mb => Sys2Proof.Machine.execFiInject mb s
  | .freeze mb => Sys2Proof.Machine.execFreeze mb s
  | .startStatus mb => Sys2Proof.Machine.execStartStatus mb s
  | .startRetry mb => Sys2Proof.Machine.execStartRetry mb s
  | .imageWrite mb => Sys2Proof.Machine.execImageWrite mb s
  | .ageStatus mb => Sys2Proof.Machine.execAgeStatus mb s
  | .ageReplan mb => Sys2Proof.Machine.execAgeReplan mb s
  | .ageBaseline mb => Sys2Proof.Machine.execAgeBaseline mb s
  | .ageRead mb => Sys2Proof.Machine.execAgeRead mb s
  | .lockAcquire mb => Sys2Proof.Machine.execLockAcquire mb s
  | .lockRenew mb => Sys2Proof.Machine.execLockRenew mb s
  | .lockRelease mb => Sys2Proof.Machine.execLockRelease mb s
  | .lockBreak mb => Sys2Proof.Machine.execLockBreak mb s
  | .lockStatus mb => Sys2Proof.Machine.execLockStatus mb s
  | .lockLeaseExpiry => Sys2Proof.Machine.execLockLeaseExpiry s
  | .registerWrite port addr narrow data => Sys2Proof.Machine.execRegisterWrite port addr narrow data s
  | .clearingRead port addr narrow => Sys2Proof.Machine.execClearingRead port addr narrow s
  | .aliasAccess port addr acc => Sys2Proof.Machine.execAliasAccess port addr acc s
  | .sspiTransaction opening data reads => Sys2Proof.Machine.execSspiTransaction opening data reads s
  | .gtSecRead => Sys2Proof.Machine.execGtSecRead s
  | .poolUsedRead m => Sys2Proof.Machine.execPoolUsedRead m s
  | .stDataRead m => Sys2Proof.Machine.execStDataRead m s
  | .jres0Read m j => Sys2Proof.Machine.execJres0Read m j s
  | .valLoRead m idx => Sys2Proof.Machine.execValLoRead m idx s
  | .ap0Read m ue => Sys2Proof.Machine.execAp0Read m ue s
  | .ap15Read m => Sys2Proof.Machine.execAp15Read m s
  | .tblDataAccess m write => Sys2Proof.Machine.execTblDataAccess m write s
  | .amapDataAccess m write => Sys2Proof.Machine.execAmapDataAccess m write s
  | .rseqDataAccess m master write => Sys2Proof.Machine.execRseqDataAccess m master write s
  | .wctlEnWrite m w data => Sys2Proof.Machine.execWctlEnWrite m w data s
  | .wctlSwap m w data => Sys2Proof.Machine.execWctlSwap m w data s
  | .pcfg0EnWrite m p data => Sys2Proof.Machine.execPcfg0EnWrite m p data s
  | .calCtlRxStart m n data => Sys2Proof.Machine.execCalCtlRxStart m n data s
  | .calCtlTxStart m n data => Sys2Proof.Machine.execCalCtlTxStart m n data s
  | .calibrationEnd n tx result => Sys2Proof.Machine.execCalibrationEnd n tx result s
  | .svyFence m data => Sys2Proof.Machine.execSvyFence m data s
  | .snsCal0 m data => Sys2Proof.Machine.execSnsCal0 m data s
  | .snsCal1 m data => Sys2Proof.Machine.execSnsCal1 m data s
  | .snsSwap m data => Sys2Proof.Machine.execSnsSwap m data s
  | .injReqGo m data => Sys2Proof.Machine.execInjReqGo m data s
  | .pmcClear m data => Sys2Proof.Machine.execPmcClear m data s
  | .loopStart m w data => Sys2Proof.Machine.execLoopStart m w data s
  | .loopMeasureEnd w lags => Sys2Proof.Machine.execLoopMeasureEnd w lags s
  | .swTrig m master data => Sys2Proof.Machine.execSwTrig m master data s
  | .ageNow m data => Sys2Proof.Machine.execAgeNow m data s
  | .sealWrite m set data => Sys2Proof.Machine.execSealWrite m set data s
  | .sealHoldWrite m set data => Sys2Proof.Machine.execSealHoldWrite m set data s
  | .sealHoldTimeout set => Sys2Proof.Machine.execSealHoldTimeout set s
  | .sweepPassDone set => Sys2Proof.Machine.execSweepPassDone set s
  | .scfgFreqWrite m syn data => Sys2Proof.Machine.execScfgFreqWrite m syn data s
  | .lsrcWrite m n data => Sys2Proof.Machine.execLsrcWrite m n data s
  | .txEnWrite m n data => Sys2Proof.Machine.execTxEnWrite m n data s
  | .rxEnWrite m n data => Sys2Proof.Machine.execRxEnWrite m n data s
  | .dctlEnWrite m d data => Sys2Proof.Machine.execDctlEnWrite m d data s
  | .ccfg3EnWrite m k data => Sys2Proof.Machine.execCcfg3EnWrite m k data s
  | .conEnWrite m data => Sys2Proof.Machine.execConEnWrite m data s
  | .alertSwWrite m data => Sys2Proof.Machine.execAlertSwWrite m data s
  | .tddCtlWrite m data => Sys2Proof.Machine.execTddCtlWrite m data s
  | .rceCtlWrite m data => Sys2Proof.Machine.execRceCtlWrite m data s
  | .gridTickBoundary inp => Sys2Proof.Machine.execGridTickBoundary inp s
  | .oscClosure d => Sys2Proof.Machine.execOscClosure d s
  | .gateClose w idx => Sys2Proof.Machine.execGateClose w idx s
  | .pieceCompletion eng path row block again cycle => Sys2Proof.Machine.execPieceCompletion eng path row block again cycle s
  | .tickClose => Sys2Proof.Machine.execTickClose s
  | .reexecDeadline => Sys2Proof.Machine.execReexecDeadline s
  | .engineWatchdog eng => Sys2Proof.Machine.execEngineWatchdog eng s
  | .residueFailure eng => Sys2Proof.Machine.execResidueFailure eng s
  | .svyEccCe q => Sys2Proof.Machine.execSvyEccCe q s
  | .svyEccUe q site => Sys2Proof.Machine.execSvyEccUe q site s
  | .crossbarParity q => Sys2Proof.Machine.execCrossbarParity q s
  | .coverTestDone => Sys2Proof.Machine.execCoverTestDone s
  | .sheetBoundary inp => Sys2Proof.Machine.execSheetBoundary inp s
  | .contourLost d kind => Sys2Proof.Machine.execContourLost d kind s
  | .contourFrozen d kind => Sys2Proof.Machine.execContourFrozen d kind s
  | .supHoldExpiry d => Sys2Proof.Machine.execSupHoldExpiry d s
  | .guardExpiry d => Sys2Proof.Machine.execGuardExpiry d s
  | .plausMaxReached d kind => Sys2Proof.Machine.execPlausMaxReached d kind s
  | .presenceAssert idx => Sys2Proof.Machine.execPresenceAssert idx s
  | .trackEmpty track => Sys2Proof.Machine.execTrackEmpty track s
  | .corrStale n moved => Sys2Proof.Machine.execCorrStale n moved s
  | .rowReloadDone path row => Sys2Proof.Machine.execRowReloadDone path row s
  | .cutEnd path row => Sys2Proof.Machine.execCutEnd path row s
  | .skHalfEnd path row => Sys2Proof.Machine.execSkHalfEnd path row s
  | .checkpointGenerationStart => Sys2Proof.Machine.execCheckpointGenerationStart s
  | .checkpointGenerationDone => Sys2Proof.Machine.execCheckpointGenerationDone s
  | .counterDump => Sys2Proof.Machine.execCounterDump s
  | .operatingSecond => Sys2Proof.Machine.execOperatingSecond s
  | .recceJobDue j => Sys2Proof.Machine.execRecceJobDue j s
  | .recceJobStart pa pb ognt => Sys2Proof.Machine.execRecceJobStart pa pb ognt s
  | .recceJobEnd r => Sys2Proof.Machine.execRecceJobEnd r s
  | .resultPost => Sys2Proof.Machine.execResultPost s
  | .synrcUnlock => Sys2Proof.Machine.execSynrcUnlock s
  | .surveyStale span => Sys2Proof.Machine.execSurveyStale span s
  | .cxReqAssert idx pri => Sys2Proof.Machine.execCxReqAssert idx pri s
  | .cxPriAssert idx => Sys2Proof.Machine.execCxPriAssert idx s
  | .deferralTimeout idx => Sys2Proof.Machine.execDeferralTimeout idx s
  | .cxGntAssert idx => Sys2Proof.Machine.execCxGntAssert idx s
  | .cxReqDeassert idx => Sys2Proof.Machine.execCxReqDeassert idx s
  | .cxMaxHold idx => Sys2Proof.Machine.execCxMaxHold idx s
  | .cxOgntDeassert => Sys2Proof.Machine.execCxOgntDeassert s
  | .ograntTimeout => Sys2Proof.Machine.execOgrantTimeout s
  | .senseSlot a0 a1 => Sys2Proof.Machine.execSenseSlot a0 a1 s
  | .senseSequenceEnd => Sys2Proof.Machine.execSenseSequenceEnd s
  | .injectedConversion c a delayed => Sys2Proof.Machine.execInjectedConversion c a delayed s
  | .snsCalStep c r => Sys2Proof.Machine.execSnsCalStep c r s
  | .snsCalDue c moved => Sys2Proof.Machine.execSnsCalDue c moved s
  | .clrFloorTrip d => Sys2Proof.Machine.execClrFloorTrip d s
  | .nrsTrip w => Sys2Proof.Machine.execNrsTrip w s
  | .emsTrip w => Sys2Proof.Machine.execEmsTrip w s
  | .spurTrip step => Sys2Proof.Machine.execSpurTrip step s
  | .protHoldRelease kind cls target => Sys2Proof.Machine.execProtHoldRelease kind cls target s
  | .datumTickTimeout => Sys2Proof.Machine.execDatumTickTimeout s
  | .datumRestart => Sys2Proof.Machine.execDatumRestart s
  | .datumRestartDone => Sys2Proof.Machine.execDatumRestartDone s
  | .faultEvent events => Sys2Proof.Machine.execFaultEvent events s
  | .faultClearance source => Sys2Proof.Machine.execFaultClearance source s
  | .pairInvalid source => Sys2Proof.Machine.execPairInvalid source s
  | .faultReaction => Sys2Proof.Machine.execFaultReaction s
  | .escIntervalEnd source => Sys2Proof.Machine.execEscIntervalEnd source s
  | .alertPulseEnd => Sys2Proof.Machine.execAlertPulseEnd s
  | .synLock syn => Sys2Proof.Machine.execSynLock syn s
  | .synSettled syn => Sys2Proof.Machine.execSynSettled syn s
  | .synUnlock syn => Sys2Proof.Machine.execSynUnlock syn s
  | .lockAttemptTimeout syn => Sys2Proof.Machine.execLockAttemptTimeout syn s
  | .txPendingTimeout n => Sys2Proof.Machine.execTxPendingTimeout n s
  | .refInvalid second => Sys2Proof.Machine.execRefInvalid second s
  | .refRevert => Sys2Proof.Machine.execRefRevert s
  | .holdoverLong => Sys2Proof.Machine.execHoldoverLong s
  | .ppsEdge off => Sys2Proof.Machine.execPpsEdge off s
  | .tddResultTimeout => Sys2Proof.Machine.execTddResultTimeout s
  | .tddHoldoverExpiry => Sys2Proof.Machine.execTddHoldoverExpiry s
  | .tddStep => Sys2Proof.Machine.execTddStep s
  | .segmentStart w off => Sys2Proof.Machine.execSegmentStart w off s
  | .patternChange w => Sys2Proof.Machine.execPatternChange w s
  | .guardWaitEnd w off => Sys2Proof.Machine.execGuardWaitEnd w off s
  | .rffeSequenceStart master seq instant off => Sys2Proof.Machine.execRffeSequenceStart master seq instant off s
  | .rffeSequenceEnd master data parity => Sys2Proof.Machine.execRffeSequenceEnd master data parity s
  | .recordOffer r => Sys2Proof.Machine.execRecordOffer r s
  | .recordWrite failures => Sys2Proof.Machine.execRecordWrite failures s
  | .dropsOffer => Sys2Proof.Machine.execDropsOffer s
  | .nonceLapse => Sys2Proof.Machine.execNonceLapse s
  | .authBusyEnd => Sys2Proof.Machine.execAuthBusyEnd s
  | .fiUnlockLapse => Sys2Proof.Machine.execFiUnlockLapse s
  | .dramUe ch entry => Sys2Proof.Machine.execDramUe ch entry s
  | .dramCmdTimeout ch => Sys2Proof.Machine.execDramCmdTimeout ch s
  | .lockstepMismatch => Sys2Proof.Machine.execLockstepMismatch s
  | .failoverTakeover => Sys2Proof.Machine.execFailoverTakeover s
  | .warmRestartDone ok => Sys2Proof.Machine.execWarmRestartDone ok s
  | .vinValid => Sys2Proof.Machine.execVinValid s
  | .railsReady sel => Sys2Proof.Machine.execRailsReady sel s
  | .vinLoss => Sys2Proof.Machine.execVinLoss s
  | .vinLow mv => Sys2Proof.Machine.execVinLow mv s
  | .resetNAssert => Sys2Proof.Machine.execResetNAssert s
  | .resetNRelease sel => Sys2Proof.Machine.execResetNRelease sel s
  | .datumOrderedStart sel => Sys2Proof.Machine.execDatumOrderedStart sel s
  | .romBootDone ms trained ref1 ref2 mainOk spareOk => Sys2Proof.Machine.execRomBootDone ms trained ref1 ref2 mainOk spareOk s
  | .imageVerifyDone img => Sys2Proof.Machine.execImageVerifyDone img s
  | .startCalDone rx tx sns => Sys2Proof.Machine.execStartCalDone rx tx sns s
  | .sketchEntry => Sys2Proof.Machine.execSketchEntry s
  | .trainingRamp => Sys2Proof.Machine.execTrainingRamp s
  | .fullEntry => Sys2Proof.Machine.execFullEntry s
  | .startFailTimeout => Sys2Proof.Machine.execStartFailTimeout s
  | .failCountClear => Sys2Proof.Machine.execFailCountClear s
  | .freezeNAssert => Sys2Proof.Machine.execFreezeNAssert s
  | .perstNAssert => Sys2Proof.Machine.execPerstNAssert s
  | .perstNDeassert width speed master => Sys2Proof.Machine.execPerstNDeassert width speed master s
  | .pciLink => Sys2Proof.Machine.execPciLink s
  | .insetSel region word => Sys2Proof.Machine.execInsetSel region word s
  | .insetRead raw ue => Sys2Proof.Machine.execInsetRead raw ue s
  | .insetStat => Sys2Proof.Machine.execInsetStat s
  | .extest pins data => Sys2Proof.Machine.execExtest pins data s
  | .samplePreload pins data => Sys2Proof.Machine.execSamplePreload pins data s
  | .bypass bits => Sys2Proof.Machine.execBypass bits s
  | .testLogicReset => Sys2Proof.Machine.execTestLogicReset s
  | .periodicReplanDue => Sys2Proof.Machine.execPeriodicReplanDue s
  | .replanDone used => Sys2Proof.Machine.execReplanDone used s
  | .ageCanary k => Sys2Proof.Machine.execAgeCanary k s
  | .recalDue n tx => Sys2Proof.Machine.execRecalDue n tx s
  | .imageWriteDone img => Sys2Proof.Machine.execImageWriteDone img s
  | .counterWrap idx n => Sys2Proof.Machine.execCounterWrap idx n s
  | .linkL0Return width speed master => Sys2Proof.Machine.execLinkL0Return width speed master s

end Sys2Proof.Machine
end

