-- ==== Sys2Proof/Safety.lean ====
section
/-!
DEFINITION. The terms that claims about the block use: what raising events, records and notifications may change, when a command of
a mailbox runs and how it is answered, and the invariants of the timebase and of the sparse maps.
-/

namespace Sys2Proof.Machine

/-! ### What an event raised by the way may change -/

/-- Offsets outside the registers that the fault collector (ALERT, FIRST, SAMECYC, SSTAT, CLR_SEC, CLR_GT) and a counter's wrap (VAL_HI)
write of their own accord. -/
def quiet (off : Nat) : Bool :=
  !(decide (0x34048 ≤ off ∧ off < 0x34060) || decide (0x34080 ≤ off ∧ off < 0x340C0) || decide (0x35800 ≤ off ∧ off < 0x36000) ||
    decide (0x37000 ≤ off ∧ off < 0x38000) || decide (0x3A400 ≤ off ∧ off < 0x3C000 ∧ off % 16 = 12))

/-- The state without what raising events, offering records, raising notifications and counting change: the collector's work, the
staging FIFO and its counts, the notifications, the counters, a capture's trigger; and without the register store, which
`OnlyRaised` treats register by register. -/
def State.quietPart (s : State) : State :=
  { s with
    csr := []
    fw := { s.fw with notices := State.reset.fw.notices }
    flt := { State.reset.flt with unlockEnd := s.flt.unlockEnd, armed := s.flt.armed }
    book := { s.book with fifo := [], coal := 0, drop := [], dropped := [], firstDrop := none, lastDrop := none }
    pmc := { s.pmc with cnt := [], wraps := [], wrapped := [] }
    capt := { s.capt with hit := none } }

/-- `t` is `s` but for events, records, notifications and counts raised by the way. -/
structure OnlyRaised (s t : State) : Prop where
  part : t.quietPart = s.quietPart
  regs : ∀ off, quiet off = true → t.reg off = s.reg off

/-- `t` is `s` but for the queue and the held responses of mailbox `m`, which only grow at their end, and what is raised by the way. -/
structure OnlyAnswered (m : Nat) (s t : State) : Prop where
  part : { t.quietPart with mbox := [] } = { s.quietPart with mbox := [] }
  regs : ∀ off, quiet off = true → t.reg off = s.reg off
  box : { t.mb m with queue := [], waiting := [] } = { s.mb m with queue := [], waiting := [] }
  grows : ∃ more, (t.mb m).waiting = (s.mb m).waiting ++ more
  others : ∀ k, k ≠ m → t.mb k = s.mb k

/-! ### Commands of a mailbox -/

/-- Mailbox `mb` has `c` as its oldest command not started, with opcode `op`, and it passes the checks 1 to 4 of R257 at `level`; its
executor and the service state serve it (R34, R341, R347). -/
def State.runs (s : State) (mb op level : Nat) (permissive : Bool) (c : Command) : Prop :=
  s.alive = true ∧ s.serves op = true ∧ s.romServes mb = true ∧ s.oldest mb = some c ∧ c.opcode = op ∧ c.early = false ∧
    s.checkCommand mb c level permissive = none ∧ s.unserved c = false

/-- The next response of mailbox `mb` after those it held in `s` answers command `c` with a status and payload (R255). -/
def State.answers (s t : State) (mb : Nat) (c : Command) (status : Nat) (payload : List Word) : Prop :=
  ∃ r more, (t.mb mb).waiting = (s.mb mb).waiting ++ r :: more ∧ r.tag = c.tag ∧ r.status = status ∧ r.payload = payload

/-! ### Invariants -/

/-- SYS.OP_SEC and the copy in MRAM agree to within one second, the MRAM copy behind, and the power-cycle count fits its 24 bits (R27). -/
def Time.Kept (t : Time) : Prop := t.mramSec ≤ t.opSec ∧ t.opSec ≤ t.mramSec + 1 ∧ t.pwrCyc ≤ 0xFFFFFF

/-- The canonical form of the register store: offsets rise, and no word equal to its reset value is listed. -/
def State.StoreCanonical (s : State) : Prop :=
  mapSorted s.csr 0 = true ∧ ∀ p ∈ s.csr, p.2 ≠ wd (resetAt p.1)

/-! ### Commands by what they may do -/

/-- The commands that move the timebase: its boundaries, and those that bring a start or a reset. -/
def movesTime : Instr → Bool
  | .gridTickBoundary _ | .sheetBoundary _ | .operatingSecond | .datumOrderedStart _ | .startRetry _ | .warmRestartDone _ | .vinValid
  | .railsReady _ | .vinLoss | .resetNAssert | .resetNRelease _ | .romBootDone .. => true
  | _ => false

/-- The commands that act on a device that is without its rails, in reset or frozen: its power and reset pins, the host link's and the
coexistence inputs' pins, the test access port, and the end of the ALERT_N pulse. -/
def worksStopped : Instr → Bool
  | .vinValid | .railsReady _ | .vinLoss | .resetNAssert | .resetNRelease _ | .romBootDone .. | .perstNAssert | .perstNDeassert ..
  | .pciLink | .linkL0Return .. | .cxReqAssert .. | .cxReqDeassert _ | .insetSel .. | .insetRead .. | .insetStat | .extest ..
  | .samplePreload .. | .bypass _ | .testLogicReset | .alertPulseEnd => true
  | _ => false

end Sys2Proof.Machine
end

