-- ==== Sys2Proof/Certificates/Slice0/Obligations.lean ====
section
/-!
DEFINITION. The statements for the provers. Each says, for the rows it names, that the command completes with the effect its rule
gives: exec answers a next state in which the named facts hold.
-/

open Sys2Proof Sys2Proof.Machine

/-! ### The queue of commands -/

/-- A step takes the command at the front of the queue and runs it on the state with the queue's rest (the block's form of "a step runs the
decoded instruction"). -/
def Obligations.StepRunsFrontCommand : Prop :=
  ∀ (c : Instr) (rest : List Instr) (s : State), s.pending = c :: rest → step s = exec c { s with pending := rest }

/-- No command touches the queue, so a step consumes exactly the front command; on an empty queue the block idles (the model's choice, log
entry 2). -/
def Obligations.StepConsumesOneCommand : Prop :=
  (∀ (c : Instr) (s t : State), exec c s = .next t → t.pending = s.pending) ∧
    (∀ s t : State, step s = .next t → t.pending = s.pending.tail) ∧ ∀ s : State, s.pending = [] → step s = .next s

/-- No command faults and none is refused: every command answers a next state in every state. -/
def Obligations.EveryCommandCompletes : Prop := ∀ (c : Instr) (s : State), ∃ t, exec c s = .next t

/-! ### Time, reset and life -/

/-- GRID_TICK_BOUNDARY advances the grid tick by one and nothing else of the timebase; SHEET_BOUNDARY stands at a sheet boundary, the one that
is due or else the next, and counts the sheet as run; OPERATING_SECOND, once 640,000 grid ticks have passed since the last, advances
SYS.OP_SEC and stores it in MRAM, and does nothing before (R27, R30, R32). -/
def Obligations.BoundariesMoveTime : Prop :=
  (∀ (inp : TickInput) (s : State), s.alive = true → s.start.phase ≠ 1 →
    ∃ t, exec (.gridTickBoundary inp) s = .next t ∧ t.time = { s.time with gt := s.time.gt + 1 }) ∧
  (∀ (inp : SheetInput) (s : State), s.alive = true → s.start.phase ≠ 1 →
    ∃ t, exec (.sheetBoundary inp) s = .next t ∧ t.time.gt % 80 = 0 ∧
      (s.sheetDue = true → t.time.gt = s.time.gt) ∧ (s.sheetDue = false → t.time.gt = (s.time.gt / 80 + 1) * 80) ∧
      (s.toSheet.start.frozen = false → t.time.sheetsRun = t.time.gt / 80 + 1) ∧ t.time.opSec = s.time.opSec ∧
      t.time.mramSec = s.time.mramSec ∧ t.time.pwrCyc = s.time.pwrCyc ∧ t.time.secBase = s.time.secBase) ∧
  (∀ s : State, s.alive = true → s.start.phase ≠ 1 → ∃ t, exec .operatingSecond s = .next t ∧
    (s.time.secBase + 640000 ≤ s.time.gt → t = { s with time := { s.time with
      opSec := s.time.opSec + 1, mramSec := s.time.opSec + 1, secBase := s.time.secBase + 640000 } }) ∧
    (s.time.gt < s.time.secBase + 640000 → t = s))

/-- No command moves the timebase but the boundaries of time and those that bring a start or a reset. -/
def Obligations.OnlyBoundariesMoveTime : Prop :=
  ∀ (c : Instr) (s t : State), movesTime c = false → exec c s = .next t → t.time = s.time

/-- The operating second never goes back: a step from a state whose copy in MRAM is at most one second behind gives such a state, whatever the
command, resets and losses of power included, with SYS.OP_SEC, its copy and the count of power cycles no lower (R27). -/
def Obligations.OperatingTimeNeverGoesBack : Prop :=
  ∀ s t : State, s.time.Kept → step s = .next t → t.time.Kept ∧ s.time.opSec ≤ t.time.opSec ∧ s.time.mramSec ≤ t.time.mramSec ∧
    s.time.pwrCyc ≤ t.time.pwrCyc

/-- A device without its rails, in reset or frozen takes no command but those of its power and reset pins, the pins of its links, the test
access port and the end of the ALERT_N pulse: any other leaves the state as it is (R348, R366; for rows other than the spec's examples the
model's reading, log entry 3). -/
def Obligations.StoppedDeviceIsInert : Prop :=
  ∀ (c : Instr) (s : State), worksStopped c = false → s.alive = false → exec c s = .next s

/-- The state at reset: powered and released, in ROM boot (Table 18.2), nothing waits, every register of the store at its reset value, four
tokens to every mailbox and none queued (R252), the lock free, and the invariants of the timebase and of the store. -/
def Obligations.ResetLeaves : Prop :=
  State.reset.alive = true ∧ State.reset.start.phase = 1 ∧ State.reset.pending = [] ∧ State.reset.time.Kept ∧ State.reset.StoreCanonical ∧
    (∀ off, State.reset.reg off = wd (resetAt off)) ∧ State.reset.fw.lockHolder = none ∧
    ∀ k, (State.reset.mb k).tokens = 4 ∧ (State.reset.mb k).queued = 0 ∧ (State.reset.mb k).rspValid = false

/-! ### Mailboxes, their system commands and the maintenance lock (13, R252 to R256, R261, R266) -/

/-- DOORBELL_RING: a ring with a free token, CMD not being copied, EN = 1, not on MB15 and with no RST answer owed moves a token to QUEUED,
counts the acceptance and sets CMD_BUSY; any other ring sets DB_OVF and does nothing else to the mailbox (R253). DOORBELL_ACK: an
acknowledgement of a posted response empties RSP and, but on MB15, returns its token; one with RSP empty sets DB_OVF and has no other
effect (R254). -/
def Obligations.DoorbellsMoveTokens : Prop :=
  (∀ (mb : Fin 20) (s : State), s.alive = true → ∃ t, exec (.doorbellRing mb) s = .next t ∧
    (1 ≤ (s.mb mb).tokens → (s.mb mb).cmdBusy = false → s.getB Fd.MBX_MBCFG_EN mb = true → mb ≠ 15 → (s.mb mb).owesReset = false →
      (t.mb mb).tokens + 1 = (s.mb mb).tokens ∧ (t.mb mb).queued = (s.mb mb).queued + 1 ∧
        (t.mb mb).acceptCnt = (s.mb mb).acceptCnt + 1 ∧ (t.mb mb).cmdBusy = true ∧ (t.mb mb).dbOvf = (s.mb mb).dbOvf) ∧
    (¬ (1 ≤ (s.mb mb).tokens ∧ (s.mb mb).cmdBusy = false ∧ s.getB Fd.MBX_MBCFG_EN mb = true ∧ mb ≠ 15 ∧ (s.mb mb).owesReset = false) →
      t.mb mb = { s.mb mb with dbOvf := true }) ∧
    (∀ k, k ≠ mb.val → t.mb k = s.mb k) ∧ OnlyRaised { s with mbox := t.mbox } t) ∧
  (∀ (mb : Fin 20) (s : State), s.alive = true → ∃ t, exec (.doorbellAck mb) s = .next t ∧
    ((s.mb mb).rspValid = true → (t.mb mb).rspValid = false ∧
      (mb ≠ 15 → (t.mb mb).tokens = (s.mb mb).tokens + 1 ∧ (t.mb mb).queued = (s.mb mb).queued - 1) ∧
      (mb = 15 → (t.mb mb).tokens = (s.mb mb).tokens ∧ (t.mb mb).queued = (s.mb mb).queued)) ∧
    ((s.mb mb).rspValid = false → t.mb mb = { s.mb mb with dbOvf := true }) ∧
    t = { s with mbox := t.mbox } ∧ ∀ k, k ≠ mb.val → t.mb k = s.mb k)

/-- CMD_COPY_DONE: the copied header and payload enter the queue behind the commands that wait, and CMD_BUSY clears (R253); an unstarted
command of an undefined opcode at the front of the queue is answered at once, so the clause on the queue is of defined ones. RESPONSE_POST
and NOTIFICATION_POST: into an empty RSP the first response at its posting time is copied, RSP_VALID sets and RSP_CNT advances; on MB15
the oldest queued notification; a raised notification at its posting time enters the MB15 queue while it holds fewer than 64 (R254, R256,
R261). -/
def Obligations.CommandsEnterAndResponsesPost : Prop :=
  (∀ (mb : Fin 20) (s : State), s.alive = true → (s.mb mb).cmdBusy = true → ∃ t, exec (.cmdCopyDone mb) s = .next t ∧
    (t.mb mb).cmdBusy = false ∧ (t.mb mb).tokens = (s.mb mb).tokens ∧ (t.mb mb).queued = (s.mb mb).queued ∧
    ((∀ c ∈ (s.mb mb).queue ++ [(s.mb mb).copied], opcodeDefined c.opcode = true) →
      (t.mb mb).queue = (s.mb mb).queue ++ [(s.mb mb).copied] ∧ (t.mb mb).waiting = (s.mb mb).waiting)) ∧
  ((∀ (mb : Fin 20) (s : State) (r : Response) (rest : List Response), s.alive = true → mb ≠ 15 → (s.mb mb).rspValid = false →
    takeFirst (fun r => decide (r.postAt ≤ s.time.gt)) (s.mb mb).waiting = some (r, rest) →
    ∃ t, exec (.responsePost mb) s = .next t ∧ (t.mb mb).rsp = r.header :: r.payload ∧ (t.mb mb).rspValid = true ∧
      (t.mb mb).rspCnt = (s.mb mb).rspCnt + 1 ∧ (t.mb mb).waiting = rest ∧ (t.mb mb).tokens = (s.mb mb).tokens) ∧
  (∀ (s : State) (n : Notification) (rest : List Notification), s.alive = true → (s.mb 15).rspValid = false →
    s.fw.notices.queue = n :: rest →
    ∃ t, exec (.responsePost 15) s = .next t ∧ (t.mb 15).rsp = n.words s.fw.notices.lost ∧ (t.mb 15).rspValid = true ∧
      (t.mb 15).rspCnt = (s.mb 15).rspCnt + 1 ∧ t.fw.notices.queue = rest ∧ t.fw.notices.lost = false) ∧
  (∀ (s : State) (n : Notification) (rest : List Notification), s.alive = true → s.fw.notices.queue.length < 64 →
    takeFirst (fun n => decide (n.postAt ≤ s.time.gt)) s.fw.notices.raised = some (n, rest) →
    ∃ t, exec .notificationPost s = .next t ∧ t.fw.notices.raised = rest ∧ t.fw.notices.queue = s.fw.notices.queue ++ [n] ∧ t.csr = s.csr))

/-- TOKENS + QUEUED = 4 survives the four rows that move tokens, responses and commands, in every mailbox whose posted response still has its
token out (R252, R301). -/
def Obligations.TokensConserved : Prop :=
  ∀ (mb : Fin 20) (k : Nat) (s t : State) (i : Instr),
    i = .doorbellRing mb ∨ i = .doorbellAck mb ∨ i = .cmdCopyDone mb ∨ i = .responsePost mb →
    ((s.mb k).rspValid = true → k ≠ 15 → 1 ≤ (s.mb k).queued) →
    (s.mb k).tokens + (s.mb k).queued = 4 → exec i s = .next t → (t.mb k).tokens + (t.mb k).queued = 4

/-- The checks of R257 before the payload, in their order: LENGTH gives BAD_LENGTH, a reserved flag BAD_PARAM, the level NOT_PERMITTED; the
refused command is answered without a payload and does nothing. -/
def Obligations.ChecksRefuseInOrder : Prop :=
  ∀ (mb : Fin 20) (i : Instr) (op level : Nat),
    (i, op, level) ∈ [(.nop mb, 0x00, 1), (.identify mb, 0x01, 1), (.mbLevel mb, 0x02, 3), (.notifyMask mb, 0x03, 3),
      (.timestamp mb, 0x04, 1), (.restart mb, 0x05, 3), (.get mb, 0x10, 2), (.discard mb, 0x14, 1), (.describe mb, 0x15, 2),
      (.atlasLoad mb, 0x20, 3), (.atlasStatus mb, 0x22, 2), (.posFix mb, 0x23, 3), (.winStatus mb, 0x36, 2), (.pathStatus mb, 0x3A, 2),
      (.fbKey ⟨mb, 0, false⟩, 0x5E, 3), (.lockAcquire mb, 0xE0, 1), (.lockBreak mb, 0xE3, 3), (.lockStatus mb, 0xE4, 1)] →
    ∀ (s : State) (c : Command), s.alive = true → s.serves op = true → s.romServes mb = true → s.oldest mb = some c → c.opcode = op →
      c.early = false →
      ∃ t, exec i s = .next t ∧
        (lengthOk c = false ∨ 63 < c.len → s.answers t mb c 0x03 [] ∧ OnlyAnswered mb s t) ∧
        (lengthOk c = true → c.len ≤ 63 → c.flags / 4 ≠ 0 → s.answers t mb c 0x04 [] ∧ OnlyAnswered mb s t) ∧
        (lengthOk c = true → c.len ≤ 63 → c.flags / 4 = 0 → c.level < level → s.answers t mb c 0x05 [] ∧ OnlyAnswered mb s t)

/-- NOP, IDENTIFY and TIMESTAMP answer OK with the payload of Table 13.8 and change nothing else, but that TIMESTAMP latches OP_SEC, PWR_CYC
and SHEET_CNT together as a read of GT_SEC does (R28). MB_LEVEL keeps the level it sets for the
posting of its response, and BAD_PARAM turns away MB0, MB15, a mailbox above 19 and level 0; NOTIFY_MASK writes MBX.NMASK; RESTART with
the word "REST" begins a warm restart, with STATE RESTART and READY 0, and any other word is BAD_PARAM (Table 13.8, R28, R251, R257, R261,
R285, R344). -/
def Obligations.SystemCommandsAct : Prop :=
  ((∀ (mb : Fin 20) (s : State) (c : Command), s.runs mb 0x00 1 false c →
    ∃ t, exec (.nop mb) s = .next t ∧ s.answers t mb c 0 (c.payload.take 63) ∧ OnlyAnswered mb s t) ∧
  (∀ (mb : Fin 20) (s : State) (c : Command), s.runs mb 0x01 1 false c →
    ∃ t, exec (.identify mb) s = .next t ∧
      s.answers t mb c 0 [s.reg (Reg.SYS_DEV_ID.off 0 0), s.fw.version, s.reg (Reg.SYS_SERIAL_LO.off 0 0),
        s.reg (Reg.SYS_SERIAL_HI.off 0 0), wd (s.get Fd.MBX_CSTAT_PAIR + s.fw.bootImage * 256)] ∧ OnlyAnswered mb s t) ∧
  (∀ (mb : Fin 20) (s : State) (c : Command), s.runs mb 0x04 1 false c →
    ∃ t, exec (.timestamp mb) s = .next t ∧
      s.answers t mb c 0 [wd s.time.opSec, wd s.time.pwrCyc, wd s.gtInSec] ∧ OnlyAnswered mb s.latchTime t)) ∧
  ((∀ (mb : Fin 20) (s : State) (c : Command), s.runs mb 0x02 3 false c →
    ∃ t, exec (.mbLevel mb) s = .next t ∧
      (let m := wbits (c.word 1) 4 0
       let l := wbits (c.word 1) 9 8
       (m = 0 ∨ m = 15 ∨ 19 < m ∨ l = 0 → s.answers t mb c 4 [] ∧ OnlyAnswered mb s t) ∧
       (¬ (m = 0 ∨ m = 15 ∨ 19 < m ∨ l = 0) → s.answers t mb c 0 [] ∧
         (t.mb mb).levelPending = (s.mb mb).levelPending ++ [(c.tag, m, l)]))) ∧
  (∀ (mb : Fin 20) (s : State) (c : Command), s.runs mb 0x03 3 false c →
    ∃ t, exec (.notifyMask mb) s = .next t ∧ s.answers t mb c 0 [] ∧ t.get Fd.MBX_NMASK_EN = wbits (c.word 1) 15 0 ∧
      OnlyAnswered mb (s.set Fd.MBX_NMASK_EN (wbits (c.word 1) 15 0)) t) ∧
  (∀ (mb : Fin 20) (s : State) (c : Command), s.runs mb 0x05 3 false c →
    ∃ t, exec (.restart mb) s = .next t ∧
      (c.word 1 ≠ 0x52455354 → s.answers t mb c 4 [] ∧ OnlyAnswered mb s t) ∧
      (c.word 1 = 0x52455354 → t.start.warm = true ∧ t.get Fd.PWR_SVC_STATE = 5 ∧ t.getB Fd.MBX_CSTAT_READY = false ∧
        t.fw.lockHolder = none)))

/-- LOCK_ACQUIRE grants the free lock for 1 to 3,600 s and answers LOCKED with the holder while another mailbox holds it; LOCK_RENEW moves the
holder's lease end and answers STATE to others (Table 13.14, R266; the rounding of the lease end to a second boundary is the model's
choice, log entry 11). LOCK_RELEASE frees the lock for its holder and answers STATE to others; LOCK_BREAK frees it whoever holds it;
LOCK_LEASE_EXPIRY frees it once the operating second has reached the lease end; each end of the lock ends a field-injection unlock;
LOCK_STATUS answers the holder (0xFF where none holds it) and the time left (Table 13.14, R266, R298). -/
def Obligations.MaintenanceLockGoverns : Prop :=
  ((∀ (mb : Fin 20) (s : State) (c : Command), s.runs mb 0xE0 1 false c → 1 ≤ (c.word 1).toNat → (c.word 1).toNat ≤ 3600 →
    ∃ t, exec (.lockAcquire mb) s = .next t ∧
      (s.fw.lockHolder = none ∨ s.fw.lockHolder = some mb.val →
        t.fw.lockHolder = some mb.val ∧ t.fw.leaseEnd = s.time.opSec + (c.word 1).toNat + (if s.gtInSec = 0 then 0 else 1) ∧
          s.answers t mb c 0 [wd t.fw.leaseEnd]) ∧
      (∀ h, s.fw.lockHolder = some h → h ≠ mb.val → s.answers t mb c 0x0B [wd h] ∧ OnlyAnswered mb s t)) ∧
  (∀ (mb : Fin 20) (s : State) (c : Command), s.runs mb 0xE1 1 false c → 1 ≤ (c.word 1).toNat → (c.word 1).toNat ≤ 3600 →
    ∃ t, exec (.lockRenew mb) s = .next t ∧
      (s.fw.lockHolder = some mb.val →
        t.fw.lockHolder = some mb.val ∧ t.fw.leaseEnd = s.time.opSec + (c.word 1).toNat + (if s.gtInSec = 0 then 0 else 1) ∧
          s.answers t mb c 0 [wd t.fw.leaseEnd]) ∧
      (s.fw.lockHolder ≠ some mb.val → s.answers t mb c 7 [] ∧ OnlyAnswered mb s t))) ∧
  ((∀ (mb : Fin 20) (s : State) (c : Command), s.runs mb 0xE2 1 false c →
    ∃ t, exec (.lockRelease mb) s = .next t ∧
      (s.fw.lockHolder = some mb.val → t.fw.lockHolder = none ∧ t.flt.unlockEnd = none ∧ s.answers t mb c 0 []) ∧
      (s.fw.lockHolder ≠ some mb.val → s.answers t mb c 7 [] ∧ OnlyAnswered mb s t)) ∧
  (∀ (mb : Fin 20) (s : State) (c : Command), s.runs mb 0xE3 3 false c →
    ∃ t, exec (.lockBreak mb) s = .next t ∧
      (s.fw.lockHolder ≠ none → t.fw.lockHolder = none ∧ t.flt.unlockEnd = none ∧ s.answers t mb c 0 []) ∧
      (s.fw.lockHolder = none → s.answers t mb c 7 [] ∧ OnlyAnswered mb s t)) ∧
  (∀ (mb : Fin 20) (s : State) (c : Command), s.runs mb 0xE4 1 false c →
    ∃ t, exec (.lockStatus mb) s = .next t ∧ s.answers t mb c 0 [wd (s.fw.lockHolder.getD 0xFF), wd s.leaseLeft] ∧
      OnlyAnswered mb s t) ∧
  (∀ (s : State) (h : Nat), s.alive = true → s.fw.lockHolder = some h →
    ∃ t, exec .lockLeaseExpiry s = .next t ∧
      (s.fw.leaseEnd ≤ s.time.opSec → t.fw.lockHolder = none ∧ t.flt.unlockEnd = none) ∧
      (s.time.opSec < s.fw.leaseEnd → t = s)))

/-! ### The Legend (Table 13.11, R262, R263) -/

/-- GET answers the word given and then, for each element, its staged word where bit 31 asks for it and one is staged, else the word in force;
DESCRIBE answers the parameter's entry; both leave the rest of the state alone (Table 13.11, R262, R381). STAGE puts its elements into the
mailbox's staging set, one staged again replacing the earlier, and DISCARD empties the set and answers how many it held; neither touches
the values in force (R263). -/
def Obligations.LegendReadsAndStages : Prop :=
  ((∀ (mb : Fin 20) (s : State) (c : Command), s.runs mb 0x10 2 false c → c.legFault 62 = none →
    ∃ t p, exec (.get mb) s = .next t ∧ s.answers t mb c 0 p ∧ OnlyAnswered mb s t ∧ p.length = c.legCount + 1 ∧
      p[0]? = some (c.word 1) ∧
      ∀ k, k < c.legCount →
        (bit (c.word 2).toNat 31 = false → p[k + 1]? = some (s.legendValue c.legId (c.legIdx + k))) ∧
        (bit (c.word 2).toNat 31 = true → p[k + 1]? = some
          ((((s.mb mb).staging.find? fun e => e.id == c.legId && e.idx == c.legIdx + k).map Elem.val).getD
            (s.legendValue c.legId (c.legIdx + k))))) ∧
  (∀ (mb : Fin 20) (s : State) (c : Command) (p : LegendParam), s.runs mb 0x15 2 false c → findParam c.legId = some p →
    ∃ t, exec (.describe mb) s = .next t ∧ OnlyAnswered mb s t ∧
      (c.legIdx < p.len → s.answers t mb c 0 ([wd p.id, wd (p.typ.code + p.len * 65536), wdI p.min, wdI p.max,
        legendDefault p.id c.legIdx, wd (p.senseAt c.legIdx + p.level * 16 + p.cls * 256)] ++ nameWords p.name ++ [0, 0])) ∧
      (p.len ≤ c.legIdx → s.answers t mb c 0x0D []))) ∧
  ((∀ (mb : Fin 20) (s : State) (c : Command), s.runs mb 0x12 c.legLevel false c → c.legFault 61 = none → s.commitRuns mb = false →
    c.legElems.any elemBad = false → (c.legElems.foldl stageElem (s.mb mb).staging).length ≤ 4096 →
    ∃ t, exec (.stage mb) s = .next t ∧ s.answers t mb c 0 [] ∧ t.fw.legend = s.fw.legend ∧
      (t.mb mb).staging = c.legElems.foldl stageElem (s.mb mb).staging) ∧
  (∀ (mb : Fin 20) (s : State) (c : Command), s.runs mb 0x14 1 false c → s.commitRuns mb = false →
    ∃ t, exec (.discard mb) s = .next t ∧ s.answers t mb c 0 [wd (s.mb mb).staging.length] ∧ (t.mb mb).staging = [] ∧
      t.fw.legend = s.fw.legend))

/-- SET and COMMIT schedule their elements for the next sheet boundary, or where grid tick 76 has come for the one after, as one order behind
those that wait; the Legend is as it was until then. A set with a failing element answers BAD_PARAM and that element, and schedules
nothing (R263). -/
def Obligations.LegendSetsWaitForBoundary : Prop :=
  (∀ (mb : Fin 20) (s : State) (c : Command), s.runs mb 0x11 c.legLevel (s.setPermissive c.legElems) c → c.legFault 61 = none →
    ∃ t, exec (.set mb) s = .next t ∧ t.fw.legend = s.fw.legend ∧
      (s.failingElem c.legElems = none → ∃ o, t.fw.orders = s.fw.orders ++ [o] ∧ o.mb = mb.val ∧ o.tag = c.tag ∧ o.elems = c.legElems ∧
        o.sheet = if s.time.gt % 80 < 76 then s.time.gt / 80 + 1 else s.time.gt / 80 + 2) ∧
      (∀ e, s.failingElem c.legElems = some e → s.answers t mb c 4 [wd (e.id + e.idx * 65536)] ∧ OnlyAnswered mb s t)) ∧
  (∀ (mb : Fin 20) (s : State) (c : Command), s.runs mb 0x13 3 (s.setPermissive (s.mb mb).staging) c →
    ∃ t, exec (.commit mb) s = .next t ∧ t.fw.legend = s.fw.legend ∧
      (s.commitRuns mb = true → s.answers t mb c 6 [] ∧ OnlyAnswered mb s t) ∧
      (s.commitRuns mb = false → s.failingElem (s.mb mb).staging = none →
        ∃ o, t.fw.orders = s.fw.orders ++ [o] ∧ o.mb = mb.val ∧ o.tag = c.tag ∧ o.elems = (s.mb mb).staging ∧
          o.sheet = if s.time.gt % 80 < 76 then s.time.gt / 80 + 1 else s.time.gt / 80 + 2) ∧
      (∀ e, s.commitRuns mb = false → s.failingElem (s.mb mb).staging = some e →
        s.answers t mb c 4 [wd (e.id + e.idx * 65536)] ∧ OnlyAnswered mb s t))

/-! ### Atlas and position (06, R118 to R136) -/

/-- ATLAS_LOAD begins a load into the inactive slot, which becomes invalid; ATLAS_LOAD_DONE ends it, the slot valid where the image verifies
and INTEGRITY answered where it does not; ATLAS_SWITCH waits with SW_PEND set; ATLAS_STATUS answers the register and both slots'
identities (Table 6.6, R118, R120, R121). POS_FIX in odometry mode and PASSAGE in passage mode wait for the sheet boundary; in another
mode each answers STATE, and a standard deviation outside 1 to 1,000,000 or a sense of 3 BAD_PARAM; POS_ROUTE takes 1 to 8 route tracks
into force (Table 6.6, R125, R127, R136). PRESENCE_ASSERT, in passage mode, sets the state of an enabled input that has stood asserted for
its filter's sheets; TRACK_EMPTY empties a track whose inputs have been quiet for 8,000 sheets; each changes nothing else, and nothing
before (R136). -/
def Obligations.PositionBlockActs : Prop :=
  ((∀ (mb : Fin 20) (s : State) (c : Command), s.runs mb 0x20 3 true c → s.posOff = false → s.pos.load = none →
    s.getB Fd.POS_ATLAS_SW_PEND = false →
    ∃ t, exec (.atlasLoad mb) s = .next t ∧ (∃ q, t.pos.load = some q ∧ q.mb = mb.val ∧ q.cmd.tag = c.tag) ∧
      t.getB Fd.POS_ATLAS_LOADING = true ∧ t.slotValid (1 - s.get Fd.POS_ATLAS_ACT_SLOT) = false) ∧
  (∀ (bytes : List (Nat × Byte)) (s : State) (q : PosWait), s.alive = true → s.pos.load = some q → q.cmd.early = false →
    ∃ t, exec (.atlasLoadDone bytes) s = .next t ∧ t.pos.load = none ∧ t.getB Fd.POS_ATLAS_LOADING = false ∧
      (let k := 1 - s.get Fd.POS_ATLAS_ACT_SLOT
       let a := s.placeSlot k (imageOf bytes)
       (if k = 0 then t.pos.slot0 else t.pos.slot1) = a ∧
        (a.verify (q.cmd.word 3).toNat = none → t.slotValid k = true ∧ s.answers t q.mb q.cmd 0 []) ∧
        (∀ i, a.verify (q.cmd.word 3).toNat = some i → t.slotValid k = false ∧ s.answers t q.mb q.cmd 8 [wd i]))) ∧
  (∀ (mb : Fin 20) (s : State) (c : Command), s.runs mb 0x21 3 true c → s.posOff = false → s.pos.load = none →
    s.slotValid (1 - s.get Fd.POS_ATLAS_ACT_SLOT) = true →
    ∃ t, exec (.atlasSwitch mb) s = .next t ∧ t.getB Fd.POS_ATLAS_SW_PEND = true ∧
      ∃ q, t.pos.switches = s.pos.switches ++ [q] ∧ q.mb = mb.val ∧ q.cmd.tag = c.tag) ∧
  (∀ (mb : Fin 20) (s : State) (c : Command), s.runs mb 0x22 2 false c →
    ∃ t, exec (.atlasStatus mb) s = .next t ∧ OnlyAnswered mb s t ∧
      s.answers t mb c 0 [s.reg (Reg.POS_ATLAS.off 0 0), wd s.pos.slot0.atlasId, wd s.pos.slot0.crcEnt, wd s.pos.slot1.atlasId,
        wd s.pos.slot1.crcEnt])) ∧
  ((∀ (mb : Fin 20) (s : State) (c : Command), s.runs mb 0x23 3 false c →
    ∃ t, exec (.posFix mb) s = .next t ∧
      (sigmaOk (c.word 3) = false ∨ wbits (c.word 5) 27 26 = 3 → s.answers t mb c 4 [] ∧ OnlyAnswered mb s t) ∧
      (sigmaOk (c.word 3) = true → wbits (c.word 5) 27 26 ≠ 3 →
        (s.get Fd.POS_CTL_MODE = 1 → ∃ q, t.pos.fixes = s.pos.fixes ++ [q] ∧ q.mb = mb.val ∧ q.cmd.payload = c.payload) ∧
        (s.get Fd.POS_CTL_MODE ≠ 1 → s.answers t mb c 7 [] ∧ OnlyAnswered mb s t))) ∧
  (∀ (mb : Fin 20) (s : State) (c : Command), s.runs mb 0x24 3 false c →
    ∃ t, exec (.posRoute mb) s = .next t ∧
      ((c.word 1).toNat < 1 ∨ 8 < (c.word 1).toNat → s.answers t mb c 4 [] ∧ OnlyAnswered mb s t) ∧
      (1 ≤ (c.word 1).toNat → (c.word 1).toNat ≤ 8 → s.posOff = false → s.answers t mb c 0 [] ∧
        t.pos.routes = (List.range (c.word 1).toNat).map fun i => wbits (c.word (i + 2)) 15 0)) ∧
  (∀ (mb : Fin 20) (s : State) (c : Command), s.runs mb 0x25 3 false c →
    ∃ t, exec (.passage mb) s = .next t ∧
      (sigmaOk (c.word 3) = false ∨ wbits (c.word 6) 27 26 = 3 → s.answers t mb c 4 [] ∧ OnlyAnswered mb s t) ∧
      (sigmaOk (c.word 3) = true → wbits (c.word 6) 27 26 ≠ 3 →
        (s.get Fd.POS_CTL_MODE = 2 → ∃ q, t.pos.fixes = s.pos.fixes ++ [q] ∧ q.mb = mb.val ∧ q.cmd.payload = c.payload) ∧
        (s.get Fd.POS_CTL_MODE ≠ 2 → s.answers t mb c 7 [] ∧ OnlyAnswered mb s t)))) ∧
  ((∀ (i : Fin 8) (s : State), s.alive = true → s.get Fd.POS_CTL_MODE = 2 → s.getB Fd.POS_PRES_EN i = true →
    s.getB Fd.POS_PRES_STATE i = false → 1 ≤ mapGet 0 s.pos.presHold i →
    ∃ t, exec (.presenceAssert i) s = .next t ∧
      (s.get Fd.POS_PRES_FILT i ≤ mapGet 0 s.pos.presHold i → t.getB Fd.POS_PRES_STATE i = true ∧
        t.pos.asserted = s.pos.asserted ++ [i.val] ∧ t.pos.track0 = s.pos.track0 ∧ t.pos.track1 = s.pos.track1) ∧
      (mapGet 0 s.pos.presHold i < s.get Fd.POS_PRES_FILT i → t = s)) ∧
  (∀ (k : Fin 2) (s : State), s.alive = true → s.get Fd.POS_CTL_MODE = 2 → (s.track k).occupied = true → s.presenceOn k = false →
    ∃ t, exec (.trackEmpty k) s = .next t ∧
      ((s.track k).quietFrom + 8000 ≤ s.sheet → t = s.setTrack k Track.reset) ∧ (s.sheet < (s.track k).quietFrom + 8000 → t = s)))

/-! ### Windows, paths, lanes and domains (03, 04, 08, 10)

An order of another master in the same sheet may turn an order away (R265): the statements of orders are of sheets in which no immediate
order has taken effect, and `LaneTxArbitrated` is of the others. -/

/-- WIN_CONFIG writes the seven registers of a window that is not enabled and that no path names, with bits [31:24] of WCTL and its enable
kept, answers STATE for another, and BAD_PARAM where the content would break R65 or names a domain another window carries (R68); WIN_STATUS
answers the window's registers (R77, Table 3.24). ROUTE_LOAD, TRIM_LOAD and FIR_LOAD write their words into the window's pending copy
(tables 0, 2 or 3, and 4) and answer OK; what is beyond a table is RANGE (R77, Tables 3.5, 3.6 and 3.24). -/
def Obligations.WindowConfigurationWrites : Prop :=
  ((∀ (mb : Fin 20) (s : State) (c : Command), s.runs mb 0x30 3 true c → s.fw.dones = [] →
    (let w := wbits (c.word 1) 3 0
     let bad := (s.putWinConfig w c).loBad w || (wbits (c.word 2) 9 8 == 0 && (s.domainsOutside [w]).contains (wbits (c.word 8) 7 0))
     maskClear (c.word 2).toNat 0x00FF1300 = 0 → bit (c.word 2).toNat 19 = false →
      contentErr (wbits (c.word 2) 9 8) (wbits (c.word 2) 17 16) (c.word 3) (c.word 4) (c.word 5) (c.word 6) (c.word 7) = 0 →
      ∃ t, exec (.winConfig mb) s = .next t ∧
        (bad = true → s.answers t mb c 4 [] ∧ OnlyAnswered mb s t) ∧
        (bad = false → s.getB Fd.CHN_WCTL_EN w = false → s.pathsName w = false → s.answers t mb c 0 [] ∧
          (t.reg (Reg.CHN_WCTL.off w 0)).toNat &&& 0x00FF1300 = (c.word 2).toNat ∧
          (t.reg (Reg.CHN_WLANE.off w 0)).toNat &&& 0xFFFF = (c.word 3).toNat &&& 0xFFFF ∧
          (t.reg (Reg.CHN_WEDGE_LO.off w 0)).toNat &&& 0xFFFFF = (c.word 6).toNat &&& 0xFFFFF ∧
          (t.reg (Reg.CHN_WDOM.off w 0)).toNat &&& 0xFF = (c.word 8).toNat &&& 0xFF) ∧
        (bad = false → s.getB Fd.CHN_WCTL_EN w = true ∨ s.pathsName w = true → s.answers t mb c 7 [] ∧ OnlyAnswered mb s t))) ∧
  (∀ (mb : Fin 20) (s : State) (c : Command), s.runs mb 0x36 2 false c →
    (let w := wbits (c.word 1) 3 0
     ∃ t, exec (.winStatus mb) s = .next t ∧ OnlyAnswered mb s t ∧
      s.answers t mb c 0 [s.reg (Reg.CHN_WCTL.off w 0), s.reg (Reg.CHN_WLANE.off w 0), s.reg (Reg.CHN_WRX.off w 0),
        s.reg (Reg.CHN_WTX.off w 0), s.reg (Reg.CHN_WEDGE_LO.off w 0), s.reg (Reg.CHN_WEDGE_HI.off w 0), s.reg (Reg.CHN_WDOM.off w 0),
        s.reg (Reg.CHN_DOP_FREQ.off w 0), s.wstatWord w, s.reg (Reg.CHN_BSEAL.off w 0), s.reg (Reg.CHN_BSEAL.off w 1),
        s.reg (Reg.POS_WTAG.off w 0), s.reg (Reg.POS_WTAG.off w 1),
        wd (maxThrough (s.get Fd.CHN_WCTL_PROFILE w) (s.get Fd.CHN_WCTL_PROTO w) (s.get Fd.CHN_WCTL_TRIM w))]))) ∧
  ((∀ (mb : Fin 20) (s : State) (c : Command), s.runs mb 0x32 3 true c → s.fw.dones = [] →
    (let vs := (c.payload.drop 2).take (wbits (c.word 2) 5 0)
     vs ≠ [] → vs.length ≤ 61 → (∀ v ∈ vs, v.toNat &&& 0x3F00FFFF = 0) →
      ∃ t, exec (.routeLoad mb) s = .next t ∧
        (wbits (c.word 1) 26 16 + vs.length ≤ 1280 → s.answers t mb c 0 [] ∧
          ∀ i, i < vs.length → t.pendWord (wbits (c.word 1) 3 0) 0 (wbits (c.word 1) 26 16 + i) = nth vs i) ∧
        (1280 < wbits (c.word 1) 26 16 + vs.length → s.answers t mb c 0xD [] ∧ OnlyAnswered mb s t))) ∧
  (∀ (mb : Fin 20) (s : State) (c : Command), s.runs mb 0x33 3 true c → s.fw.dones = [] →
    (let vs := (c.payload.drop 1).take 32
     (nth vs 0).toNat &&& 0xFFF8F800 = 0 → (∀ v ∈ vs.drop 22, v = 0) →
      ∃ t, exec (.trimLoad mb) s = .next t ∧ s.answers t mb c 0 [] ∧
        ∀ i, i < vs.length → t.pendWord (wbits (c.word 1) 3 0) (2 + wbits (c.word 1) 4 4) i = nth vs i)) ∧
  (∀ (mb : Fin 20) (s : State) (c : Command), s.runs mb 0x34 3 true c → s.fw.dones = [] →
    (let vs := (c.payload.drop 2).take (wbits (c.word 2) 5 0)
     vs ≠ [] → vs.length ≤ 61 →
      ∃ t, exec (.firLoad mb) s = .next t ∧
        (wbits (c.word 1) 24 16 + vs.length ≤ 257 → s.answers t mb c 0 [] ∧
          ∀ i, i < vs.length → t.pendWord (wbits (c.word 1) 3 0) 4 (wbits (c.word 1) 24 16 + i) = nth vs i) ∧
        (257 < wbits (c.word 1) 24 16 + vs.length → s.answers t mb c 0xD [] ∧ OnlyAnswered mb s t))))

/-- WIN_ENABLE with consistent bits and no binding fault waits for the boundary that makes the change; BANK_APPLY answers BUSY where a
window it names has a swap or an earlier BANK_APPLY under way, BAD_PARAM with the window and the entry where a pending copy is faulty, and
else waits for its banks; a WIN_ENABLE that mixes enabling and disabling is BAD_PARAM (R64, R73, R77, R78,
Table 3.24). -/
def Obligations.WindowOrdersWait : Prop :=
  (∀ (mb : Fin 20) (s : State) (c : Command), s.runs mb 0x31 3 true c → s.fw.dones = [] →
    (let addressed := maskList (wbits (c.word 1) 15 0) 16
     let want := wbits (c.word 2) 15 0
     let ups := addressed.filter fun w => bit want w
     let downs := addressed.filter fun w => !bit want w
     let changed := addressed.filter fun w => s.getB Fd.CHN_WCTL_EN w != bit want w
     ∃ t, exec (.winEnable mb) s = .next t ∧
      (ups ≠ [] → downs ≠ [] → s.answers t mb c 4 [] ∧ OnlyAnswered mb s t) ∧
      (ups = [] ∨ downs = [] → s.enableFault (ups.filter changed.contains) s.enabledWindows = none →
        ∃ q, t.win.enables = s.win.enables ++ [q] ∧ q.mb = mb.val ∧ q.cmd.tag = c.tag) ∧
      (∀ st p, ups = [] ∨ downs = [] → s.enableFault (ups.filter changed.contains) s.enabledWindows = some (st, p) →
        s.answers t mb c st (p.take 63) ∧ OnlyAnswered mb s t))) ∧
  (∀ (mb : Fin 20) (s : State) (c : Command), s.runs mb 0x35 3 true c →
    (let l := maskList (wbits (c.word 1) 15 0) 16
     let busy := fun w => s.getB Fd.CHN_WSTAT_SWAP_PEND w || s.win.applies.any fun a => bit a.named w
     wbits (c.word 1) 15 0 ≠ 0 →
      ∃ t, exec (.bankApply mb) s = .next t ∧
        ((∃ w ∈ l, busy w = true) → s.answers t mb c 6 [] ∧ OnlyAnswered mb s t) ∧
        ((∀ w ∈ l, busy w = false) → (∀ w ∈ l, s.pendingFault l w = none) →
          ∃ q, t.win.applies = s.win.applies ++ [q] ∧ q.mb = mb.val ∧ q.cmd.tag = c.tag) ∧
        (∀ w i, (∀ v ∈ l, busy v = false) → w ∈ l → (∀ v ∈ l, v < w → s.pendingFault l v = none) → s.pendingFault l w = some i →
          s.answers t mb c 4 [wd w, wd i] ∧ OnlyAnswered mb s t)))

/-- LANE_TX writes TX_REQ of every lane of its mask and no other and waits for the lanes it requests; a requested lane whose transmit side is
not enabled is STATE. LANE_TUNE writes a frequency of 380 to 7,200 MHz that needs no forbidden retune: a new one begins a lock, and the
order waits for it; one that is already settled is answered at once; any other frequency is BAD_PARAM. BEAM_SET of a sequence word with
EVENT 5 waits for its instant where that is its bus time and 2 µs ahead, and is RANGE where it is not. LANE_CONFIG waits for the boundary,
with a lane whose sources or inversions it changes disabled (R205, R209, R210, R221). -/
def Obligations.LaneOrdersAct : Prop :=
  (∀ (mb : Fin 20) (s : State) (c : Command), s.runs mb 0x3C 3 true c → s.fw.dones = [] →
    (let mask := wbits (c.word 1) 15 0
     let req := wbits (c.word 2) 15 0
     ∃ t, exec (.laneTx mb) s = .next t ∧
      ((∃ n, n < 16 ∧ bit mask n = true ∧ bit req n = true ∧ s.getB Fd.LANE_CTL_TX_EN n = false) →
        s.answers t mb c 7 [] ∧ OnlyAnswered mb s t) ∧
      ((∀ n, n < 16 → bit mask n = true → bit req n = true → s.getB Fd.LANE_CTL_TX_EN n = true) →
        (∀ n, n < 16 → t.getB Fd.SYN_LSTATE_TX_REQ n = if bit mask n then bit req n else s.getB Fd.SYN_LSTATE_TX_REQ n) ∧
        ∃ q, t.lane.waits = s.lane.waits ++ [q] ∧ q.mb = mb.val ∧ q.cmd.tag = c.tag))) ∧
  ((∀ (mb : Fin 20) (s : State) (c : Command), s.runs mb 0x3D 3 true c → (c.word 2).toNat < 380000 ∨ 7200000 < (c.word 2).toNat →
    ∃ t, exec (.laneTune mb) s = .next t ∧ s.answers t mb c 4 [] ∧ OnlyAnswered mb s t) ∧
  (∀ (mb : Fin 20) (s : State) (c : Command), s.runs mb 0x3D 3 true c → s.fw.dones = [] → 380000 ≤ (c.word 2).toNat →
    (c.word 2).toNat ≤ 7200000 → (∀ w ∈ s.lane.tunes, w.syn ≠ wbits (c.word 1) 2 0) →
    (c.word 2).toNat = s.get Fd.SYN_SCFG_FREQ (wbits (c.word 1) 2 0) ∨ s.retuneForbidden (wbits (c.word 1) 2 0) = false →
    (let y := wbits (c.word 1) 2 0
     let freq := (c.word 2).toNat
     let settled := (s.writeFreq y freq).getB Fd.SYN_SSTAT_SETTLED y
     ∃ t, exec (.laneTune mb) s = .next t ∧ t.get Fd.SYN_SCFG_FREQ y = freq ∧
      (freq ≠ s.get Fd.SYN_SCFG_FREQ y → t.get Fd.SYN_SSTAT_STATE y = 1 ∧ t.getB Fd.SYN_SSTAT_SETTLED y = false) ∧
      (settled = true → t.lane.tunes = s.lane.tunes ∧ (bit c.flags 0 = false → s.answers t mb c 0 [])) ∧
      (settled = false → ∃ q, t.lane.tunes = s.lane.tunes ++ [q] ∧ q.mb = mb.val ∧ q.cmd.tag = c.tag ∧ q.syn = y)))) ∧
  ((∀ (mb : Fin 20) (s : State) (c : Command), s.runs mb 0x3E 3 true c → s.fw.dones = [] →
    wbits (s.rffeWord (wbits (c.word 1) 1 0) (wbits (c.word 1) 7 4)) 31 28 = 5 → (c.word 3).toNat ≤ 639999 →
    ((s.rffeTime (wbits (c.word 1) 1 0) (wbits (c.word 1) 7 4) + 1967 : Nat) : Int) ≤
      s.stampTick (c.word 2).toNat (c.word 3).toNat * 1536 - ((c.acceptedAt * 1536 : Nat) : Int) →
    ∃ t, exec (.beamSet mb) s = .next t ∧
      ∃ b, t.tdd.beams = s.tdd.beams ++ [b] ∧ b.mb = mb.val ∧ b.cmd.tag = c.tag) ∧
  (∀ (mb : Fin 20) (s : State) (c : Command), s.runs mb 0x3E 3 true c →
    wbits (s.rffeWord (wbits (c.word 1) 1 0) (wbits (c.word 1) 7 4)) 31 28 = 5 → (c.word 3).toNat ≤ 639999 →
    s.stampTick (c.word 2).toNat (c.word 3).toNat * 1536 - ((c.acceptedAt * 1536 : Nat) : Int) <
      ((s.rffeTime (wbits (c.word 1) 1 0) (wbits (c.word 1) 7 4) + 1967 : Nat) : Int) →
    ∃ t, exec (.beamSet mb) s = .next t ∧ s.answers t mb c 0xD [] ∧ OnlyAnswered mb s t)) ∧
  (∀ (mb : Fin 20) (s : State) (c : Command), s.runs mb 0x3F 3 true c → s.fw.dones = [] →
    s.fifthLane (wbits (c.word 1) 3 0) (wbits (c.word 2) 7 0) = false →
    (∀ w, w < 16 → s.getB Fd.CHN_WCTL_EN w = true → s.branchesShare w (wbits (c.word 1) 3 0) (wbits (c.word 2) 7 0) = false) →
    (let n := wbits (c.word 1) 3 0
     (wbits (c.word 2) 7 0 = (s.reg (Reg.SYN_LSRC.off n 0)).toNat ∧ wbits (c.word 3) 7 4 = (s.reg (Reg.LANE_CTL.off n 0)).toNat / 16) ∨
      (s.reg (Reg.LANE_CTL.off n 0)).toNat % 4 = 0) →
    ∃ t, exec (.laneConfig mb) s = .next t ∧
      ∃ q, t.lane.configs = s.lane.configs ++ [q] ∧ q.mb = mb.val ∧ q.cmd.tag = c.tag ∧ q.lane = wbits (c.word 1) 3 0)

/-- PATH_CONFIG writes the four words of a path that is not enabled; AMAP_LOAD writes entries that no enabled path uses into the allocation
map; PATH_ENABLE sets or clears the enables it addresses and waits; PATH_STATUS answers the path's registers (Table 4.22, R99). -/
def Obligations.PathCommandsAct : Prop :=
  (∀ (mb : Fin 20) (s : State) (c : Command), s.runs mb 0x37 3 true c → s.fw.dones = [] →
    (let p := wbits (c.word 1) 7 0
     (c.word 2).toNat &&& 0xB03FF800 = 0 → (c.word 3).toNat &&& 0xF800F800 = 0 → (c.word 4).toNat &&& 0xC0008FE0 = 0 →
      (c.word 5).toNat &&& 0xFFC0 = 0 → s.get Fd.CHN_WCTL_PROFILE (wbits (c.word 2) 27 24) ≠ 0 →
      pathRange (s.get Fd.CHN_WCTL_PROFILE (wbits (c.word 2) 27 24)) (wbits (c.word 3) 26 16) (wbits (c.word 3) 10 0)
        (wbits (c.word 4) 29 20) = true → s.getB Fd.CAN_PCFG0_EN p = false →
      ∃ t, exec (.pathConfig mb) s = .next t ∧ s.answers t mb c 0 [] ∧ t.reg (Reg.CAN_PCFG0.off p 0) = c.word 2 ∧
        t.reg (Reg.CAN_PCFG0.off p 0 + 4) = c.word 3 ∧ t.reg (Reg.CAN_PCFG0.off p 0 + 8) = storePcfg2 (c.word 4) ∧
        t.reg (Reg.CAN_PCFG0.off p 0 + 12) = storePcfg3 (c.word 5))) ∧
  (∀ (mb : Fin 20) (s : State) (c : Command), s.runs mb 0x38 3 true c → s.fw.dones = [] →
    (let e0 := wbits (c.word 1) 11 0
     let vs := c.payload.drop 2
     let n := vs.length / 2
     1 ≤ n → n ≤ 30 →
      ∃ t, exec (.amapLoad mb) s = .next t ∧
        (4096 < e0 + n → s.answers t mb c 0xD [] ∧ OnlyAnswered mb s t) ∧
        (e0 + n ≤ 4096 → (∀ p, p < 256 → s.getB Fd.CAN_PCFG0_EN p = false) →
          s.answers t mb c 0 [] ∧ ∀ i, i < 2 * n → mapGet 0 t.can.amap (2 * e0 + i) = nth vs i))) ∧
  (∀ (mb : Fin 20) (s : State) (c : Command), s.runs mb 0x39 3 true c → s.fw.dones = [] →
    (let has := fun k p => bit (c.word (k + p / 32)).toNat (p % 32)
     ∃ t, exec (.pathEnable mb) s = .next t ∧
      ((∃ p q, p < 256 ∧ q < 256 ∧ has 1 p = true ∧ has 9 p = true ∧ has 1 q = true ∧ has 9 q = false) →
        s.answers t mb c 4 [] ∧ OnlyAnswered mb s t) ∧
      ((∀ p, p < 256 → has 1 p = true → has 9 p = false) →
        ∀ p, p < 256 → t.getB Fd.CAN_PCFG0_EN p = (!has 1 p && s.getB Fd.CAN_PCFG0_EN p)) ∧
      ((∀ p, p < 256 → has 1 p = true → has 9 p = true) →
        s.firstPathErr ((List.range 256).filter fun p => has 1 p && !s.getB Fd.CAN_PCFG0_EN p) = none →
        ∀ p, p < 256 → t.getB Fd.CAN_PCFG0_EN p = (has 1 p || s.getB Fd.CAN_PCFG0_EN p)))) ∧
  (∀ (mb : Fin 20) (s : State) (c : Command), s.runs mb 0x3A 2 false c →
    (let p := wbits (c.word 1) 7 0
     let base := Reg.CAN_PCFG0.off p 0
     ∃ t, exec (.pathStatus mb) s = .next t ∧ OnlyAnswered mb s t ∧
      s.answers t mb c 0 [s.reg base, s.reg (base + 4), s.reg (base + 8), s.reg (base + 12), s.pstatWord p,
        s.reg (Reg.CAN_PDEPTH.off p 0), s.reg (Reg.CAN_PROLL.off p 0), s.reg (Reg.CAN_POOL_USED.off 0 0),
        s.reg (Reg.CAN_POOL_FREE.off 0 0), s.reg (Reg.CAN_LOAD.off 0 0)]))

/-- A permissive LANE_TX while another mailbox holds the maintenance lock is LOCKED; one that contradicts a restrictive order of another
mailbox in the same sheet is CONFLICT; neither changes TX_REQ. A LANE_TX that only takes requests away runs under the lock of another
(R209, R264 to R266). -/
def Obligations.LaneTxArbitrated : Prop :=
  (∀ (mb : Fin 20) (s : State) (c : Command), s.alive = true → s.serves 0x3C = true → s.romServes mb = true → s.oldest mb = some c →
    c.opcode = 0x3C → c.early = false → s.checkCommand mb c 3 false = none → s.lockedFor mb = true →
    (let mask := wbits (c.word 1) 15 0
     let req := wbits (c.word 2) 15 0
     (∃ n, n < 16 ∧ bit mask n = true ∧ bit req n = true ∧ s.getB Fd.SYN_LSTATE_TX_REQ n = false) →
      ∃ t, exec (.laneTx mb) s = .next t ∧ s.answers t mb c 0x0B [] ∧ OnlyAnswered mb s t)) ∧
  (∀ (mb : Fin 20) (s : State) (c : Command) (d : Done) (n : Nat), s.runs mb 0x3C 3 true c → d ∈ s.fw.dones → d.mb ≠ mb.val →
    d.restrictive = true → n < 16 → bit (wbits (c.word 1) 15 0) n = true → bit (wbits (c.word 2) 15 0) n = true →
    s.getB Fd.SYN_LSTATE_TX_REQ n = false → (targetKey 0x3C n, 0) ∈ d.targets →
    (∀ k, k < 16 → bit (wbits (c.word 1) 15 0) k = true → bit (wbits (c.word 2) 15 0) k = true → s.getB Fd.LANE_CTL_TX_EN k = true) →
    ∃ t, exec (.laneTx mb) s = .next t ∧ s.answers t mb c 0x0C [] ∧ OnlyAnswered mb s t) ∧
  (∀ (mb : Fin 20) (s : State) (c : Command), s.runs mb 0x3C 3 false c → s.lockedFor mb = true → s.fw.dones = [] →
    wbits (c.word 2) 15 0 = 0 →
    ∃ t, exec (.laneTx mb) s = .next t ∧
      ∀ n, n < 16 → bit (wbits (c.word 1) 15 0) n = true → t.getB Fd.SYN_LSTATE_TX_REQ n = false)

/-- DOMAIN_MODE with a mode below 3 and a sign-extended gain writes DCTL.MODE and GFIX of its domain and waits for the supervisor; a mode of 3
is BAD_PARAM (R169). CONTOUR_LOST and CONTOUR_FROZEN set their kind's flag once the condition has stood for its sheets and else change
nothing; SUP_HOLD_EXPIRY takes an expired HOLD to RAMP and GUARD_EXPIRY an expired GUARD to NORMAL; PLAUS_MAX_REACHED takes the domain to
GUARD, its good sheets counted from 0 (R171 to R173). -/
def Obligations.DomainsSupervised : Prop :=
  (∀ (mb : Fin 20) (s : State) (c : Command), s.runs mb 0x3B 3 true c → s.fw.dones = [] →
    (let d := wbits (c.word 1) 7 0
     let mode := wbits (c.word 1) 9 8
     let g := signed 16 (wbits (c.word 2) 15 0)
     ∃ t, exec (.domainMode mb) s = .next t ∧
      (mode = 3 ∨ wdI g ≠ c.word 2 → s.answers t mb c 4 [] ∧ OnlyAnswered mb s t) ∧
      (mode ≠ 3 → wdI g = c.word 2 → t.get Fd.CON_DCTL_MODE d = mode ∧ t.getI Fd.CON_DCTL_GFIX d = g ∧
        ∃ q, t.con.modes = s.con.modes ++ [q] ∧ q.mb = mb.val ∧ q.cmd.tag = c.tag))) ∧
  ((∀ (d : Fin 256) (k : Fin 6) (s : State), s.alive = true → ∃ t, exec (.contourLost d k) s = .next t ∧
    (s.lostDue d k = true → bit (t.get Fd.CON_DSUPST_LOST d) k = true) ∧ (s.lostDue d k = false → t = s)) ∧
  (∀ (d : Fin 256) (k : Fin 6) (s : State), s.alive = true → ∃ t, exec (.contourFrozen d k) s = .next t ∧
    (s.frozenDue d k = true → bit (t.get Fd.CON_DSUPST_FROZEN d) k = true) ∧ (s.frozenDue d k = false → t = s)) ∧
  (∀ (d : Fin 256) (s : State), s.alive = true → ∃ t, exec (.supHoldExpiry d) s = .next t ∧
    (s.get Fd.CON_DSUPST_STATE d = 1 → s.legN 0x30A3 ≤ s.get Fd.CON_DSUPST_CNT d →
      t.get Fd.CON_DSUPST_STATE d = 2 ∧ t.get Fd.CON_DSUPST_CNT d = 0) ∧
    (¬ (s.get Fd.CON_DSUPST_STATE d = 1 ∧ s.legN 0x30A3 ≤ s.get Fd.CON_DSUPST_CNT d) → t = s)) ∧
  (∀ (d : Fin 256) (s : State), s.alive = true → ∃ t, exec (.guardExpiry d) s = .next t ∧
    (s.get Fd.CON_DSUPST_STATE d = 3 → s.legN 0x30A5 ≤ (s.domX d).good →
      t.get Fd.CON_DSUPST_STATE d = 0 ∧ t.get Fd.CON_DSUPST_CNT d = 0 ∧ (t.domX d).good = 0) ∧
    (¬ (s.get Fd.CON_DSUPST_STATE d = 3 ∧ s.legN 0x30A5 ≤ (s.domX d).good) → t = s)) ∧
  (∀ (d : Fin 256) (k : Fin 6) (s : State), s.alive = true → s.getB Fd.CON_SUP_CTL_PLAUS_EN = true →
    s.legN 0x30A7 ≤ (s.ctX (6 * d.val + k.val)).impl →
    ∃ t, exec (.plausMaxReached d k) s = .next t ∧ t.get Fd.CON_DSUPST_STATE d = 3 ∧ (t.domX d).good = 0 ∧
      (t.ctX (6 * d.val + k.val)).impl = 0))

/-! ### The survey and its rows (04 and 05, R94 to R115) -/

/-- TICK_CLOSE closes the list of a tick once: what is missing is skipped, and listed for re-execution but for the pieces of lost parties
and of a party that misses more than eight, whose rows are restored; the stateless pieces missing are listed too; TICK_STAT and CLOSE_CNT
count. REEXEC_DEADLINE ends the re-execution, and the rows of the resident pieces still missing are restored (R107, R110).
PIECE_COMPLETION in time of a resident piece on its list, from an engine not fenced, takes it off the list; one of a stateless piece
touches no resident list (R106, R107, R109). -/
def Obligations.ShowerAccountsForPieces : Prop :=
  (∀ s : State, s.alive = true → s.svy.closed = false →
    (let held := s.svy.todo.filter fun p => !s.getB Fd.SVY_PSTATE_LOST p.party
     let crowded := fun p : Piece => decide (p.party < 32) && decide (8 < (held.filter fun q => q.party == p.party).length)
     ∃ t, exec .tickClose s = .next t ∧
      t.svy.closed = true ∧ t.svy.todo = [] ∧ t.svy.skipped = s.svy.todo ∧ t.svy.relist = held.filter (fun p => !crowded p) ∧
      t.svy.posts = [] ∧ t.svy.repost = s.svy.posts ∧
      (∀ p ∈ held, crowded p = true → p.path < 256 → s.pActive p.path = true → ∀ i, i < p.rows →
        (t.row p.path (p.row + i)).restoring = true) ∧
      t.get Fd.SVY_TICK_STAT_MISSING = min s.svy.todo.length 255 ∧ t.get Fd.SVY_TICK_STAT_ISSUED = min s.svy.issued 65535 ∧
      (s.svy.todo = [] → t.get Fd.SVY_CLOSE_CNT_COUNT = s.get Fd.SVY_CLOSE_CNT_COUNT) ∧
      (s.svy.todo ≠ [] →
        t.get Fd.SVY_CLOSE_CNT_COUNT = min (s.get Fd.SVY_CLOSE_CNT_COUNT + 1) (2 ^ Fd.SVY_CLOSE_CNT_COUNT.width - 1)))) ∧
  (∀ s : State, s.alive = true → s.svy.closed = true → exec .tickClose s = .next s) ∧
  (∀ s : State, s.alive = true → ∃ t, exec .reexecDeadline s = .next t ∧
    t.svy = { s.svy with relist := [], repost := [], overdue := s.svy.overdue ++ s.svy.relist } ∧
    (s.svy.relist = [] → t = { s with svy := { s.svy with repost := [] } }) ∧
    ∀ p ∈ s.svy.relist, p.path < 256 → s.pActive p.path = true → ∀ i, i < p.rows → (t.row p.path (p.row + i)).restoring = true) ∧
  (∀ (eng path : Fin 256) (row block cycle : Nat) (again : Bool) (s : State), s.alive = true →
    (let listed := (if again then s.svy.relist else s.svy.todo).find? fun p => p.named path row block && p.party == eng.val / 8
     ∃ t, exec (.pieceCompletion eng (.path path) row block again cycle) s = .next t ∧ OnlyRaised { s with svy := t.svy } t ∧
      (∀ p, listed = some p →
        bit (s.get Fd.SVY_ENG_LOST_LOST (eng.val / 32)) (eng.val % 32) = false → cycle ≤ (if again then 500 else 1992) →
        ¬ (p.late = true ∧ again = false ∧ cycle < 640 + s.pieceCycles p (s.time.gt % 80)) →
        t.svy.todo = (if again then s.svy.todo else s.svy.todo.erase p) ∧
        t.svy.relist = (if again then s.svy.relist.erase p else s.svy.relist) ∧ t.svy.runs = s.svy.runs) ∧
      (listed = none → t.svy = s.svy))) ∧
  (∀ (eng : Fin 256) (src : PostSrc) (row block cycle : Nat) (again : Bool) (s : State), s.alive = true →
    ∃ t, exec (.pieceCompletion eng (.posted src) row block again cycle) s = .next t ∧ OnlyRaised { s with svy := t.svy } t ∧
      t.svy.todo = s.svy.todo ∧ t.svy.relist = s.svy.relist ∧
      ((if again then s.svy.repost else s.svy.posts).find? (fun p => p.src == src) = none → t.svy = s.svy))

/-- ENGINE_WATCHDOG and RESIDUE_FAILURE fence an engine once: its ENG_LOST bit sets, its bit of the party's ENG_MASK clears, ENG_LIVE is
what is left, and with six or fewer the party is lost (R111, R112). SVY_ECC_CE counts; SVY_ECC_UE counts, the rows that use the word or its
reference ring are restored, and the fourth of a party in one second loses the party (R113, R114). CROSSBAR_PARITY loses its party (R114).
COVER_TEST_DONE ends the test with the cover of every party (R115). -/
def Obligations.SurveyErrorsFenceAndRestore : Prop :=
  (∀ (e : Fin 256) (s : State) (i : Instr), i = .engineWatchdog e ∨ i = .residueFailure e → s.alive = true → ∃ t, exec i s = .next t ∧
    (bit (s.get Fd.SVY_ENG_LOST_LOST (e.val / 32)) (e.val % 32) = true → t = s) ∧
    (bit (s.get Fd.SVY_ENG_LOST_LOST (e.val / 32)) (e.val % 32) = false →
      (let mask := maskClear (s.get Fd.SVY_PSTATE_ENG_MASK (e.val / 8)) (2 ^ (e.val % 8))
       bit (t.get Fd.SVY_ENG_LOST_LOST (e.val / 32)) (e.val % 32) = true ∧ t.get Fd.SVY_PSTATE_ENG_MASK (e.val / 8) = mask ∧
        t.get Fd.SVY_PSTATE_ENG_LIVE (e.val / 8) = (maskList mask 8).length ∧
        ((maskList mask 8).length ≤ 6 → t.getB Fd.SVY_PSTATE_LOST (e.val / 8) = true)))) ∧
  (∀ (q : Fin 32) (s : State), s.alive = true → ∃ t, exec (.svyEccCe q) s = .next t ∧
    OnlyRaised ((s.takeBits 2 q 1).1.set Fd.SVY_PECC_CE (min (s.get Fd.SVY_PECC_CE q + 1) (2 ^ Fd.SVY_PECC_CE.width - 1)) q) t) ∧
  (∀ (q : Fin 32) (site : EccSite) (s : State), s.alive = true → ∃ t, exec (.svyEccUe q site) s = .next t ∧
    t.get Fd.SVY_PECC_UE q = min (s.get Fd.SVY_PECC_UE q + 1) (2 ^ Fd.SVY_PECC_UE.width - 1) ∧
    (s.ringAt q site = none → ∀ r ∈ s.rowsAt q site, r.1 < 256 → s.pActive r.1 = true → (t.row r.1 r.2).restoring = true) ∧
    (∀ g, s.ringAt q site = some g → ∀ r ∈ s.ringRows q g.lane g.cubic g.sub, r.1 < 256 → s.pActive r.1 = true →
      (t.row r.1 r.2).restoring = true) ∧
    (3 ≤ (mapGet (0, 0) s.svy.ue q).2 → s.time.gt < (mapGet (0, 0) s.svy.ue q).1 + 640000 → t.getB Fd.SVY_PSTATE_LOST q = true)) ∧
  (∀ (q : Fin 32) (s : State), s.alive = true → ∃ t, exec (.crossbarParity q) s = .next t ∧ t.getB Fd.SVY_PSTATE_LOST q = true) ∧
  (∀ s : State, s.alive = true → s.getB Fd.SVY_SSTAT_COVER_BUSY = true →
    (let cover := listMask ((List.range 32).filter fun q => (s.placeLost q).isSome)
     ∃ t, exec .coverTestDone s = .next t ∧ t.getB Fd.SVY_SSTAT_COVER_BUSY = false ∧ t.get Fd.SVY_COVER_PARTY = cover ∧
      t.getB Fd.SVY_SSTAT_COVER_ALL = decide (cover = 2 ^ 32 - 1) ∧ t.svy.fresh = [])) ∧
  (∀ s : State, s.alive = true → s.getB Fd.SVY_SSTAT_COVER_BUSY = false → exec .coverTestDone s = .next s)

/-- ROW_RELOAD_DONE reloads a row under restore that a party holds from the latest image that holds it, 0 where none does, and the row
reopens at the next boundary, for 1,200 sheets of cut and 80 of halved step; CUT_END and SK_HALF_END end those at their sheet, the cut too
once the depth is within 3 dB of the image's (R97). CHECKPOINT_GENERATION_START at the boundary of a sheet of 80 opens the next generation
in the area that does not hold the latest, and CHECKPOINT_GENERATION_DONE makes it the latest, with the rows copied in its course and
those still to copy, the other area's image left alone; later than 72 sheets after its start it does nothing (R94). -/
def Obligations.RowsRestoreFromImages : Prop :=
  (∀ (path : Fin 256) (row : Nat) (s : State), s.alive = true → ∃ t, exec (.rowReloadDone path row) s = .next t ∧
    (s.pActive path = true → (s.row path row).restoring = true → (s.svy.partyOf path row).isSome = true →
      t = s.setRow path row { s.row path row with
        coef := ((s.latestRow path row).getD ([], 0)).1, imageDepth := ((s.latestRow path row).getD ([], 0)).2, reopen := true }) ∧
    (¬ (s.pActive path = true ∧ (s.row path row).restoring = true ∧ (s.svy.partyOf path row).isSome = true) → t = s)) ∧
  (∀ (path row : Nat) (s : State), row < 2048 → (s.row path row).reopen = true →
    (let x := s.reopenRows.row path row
     x.restoring = false ∧ x.reopen = false ∧ x.cutEnd = some (s.sheet + 1200) ∧ x.halfEnd = some (s.sheet + 80) ∧
      x.coef = (s.row path row).coef)) ∧
  (∀ (path : Fin 256) (row : Nat) (s : State) (e : Nat), s.alive = true → (s.row path row).cutEnd = some e →
    (let x := s.row path row
     ∃ t, exec (.cutEnd path row) s = .next t ∧
      (e ≤ s.sheet ∨ x.imageDepth - 768 ≤ x.depth → t.row path row = { x with cutEnd := none }) ∧
      (s.sheet < e → x.depth < x.imageDepth - 768 → t = s))) ∧
  (∀ (path : Fin 256) (row : Nat) (s : State) (e : Nat), s.alive = true → (s.row path row).halfEnd = some e →
    ∃ t, exec (.skHalfEnd path row) s = .next t ∧
      (e ≤ s.sheet → t = s.setRow path row { s.row path row with halfEnd := none }) ∧ (s.sheet < e → t = s)) ∧
  (∀ s : State, s.alive = true → s.getB Fd.CAN_CTL_CP_EN = true → s.time.gt % 80 = 0 → s.sheet % 2 ^ 32 % 80 = 0 →
    ∃ t, exec .checkpointGenerationStart s = .next t ∧ t.getB Fd.CAN_CP_STAT_WRITING = true ∧ t.can.genCount = s.can.genCount + 1 ∧
      (∃ g, t.can.writing = some g ∧ g.gen = s.can.genCount + 1 ∧ g.start = s.sheet ∧ g.rows = [] ∧
        g.area = if s.getB Fd.CAN_CP_STAT_VALID then 1 - s.get Fd.CAN_CP_STAT_AREA else 0) ∧
      t.can.imageA = s.can.imageA ∧ t.can.imageB = s.can.imageB) ∧
  (∀ (s : State) (g : Generation), s.alive = true → s.can.writing = some g → g.area ≤ 1 → s.sheet ≤ g.start + 72 →
    ∃ t, exec .checkpointGenerationDone s = .next t ∧ t.can.writing = none ∧ t.getB Fd.CAN_CP_STAT_WRITING = false ∧
      t.getB Fd.CAN_CP_STAT_VALID = true ∧ t.get Fd.CAN_CP_STAT_AREA = g.area ∧ t.get Fd.CAN_CP_STAT_GEN = g.gen % 65536 ∧
      (∃ img, (if g.area = 0 then t.can.imageA else t.can.imageB) = some img ∧ img.gen = g.gen ∧
        img.rows = g.rows ++ g.left.filterMap s.copyRow) ∧
      (if g.area = 0 then t.can.imageB = s.can.imageB else t.can.imageA = s.can.imageA)) ∧
  (∀ (s : State) (g : Generation), s.alive = true → s.can.writing = some g → g.start + 72 < s.sheet →
    exec .checkpointGenerationDone s = .next s)

/-! ### Registers, ports and the fields that act when written (14) -/

/-- A write that names a register with a level below its write level, or a narrow one, changes nothing but the record of the refusal:
BLK_STAT.ACC_ERR of the register's set is set; a misaligned address is ignored; a host write of a CMD word lands unless CMD is being
copied; a write of CON.GLIM at Chart level stores the word (R253, R270, R271, R278). -/
def Obligations.RegisterWriteLands : Prop :=
  (∀ (addr : Nat) (narrow : Bool) (data : Word) (p : RegAt) (s : State), s.alive = true → addr % 4 = 0 → addr < 0x40000 →
    findReg addr = some p → narrow = true ∨ 3 < writeLevel .pciePriv addr →
    ∃ t, exec (.registerWrite .bar2 addr narrow data) s = .next t ∧ t.getB (Fd.BLK_STAT_ACC_ERR (setOf addr)) = true ∧
      t.mbox = s.mbox ∧ t.win = s.win ∧ t.lane = s.lane ∧ t.con = s.con) ∧
  (∀ (port : Port) (addr : Nat) (narrow : Bool) (data : Word) (s : State), s.alive = true → addr % 4 ≠ 0 →
    exec (.registerWrite port addr narrow data) s = .next s) ∧
  (∀ (m : Fin 16) (i : Fin 64) (data : Word) (s : State), s.alive = true →
    ∃ t, exec (.registerWrite .bar0 (0x1000 * m.val + 4 * i.val) false data) s = .next t ∧
      ((s.mb m).cmdBusy = false → mapGet 0 (t.mb m).cmd i = data ∧ (t.mb m).dbOvf = (s.mb m).dbOvf) ∧
      ((s.mb m).cmdBusy = true → t.mb m = { s.mb m with dbOvf := true })) ∧
  (∀ (d : Fin 256) (data : Word) (s : State), s.alive = true →
    ∃ t, exec (.registerWrite .chart (Reg.CON_GLIM.off d 0) false data) s = .next t ∧ t.reg (Reg.CON_GLIM.off d 0) = data ∧
      ∀ e : Fin 256, e ≠ d → t.reg (Reg.CON_GLIM.off e 0) = s.reg (Reg.CON_GLIM.off e 0))

/-- A read at a level that may write the block clears the RC fields of its register; a read of a page's STATUS answers it and clears DB_OVF; a
read below the read level is refused and answers 0 (R17, R251, R270, R273). Through the alias window one bit is read, 0 or 1, and one bit
of a register is written, its other bits kept; a data port refuses an alias write, and a narrow access is refused; an access off the window's
grid or beyond it reads 0 (Table 14.3, R19, R271, R275). -/
def Obligations.ClearingReadsAndAliases : Prop :=
  ((∀ (addr : Nat) (p : RegAt) (s : State), s.alive = true → addr % 4 = 0 → addr < 0x40000 → findReg addr = some p →
    ∃ t, exec (.clearingRead .datum addr false) s = .next t ∧ (t.reg addr).toNat &&& p.reg.rcMask = 0) ∧
  (∀ (m : Fin 16) (s : State), s.alive = true →
    ∃ t, exec (.clearingRead .bar0 (0x1000 * m.val + 0x204) false) s = .next t ∧ t.out.readData = s.pageStatus m ∧
      t.mb m = { s.mb m with dbOvf := false }) ∧
  (∀ (addr : Nat) (p : RegAt) (s : State), s.alive = true → addr % 4 = 0 → addr < 0x40000 → findReg addr = some p →
    2 < s.readLevel addr →
    ∃ t, exec (.clearingRead .bar2 (addr + 0x40000) false) s = .next t ∧ t.out.readData = 0 ∧
      t.getB (Fd.BLK_STAT_ACC_ERR (setOf addr)) = true)) ∧
  ((∀ (d : Fin 256) (b : Fin 32) (v : Bool) (s : State), s.alive = true →
    ∃ t, exec (.aliasAccess .chart (Reg.CON_GLIM.off d 0 * 32 + 4 * b.val) ⟨false, some v⟩) s = .next t ∧
      ∀ k, (t.reg (Reg.CON_GLIM.off d 0)).toNat.testBit k = if k = b.val then v else (s.reg (Reg.CON_GLIM.off d 0)).toNat.testBit k) ∧
  (∀ (d : Fin 256) (b : Fin 32) (s : State), s.alive = true →
    ∃ t, exec (.aliasAccess .chart (Reg.CON_GLIM.off d 0 * 32 + 4 * b.val) ⟨false, none⟩) s = .next t ∧
      t.out.readData = if (s.reg (Reg.CON_GLIM.off d 0)).toNat.testBit b then 1 else 0) ∧
  (∀ (b : Fin 32) (v : Bool) (s : State), s.alive = true →
    ∃ t, exec (.aliasAccess .chart (Reg.CAN_AMAP_DATA.base * 32 + 4 * b.val) ⟨false, some v⟩) s = .next t ∧ t.can = s.can ∧
      t.getB (Fd.BLK_STAT_ACC_ERR setCan) = true) ∧
  (∀ (d : Fin 256) (b : Fin 32) (w : Option Bool) (s : State), s.alive = true →
    ∃ t, exec (.aliasAccess .chart (Reg.CON_GLIM.off d 0 * 32 + 4 * b.val) ⟨true, w⟩) s = .next t ∧
      t.reg (Reg.CON_GLIM.off d 0) = s.reg (Reg.CON_GLIM.off d 0) ∧ t.getB (Fd.BLK_STAT_ACC_ERR setCon) = true ∧
      (w = none → t.out.readData = 0)) ∧
  (∀ (port : AliasPort) (addr : Nat) (n : Bool) (s : State), s.alive = true → 0x800000 ≤ addr ∨ addr % 4 ≠ 0 →
    ∃ t, exec (.aliasAccess port addr ⟨n, none⟩) s = .next t ∧ t.out.readData = 0 ∧ t.csr = s.csr))

/-- A read transaction of the service SPI answers a dummy word (a free value) and then a word per address; a write transaction to the mailbox
space writes CMD of MB16 to MB19 (R267). GT_SEC_READ latches OP_SEC, PWR_CYC and SHEET_CNT of the same instant; POOL_USED_READ latches
POOL_FREE; JRES0_READ latches the rest of a live job's result; VAL_LO_READ latches the upper half of the dumped value (R28, R85, R225,
R326). -/
def Obligations.TransactionsAndLatches : Prop :=
  ((∀ (opening : Word) (data : List Word) (reads : Nat) (s : State), s.alive = true → bit opening.toNat 31 = false →
    ∃ t ws, exec (.sspiTransaction opening data reads) s = .next t ∧ t.out.spiOut = Config.spiDummy s.draws :: ws ∧ ws.length = reads ∧
      t.draws = s.draws + 1) ∧
  (∀ (opening v : Word) (reads : Nat) (s : State), s.alive = true → bit opening.toNat 31 = true → wbits opening 30 28 = 0 →
    (let addr := wbits opening 23 0 / 4 * 4
     addr < 0x4000 → addr % 0x1000 < 0x100 → (s.mb (16 + addr / 0x1000)).cmdBusy = false →
      ∃ t, exec (.sspiTransaction opening [v] reads) s = .next t ∧
        mapGet 0 (t.mb (16 + addr / 0x1000)).cmd (addr % 0x1000 / 4) = v))) ∧
  ((∀ s : State, s.alive = true → ∃ t, exec .gtSecRead s = .next t ∧ t.out.readData = wd s.gtInSec ∧
    t.get Fd.SYS_OP_SEC_OP_SEC = s.time.opSec % 2 ^ 32 ∧ t.get Fd.SYS_PWR_CYC_PWR_CYC = s.time.pwrCyc % 2 ^ 24 ∧
    t.get Fd.SYS_SHEET_CNT_SHEET = s.time.gt / 80 % 2 ^ 32) ∧
  (∀ (m : Master) (s : State), s.alive = true → 2 ≤ s.masterLevel m →
    ∃ t, exec (.poolUsedRead m) s = .next t ∧ t.out.readData = s.reg (Reg.CAN_POOL_USED.off 0 0) ∧
      t.can.freeLatch = s.get Fd.CAN_POOL_FREE_FREE) ∧
  (∀ (m : Master) (j : Fin 32) (s : State) (p : Nat × Word × Word), s.alive = true → 2 ≤ s.masterLevel m →
    s.rce.live.find? (fun p => p.1 == j.val) = some p →
    ∃ t, exec (.jres0Read m j) s = .next t ∧ t.out.readData = s.reg (Reg.RCE_JRES0.off j 0) ∧
      t.reg (Reg.RCE_JRES1.off j 0) = p.2.1 ∧ t.reg (Reg.RCE_JRES2.off j 0) = p.2.2) ∧
  (∀ (m : Master) (i : Fin 384) (s : State), s.alive = true → 3 ≤ s.masterLevel m →
    ∃ t, exec (.valLoRead m i) s = .next t ∧ t.out.readData = s.reg (Reg.PMC_VAL_LO.off i 0) ∧
      t.get Fd.PMC_VAL_HI_VALUE i = mapGet 0 s.pmc.snap i / 2 ^ 32 % 2 ^ 16))

/-- ST_DATA reads a contour's state word by word: word 0 is answered while words 1 to 5 are latched, words 1 to 5 come from the latch, and
WORD advances, after word 5 to the next contour (R157). AP[0] of a bank's aperture loads the first record at or after the cursor, or
answers NEXT_SEQ with END set where none is; AP[15] with AUTO moves the cursor behind the record loaded (R316, R317). The data ports:
TBL_DATA writes and reads the selected word of a bank that is neither active nor being swapped in, AMAP_DATA a word of the allocation map,
RSEQ_DATA a word of a master's sequence memory; reserved bits are stored as 0, and each access advances its index (R15, R74, R89, R220). -/
def Obligations.WindowsOntoStores : Prop :=
  (∀ (m : Master) (s : State), s.alive = true → 2 ≤ s.masterLevel m →
    (let k := s.get Fd.CON_ST_SEL_CONTOUR
     let w := s.get Fd.CON_ST_SEL_WORD
     ∃ t, exec (.stDataRead m) s = .next t ∧
      (w = 0 → t.out.readData = nth (s.ctX k).words 0 ∧ t.con.latch = (s.ctX k).words.drop 1 ∧ t.get Fd.CON_ST_SEL_WORD = 1) ∧
      (1 ≤ w → w < 5 → t.out.readData = nth s.con.latch (w - 1) ∧ t.con.latch = s.con.latch ∧ t.get Fd.CON_ST_SEL_WORD = w + 1) ∧
      (w = 5 → t.out.readData = nth s.con.latch 4 ∧ t.get Fd.CON_ST_SEL_WORD = 0 ∧
        t.get Fd.CON_ST_SEL_CONTOUR = if k = 1535 then 0 else (k + 1) % 2 ^ 11))) ∧
  ((∀ (m : Master) (ue : Bool) (s : State), s.alive = true → 2 ≤ s.masterLevel m →
    (let b := bankOf m
     let a := s.aperture b
     ∃ t, exec (.ap0Read m ue) s = .next t ∧
      (s.book.findFrom a.cursor = none → t.out.readData = wd s.book.nextSeq ∧ (t.aperture b).stat = 2 ∧
        (t.aperture b).cursor = a.cursor) ∧
      (∀ k, s.book.findFrom a.cursor = some k → ue = false → k.crcBad = false → s.flt.armed = [] →
        t.out.readData = nth k.words 0 ∧ (t.aperture b).words = k.words ∧
          (t.aperture b).stat = if k.seq = a.cursor then 1 else 5))) ∧
  (∀ (m : Master) (s : State), s.alive = true → 2 ≤ s.masterLevel m →
    (let b := bankOf m
     let a := s.aperture b
     ∃ t, exec (.ap15Read m) s = .next t ∧ t.out.readData = nth a.words 15 ∧
      (t.aperture b).cursor = if a.auto && a.stat % 2 == 1 then ((nth a.words 0).toNat + 1) % 2 ^ 32 else a.cursor))) ∧
  ((∀ (m : Master) (v : Word) (s : State), s.alive = true → 4 ≤ s.masterLevel m →
    (let w := s.get Fd.CHN_TBL_SEL_WIN
     let b := s.get Fd.CHN_TBL_SEL_BANK
     let i := s.get Fd.CHN_TBL_SEL_INDEX
     i < tblLen s.tblKind → s.bankBusy w b = false →
      ∃ t, exec (.tblDataAccess m (some v)) s = .next t ∧ t.tbl w b s.tblKind i = wd (v.toNat &&& tblMask s.tblKind i) ∧
        t.get Fd.CHN_TBL_SEL_INDEX = if tblLen s.tblKind ≤ i + 1 then 0 else i + 1)) ∧
  (∀ (m : Master) (s : State), s.alive = true → 2 ≤ s.masterLevel m →
    s.get Fd.CHN_TBL_SEL_INDEX < tblLen s.tblKind →
    ∃ t, exec (.tblDataAccess m none) s = .next t ∧ t.win = s.win ∧
      t.out.readData = s.tbl (s.get Fd.CHN_TBL_SEL_WIN) (s.get Fd.CHN_TBL_SEL_BANK) s.tblKind (s.get Fd.CHN_TBL_SEL_INDEX)) ∧
  (∀ (m : Master) (v : Word) (s : State), s.alive = true → 4 ≤ s.masterLevel m →
    ∃ t, exec (.amapDataAccess m (some v)) s = .next t ∧ mapGet 0 t.can.amap (s.get Fd.CAN_AMAP_SEL_INDEX) = v ∧
      t.get Fd.CAN_AMAP_SEL_INDEX = (s.get Fd.CAN_AMAP_SEL_INDEX + 1) % 8192) ∧
  (∀ (m : Master) (s : State), s.alive = true → 2 ≤ s.masterLevel m →
    ∃ t, exec (.amapDataAccess m none) s = .next t ∧ t.out.readData = mapGet 0 s.can.amap (s.get Fd.CAN_AMAP_SEL_INDEX) ∧
      t.can = s.can) ∧
  (∀ (m : Master) (k : Fin 4) (v : Word) (s : State), s.alive = true → 4 ≤ s.masterLevel m →
    ∃ t, exec (.rseqDataAccess m k (some v)) s = .next t ∧
      t.rffeWord k (s.get Fd.TDD_RSEQ_SEL_INDEX k) = rseqWord (s.get Fd.TDD_RSEQ_SEL_INDEX k) v ∧
      t.get Fd.TDD_RSEQ_SEL_INDEX k = (s.get Fd.TDD_RSEQ_SEL_INDEX k + 1) % 256) ∧
  (∀ (m : Master) (k : Fin 4) (s : State), s.alive = true → 2 ≤ s.masterLevel m →
    ∃ t, exec (.rseqDataAccess m k none) s = .next t ∧ t.out.readData = s.rffeWord k (s.get Fd.TDD_RSEQ_SEL_INDEX k) ∧ t.tdd = s.tdd))

/-- WCTL.EN set for a disabled window makes it wait for its binding, EN cleared stops it at once; SWAP requests a bank
swap, which a coarse or medium window with SWAP_ALIGN 0 makes or refuses at its next subband sample, within the grid tick; PCFG0.EN set
makes a path wait for its binding and EN cleared for its unbinding (R64, R73, R88). SCFG_FREQ stores a frequency of 380 to 7,200 MHz and
starts a lock on a change, and flags any other; LSRC is stored unless a fifth lane would name a synthesiser; the lane enables are stored,
and TX_EN cleared takes TX_REQ away (R204, R205, R207, R208). The enables of a domain, a contour and the contour engine, FLT.ALERT.SW,
TDD.CTL and RCE.CTL are stored; a change of TDD.EN starts acquisition afresh, and RCE.EN cleared empties the jobs that wait and ends the
one that runs (R150, R154, R211, R226, R293). -/
def Obligations.EnablesStoredAndBound : Prop :=
  ((∀ (m : Master) (w : Fin 16) (data : Word) (s : State), s.alive = true → 4 ≤ s.masterLevel m →
    ∃ t, exec (.wctlEnWrite m w data) s = .next t ∧ t.getB Fd.CHN_WCTL_EN w = bit data.toNat 0 ∧
      (s.getB Fd.CHN_WCTL_EN w = false → bit data.toNat 0 = true → bit t.win.binding w = true) ∧
      (s.getB Fd.CHN_WCTL_EN w = true → bit data.toNat 0 = false → bit t.win.bound w = false ∧ bit t.win.binding w = false)) ∧
  (∀ (m : Master) (w : Fin 16) (data : Word) (s : State), s.alive = true → 4 ≤ s.masterLevel m → bit data.toNat 31 = true →
    (∀ q ∈ s.win.swaps, q.align ≠ 0) →
    ∃ t, exec (.wctlSwap m w data) s = .next t ∧
      (t.get Fd.CHN_WCTL_SWAP_ALIGN w ≠ 0 ∨ t.get Fd.CHN_WCTL_PROFILE w = 0 ∨ t.get Fd.CHN_WCTL_PROFILE w = 3 →
        t.getB Fd.CHN_WSTAT_SWAP_PEND w = true) ∧
      (t.get Fd.CHN_WCTL_SWAP_ALIGN w = 0 → t.get Fd.CHN_WCTL_PROFILE w = 1 ∨ t.get Fd.CHN_WCTL_PROFILE w = 2 →
        t.getB Fd.CHN_WCTL_LINK_EN w = false → s.getB Fd.CHN_WSTAT_SWAP_PEND w = false → t.getB Fd.CHN_WSTAT_SWAP_PEND w = false ∧
          (s.swapCause w = 8 → t.actBank w = s.actBank w ∧ t.get Fd.CHN_WSTAT_ERR w = 8))) ∧
  (∀ (m : Master) (p : Fin 256) (data : Word) (s : State), s.alive = true → 4 ≤ s.masterLevel m →
    ∃ t, exec (.pcfg0EnWrite m p data) s = .next t ∧ t.getB Fd.CAN_PCFG0_EN p = bit data.toNat 31 ∧
      (s.getB Fd.CAN_PCFG0_EN p = false → bit data.toNat 31 = true → p.val ∈ t.can.binding) ∧
      (s.getB Fd.CAN_PCFG0_EN p = true → bit data.toNat 31 = false → p.val ∈ t.can.unbinding ∧ p.val ∉ t.can.binding))) ∧
  ((∀ (m : Master) (y : Fin 8) (data : Word) (s : State), s.alive = true → 4 ≤ s.masterLevel m →
    (let f := wbits data 22 0
     ∃ t, exec (.scfgFreqWrite m y data) s = .next t ∧
      (380000 ≤ f → f ≤ 7200000 → t.get Fd.SYN_SCFG_FREQ y = f ∧
        (f ≠ s.get Fd.SYN_SCFG_FREQ y → t.get Fd.SYN_SSTAT_STATE y = 1 ∧ t.getB Fd.SYN_SSTAT_LOCK y = false)) ∧
      (f < 380000 ∨ 7200000 < f → t.get Fd.SYN_SCFG_FREQ y = s.get Fd.SYN_SCFG_FREQ y ∧ t.getB Fd.SYN_GSTAT_FREQ_ERR = true))) ∧
  (∀ (m : Master) (n : Fin 16) (data : Word) (s : State), s.alive = true → 4 ≤ s.masterLevel m →
    s.getB Fd.LANE_CTL_RX_EN n = false → s.getB Fd.LANE_CTL_TX_EN n = false → (s.reg (Reg.SYN_LSRC.off n 0)).toNat < 256 →
    (let v := wd (wbits data 7 0)
     ∃ t, exec (.lsrcWrite m n data) s = .next t ∧
      (s.fifthLane n v.toNat = false → t.reg (Reg.SYN_LSRC.off n 0) = v) ∧
      (s.fifthLane n v.toNat = true → t.reg (Reg.SYN_LSRC.off n 0) = s.reg (Reg.SYN_LSRC.off n 0) ∧ t.getB Fd.SYN_GSTAT_MAP_ERR = true))) ∧
  (∀ (m : Master) (n : Fin 16) (data : Word) (s : State), s.alive = true → 4 ≤ s.masterLevel m →
    ∃ t, exec (.txEnWrite m n data) s = .next t ∧ t.getB Fd.LANE_CTL_TX_EN n = bit data.toNat 1 ∧
      (bit data.toNat 1 = false → t.getB Fd.SYN_LSTATE_TX_REQ n = false)) ∧
  (∀ (m : Master) (n : Fin 16) (data : Word) (s : State), s.alive = true → 4 ≤ s.masterLevel m →
    ∃ t, exec (.rxEnWrite m n data) s = .next t ∧ t.getB Fd.LANE_CTL_RX_EN n = bit data.toNat 0)) ∧
  ((∀ (m : Master) (d : Fin 256) (data : Word) (s : State), s.alive = true → 4 ≤ s.masterLevel m →
    ∃ t, exec (.dctlEnWrite m d data) s = .next t ∧ t.getB Fd.CON_DCTL_EN d = bit data.toNat 31) ∧
  (∀ (m : Master) (k : Fin 1536) (data : Word) (s : State), s.alive = true → 4 ≤ s.masterLevel m →
    ∃ t, exec (.ccfg3EnWrite m k data) s = .next t ∧ t.getB Fd.CON_CCFG3_EN k = bit data.toNat 31) ∧
  (∀ (m : Master) (data : Word) (s : State), s.alive = true → 4 ≤ s.masterLevel m →
    ∃ t, exec (.conEnWrite m data) s = .next t ∧ t.getB Fd.CON_CTL_EN = bit data.toNat 0) ∧
  (∀ (m : Master) (data : Word) (s : State), s.alive = true → 4 ≤ s.masterLevel m →
    ∃ t, exec (.alertSwWrite m data) s = .next t ∧ t.getB Fd.FLT_ALERT_SW = bit data.toNat 0) ∧
  (∀ (m : Master) (data : Word) (s : State), s.alive = true → 4 ≤ s.masterLevel m →
    ∃ t, exec (.tddCtlWrite m data) s = .next t ∧ t.getB Fd.TDD_CTL_EN = bit data.toNat 0 ∧
      (s.getB Fd.TDD_CTL_EN ≠ bit data.toNat 0 → t.get Fd.TDD_STAT_STATE = (if bit data.toNat 0 then 1 else 0) ∧ t.tdd.last = none)) ∧
  (∀ (m : Master) (data : Word) (s : State), s.alive = true → 4 ≤ s.masterLevel m →
    ∃ t, exec (.rceCtlWrite m data) s = .next t ∧ t.getB Fd.RCE_CTL_EN = bit data.toNat 0 ∧
      (s.getB Fd.RCE_CTL_EN = true → bit data.toNat 0 = false → t.rce.waiting = [] ∧ t.rce.cur = none)))

/-- PMC_CLEAR orders a clearing dump; LOOP_START sets LOOP_BUSY and LOOP_MEASURE_END, once its 64 sheets are over, clears it and stores the
lags it found, or sets LOOP_ERR and keeps them; AGE_NOW orders a plan where none runs (R162, R327, R351). SVY_FENCE counts a live engine as
lost and takes it out of its party's mask; a software trigger starts every sequence word with EVENT 6 of an enabled master, behind those
that wait (R111, R220). A write of SEAL stores the reference CRC, arms the check and clears HOLD; SEAL_CTL.HOLD is set and cleared, and
times out 5,120 grid ticks after it was set with HOLD_TO and REG_HOLD; a sweep pass that nothing disturbed stores its CRC (R281 to R283). -/
def Obligations.OrdersByBit : Prop :=
  ((∀ (m : Master) (data : Word) (s : State), s.alive = true → 4 ≤ s.masterLevel m → bit data.toNat 29 = true →
    ∃ t, exec (.pmcClear m data) s = .next t ∧ t.pmc.clearing = true) ∧
  (∀ (m : Master) (w : Fin 16) (data : Word) (s : State), s.alive = true → 4 ≤ s.masterLevel m → bit data.toNat 0 = true →
    ∃ t, exec (.loopStart m w data) s = .next t ∧ t.getB Fd.CON_WLCTL_LOOP_BUSY w = true) ∧
  (∀ (w : Fin 16) (scan : LoopScan) (s : State) (t0 : Nat), s.alive = true →
    s.con.loops.find? (fun p => p.1 == w.val) = some (w.val, t0, false) →
    ∃ t, exec (.loopMeasureEnd w scan) s = .next t ∧
      (s.sheet < t0 + 64 → t = s) ∧
      (t0 + 64 ≤ s.sheet → t.getB Fd.CON_WLCTL_LOOP_BUSY w = false ∧
        (∀ a b, loopLagOf scan 0 = some a → loopLagOf scan 1 = some b →
          t.get Fd.CON_WLOOP_LAG_A w = a ∧ t.get Fd.CON_WLOOP_LAG_B w = b) ∧
        (loopLagOf scan 0 = none ∨ loopLagOf scan 1 = none →
          t.getB Fd.CON_WLCTL_LOOP_ERR w = true ∧ t.reg (Reg.CON_WLOOP.off w 0) = s.reg (Reg.CON_WLOOP.off w 0)))) ∧
  (∀ (m : Master) (data : Word) (s : State), s.alive = true → 4 ≤ s.masterLevel m → bit data.toNat 1 = true → s.age.running = none →
    ∃ t, exec (.ageNow m data) s = .next t ∧ t.age.running = some 2 ∧ t.getB Fd.AGE_STAT_BUSY = true)) ∧
  ((∀ (m : Master) (data : Word) (s : State), s.alive = true → 4 ≤ s.masterLevel m → bit data.toNat 16 = true →
    (let e := wbits data 15 8
     bit (s.get Fd.SVY_ENG_LOST_LOST (e / 32)) (e % 32) = false →
      ∃ t, exec (.svyFence m data) s = .next t ∧ bit (t.get Fd.SVY_ENG_LOST_LOST (e / 32)) (e % 32) = true ∧
        bit (t.get Fd.SVY_PSTATE_ENG_MASK (e / 8)) (e % 8) = false)) ∧
  (∀ (m : Master) (k : Fin 4) (data : Word) (s : State) (q : Nat), s.alive = true → 4 ≤ s.masterLevel m → bit data.toNat 30 = true →
    bit data.toNat 31 = true → q < 16 → wbits (s.rffeWord k q) 31 28 = 6 →
    ∃ t, exec (.swTrig m k data) s = .next t ∧ ∃ r ∈ t.rffeQueue k, r.seq = q)) ∧
  ((∀ (m : Master) (i : Fin 35) (data : Word) (s : State), s.alive = true → blockWriteLevel i ≤ s.masterLevel m →
    ∃ t, exec (.sealWrite m i data) s = .next t ∧ t.get (Fd.SEAL_SEAL i) = data.toNat ∧ t.getB (Fd.BLK_STAT_ARMED i) = true ∧
      t.getB (Fd.SEAL_CTL_HOLD i) = false ∧ t.getB (Fd.BLK_STAT_HOLD i) = false) ∧
  (∀ (m : Master) (i : Fin 35) (data : Word) (s : State), s.alive = true → blockWriteLevel i ≤ s.masterLevel m →
    ∃ t, exec (.sealHoldWrite m i data) s = .next t ∧ t.getB (Fd.SEAL_CTL_HOLD i) = bit data.toNat 0 ∧
      t.getB (Fd.BLK_STAT_HOLD i) = bit data.toNat 0 ∧ (bit data.toNat 0 = true → (t.sweeper i).holdAt = s.time.gt)) ∧
  (∀ (i : Fin 35) (s : State), s.alive = true → s.getB (Fd.SEAL_CTL_HOLD i) = true → (s.sweeper i).holdAt + 5120 ≤ s.time.gt →
    ∃ t, exec (.sealHoldTimeout i) s = .next t ∧ t.getB (Fd.SEAL_CTL_HOLD i) = false ∧ t.getB (Fd.BLK_STAT_HOLD_TO i) = true) ∧
  (∀ (i : Fin 35) (s : State), s.alive = true → (s.sweeper i).dirty = false →
    ∃ t, exec (.sweepPassDone i) s = .next t ∧ t.get (Fd.SWEEP_CRC i) = (s.sweepCrc i).toNat ∧
      t.getB (Fd.BLK_STAT_SWEEP_VALID i) = true) ∧
  (∀ (i : Fin 35) (s : State), s.alive = true → (s.sweeper i).dirty = true →
    ∃ t, exec (.sweepPassDone i) s = .next t ∧ (t.sweeper i).dirty = false ∧ t.get (Fd.SWEEP_CRC i) = s.get (Fd.SWEEP_CRC i)))

/-! ### Lanes and synthesisers (10, R46, R55, R205 to R207) -/

/-- SYN_LOCK takes a synthesiser from ACQUIRING to LOCK; SYN_SETTLED sets SETTLED once syn.settle grid ticks have passed since; SYN_UNLOCK
clears both, counts the relock and begins again; LOCK_ATTEMPT_TIMEOUT counts a failed attempt, and the last one leaves the synthesiser
DEAD; each leaves the state alone where its condition does not hold (R205 to R207). -/
def Obligations.SynthesiserLocksAndLoses : Prop :=
  (∀ (y : Fin 8) (s : State), s.alive = true → ∃ t, exec (.synLock y) s = .next t ∧
    (s.get Fd.SYN_SSTAT_STATE y = 1 → t.get Fd.SYN_SSTAT_STATE y = 2 ∧ t.getB Fd.SYN_SSTAT_LOCK y = true ∧
      (t.synX y).lockAt = s.time.gt ∧ ∀ off, off ≠ Reg.SYN_SSTAT.off y 0 → t.reg off = s.reg off) ∧
    (s.get Fd.SYN_SSTAT_STATE y ≠ 1 → t = s)) ∧
  (∀ (y : Fin 8) (s : State), s.alive = true → ∃ t, exec (.synSettled y) s = .next t ∧
    (s.getB Fd.SYN_SSTAT_LOCK y = true → (s.synX y).lockAt + s.legN 0x1040 < s.time.gt → t.getB Fd.SYN_SSTAT_SETTLED y = true) ∧
    (s.time.gt ≤ (s.synX y).lockAt + s.legN 0x1040 → t = s)) ∧
  (∀ (y : Fin 8) (s : State), s.alive = true → ∃ t, exec (.synUnlock y) s = .next t ∧
    (s.getB Fd.SYN_SSTAT_LOCK y = true → t.getB Fd.SYN_SSTAT_LOCK y = false ∧ t.getB Fd.SYN_SSTAT_SETTLED y = false ∧
      t.get Fd.SYN_SSTAT_STATE y = 1 ∧
      t.get Fd.SYN_SSTAT_RELOCKS y = min (s.get Fd.SYN_SSTAT_RELOCKS y + 1) (2 ^ Fd.SYN_SSTAT_RELOCKS.width - 1)) ∧
    (s.getB Fd.SYN_SSTAT_LOCK y = false → t = s)) ∧
  (∀ (y : Fin 8) (s : State), s.alive = true → ∃ t, exec (.lockAttemptTimeout y) s = .next t ∧
    (let attempts := s.legN 0x1041 + b2n (s.synX y).cold
     (s.get Fd.SYN_SSTAT_STATE y = 1 → (s.synX y).fails + 1 < attempts →
        t = s.setSynX y { s.synX y with fails := (s.synX y).fails + 1 }) ∧
      (s.get Fd.SYN_SSTAT_STATE y = 1 → attempts ≤ (s.synX y).fails + 1 → t.get Fd.SYN_SSTAT_STATE y = 3 ∧
        ∀ w ∈ t.lane.tunes, w.syn ≠ y.val) ∧
      (s.get Fd.SYN_SSTAT_STATE y ≠ 1 → t = s)))

/-- TX_PENDING_TIMEOUT drops the request of a lane that stood PENDING for 1,280 grid ticks without becoming ready, which returns to IDLE
(R207); RECAL_DUE schedules the calibration of an enabled side whose recalibration interval is over, and it starts where R55 permits it;
CORR_STALE flags a lane one of whose sides was held, or had a kind off, for 480,000 sheets while its temperature moved by more than 5 °C,
and schedules that side's calibration (R46, R55). -/
def Obligations.LaneTimersAct : Prop :=
  (∀ (n : Fin 16) (s : State), s.alive = true → s.get Fd.SYN_LSTATE_TX_STATE n = 2 → (s.laneX n).pendLoss = false →
    ∃ t, exec (.txPendingTimeout n) s = .next t ∧
      ((s.laneX n).pendFrom + 1280 ≤ s.time.gt → s.txReady n = false →
        t.getB Fd.SYN_LSTATE_TX_REQ n = false ∧ t.get Fd.SYN_LSTATE_TX_STATE n = 1) ∧
      (s.time.gt < (s.laneX n).pendFrom + 1280 ∨ s.txReady n = true → t = s)) ∧
  (∀ (n : Fin 16) (s : State), s.alive = true → s.getB Fd.MBX_CSTAT_READY = true →
    s.lane.calDue = 0 →
    (s.getB Fd.LANE_CTL_TX_EN n = true → s.recalElapsed n true = true → s.calPermitted n true = true →
      ∃ t, exec (.recalDue n true) s = .next t ∧ t.getB Fd.LANE_CAL_STAT_TX_BUSY n = true) ∧
    (s.getB Fd.LANE_CTL_RX_EN n = true → s.recalElapsed n false = true → s.calPermitted n false = true →
      ∃ t, exec (.recalDue n false) s = .next t ∧ t.getB Fd.LANE_CAL_STAT_RX_BUSY n = true) ∧
    ∀ tx, (if tx then s.getB Fd.LANE_CTL_TX_EN n else s.getB Fd.LANE_CTL_RX_EN n) = true → s.recalElapsed n tx = true →
      s.calPermitted n tx = false → exec (.recalDue n tx) s = .next (s.scheduleCal n tx)) ∧
  (∀ (n : Fin 16) (tx : Bool) (s : State), s.alive = true →
    (if tx then s.getB Fd.LANE_CTL_TX_EN n else s.getB Fd.LANE_CTL_RX_EN n) = false ∨ s.recalElapsed n tx = false →
    exec (.recalDue n tx) s = .next s) ∧
  (∀ (n : Fin 16) (temp : Int) (s : State), s.alive = true → ∃ t, exec (.corrStale n temp) s = .next t ∧
    (s.staleSide n false temp = true ∨ s.staleSide n true temp = true → t.getB Fd.LANE_RX_STAT_CORR_STALE n = true) ∧
    (∀ tx, s.staleSide n tx temp = true → bit t.lane.calDue (n.val + 16 * b2n tx) = true ∨
      (if tx then t.getB Fd.LANE_CAL_STAT_TX_BUSY n else t.getB Fd.LANE_CAL_STAT_RX_BUSY n) = true) ∧
    (s.staleSide n false temp = false → s.staleSide n true temp = false → t = s))

/-! ### Reconnaissance and coexistence (11, R225 to R235) -/

/-- RECCE_JOB_DUE enters a job at a sheet of its phase, in place of one of its own that still waits, which ends SKIPPED_LATE;
RECCE_JOB_START gives the free front end the first work that may start, but a tracking job whose interval overlaps that of a lower index
ends SKIPPED_LATE; RECCE_JOB_END, once the interval has ended (its begin, for an overload), and SYNRC_UNLOCK end the work in progress with
the status Table 11.3 gives, and the front end enters its return state; SYNRC_UNLOCK without work leaves the synthesiser unlocked;
RESULT_POST takes the oldest result from a grid tick that has ended; SURVEY_STALE sets M of a span not surveyed for two revisits to 0x8000
(R225 to R229, R235). -/
def Obligations.RecceWorkRuns : Prop :=
  (∀ (j : Fin 32) (s : State), s.alive = true → s.recceOn = true → s.jobOn j = true → s.time.gt % 80 = 0 →
    s.sheet % 2 ^ 32 % s.get Fd.RCE_JCFG0_PERIOD j = j.val % s.get Fd.RCE_JCFG0_PERIOD j → (s.jobX j).lastDue ≠ some s.sheet →
    ∃ t, exec (.recceJobDue j) s = .next t ∧ (t.jobX j).lastDue = some s.sheet ∧ t.rce.cur = s.rce.cur ∧
      t.rce.waiting = (s.rce.waiting.filter fun w => !(w.kind == 0 && w.idx == j.val)) ++
        [⟨if pinned (s.get Fd.RCE_JCFG0_KIND j) then 0 else 2, 0, j.val, s.sheet⟩] ∧
      ((∀ w ∈ s.rce.waiting, ¬ (w.kind = 0 ∧ w.idx = j.val)) → t.rce.done = s.rce.done) ∧
      ((∃ w ∈ s.rce.waiting, w.kind = 0 ∧ w.idx = j.val) → ∃ d, t.rce.done = s.rce.done ++ [d] ∧ d.status = 3 ∧ d.work.idx = j.val)) ∧
  (∀ (pa pb : Int) (ognt : Bool) (s : State), s.alive = true → ∃ t, exec (.recceJobStart pa pb ognt) s = .next t ∧
    (∀ w, s.rce.cur = none → s.recceOn = true → firstWork ((s.rce.waiting ++ s.surveysDue).filter (s.mayStart s.now)) = some w →
      (let span := s.workSpan w s.now
       let lower := s.tracks w s.now && displaced (s.pinnedNext s.now (s.workRet w) w) w.idx span.1 span.2
       (lower = false → (∃ r, t.rce.cur = some r ∧ r.work = w ∧ r.openAt = span.1 ∧ r.endAt = span.2 ∧
          r.tuneAt = s.now + usToSamples s.wakeUs) ∧ w ∉ t.rce.waiting ∧
        t.getB Fd.RCE_STAT_SURVEY = decide (w.kind ≠ 0) ∧ (s.wakeUs = 0 → t.get Fd.RCE_STAT_STATE = 3)) ∧
       (lower = true → t.rce.cur = none ∧ t.rce.waiting = s.rce.waiting.filter (fun q => q != w) ∧
        ∃ d, t.rce.done = s.rce.done ++ [d] ∧ d.status = 3 ∧ d.work.idx = w.idx))) ∧
    (s.rce.cur ≠ none ∨ s.recceOn = false → t = s)) ∧
  (∀ (r : RecceResult) (q : RceRun) (s : State), s.alive = true → s.rce.cur = some q → q.waitGrant = false →
    (if r = .overload then q.openAt else q.endAt) < s.now + 1536 → ∃ t d, exec (.recceJobEnd r) s = .next t ∧
    t.rce.cur = none ∧ t.get Fd.RCE_STAT_STATE = min q.ret 2 ∧ t.rce.done = s.rce.done ++ [d] ∧ d.work = q.work ∧
    d.endAt = s.time.gt ∧
    (q.cx = true ∨ s.cxMeets = true → d.status = 4) ∧
    (q.cx = false → s.cxMeets = false → d.status = match r with
      | .found .. => 1
      | .notFound => 2
      | .overload => 7)) ∧
  (∀ (r : RecceResult) (q : RceRun) (s : State), s.alive = true → s.rce.cur = some q →
    q.waitGrant = true ∨ s.now + 1536 ≤ (if r = .overload then q.openAt else q.endAt) → exec (.recceJobEnd r) s = .next s) ∧
  (∀ (q : RceRun) (s : State), s.alive = true → s.rce.cur = some q → ∃ t d, exec .synrcUnlock s = .next t ∧
    t.rce.cur = none ∧ t.rce.freq = none ∧ t.rce.done = s.rce.done ++ [d] ∧ d.work = q.work ∧ d.status = 6) ∧
  (∀ s : State, s.alive = true → s.rce.cur = none → ∃ t, exec .synrcUnlock s = .next t ∧
    OnlyRaised { s with rce := { s.rce with freq := none } } t ∧ (s.rce.freq = none → t = s)) ∧
  (∀ (d : RceDone) (ds : List RceDone) (s : State), s.alive = true → s.rce.done = d :: ds → ∃ t, exec .resultPost s = .next t ∧
    (d.endAt < s.time.gt → t.rce.done = ds) ∧ (s.time.gt ≤ d.endAt → t = s)) ∧
  (∀ (p : Fin 32) (s : State), s.alive = true → s.getB Fd.FLT_WCFG_EMS_EN (p.val / 2) = true →
    ((s.rce.spans.find? fun q => q.1 == p.val).map (·.2)).getD 0 + 2 * s.get Fd.FLT_THR_EMS_REV ≤ s.sheet →
    ∃ t, exec (.surveyStale p) s = .next t ∧ OnlyRaised ({ s with prot := t.prot }.set Fd.FLT_WEMS_M 0x8000 (p.val / 2)) t ∧
      t.get Fd.FLT_WEMS_M (p.val / 2) = 0x8000)

/-- CX_REQ_ASSERT opens a request, counted, with its priority, once, in reset too; CX_PRI_ASSERT raises its priority; DEFERRAL_TIMEOUT ends
a deferral 128 grid ticks after it began; CX_GNT_ASSERT grants in the grid tick that holds the grant's instant; CX_REQ_DEASSERT ends the
request and its grant; CX_MAX_HOLD reports a long one and leaves it honoured (R231 to R235). CX_OGNT_DEASSERT ends the job in progress on
the shared aerial NO_AERIAL from its preamble on, and OGRANT_TIMEOUT one that waited rce.ogrant_to for its grant; neither touches any other
work (R230). -/
def Obligations.SharedAerialAndLinksServed : Prop :=
  ((∀ (i : Fin 2) (pri : Bool) (s : State), ∃ t, exec (.cxReqAssert i pri) s = .next t ∧
    ((s.cxLink i).since = none → t.getB Fd.RCE_CXSTAT_REQ i = true ∧ t.getB Fd.RCE_CXSTAT_PRI i = pri ∧
      t.get Fd.RCE_CXSTAT_COUNT i = min (s.get Fd.RCE_CXSTAT_COUNT i + 1) (2 ^ Fd.RCE_CXSTAT_COUNT.width - 1) ∧
      (t.cxLink i).since = some s.time.gt) ∧
    ((s.cxLink i).since ≠ none → t = s)) ∧
  (∀ (i : Fin 2) (s : State), s.alive = true → ∃ t, exec (.cxPriAssert i) s = .next t ∧
    ((s.cxLink i).since ≠ none → t = s.setB Fd.RCE_CXSTAT_PRI true i) ∧ ((s.cxLink i).since = none → t = s)) ∧
  (∀ (i : Fin 2) (s : State), s.alive = true → (s.cxLink i).deferred ≠ 0 → ∃ t, exec (.deferralTimeout i) s = .next t ∧
    ((s.cxLink i).b0 + 128 ≤ s.time.gt → (t.cxLink i).deferred = 0 ∧ t.getB Fd.RCE_CXSTAT_DEFERRING i = false ∧
      t.get Fd.RCE_CXSTAT_DEFER_T i = 128) ∧
    (s.time.gt < (s.cxLink i).b0 + 128 → t = s)) ∧
  (∀ (i : Fin 2) (g : Nat) (s : State), s.alive = true → (s.cxLink i).grantAt = some g → ∃ t, exec (.cxGntAssert i) s = .next t ∧
    (g < s.now + 1536 → t = s.setB Fd.RCE_CXSTAT_GNT true i) ∧ (s.now + 1536 ≤ g → t = s)) ∧
  (∀ (i : Fin 2) (s : State), (s.cxLink i).since ≠ none → ∃ t, exec (.cxReqDeassert i) s = .next t ∧
    t.getB Fd.RCE_CXSTAT_REQ i = false ∧ t.getB Fd.RCE_CXSTAT_GNT i = false ∧
    t.getB Fd.RCE_CXSTAT_DEFERRING i = false ∧ (t.cxLink i).since = none ∧ (t.cxLink i).grantAt = none) ∧
  (∀ (i : Fin 2) (b : Nat) (s : State), s.alive = true → (s.cxLink i).since = some b → (s.cxLink i).long = false →
    ∃ t, exec (.cxMaxHold i) s = .next t ∧
      (b + 80 * s.legN 0x6064 < s.time.gt → OnlyRaised (s.setCxLink i { s.cxLink i with long := true }) t) ∧
      (s.time.gt ≤ b + 80 * s.legN 0x6064 → t = s))) ∧
  ((∀ (q : RceRun) (s : State), s.alive = true → s.rce.cur = some q → ∃ t, exec .cxOgntDeassert s = .next t ∧
    (q.shared = true → q.waitGrant = false → q.preAt < s.now + 1536 →
      t.rce.cur = none ∧ ∃ d, t.rce.done = s.rce.done ++ [d] ∧ d.work = q.work ∧ d.status = 5) ∧
    (q.shared = false ∨ q.waitGrant = true ∨ s.now + 1536 ≤ q.preAt → t = { s with rce := { s.rce with ognt := false } })) ∧
  (∀ (q : RceRun) (s : State), s.alive = true → s.rce.cur = some q → ∃ t, exec .ograntTimeout s = .next t ∧
    (q.waitGrant = true → q.reqAt + usToSamples (s.legN 0x6002) < s.now + 1536 →
      t.rce.cur = none ∧ ∃ d, t.rce.done = s.rce.done ++ [d] ∧ d.work = q.work ∧ d.status = 5) ∧
    (q.waitGrant = false ∨ s.now + 1536 ≤ q.reqAt + usToSamples (s.legN 0x6002) → t = s)))

/-! ### Sense, captures and counters (12, 17) -/

/-- A calibration starts on the write that orders it where its side is enabled and permitted, and reports RESULT 5 where not; CALIBRATION_END
clears BUSY and writes the result, NO_LOCK where the synthesiser was lost on the way (R52, R54 to R56). SNS_CTL's CAL bits start a
converter's calibration of 16 steps, its SWAP bit requests a bank swap; INJ_REQ.GO queues a conversion behind at most three others (R246
to R248). -/
def Obligations.CalibrationsAndSenseOrders : Prop :=
  ((∀ (m : Master) (n : Fin 16) (data : Word) (s : State), s.alive = true → 4 ≤ s.masterLevel m → bit data.toNat 0 = true →
    ∃ t, exec (.calCtlRxStart m n data) s = .next t ∧
      (s.getB Fd.LANE_CTL_RX_EN n = true → s.calPermitted n false = true → t.getB Fd.LANE_CAL_STAT_RX_BUSY n = true) ∧
      (s.getB Fd.LANE_CAL_STAT_RX_BUSY n = false → s.getB Fd.LANE_CTL_RX_EN n = false →
        t.getB Fd.LANE_CAL_STAT_RX_BUSY n = false ∧ t.get Fd.LANE_CAL_STAT_RX_RESULT n = 5)) ∧
  (∀ (m : Master) (n : Fin 16) (data : Word) (s : State), s.alive = true → 4 ≤ s.masterLevel m → bit data.toNat 0 = false →
    bit data.toNat 1 = true →
    ∃ t, exec (.calCtlTxStart m n data) s = .next t ∧
      (s.getB Fd.LANE_CTL_TX_EN n = true → s.calPermitted n true = true → t.getB Fd.LANE_CAL_STAT_TX_BUSY n = true) ∧
      (s.getB Fd.LANE_CAL_STAT_TX_BUSY n = false → s.getB Fd.LANE_CTL_TX_EN n = false →
        t.getB Fd.LANE_CAL_STAT_TX_BUSY n = false ∧ t.get Fd.LANE_CAL_STAT_TX_RESULT n = 5)) ∧
  (∀ (n : Fin 16) (r : CalResult) (s : State), s.alive = true →
    (s.getB Fd.LANE_CAL_STAT_RX_BUSY n = true →
      ∃ t, exec (.calibrationEnd n false r) s = .next t ∧ t.getB Fd.LANE_CAL_STAT_RX_BUSY n = false ∧
        t.get Fd.LANE_CAL_STAT_RX_RESULT n = if bit (s.laneX n).calLost 0 then 3 else calCode r) ∧
    (s.getB Fd.LANE_CAL_STAT_TX_BUSY n = true →
      ∃ t, exec (.calibrationEnd n true r) s = .next t ∧ t.getB Fd.LANE_CAL_STAT_TX_BUSY n = false ∧
        t.get Fd.LANE_CAL_STAT_TX_RESULT n = if bit (s.laneX n).calLost 1 then 3 else calCode r))) ∧
  ((∀ (m : Master) (data : Word) (s : State), s.alive = true → 4 ≤ s.masterLevel m → bit data.toNat 2 = true →
    (s.snsConv 0).calLeft = 0 →
    ∃ t, exec (.snsCal0 m data) s = .next t ∧ (t.snsConv 0).calLeft = 16 ∧ t.getB Fd.SNS_STAT_CAL0_BUSY = true) ∧
  (∀ (m : Master) (data : Word) (s : State), s.alive = true → 4 ≤ s.masterLevel m → bit data.toNat 3 = true →
    (s.snsConv 1).calLeft = 0 →
    ∃ t, exec (.snsCal1 m data) s = .next t ∧ (t.snsConv 1).calLeft = 16 ∧ t.getB Fd.SNS_STAT_CAL1_BUSY = true) ∧
  (∀ (m : Master) (data : Word) (s : State), s.alive = true → 4 ≤ s.masterLevel m → bit data.toNat 1 = true →
    ∃ t, exec (.snsSwap m data) s = .next t ∧ t.getB Fd.SNS_STAT_SWAP_PEND = true) ∧
  (∀ (m : Master) (data : Word) (s : State), s.alive = true → 4 ≤ s.masterLevel m → bit data.toNat 31 = true →
    wbits data 5 0 ≤ 32 →
    (let c := wbits data 30 30
     ∃ t, exec (.injReqGo m data) s = .next t ∧
      ((s.snsConv c).queue.length < 4 → (t.snsConv c).queue = (s.snsConv c).queue ++ [(wbits data 5 0, false, s.time.gt)]) ∧
      (4 ≤ (s.snsConv c).queue.length → t.sns = s.sns))))

/-- SENSE_SLOT converts one slot of the running sequence, the slot past the listed ones ending the round; SENSE_SEQUENCE_END, its rounds
done, stages one result per listed input and ends the sequence; INJECTED_CONVERSION between sequences, and in time for the next, takes the
oldest request of its converter and reports it, with CAL_DELAYED where the request came in the course of a calibration step; SNS_CAL_STEP
takes one of 16 steps, the last of which ends the calibration with its result; SNS_CAL_DUE starts a calibration once the interval or the
temperature asks for it (R239 to R248). -/
def Obligations.SenseConverts : Prop :=
  (∀ (a b : SenseConv) (s : State), s.alive = true → ∃ t, exec (.senseSlot a b) s = .next t ∧
    (let k := s.get Fd.SNS_STAT_ACT_BANK
     (s.sns.active = true → s.sns.round < s.get Fd.SNS_SEQ_ROUNDS k →
        (s.sns.slot < s.get Fd.SNS_SEQ_LEN k → t.sns.slot = s.sns.slot + 1 ∧ t.sns.round = s.sns.round) ∧
        (s.get Fd.SNS_SEQ_LEN k ≤ s.sns.slot → t.sns.slot = 0 ∧ t.sns.round = s.sns.round + 1 ∧ t.sns.ins = none)) ∧
      (s.sns.active = false ∨ s.get Fd.SNS_SEQ_ROUNDS k ≤ s.sns.round → t = s))) ∧
  (∀ s : State, s.alive = true → ∃ t, exec .senseSequenceEnd s = .next t ∧
    (let k := s.get Fd.SNS_STAT_ACT_BANK
     (s.sns.active = true → s.get Fd.SNS_SEQ_ROUNDS k ≤ s.sns.round →
        t.sns.active = false ∧ t.sns.ended = true ∧
        t.sns.staged.map Prod.fst = s.sns.staged.map Prod.fst ++ (s.snsListed k).map Prod.fst) ∧
      (s.sns.active = false ∨ s.sns.round < s.get Fd.SNS_SEQ_ROUNDS k → t = s))) ∧
  (∀ (c : Fin 2) (a : SenseConv) (k : Fin 1536) (flt : Bool) (input at_ : Nat) (rest : List (Nat × Bool × Nat)) (s : State),
    s.alive = true → s.flt.snapReq = [] → s.sns.active = false → s.tooLate k = false → (s.snsConv c).queue = (input, flt, at_) :: rest →
    ∃ t, exec (.injectedConversion c a k) s = .next t ∧ (t.snsConv c).queue = rest ∧ t.getB Fd.SNS_INJ_RES_DONE c = true ∧
      t.getB Fd.SNS_INJ_RES_OVR c = (a.low || a.high) ∧ t.getB Fd.SNS_INJ_RES_FLT c = flt ∧
      t.getB Fd.SNS_INJ_RES_CAL_DELAYED c = ((s.snsConv c).stepped && duringStep at_ (s.snsConv c).stepAt) ∧
      t.get Fd.SNS_INJ_RES_CODE c = senseCode a) ∧
  (∀ (c : Fin 2) (r : CalResult) (s : State), s.alive = true → s.sns.active = false → (s.snsConv c).stepped = false →
    (s.snsConv c).queue = [] →
    ∃ t, exec (.snsCalStep c r) s = .next t ∧
      (2 ≤ (s.snsConv c).calLeft → (t.snsConv c).calLeft = (s.snsConv c).calLeft - 1 ∧ t.csr = s.csr) ∧
      ((s.snsConv c).calLeft = 1 → (t.snsConv c).calLeft = 0 ∧ (t.snsConv c).calAt = s.time.gt ∧ t.getB (snsBusy c) = false ∧
        t.get (snsCalStat c) = if (s.snsConv c).calBad = true ∨ r ≠ .pass then 2 else 1) ∧
      ((s.snsConv c).calLeft = 0 → t = s)) ∧
  (∀ (c : Fin 2) (temp : Int) (s : State), s.alive = true → (s.snsConv c).calLeft = 0 → ∃ t, exec (.snsCalDue c temp) s = .next t ∧
    (let moved := (temp - (s.snsConv c).calTemp).natAbs
     ((s.snsConv c).calAt + s.get Fd.SNS_CAL_CFG_IVL * 38400000 ≤ s.time.gt ∨ s.get Fd.SNS_CAL_CFG_TEMP < moved →
      (t.snsConv c).calLeft = 16 ∧ t.getB (snsBusy c) = true) ∧
     (s.time.gt < (s.snsConv c).calAt + s.get Fd.SNS_CAL_CFG_IVL * 38400000 → moved ≤ s.get Fd.SNS_CAL_CFG_TEMP → t = s)))

/-- CAPTURE_ARM with a payload that passes arms a capture with its lanes, trigger, length and pre-trigger part, from the grid tick of the
command; CAPTURE_TRIGGER starts it where its trigger is met; CAPTURE_DONE ends it with every sample held once the samples after the
trigger have come (R334, R335, Table 17.11). CAPTURE_ABORT stops an armed or running capture, which keeps what it holds; CAPTURE_READ
copies samples to the host address; CAPTURE_STATUS answers the state of the capture, its samples held per lane and the stamp of its
trigger (Table 17.11; the places in DRAM, words 7 to 10, are free values). -/
def Obligations.CapturesRunAndAnswer : Prop :=
  ((∀ (mb : Fin 20) (s : State) (c : Command), s.runs mb 0x40 3 false c →
    (let n := (captureLanes (c.word 1)).length
     let trig := wbits (c.word 2) 1 0
     let len := (c.word 5).toNat
     1 ≤ n → n ≤ 4 → 1536 ≤ len → len % 1536 = 0 → (c.word 6).toNat ≤ len →
      (trig = 1 → wbits (c.word 4) 19 0 < 640000 ∧ s.stampPast (c.word 3).toNat (wbits (c.word 4) 19 0) = false) →
      (trig = 2 → wbits (c.word 2) 25 16 ≤ 511) →
      len ≤ captureShare (c.word 1) → s.capt.state ≠ 1 → s.capt.state ≠ 2 → s.captureOff (c.word 1) = false →
      ∃ t, exec (.captureArm mb) s = .next t ∧ t.capt.state = 1 ∧ t.capt.lanes = c.word 1 ∧ t.capt.trigger = trig ∧ t.capt.len = len ∧
        t.capt.pre = (c.word 6).toNat ∧ t.capt.armAt = s.time.gt)) ∧
  (∀ s : State, s.alive = true → ∃ t, exec .captureTrigger s = .next t ∧
    (s.captureMet = true → t = { s with capt := { s.capt with
      state := 2, trigAt := s.time.gt, trigStamp := s.stamp, index := min s.capt.pre ((s.time.gt - s.capt.armAt) * 1536) } }) ∧
    (s.captureMet = false → t = s)) ∧
  (∀ (data : List (Nat × Word)) (s : State), s.alive = true → s.capt.state = 2 →
    s.capt.len - s.capt.pre ≤ (s.time.gt - s.capt.trigAt) * 1536 →
    ∃ t, exec (.captureDone data) s = .next t ∧ t.capt.state = 3 ∧ t.capt.held = s.capt.index + (s.capt.len - s.capt.pre) ∧
      t.capt.data = data ∧ t.capt.cmd = none)) ∧
  ((∀ (mb : Fin 20) (data : List (Nat × Word)) (s : State) (c : Command), s.runs mb 0x41 3 false c →
    ∃ t, exec (.captureAbort mb data) s = .next t ∧
      (s.capt.state = 1 ∨ s.capt.state = 2 → t.capt.state = 4 ∧ t.capt.held = s.captureHeld ∧ t.capt.data = data) ∧
      (s.capt.state ≠ 1 → s.capt.state ≠ 2 → s.answers t mb c 7 [] ∧ OnlyAnswered mb s t)) ∧
  (∀ (mb : Fin 20) (s : State) (c : Command), s.runs mb 0x42 3 false c → hostAddress c % 4096 = 0 → 1 ≤ (c.word 5).toNat →
    (c.word 5).toNat ≤ 134217728 → wbits (c.word 3) 1 0 < (captureLanes s.capt.lanes).length →
    (c.word 4).toNat + (c.word 5).toNat ≤ s.captureHeld → s.capt.state ≠ 2 →
    ∃ t, exec (.captureRead mb) s = .next t ∧ s.answers t mb c 0 [] ∧
      t.out.host = [(hostAddress c, (List.range (c.word 5).toNat).map fun i => s.capt.sample (wbits (c.word 3) 1 0) ((c.word 4).toNat + i))]) ∧
  (∀ (mb : Fin 20) (s : State) (c : Command), s.runs mb 0x43 2 false c →
    ∃ t p, exec (.captureStatus mb) s = .next t ∧ s.answers t mb c 0 p ∧ OnlyAnswered mb s t ∧ p.length = 16 ∧
      p.take 6 = [wd s.capt.state, s.capt.lanes, wd s.capt.len, wd s.capt.trigStamp.opSec, wd s.capt.trigStamp.gt, wd s.capt.index]))

/-- LOOP_MEASURE of windows none of which measures starts each and waits; CAL_START of a permitted side sets its BUSY, and of a side not
permitted or not enabled answers STATE with CAL_STAT; CAL_START of no side is BAD_PARAM (R52, R162, R336, Table 17.11). PMC_EXPORT copies
the dump records it finds to the host address and answers their count; a host address off a 4 KiB boundary is BAD_PARAM; PMC_STATUS
answers the PMC registers (Table 17.6, R332). COUNTER_DUMP ends the dump being written, its words in the DRAM ring's slot; COUNTER_WRAP
marks a counted event that passes 2^48 - 1; each does nothing where its condition does not hold (R325, R331). -/
def Obligations.CountersAndMeasurementsServe : Prop :=
  ((∀ (mb : Fin 20) (s : State) (c : Command), s.runs mb 0x44 3 false c →
    (let wins := wbits (c.word 1) 15 0
     ∃ t, exec (.loopMeasure mb) s = .next t ∧
      ((∃ w ∈ maskList wins 16, s.getB Fd.CON_WLCTL_LOOP_BUSY w = true) → s.answers t mb c 6 [] ∧ OnlyAnswered mb s t) ∧
      ((∀ w ∈ maskList wins 16, s.getB Fd.CON_WLCTL_LOOP_BUSY w = false) → wins ≠ 0 →
        (∀ w ∈ maskList wins 16, t.getB Fd.CON_WLCTL_LOOP_BUSY w = true) ∧
          ∃ q, t.con.measures = s.con.measures ++ [q] ∧ q.mb = mb.val ∧ q.cmd.tag = c.tag))) ∧
  (∀ (mb : Fin 20) (s : State) (c : Command), s.runs mb 0x45 3 false c →
    (let n := wbits (c.word 1) 3 0
     ∃ t, exec (.calStart mb) s = .next t ∧
      (wbits (c.word 1) 5 4 = 0 → s.answers t mb c 4 [] ∧ OnlyAnswered mb s t) ∧
      (wbits (c.word 1) 5 4 = 1 → s.getB Fd.LANE_CTL_RX_EN n = true → s.calPermitted n false = true →
        t.getB Fd.LANE_CAL_STAT_RX_BUSY n = true ∧ ∃ q, t.lane.cals = s.lane.cals ++ [q] ∧ q.mb = mb.val ∧ q.cmd.tag = c.tag) ∧
      (wbits (c.word 1) 5 4 = 2 → s.getB Fd.LANE_CTL_TX_EN n = true → s.calPermitted n true = true →
        t.getB Fd.LANE_CAL_STAT_TX_BUSY n = true ∧ ∃ q, t.lane.cals = s.lane.cals ++ [q] ∧ q.mb = mb.val ∧ q.cmd.tag = c.tag)))) ∧
  ((∀ (mb : Fin 20) (s : State) (c : Command), s.runs mb 0x48 3 false c →
    (let found := (List.range (wbits (c.word 4) 12 0)).filterMap fun k =>
      (s.pmc.ring.find? fun e => nth e.2 1 == wd ((c.word 3).toNat + k)).map fun e => e.2
     ∃ t, exec (.pmcExport mb) s = .next t ∧
      (hostAddress c % 4096 ≠ 0 → s.answers t mb c 4 [] ∧ OnlyAnswered mb s t) ∧
      (hostAddress c % 4096 = 0 → 1 ≤ wbits (c.word 4) 12 0 → wbits (c.word 4) 12 0 ≤ 4096 →
        s.getB Fd.DRC_CSTAT_LOST (s.get Fd.PMC_DR_CTL_CH) = false →
        (∃ x, s.answers t mb c 0 [wd found.length, x]) ∧
          t.out.host = found.zipIdx.map fun (r : List Word × Nat) => (hostAddress c + 4096 * r.2, r.1)))) ∧
  (∀ (mb : Fin 20) (s : State) (c : Command), s.runs mb 0x49 1 false c →
    ∃ t, exec (.pmcStatus mb) s = .next t ∧ OnlyAnswered mb s.refreshRings t ∧
      s.answers t mb c 0 [s.reg (Reg.PMC_CTL.off 0 0), s.refreshRings.reg (Reg.PMC_STAT.off 0 0), s.reg (Reg.PMC_DSEQ.off 0 0),
        s.reg (Reg.PMC_DLOST.off 0 0), s.reg (Reg.PMC_HR_WR.off 0 0), s.reg (Reg.PMC_HR_RD.off 0 0), s.reg (Reg.PMC_DR_WR.off 0 0),
        s.reg (Reg.PMC_DR_RD.off 0 0)])) ∧
  ((∀ s : State, s.alive = true → s.pmc.writing = none → exec .counterDump s = .next s) ∧
  (∀ (d : Dump) (s : State), s.alive = true → s.pmc.writing = some d → ∃ t, exec .counterDump s = .next t ∧ t.pmc.writing = none ∧
    t.getB Fd.PMC_STAT_DUMPING = false ∧
    ∀ ch slot ws, d.dram = some (ch, slot, ws) → mapGet [] t.pmc.ring slot = ws ∧ t.get Fd.PMC_DR_WR_INDEX = (slot + 1) % 4096) ∧
  (∀ (i : Fin 384) (n : Nat) (s : State), s.alive = true → ∃ t, exec (.counterWrap i n) s = .next t ∧
    (s.pmc.run = true → (s.pmc.sel.any fun e => e.1 == i.val) = true → 2 ^ 48 ≤ mapGet 0 s.pmc.cnt i + n →
      OnlyRaised s t ∧ t.getB Fd.PMC_VAL_HI_WRAP i = true) ∧
    (s.pmc.run = false ∨ mapGet 0 s.pmc.cnt i + n < 2 ^ 48 → t = s)))

/-! ### Protection and faults (09, 15) -/

/-- OSC_CLOSURE closes the domain whose closure has come; CLR_FLOOR_TRIP, NRS_TRIP, EMS_TRIP and SPUR_TRIP lay their restriction on their
domain, window or lanes once the condition has stood for its count, and do nothing before; DATUM_TICK_TIMEOUT lays one in force on every
lane (R35, R166, R181, R187, R189). -/
def Obligations.TripsLayRestrictions : Prop :=
  (∀ (d : Fin 256) (s : State), s.alive = true → ∃ t, exec (.oscClosure d) s = .next t ∧
    (∀ p, s.con.osc.find? (fun p => p.1 == d.val && decide (p.2.1 ≤ s.time.gt)) = some p →
      (∃ r ∈ t.prot.held, r.kind = 0 ∧ r.cls = 0 ∧ r.target = d.val ∧ r.since = s.time.gt ∧ r.inForce = true) ∧
      t.con.osc = s.con.osc.filter fun p => p.1 != d.val) ∧
    (s.con.osc.find? (fun p => p.1 == d.val && decide (p.2.1 ≤ s.time.gt)) = none → t = s)) ∧
  (∀ (d : Fin 256) (s : State), s.alive = true → ∃ t, exec (.clrFloorTrip d) s = .next t ∧
    (let n := max 1 (s.get Fd.FLT_THR_CLR_SHEETS)
     (s.kindOn 1 = true → n ≤ mapGet 0 s.prot.clrRun d →
        ∃ r ∈ t.prot.held, r.kind = 1 ∧ r.cls = 0 ∧ r.target = d.val ∧ r.since = s.time.gt) ∧
      (s.kindOn 1 = false ∨ mapGet 0 s.prot.clrRun d < n → t = s))) ∧
  (∀ (w : Fin 16) (s : State), s.alive = true → ∃ t, exec (.nrsTrip w) s = .next t ∧
    (let n := max 1 (s.get Fd.FLT_THR_NRS_SHEETS)
     (s.kindOn 3 = true → n ≤ mapGet 0 s.prot.nrsRun w →
        ∃ r ∈ t.prot.held, r.kind = 3 ∧ r.cls = 1 ∧ r.target = w.val ∧ r.since = s.time.gt) ∧
      (s.kindOn 3 = false ∨ mapGet 0 s.prot.nrsRun w < n → t = s))) ∧
  (∀ (w : Fin 16) (s : State), s.alive = true → ∃ t, exec (.emsTrip w) s = .next t ∧
    (s.kindOn 4 = true → 2 ≤ mapGet 0 s.prot.emsRun (2 * w.val) ∨ 2 ≤ mapGet 0 s.prot.emsRun (2 * w.val + 1) →
      ∃ r ∈ t.prot.held, r.kind = 4 ∧ r.cls = 1 ∧ r.target = w.val ∧ r.since = s.time.gt) ∧
    (s.kindOn 4 = false ∨ (mapGet 0 s.prot.emsRun (2 * w.val) < 2 ∧ mapGet 0 s.prot.emsRun (2 * w.val + 1) < 2) → t = s)) ∧
  (∀ (step : Nat) (s : State), s.alive = true → ∃ t, exec (.spurTrip step) s = .next t ∧
    (s.kindOn 4 = true → 2 ≤ mapGet 0 s.prot.spurRun step → ∀ n ∈ s.lanesAtStep step,
      ∃ r ∈ t.prot.held, r.kind = 4 ∧ r.cls = 2 ∧ r.target = n ∧ r.since = s.time.gt) ∧
    (s.kindOn 4 = false ∨ mapGet 0 s.prot.spurRun step < 2 → t = s)) ∧
  (∀ s : State, s.alive = true → ∃ t, exec .datumTickTimeout s = .next t ∧ t.prot.goodTicks = 0 ∧
    ∀ n, n < 16 → ∃ r ∈ t.prot.held, r.kind = 7 ∧ r.cls = 2 ∧ r.target = n ∧ r.since = s.time.gt ∧ r.inForce = true)

/-- PROT_HOLD_RELEASE lifts a restriction whose release is due and no other, but one of kind 5 first sets the sheet at which its lane unmutes,
and is lifted at it;
GATE_CLOSE closes the one gate whose hold has passed; DATUM_RESTART holds the Datum core's evaluation back, and DATUM_RESTART_DONE ends
that, nothing left waiting (R180, R184, R194). -/
def Obligations.RestrictionsRelease : Prop :=
  (∀ (k : Fin 8) (c : Fin 3) (target : Fin 256) (s : State) (r : Restriction), s.alive = true →
    s.prot.held.find? (fun r => r.kind == k.val && r.cls == c.val && r.target == target.val) = some r →
    ∃ t, exec (.protHoldRelease k c target) s = .next t ∧
      (s.releaseDue r = true → r.kind ≠ 5 → t.prot.held = s.prot.held.filter fun q => q != r) ∧
      (s.releaseDue r = true → r.kind = 5 → r.unmuteAt = none →
        t.prot.held = s.prot.held.map fun q => if q = r then { q with unmuteAt := some (s.sheet + 1) } else q) ∧
      (∀ u, s.releaseDue r = true → r.kind = 5 → r.unmuteAt = some u →
        (u ≤ s.sheet → t.prot.held = s.prot.held.filter fun q => q != r) ∧ (s.sheet < u → t = s)) ∧
      (s.releaseDue r = false → t = s)) ∧
  (∀ (w : Fin 16) (i : Nat) (s : State), s.alive = true → ∃ t, exec (.gateClose w i) s = .next t ∧
    ((s.gate w i).isOpen = true → s.gateHold w ≤ (s.gate w i).since → (t.gate w i).isOpen = false ∧ (t.gate w i).since = 0 ∧
      ∀ v j, 2048 * v + j ≠ 2048 * w.val + i → t.gate v j = s.gate v j) ∧
    ((s.gate w i).isOpen = false ∨ (s.gate w i).since < s.gateHold w → t = s)) ∧
  (∀ s : State, s.alive = true → ∃ t, exec .datumRestart s = .next t ∧ t.prot.datumDown = true ∧ t.getB Fd.FLT_PSTAT_RESTART = true ∧
    t.prot.held = s.prot.held) ∧
  (∀ s : State, s.alive = true → ∃ t, exec .datumRestartDone s = .next t ∧
    (s.prot.datumDown = true → t.prot.datumDown = false ∧ t.prot.backlog = [] ∧ t.prot.standIn = []) ∧
    (s.prot.datumDown = false → t = s))

/-- PROT_STATUS and FAULT_STATUS answer their registers (Tables 9.6 and 15.5, R198, R295). PROT_STOP holds a restriction of kind 8 on every
window and lane it names and waits for it to be in force; while the Datum core restarts, the Chart pair stops the lanes itself and answers
at once. PROT_RELEASE of held restrictions that may go waits for the grid tick, of others is STATE, and of a kind above 8 or a target beyond
its class BAD_PARAM (Table 9.6, R180, R184, R198). -/
def Obligations.ProtectionCommandsAct : Prop :=
  ((∀ (mb : Fin 20) (s : State) (c : Command), s.runs mb 0x60 2 false c →
    ∃ t, exec (.protStatus mb) s = .next t ∧ OnlyAnswered mb s t ∧
      s.answers t mb c 0 ([s.reg (Reg.FLT_PSTAT.off 0 0)] ++ ((List.range 16).map fun w => s.reg (Reg.FLT_WSTAT.off w 0)) ++
        (List.range 16).map fun n => s.reg (Reg.FLT_LSTAT.off n 0))) ∧
  (∀ (mb : Fin 20) (s : State) (c : Command), s.runs mb 0x63 2 false c →
    ∃ t, exec (.faultStatus mb) s = .next t ∧ OnlyAnswered mb s t ∧
      s.answers t mb c 0 ([s.fltStat, s.reg (Reg.FLT_FIRST.off 0 0), s.reg (Reg.FLT_FIRST_SEC.off 0 0),
        s.reg (Reg.FLT_FIRST_GT.off 0 0), s.reg (Reg.FLT_FIRST_PC.off 0 0), s.reg (Reg.FLT_FIRST_CNT.off 0 0)] ++
        (List.range 16).map fun i => s.reg (Reg.FLT_SAMECYC.off i 0)))) ∧
  ((∀ (mb : Fin 20) (s : State) (c : Command), s.runs mb 0x61 1 false c → s.prot.datumDown = false →
    ∃ t, exec (.protStop mb) s = .next t ∧
      (∀ w, w < 16 → bit (wbits (c.word 1) 15 0) w = true →
        ∃ r ∈ t.prot.held, r.kind = 8 ∧ r.cls = 1 ∧ r.target = w) ∧
      (∀ n, n < 16 → bit (wbits (c.word 2) 15 0) n = true →
        ∃ r ∈ t.prot.held, r.kind = 8 ∧ r.cls = 2 ∧ r.target = n) ∧
      ∃ q, t.prot.stops = s.prot.stops ++ [q] ∧ q.mb = mb.val ∧ q.cmd.tag = c.tag) ∧
  (∀ (mb : Fin 20) (s : State) (c : Command), s.runs mb 0x61 1 false c → s.prot.datumDown = true →
    ∃ t, exec (.protStop mb) s = .next t ∧ s.answers t mb c 0 [] ∧
      ∀ n, n < 16 → bit (wbits (c.word 2) 15 0) n = true → t.getB Fd.LANE_TX_MUTE_SRC_FW n = true) ∧
  (∀ (mb : Fin 20) (s : State) (c : Command), s.runs mb 0x62 3 true c →
    let k := wbits (c.word 1) 3 0
    let bad := decide (8 < k) || (decide (k < 8) && decide ((if k ≤ 1 then 256 else 16) ≤ (c.word 2).toNat))
    ∃ t, exec (.protRelease mb) s = .next t ∧
      (bad = true → s.answers t mb c 4 [] ∧ OnlyAnswered mb s t) ∧
      (bad = false → s.releasable c = false → s.answers t mb c 7 [] ∧ OnlyAnswered mb s t) ∧
      (bad = false → s.releasable c = true →
        ∃ q, t.prot.releases = s.prot.releases ++ [q] ∧ q.mb = mb.val ∧ q.cmd.tag = c.tag)))

/-- FAULT_EVENT takes each event of a source that reports into SSTAT and changes only what the collector changes; FAULT_CLEARANCE clears a
source (that of dropped records apart, which the clearance's own record may raise), and PAIR_INVALID takes the source and FLT_PATH as
error; FAULT_REACTION puts the due reactions into force (within two grid
ticks where the tick signal is missing); ESC_INTERVAL_END closes the source's interval; ALERT_PULSE_END ends the pulse, in
reset too; FI_UNLOCK_LAPSE ends an unlock whose lease or lock has ended (R287, R288, R290, R293, R296, R298). -/
def Obligations.CollectorRowsAct : Prop :=
  (∀ (events : List FaultEv) (s : State), s.alive = true → (∀ e ∈ events, e.source < 512) →
    ∃ t, exec (.faultEvent events) s = .next t ∧ OnlyRaised s t ∧
      ∀ e ∈ events, reservedSource e.source = false → t.getB Fd.FLT_SSTAT_ACTIVE e.source = true) ∧
  (∀ (source : Fin 512) (s : State), s.alive = true → ∃ t, exec (.faultClearance source) s = .next t ∧ OnlyRaised s t ∧
    (source.val ≠ 296 → t.getB Fd.FLT_SSTAT_ACTIVE source = false) ∧ (s.getB Fd.FLT_SSTAT_ACTIVE source = false → t = s)) ∧
  (∀ (source : Fin 512) (s : State), s.alive = true → ∃ t, exec (.pairInvalid source) s = .next t ∧
    (reservedSource source = false → t.getB Fd.FLT_SSTAT_ACTIVE source = true ∧ t.getB Fd.FLT_SSTAT_ACTIVE 491 = true) ∧
    (reservedSource source = true → t = s)) ∧
  (∀ s : State, s.alive = true → ∃ t, exec .faultReaction s = .next t ∧
    (let by_ := s.time.gt + if s.tickMissing then 2 else 0
     (∀ r ∈ s.flt.reactions, r.dueAt ≤ by_ → { r with inForce := true } ∈ t.flt.reactions) ∧
      ((∀ r ∈ s.flt.reactions, r.inForce = true ∨ by_ < r.dueAt) → t = s))) ∧
  (∀ (source : Fin 512) (e : Nat) (s : State), s.alive = true → s.flt.intervals.find? (fun p => p.1 == source.val) = some (source.val, e) →
    ∃ t, exec (.escIntervalEnd source) s = .next t ∧
      (e ≤ s.time.gt → t.getB Fd.FLT_SSTAT_ESC source = false ∧ t.flt.intervals = mapErase s.flt.intervals source) ∧
      (s.time.gt < e → t = s)) ∧
  (∀ (e : Nat) (s : State), s.flt.alertEnd = some e → s.start.frozen = false → ∃ t, exec .alertPulseEnd s = .next t ∧
    (e ≤ s.time.gt → t.flt.alertEnd = none ∧ t.getB Fd.FLT_ALERT_PULSE = false) ∧
    (s.time.gt < e → s.start.inReset = false → s.start.phase ≠ 1 → t = s)) ∧
  (∀ (e : Nat) (s : State), s.alive = true → s.flt.unlockEnd = some e → ∃ t, exec .fiUnlockLapse s = .next t ∧
    (e ≤ s.time.opSec ∨ s.fw.lockHolder = none → t = { s with flt := { s.flt with unlockEnd := none } }) ∧
    (s.time.opSec < e → s.fw.lockHolder ≠ none → t = s))

/-- FAULT_CLEAR of one source whose pair is healthy clears its latch and ends its held reactions; of an active source it answers STATE and the
source, and changes nothing; a reserved source is BAD_PARAM (R292, Table 15.5). FBK_DROP, source 296, is left out of the clearing clause:
the command's own record may raise it again. FI_UNLOCK with the word "FINJ", a lease of 1 to 600 s, POLICY 2 and the lock held by its
mailbox opens injection until the lease's end; FI_INJECT with injection open arms the injection and counts it; without, it is STATE (R298,
R299). -/
def Obligations.FaultsClearedAndInjected : Prop :=
  (∀ (mb : Fin 20) (s : State) (c : Command), s.runs mb 0x64 3 true c → bit (c.word 1).toNat 16 = false →
    (let src := wbits (c.word 1) 9 0
     ∃ t, exec (.faultClear mb) s = .next t ∧
      (reservedSource src = true → s.answers t mb c 4 [] ∧ OnlyAnswered mb s t) ∧
      (reservedSource src = false → s.getB Fd.FLT_SSTAT_ACTIVE src = true →
        s.answers t mb c 7 [wd src] ∧ OnlyAnswered mb s t) ∧
      (reservedSource src = false → s.getB Fd.FLT_SSTAT_ACTIVE src = false → src ≠ 296 →
        s.answers t mb c 0 [] ∧ t.getB Fd.FLT_SSTAT_LATCHED src = false ∧ t.getB Fd.FLT_SSTAT_REACT src = false ∧
          ∀ r ∈ t.flt.reactions, r.source = src → r.inForce = false))) ∧
  ((∀ (mb : Fin 20) (s : State) (c : Command), s.runs mb 0x65 3 false c → c.word 1 = 0x46494E4A → 1 ≤ (c.word 2).toNat →
    (c.word 2).toNat ≤ 600 →
    ∃ t, exec (.fiUnlock mb) s = .next t ∧
      (s.get Fd.FLT_FI_POLICY_POLICY ≠ 2 → s.answers t mb c 5 [] ∧ OnlyAnswered mb s t) ∧
      (s.get Fd.FLT_FI_POLICY_POLICY = 2 → s.fw.lockHolder ≠ some mb.val → s.answers t mb c 7 [] ∧ OnlyAnswered mb s t) ∧
      (s.get Fd.FLT_FI_POLICY_POLICY = 2 → s.fw.lockHolder = some mb.val →
        s.answers t mb c 0 [] ∧ t.flt.unlockEnd = some (s.time.opSec + (c.word 2).toNat))) ∧
  (∀ (mb : Fin 20) (s : State) (c : Command), s.runs mb 0x66 3 false c →
    (let code := wbits (c.word 1) 7 0
     let inst := wbits (c.word 1) 15 8
     let bits := wbits (c.word 1) 17 16
     1 ≤ code → code ≤ 6 → injectInstOk code inst = true → bits = 1 ∨ bits = 2 → (code = 5 → wbits (c.word 2) 9 0 ≤ 511) →
      s.get Fd.FLT_FI_POLICY_POLICY = 2 →
      ∃ t, exec (.fiInject mb) s = .next t ∧
        (s.flt.unlockEnd = none → s.answers t mb c 7 [] ∧ OnlyAnswered mb s t) ∧
        (s.flt.unlockEnd ≠ none → s.answers t mb c 0 [] ∧ t.flt.armed = s.flt.armed ++ [⟨code, inst, bits, wbits (c.word 2) 9 0⟩]))))

/-! ### The Field Book (16, R306 to R322) -/

/-- RECORD_OFFER of a record that folds into none enters the staging FIFO while it holds fewer than 256, and a folded one counts; RECORD_WRITE
of the oldest one, verified at once and with a slot free, gives it the next SEQ and keeps it; DROPS_OFFER enters one record of the drops
since the last once 128 or fewer wait; AUTH_BUSY_END ends the lockout of authentication once it is over (R306 to R310, R319). -/
def Obligations.BookTakesRecords : Prop :=
  (∀ (r : Record) (s : State), s.alive = true → ∃ t, exec (.recordOffer r) s = .next t ∧ OnlyRaised s t ∧
    (foldInto s.book.fifo r = none → fifoDepth s.book.fifo < 256 →
      t.book = { s.book with fifo := s.book.fifo ++ [⟨r, 1, r.stamp, r.sev, r.typ, false⟩] }) ∧
    (∀ l, foldInto s.book.fifo r = some l → t.book = { s.book with fifo := l, coal := (s.book.coal + 1) % 2 ^ 32 })) ∧
  (∀ (e : Staged) (rest : List Staged) (s : State), s.alive = true → s.book.fifo = e :: rest → s.book.full = false → s.book.level ≤ 2 →
    ∃ t, exec (.recordWrite 0) s = .next t ∧ t.book.fifo = rest ∧ t.book.nextSeq = (s.book.nextSeq + 1) % 2 ^ 32 ∧
      t.book.level = s.book.level ∧ t.book.retries = s.book.retries % 2 ^ 32 ∧
      (let k : Kept := ⟨freeSlot (s.book.region s.book.level) (regionSlots s.book.level),
        recordWords e.final s.book.nextSeq (s.book.level == 1) (s.book.level == 2), false⟩
       t.book.shadow = (if s.getB Fd.DRC_CSTAT_LOST Config.heapChannel then [] else s.book.shadow ++ [k]) ∧
        t.book.region s.book.level = s.book.region s.book.level ++ [k])) ∧
  (∀ (f l : Stamp) (s : State), s.alive = true → s.book.firstDrop = some f → s.book.lastDrop = some l →
    ∃ t, exec .dropsOffer s = .next t ∧
      (fifoDepth s.book.fifo ≤ 128 → t.book.firstDrop = none ∧ t.book.lastDrop = none ∧ t.book.dropped = [] ∧
        ∃ e, t.book.fifo = s.book.fifo ++ [e] ∧ e.drops = true ∧ e.record.typ = 0x0A ∧
          e.record.payload.take 4 = (List.range 4).map fun k => wd (mapGet 0 s.book.dropped k)) ∧
      (128 < fifoDepth s.book.fifo → t = s)) ∧
  (∀ (e : Nat) (s : State), s.alive = true → s.book.authBusyUntil = some e → ∃ t, exec .authBusyEnd s = .next t ∧
    (e ≤ s.time.opSec → t = { s with book := { s.book with authBusyUntil := none } }) ∧ (s.time.opSec < e → t = s))

/-- What a clear of records with a good range does by its code, by the failed verifications of its CLEARED record and by a restart of the
Datum core meanwhile (R310, R313, R319 to R321, Table 16.6). -/
def ClearAnswers (run : BookRun) (s t : State) (c : Command) (good : Bool) : Prop :=
  (run.restart = true → s.answers t run.mb c 0x0A [] ∧ t.book.main = s.book.main ∧ t.book.spare = s.book.spare ∧
    t.book.authBusyUntil = s.book.authBusyUntil) ∧
  (run.restart = false → good = true → s.book.full = false → run.failures ≤ s.legN 0x9000 →
    (∃ x, s.answers t run.mb c 0 [x, wd s.book.nextSeq]) ∧
      ∀ k ∈ t.book.main ++ t.book.spare ++ t.book.shadow, removable (c.word 1) (c.word 2) k = false) ∧
  (run.restart = false → good = true → s.book.full = false → s.book.level = 1 → s.legN 0x9000 < run.failures →
    s.answers t run.mb c 7 [] ∧ t.book.main = s.book.main ∧ t.book.spare = s.book.spare ∧ t.book.level = 2) ∧
  (run.restart = false → good = false → s.answers t run.mb c 0x0E [] ∧ t.book.main = s.book.main ∧ t.book.spare = s.book.spare ∧
    t.book.authBusyUntil = some (s.time.opSec + 60))

/-- FB_STATUS answers the registers of the book; FB_READ answers at most three records from the cursor it gives and the cursor after them, and
a count of 0 is BAD_PARAM; FB_SEEK moves the cursor of the mailboxes' aperture (R312, R316, R317, Table 16.5). FB_CLEAR_COMPAT and
FB_CLEAR with a good range, the nonce named and its code remove every removable record of the range from the book and answer the sequence
number of the CLEARED record; a wrong code is AUTH, removes nothing and locks authentication out for 60 s; a CLEARED record that only the
last-resort ring takes is STATE and one overtaken by a restart of the Datum core TIMEOUT, and neither removes a record (R319 to R321,
Tables 16.5 and 16.6). -/
def Obligations.BookCommandsServe : Prop :=
  ((∀ (mb : Fin 20) (s : State) (c : Command), s.runs mb 0x50 1 false c →
    ∃ t, exec (.fbStatus mb) s = .next t ∧ OnlyAnswered mb s t ∧
      s.answers t mb c 0 ([s.book.statWord, wd s.book.nextSeq, wd s.book.oldest, wd s.book.all.length] ++
        ((List.range 4).map fun i => wd (mapGet 0 s.book.ovw i)) ++ ((List.range 4).map fun i => wd (mapGet 0 s.book.drop i)) ++
        [wd s.book.coal, wd s.book.clrTotal])) ∧
  (∀ (mb : Fin 20) (ue : Bool) (s : State) (c : Command), s.runs mb 0x51 1 false c →
    ∃ t, exec (.fbRead mb ue) s = .next t ∧
      (wbits (c.word 2) 1 0 = 0 → s.answers t mb c 4 [] ∧ OnlyAnswered mb s t) ∧
      (wbits (c.word 2) 1 0 ≠ 0 → s.book.findFrom (c.word 1).toNat = none → s.answers t mb c 0 [wd (c.word 1).toNat]) ∧
      (∀ k, wbits (c.word 2) 1 0 = 1 → s.book.findFrom (c.word 1).toNat = some k → k.words.length = 16 → s.flt.armed = [] →
        s.answers t mb c 0 (wd ((k.seq + 1) % 2 ^ 32) :: k.words))) ∧
  (∀ (mb : Fin 20) (s : State) (c : Command), s.runs mb 0x53 1 false c →
    ∃ t, exec (.fbSeek mb) s = .next t ∧ s.answers t mb c 0 [] ∧ (t.aperture 3).cursor = (c.word 1).toNat ∧
      ∀ b, b ≠ 3 → t.aperture b = s.aperture b)) ∧
  ((∀ (run : BookRun) (s : State) (c : Command) (n : Nonce), s.runs run.mb 0x5C 3 true c → s.book.nonce = some n →
    seqLe (c.word 1).toNat (c.word 2).toNat = true → seqLe (c.word 2).toNat c.bookSeq = true → (c.word 2).toNat ≠ c.bookSeq →
    s.book.level ≠ 2 →
    ∃ t, exec (.fbClearCompat run) s = .next t ∧ t.book.nonce = none ∧
      ClearAnswers run s t c (s.bookCode (c.word 1) (c.word 2) n.lo n.hi == (c.word 3, c.word 4))) ∧
  (∀ (run : BookRun) (s : State) (c : Command) (n : Nonce), s.runs run.mb 0x5D 3 true c → s.book.nonce = some n → n.lo = c.word 3 →
    n.hi = c.word 4 → seqLe (c.word 1).toNat (c.word 2).toNat = true → seqLe (c.word 2).toNat c.bookSeq = true →
    (c.word 2).toNat ≠ c.bookSeq → s.book.level ≠ 2 →
    ∃ t, exec (.fbClear run) s = .next t ∧ t.book.nonce = none ∧
      ClearAnswers run s t c (s.bookCode (c.word 1) (c.word 2) n.lo n.hi == (c.word 5, c.word 6))))

/-- R318. FB_NONCE draws 64 bits (a free value, log entry 7) and answers them; they are the one live nonce from then on, good for
fbk.nonce_life seconds, and the one before is gone. FB_CLEAR_COMPAT and FB_KEY take the live nonce and FB_CLEAR the one it names, whatever
the outcome, and an FB_CLEAR that names another leaves it. NONCE_LAPSE ends it once its seconds are over, and does nothing before. While
authentication is locked out FB_NONCE answers BUSY and draws nothing (R319). -/
def Obligations.NonceLifecycle : Prop :=
  (∀ (mb : Fin 20) (s : State) (c : Command), s.runs mb 0x52 3 false c →
    ∃ t, exec (.fbNonce mb) s = .next t ∧
      (s.book.authBusyUntil = none →
        s.answers t mb c 0 [Config.random s.draws, Config.random (s.draws + 1)] ∧ t.draws = s.draws + 2 ∧
          t.book.nonce = some ⟨Config.random s.draws, Config.random (s.draws + 1), s.time.opSec + s.legN 0x9002⟩) ∧
      (s.book.authBusyUntil ≠ none → s.answers t mb c 6 [] ∧ OnlyAnswered mb s t)) ∧
  (∀ (run : BookRun) (s : State) (c : Command), s.runs run.mb 0x5C 3 true c →
    ∃ t, exec (.fbClearCompat run) s = .next t ∧ t.book.nonce = none) ∧
  (∀ (run : BookRun) (s : State) (c : Command), s.runs run.mb 0x5E 3 true c →
    ∃ t, exec (.fbKey run) s = .next t ∧ t.book.nonce = none) ∧
  (∀ (run : BookRun) (s : State) (c : Command) (n : Nonce), s.runs run.mb 0x5D 3 true c → s.book.nonce = some n →
    ∃ t, exec (.fbClear run) s = .next t ∧ (n.lo = c.word 3 ∧ n.hi = c.word 4 → t.book.nonce = none) ∧
      (¬ (n.lo = c.word 3 ∧ n.hi = c.word 4) → t.book.nonce = some n)) ∧
  (∀ (n : Nonce) (s : State), s.alive = true → s.book.nonce = some n → ∃ t, exec .nonceLapse s = .next t ∧
    (n.lapseAt ≤ s.time.opSec → t = { s with book := { s.book with nonce := none } }) ∧ (s.time.opSec < n.lapseAt → t = s))

/-- R322. FB_KEY replaces the book key where its code is that of the old key over FIRST = LAST = 0xFFFF_FFFF and the live nonce, or, while the
key area is blank, without its code being looked at; a new key of all 0xFF is BAD_PARAM, a wrong code or no live nonce AUTH, and a restart of
the Datum core meanwhile TIMEOUT; the key then stays. -/
def Obligations.BookKeyReplaced : Prop :=
  ∀ (run : BookRun) (s : State) (c : Command), s.runs run.mb 0x5E 3 true c →
    (let key : List Byte := ((c.payload.take 8).flatMap wordBytes).map fun n => BitVec.ofNat 8 n
     let blank := key.all fun b => b == 0xFF
     let good : Prop := (s.book.key.all fun b => b == 0xFF) = true ∨
       ∃ n, s.book.nonce = some n ∧ s.bookCode 0xFFFFFFFF 0xFFFFFFFF n.lo n.hi = (c.word 9, c.word 10)
     ∃ t, exec (.fbKey run) s = .next t ∧
       (run.restart = true → t.book.key = s.book.key ∧ s.answers t run.mb c 0x0A []) ∧
       (run.restart = false → blank = true → t.book.key = s.book.key ∧ s.answers t run.mb c 0x04 []) ∧
       (run.restart = false → blank = false → good → t.book.key = key ∧ s.answers t run.mb c 0 []) ∧
       (run.restart = false → blank = false → ¬ good →
         t.book.key = s.book.key ∧ s.answers t run.mb c 0x0E [] ∧ t.book.authBusyUntil = some (s.time.opSec + 60)))

/-! ### References, TDD and the front-end bus (10, R202 to R220) -/

/-- REF_INVALID of the reference in use changes to the second where that is enabled and valid, else to holdover; REF_REVERT returns to REFIN
once it has been valid for its sheets; HOLDOVER_LONG reports a holdover beyond 60 s (R202). PPS_EDGE notes the edge where the pulse is the
source; TDD_RESULT_TIMEOUT takes SYNCED to HOLDOVER and TDD_HOLDOVER_EXPIRY HOLDOVER to ACQUIRING; TDD_STEP takes the planned step at its
instant; SEGMENT_START judges both members of a link anew; PATTERN_CHANGE takes the waiting pattern; GUARD_WAIT_END lets the held role
change proceed, and the PA_EN outputs held behind it once the guard time is over (R211 to R217). -/
def Obligations.ReferencesAndTddAct : Prop :=
  ((∀ s : State, s.alive = true → ∃ t, exec (.refInvalid false) s = .next t ∧ t.getB Fd.SYN_REF_STAT_REF_OK = false ∧
    t.ref.validSheets = 0 ∧
    (s.get Fd.SYN_REF_STAT_SEL = 0 → t.get Fd.SYN_REF_STAT_SEL =
      if s.getB Fd.SYN_REF_CTL_REF2_EN && s.getB Fd.SYN_REF_STAT_REF2_OK then 1 else 2) ∧
    (s.get Fd.SYN_REF_STAT_SEL ≠ 0 → t.get Fd.SYN_REF_STAT_SEL = s.get Fd.SYN_REF_STAT_SEL)) ∧
  (∀ s : State, s.alive = true → ∃ t, exec (.refInvalid true) s = .next t ∧ t.getB Fd.SYN_REF_STAT_REF2_OK = false ∧
    t.get Fd.SYN_REF_STAT_SEL = if s.get Fd.SYN_REF_STAT_SEL = 1 then 2 else s.get Fd.SYN_REF_STAT_SEL) ∧
  (∀ s : State, s.alive = true → s.getB Fd.SYN_REF_CTL_REVERT = true → s.get Fd.SYN_REF_STAT_SEL ≠ 0 →
    s.getB Fd.SYN_REF_STAT_REF_OK = true → ∃ t, exec .refRevert s = .next t ∧
      (s.legN 0x1043 ≤ s.ref.validSheets → OnlyRaised (s.set Fd.SYN_REF_STAT_SEL 0) t) ∧
      (s.ref.validSheets < s.legN 0x1043 → t = s)) ∧
  (∀ s : State, s.alive = true → s.get Fd.SYN_REF_STAT_SEL = 2 → ∃ t, exec .holdoverLong s = .next t ∧
    (s.ref.holdAt + 38400000 < s.time.gt → OnlyRaised s t ∧ t.getB Fd.FLT_SSTAT_ACTIVE 268 = true) ∧
    (s.time.gt ≤ s.ref.holdAt + 38400000 → t = s))) ∧
  ((∀ (off : Fin 1536) (s : State), s.alive = true → ∃ t, exec (.ppsEdge off) s = .next t ∧
    (s.getB Fd.TDD_CTL_EN = true → s.get Fd.TDD_CTL_SRC = 1 → t.tdd.ppsLast = some (s.now + off.val)) ∧
    (s.getB Fd.TDD_CTL_EN = false ∨ s.get Fd.TDD_CTL_SRC ≠ 1 → t = s)) ∧
  (∀ s : State, s.alive = true → s.get Fd.TDD_STAT_STATE = 2 → ∃ t, exec .tddResultTimeout s = .next t ∧
    (s.tdd.lastAt + s.resultInterval + 1280 ≤ s.time.gt → t.get Fd.TDD_STAT_STATE = 3 ∧ t.tdd.holdAt = s.time.gt ∧
      t.tdd.step = none ∧ ∀ off, off ≠ Reg.TDD_STAT.off 0 0 → t.reg off = s.reg off) ∧
    (s.time.gt < s.tdd.lastAt + s.resultInterval + 1280 → t = s)) ∧
  (∀ s : State, s.alive = true → s.get Fd.TDD_STAT_STATE = 3 → ∃ t, exec .tddHoldoverExpiry s = .next t ∧
    (s.tdd.holdAt + 80 * s.legN 0x6045 ≤ s.time.gt → t.get Fd.TDD_STAT_STATE = 1 ∧ t.tdd.slew = 0 ∧
      t.getB Fd.FLT_SSTAT_ACTIVE 272 = true) ∧
    (s.time.gt < s.tdd.holdAt + 80 * s.legN 0x6045 → t = s)) ∧
  (∀ (p at_ q : Nat) (s : State), s.alive = true → s.tdd.step = some (p, at_, q) → ∃ t, exec .tddStep s = .next t ∧
    (at_ < s.now + 1536 → OnlyRaised { s with tdd := { s.tdd with phase0 := p, slew := 0, step := none } } t) ∧
    (s.now + 1536 ≤ at_ → t = s)) ∧
  (∀ (w v : Fin 16) (off : Fin 1536) (s : State), s.alive = true → s.partner w = some v.val → ∃ t, exec (.segmentStart w off) s = .next t ∧
    (t.pair w).active = s.activeAt w (s.now + off.val) ∧ (t.pair v).active = s.activeAt v (s.now + off.val)) ∧
  (∀ (w : Fin 16) (p : Pattern) (r q : Nat) (s : State), s.alive = true → (s.pair w).next = some (p, r, q) →
    ∃ t, exec (.patternChange w) s = .next t ∧
      (p.valid = false ∨ s.timingHeld = false ∨ s.periodStarts p s.now = true →
        (t.pair w).pattern = p ∧ (t.pair w).next = none ∧ t.getB Fd.TDD_WTDD_PAT_VALID w = p.valid) ∧
      (p.valid = true → s.timingHeld = true → s.periodStarts p s.now = false → t = s)) ∧
  (∀ (w : Fin 16) (off : Fin 1536) (s : State), s.alive = true →
    (let d := s.downMember w
     ∃ t, exec (.guardWaitEnd w off) s = .next t ∧
      ((s.pair d).rolePend = true → (s.pair d).roleAt ≤ s.now + off.val →
        (t.pair d).dlRole = !(s.pair d).dlRole ∧ (t.pair d).rolePend = false) ∧
      ((s.pair d).rolePend = true → s.now + off.val < (s.pair d).roleAt → t.pair d = s.pair d) ∧
      ((s.pair d).rolePend = false → (s.pair d).roleAt + s.guardSamples ≤ s.now + off.val → (t.pair d).paHeld = 0) ∧
      ∀ x, x ≠ d → t.pair x = s.pair x)))

/-- RFFE_SEQUENCE_START puts the sequence behind those of its master, at once begun where none waits; RFFE_SEQUENCE_END takes the one that has
ended off, counts it late where it ended after its instant, and begins the next (R219, R220). -/
def Obligations.FrontEndSequencesRun : Prop :=
  (∀ (m : Fin 4) (q : Fin 16) (instant : Nat) (off : Fin 1536) (s : State), s.alive = true →
    ∃ t, exec (.rffeSequenceStart m q instant off) s = .next t ∧
      (s.getB Fd.TDD_RCTL_EN m = true → s.rffeEvent m q instant = true → instant ≤ s.now + off.val + s.rffeAdv m q →
        ∃ beam, t.rffeQueue m = (if s.rffeQueue m = [] then [⟨q.val, instant, some (s.now + off.val), beam⟩]
          else s.rffeQueue m ++ [⟨q.val, instant, none, beam⟩]) ∧
          (s.rffeQueue m = [] → t.getB Fd.TDD_RSTAT_BUSY m = true)) ∧
      (s.getB Fd.TDD_RCTL_EN m = false ∨ s.rffeEvent m q instant = false → t = s)) ∧
  (∀ (m : Fin 4) (data : Word) (parity : Bool) (j : RffeJob) (js : List RffeJob) (b : Nat) (s : State), s.alive = true →
    s.rffeQueue m = j :: js → j.begun = some b →
    (let ends := b + s.rffeTime m j.seq
     ∃ t, exec (.rffeSequenceEnd m data parity) s = .next t ∧
      (ends ≤ s.now + 1536 →
        t.rffeQueue m = (match js with
          | [] => []
          | k :: ks => { k with begun := some ends } :: ks) ∧
        t.getB Fd.TDD_RSTAT_BUSY m = !js.isEmpty ∧
        (j.instant < ends → t.get Fd.TDD_RSTAT_LATE m = min (s.get Fd.TDD_RSTAT_LATE m + 1) (2 ^ Fd.TDD_RSTAT_LATE.width - 1))) ∧
      (s.now + 1536 < ends → t = s)))

/-! ### DRAM, power, start-up and ageing (18) -/

/-- DRAM_UE counts an uncorrectable error, and the fourth within 8,000 sheets of the first loses the channel; DRAM_CMD_TIMEOUT loses it; a
lost channel takes no further error (R286). LOCKSTEP_MISMATCH with a standby pair stops the active one, and without begins a warm restart;
FAILOVER_TAKEOVER, at a sheet boundary after the mismatch, gives the standby pair the Legend, the orders and the lock of the latest
capture; WARM_RESTART_DONE returns to service with the Legend of the latest capture, or begins a start where the image fails (R34, R259,
R344). -/
def Obligations.RedundantPartsLost : Prop :=
  ((∀ (ch : Fin 4) (entry : Option Nat) (s : State), s.alive = true → ∃ t, exec (.dramUe ch entry) s = .next t ∧
    (s.getB Fd.DRC_CSTAT_LOST ch = true → t = s) ∧
    (s.getB Fd.DRC_CSTAT_LOST ch = false →
      t.get Fd.DRC_CECC_UE ch = min (s.get Fd.DRC_CECC_UE ch + 1) (2 ^ Fd.DRC_CECC_UE.width - 1) ∧
      (let p := mapGet (0, 0) s.dram ch
       (3 ≤ p.2 → s.time.gt < p.1 + 640000 → t.getB Fd.DRC_CSTAT_LOST ch = true) ∧
        (p.2 < 3 ∨ p.1 + 640000 ≤ s.time.gt → t.getB Fd.DRC_CSTAT_LOST ch = false)))) ∧
  (∀ (ch : Fin 4) (s : State), s.alive = true → ∃ t, exec (.dramCmdTimeout ch) s = .next t ∧ t.getB Fd.DRC_CSTAT_LOST ch = true ∧
    (s.getB Fd.DRC_CSTAT_LOST ch = true → t = s))) ∧
  ((∀ s : State, s.alive = true → ∃ t, exec .lockstepMismatch s = .next t ∧ t.getB Fd.MBX_CSTAT_READY = false ∧
    (s.getB Fd.MBX_CSTAT_STANDBY = true → t.failAt = some s.time.gt ∧ t.readyAt = none ∧ t.fw.legend = s.fw.legend) ∧
    (s.getB Fd.MBX_CSTAT_STANDBY = false → t.start.warm = true ∧ t.get Fd.PWR_SVC_STATE = 5)) ∧
  (∀ (at_ : Nat) (k : Capture) (s : State), s.alive = true → s.failAt = some at_ →
    (s.fw.captures.find? fun c => decide (c.at_ < at_)) = some k → ∃ t, exec .failoverTakeover s = .next t ∧
      (s.time.gt % 80 = 0 → at_ < s.time.gt → t.fw.legend = k.legend ∧ t.fw.orders = k.orders ∧ t.fw.lockHolder = k.lockHolder ∧
        t.fw.leaseEnd = k.leaseEnd ∧ t.getB Fd.MBX_CSTAT_PAIR = !s.getB Fd.MBX_CSTAT_PAIR ∧ t.getB Fd.MBX_CSTAT_STANDBY = false ∧
        t.failAt = none ∧ t.readyAt = some (s.time.gt + 1)) ∧
      (s.time.gt % 80 ≠ 0 ∨ s.time.gt ≤ at_ → t = s)) ∧
  (∀ (ok : Bool) (k : Capture) (ks : List Capture) (s : State), s.alive = true → s.start.warm = true → s.fw.captures = k :: ks →
    ∃ t, exec (.warmRestartDone ok) s = .next t ∧
      (ok = true → t.start.warm = false ∧ t.fw.legend = k.legend ∧ t.fw.orders = k.orders ∧ t.getB Fd.MBX_CSTAT_READY = true ∧
        t.getB Fd.MBX_CSTAT_STANDBY = true) ∧
      (ok = false → t.start.phase = 1 ∧ t.start.bootSel = s.start.bootSel)))

/-- VIN_VALID counts a power cycle and awaits the rails; RAILS_READY makes the device good and begins a start, but in reset; VIN_LOSS leaves
the device without rails and loses what only VIN holds, the main region of the Field Book kept; VIN_LOW shows the supply and raises its
source (R27, R362, Table 18.15). -/
def Obligations.PowerRowsAct : Prop :=
  (∀ s : State, ∃ t, exec .vinValid s = .next t ∧ (s.start.vin = true → t = s) ∧
    (s.start.vin = false → t.start.vin = true ∧ t.time = { s.time with pwrCyc := min (s.time.pwrCyc + 1) 0xFFFFFF } ∧ t.csr = s.csr)) ∧
  (∀ (sel : Fin 4) (s : State), s.start.vin = true → s.start.good = false → ∃ t, exec (.railsReady sel) s = .next t ∧
    (s.start.inReset = false → t = { s with start := { s.start with good := true, phase := 1, bootSel := sel } }) ∧
    (s.start.inReset = true → t = { s with start := { s.start with good := true } })) ∧
  (∀ s : State, s.start.vin = true → ∃ t, exec .vinLoss s = .next t ∧ t.start.vin = false ∧ t.start.good = false ∧ t.mbox = [] ∧
    t.fw.notices = State.reset.fw.notices ∧ t.book.fifo = [] ∧ t.book.main = s.book.main ∧ t.can.imageA = none ∧
    t.time.opSec = s.time.mramSec + 1) ∧
  (∀ (mv : Fin 2700) (s : State), s.alive = true → ∃ t, exec (.vinLow mv) s = .next t ∧
    OnlyRaised ((s.set Fd.PWR_VIN_MV mv).setB Fd.PWR_VIN_LOW true) t ∧ t.get Fd.PWR_VIN_MV = mv.val ∧ t.getB Fd.PWR_VIN_LOW = true ∧
    t.getB Fd.FLT_SSTAT_ACTIVE 497 = true)

/-- RESET_N_ASSERT of a device with its rails good resets it: registers take their reset values but those that outlive a reset, time begins
again one operating second after the one stored; RESET_N_RELEASE begins a start where the rails are good, with CX_GNT low;
DATUM_ORDERED_START resets the device and begins a start at once (R338, R344, R345, R366). -/
def Obligations.ResetsBeginStarts : Prop :=
  (∀ s : State, s.start.inReset = false → ∃ t, exec .resetNAssert s = .next t ∧
    (s.start.good = false → t = { s with start := { s.start with inReset := true } }) ∧
    (s.start.good = true → t.start.inReset = true ∧ t.start.kind = 1 ∧ t.start.phase = 0 ∧ t.time.gt = 0 ∧
      t.time.opSec = s.time.mramSec + 1 ∧
      ∀ off, keptRegs.contains off = false → off ≠ Reg.MBX_CSTAT.off 0 0 → off ≠ Reg.AGE_STAT.off 0 0 → off ≠ Reg.FLT_ALERT.off 0 0 →
        (∀ c, c < 4 → off ≠ Reg.DRC_CSTAT.off c 0) → (∀ i, i < 2 → off ≠ Reg.RCE_CXSTAT.off i 0) → t.reg off = wd (resetAt off))) ∧
  (∀ (sel : Fin 4) (s : State), s.start.inReset = true → ∃ t, exec (.resetNRelease sel) s = .next t ∧
    (s.start.good = true → t = { s.cxLow with start := { s.start with inReset := false, phase := 1, bootSel := sel } }) ∧
    (s.start.good = false → t = { s with start := { s.start with inReset := false } })) ∧
  (∀ (sel : Fin 4) (s : State), s.alive = true → ∃ t, exec (.datumOrderedStart sel) s = .next t ∧ t.start.phase = 1 ∧
    t.start.bootSel = sel.val ∧ t.start.kind = 2 ∧ t.time.gt = 0)

/-- ROM_BOOT_DONE begins time and the image load, and the channels that trained and are not lost show it; IMAGE_VERIFY_DONE of the image at
the head of the order takes it where it verifies and passes it over where it does not; START_CAL_DONE ends the calibrations it lists
(Table 18.2, R338, R339, R341). -/
def Obligations.StartStepsFollow : Prop :=
  (∀ (ms trained r1 r2 : Nat) (mainOk spareOk : Bool) (s : State), s.alive = true → s.start.phase = 1 →
    ∃ t, exec (.romBootDone ms trained r1 r2 mainOk spareOk) s = .next t ∧ t.start.phase = 2 ∧ t.start.preMs = ms ∧
      t.start.order = bootOrder s.start.bootSel ∧ t.time = { s.time with gt := 0, sheetsRun := 0, secBase := 0 } ∧
      ∀ c, c < 4 → s.getB Fd.DRC_CSTAT_LOST c = false → bit trained c = true → t.getB Fd.DRC_CSTAT_TRAINED c = true) ∧
  (∀ (img : BootImage) (n : Nat) (rest : List Nat) (s : State), s.alive = true → s.start.phase = 2 → s.start.order = n :: rest →
    ∃ t, exec (.imageVerifyDone img) s = .next t ∧
      (s.imageOk img = true → t.fw.bootImage = n ∧ t.start.order = [] ∧
        t.start.phase = if s.legN 0x0040 ≤ s.get Fd.PWR_START_FAILS then 0 else 3) ∧
      (s.imageOk img = false → t.fw.bootImage = s.fw.bootImage ∧ t.start.order = rest ∧
        t.start.phase = if rest = [] then 0 else 2)) ∧
  (∀ (rx tx sns : List (Nat × CalResult)) (s : State), s.alive = true → s.start.phase = 3 →
    ∃ t, exec (.startCalDone rx tx sns) s = .next t ∧
      ∀ n, n < 16 →
        ((findResult tx n).isSome = true → t.getB Fd.LANE_CAL_STAT_TX_BUSY n = false) ∧
        ((findResult rx n).isSome = true → t.getB Fd.LANE_CAL_STAT_RX_BUSY n = false) ∧
        (findResult tx n = none → t.getB Fd.LANE_CAL_STAT_TX_BUSY n = s.getB Fd.LANE_CAL_STAT_TX_BUSY n))

/-- SKETCH_ENTRY begins service in SKETCH, its time shown; TRAINING_RAMP raises the ceilings every eight sheets; FULL_ENTRY ends training once
every domain is released or the time is up; START_FAIL_TIMEOUT counts a failed start once; FAIL_COUNT_CLEAR clears that count after
4,800,000 sheets of FULL; FREEZE_N_ASSERT, where the pin is enabled, freezes the device (R341 to R348). -/
def Obligations.ServiceStatesFollow : Prop :=
  (∀ s : State, s.alive = true → s.start.phase = 4 → ∃ t, exec .sketchEntry s = .next t ∧
    (s.isoValid = true → t.start.phase = 0 ∧ t.get Fd.PWR_SVC_STATE = 2 ∧ t.get Fd.PWR_START_SKETCH_MS = min s.startMs 0xFFFF) ∧
    (s.isoValid = false → t = s)) ∧
  (∀ s : State, s.alive = true → s.get Fd.PWR_SVC_STATE = 3 ∨ s.get Fd.PWR_SVC_STATE = 4 → ∃ t, exec .trainingRamp s = .next t ∧
    (s.start.rampAt + 8 ≤ s.sheet → t = { s with start := { s.start with rampAt := s.sheet }, con := { s.con with dom := t.con.dom } }) ∧
    (s.sheet < s.start.rampAt + 8 → t = s)) ∧
  (∀ s : State, s.alive = true → s.get Fd.PWR_SVC_STATE = 3 → s.time.gt % 80 = 0 → ∃ t, exec .fullEntry s = .next t ∧
    (s.allReleased = true ∨ s.start.trainAt + s.legN 0x0042 ≤ s.sheet →
      t.get Fd.PWR_SVC_STATE = 4 ∧ t.start.fullAt = s.sheet ∧ t.start.wasFull = true) ∧
    (s.allReleased = false → s.sheet < s.start.trainAt + s.legN 0x0042 → t = s)) ∧
  (∀ s : State, s.alive = true → s.start.phase ≠ 0 → s.start.failed = false → ∃ t, exec .startFailTimeout s = .next t ∧
    (s.start.phase = 1 ∨ 40000 ≤ s.start.preMs * 8 + s.sheet → t.start.failed = true ∧
      t.get Fd.PWR_START_FAILS = min (s.get Fd.PWR_START_FAILS + 1) 15) ∧
    (s.start.phase ≠ 1 → s.start.preMs * 8 + s.sheet < 40000 → t = s)) ∧
  (∀ s : State, s.alive = true → s.get Fd.PWR_SVC_STATE = 4 → ∃ t, exec .failCountClear s = .next t ∧
    (s.start.fullAt + 4800000 ≤ s.sheet → t = s.set Fd.PWR_START_FAILS 0 ∧ t.get Fd.PWR_START_FAILS = 0) ∧
    (s.sheet < s.start.fullAt + 4800000 → t = s)) ∧
  (∀ s : State, s.alive = true → ∃ t, exec .freezeNAssert s = .next t ∧
    (s.getB Fd.FRZ_CTL_PIN_EN = true → t.start.frozen = true ∧ t.get Fd.FRZ_STAT_CAUSE = 1 ∧ t.get Fd.PWR_SVC_STATE = 7 ∧
      t.getB Fd.MBX_CSTAT_READY = false) ∧
    (s.getB Fd.FRZ_CTL_PIN_EN = false → t = s))

/-- FREEZE with the word "FRZN" freezes the device: SVC_STATE is 7, READY 0, cause and mailbox are in FRZ.STAT; with another word it is
BAD_PARAM. START_STATUS answers the start's registers. START_RETRY with "RETR" in COMPASS begins a start ordered by the Datum core;
elsewhere it is STATE. IMAGE_WRITE begins a write and waits, BUSY while one runs (R339, R346 to R348, Table 18.9). AGE_STATUS answers the
ageing registers and parameters; AGE_REPLAN starts a plan where none runs and waits; AGE_BASELINE puts the drift of the windows it names
at 0 and answers; AGE_READ answers the history words it names, RANGE beyond the history (Table 18.9, R351, R354, R355). -/
def Obligations.StartAndAgeCommandsAct : Prop :=
  ((∀ (mb : Fin 20) (s : State) (c : Command), s.runs mb 0x70 1 false c →
    ∃ t, exec (.freeze mb) s = .next t ∧
      (c.word 1 ≠ 0x46525A4E → s.answers t mb c 4 [] ∧ OnlyAnswered mb s t) ∧
      (c.word 1 = 0x46525A4E → t.start.frozen = true ∧ t.get Fd.PWR_SVC_STATE = 7 ∧ t.getB Fd.MBX_CSTAT_READY = false ∧
        t.get Fd.FRZ_STAT_CAUSE = 2 ∧ t.get Fd.FRZ_STAT_WHO = mb.val)) ∧
  (∀ (mb : Fin 20) (s : State) (c : Command), s.runs mb 0x71 1 false c →
    ∃ t, exec (.startStatus mb) s = .next t ∧ OnlyAnswered mb s t ∧
      s.answers t mb c 0 [s.reg (Reg.PWR_SVC.off 0 0), s.reg (Reg.PWR_START.off 0 0), wd s.fw.bootImage, s.fw.version, s.fw.secver,
        s.reg (Reg.FRZ_STAT.off 0 0), s.reg (Reg.FRZ_LAST_SEC.off 0 0)]) ∧
  (∀ (mb : Fin 20) (s : State) (c : Command), s.runs mb 0x72 3 false c →
    ∃ t, exec (.startRetry mb) s = .next t ∧
      (c.word 1 ≠ 0x52455452 → s.answers t mb c 4 [] ∧ OnlyAnswered mb s t) ∧
      (c.word 1 = 0x52455452 → s.get Fd.PWR_SVC_STATE ≠ 6 → s.answers t mb c 7 [] ∧ OnlyAnswered mb s t) ∧
      (c.word 1 = 0x52455452 → s.get Fd.PWR_SVC_STATE = 6 →
        t.start.phase = 1 ∧ t.start.kind = 2 ∧ t.start.bootSel = s.start.bootSel ∧ t.time.opSec = s.time.mramSec + 1)) ∧
  (∀ (mb : Fin 20) (s : State) (c : Command), s.runs mb 0x73 3 false c →
    ∃ t, exec (.imageWrite mb) s = .next t ∧
      (s.start.writing ≠ none → s.answers t mb c 6 [] ∧ OnlyAnswered mb s t) ∧
      (s.start.writing = none → ∃ q, t.start.writing = some (mb.val, q) ∧ q.tag = c.tag ∧ q.payload = c.payload))) ∧
  ((∀ (mb : Fin 20) (s : State) (c : Command), s.runs mb 0x74 2 false c →
    ∃ t, exec (.ageStatus mb) s = .next t ∧ OnlyAnswered mb s t ∧
      s.answers t mb c 0 ([s.reg (Reg.AGE_STAT.off 0 0), s.reg (Reg.PWR_VCORE.off 0 0)] ++
        ((List.range 8).map fun k => s.reg (Reg.AGE_MON.off k 0)) ++ (List.range 16).map fun w => s.leg 0xB010 w)) ∧
  (∀ (mb : Fin 20) (s : State) (c : Command), s.runs mb 0x75 3 false c →
    ∃ t, exec (.ageReplan mb) s = .next t ∧ (∃ q, t.age.waits = s.age.waits ++ [(mb.val, q)] ∧ q.tag = c.tag) ∧
      (s.age.running = none → t.age.running = some 2 ∧ t.getB Fd.AGE_STAT_BUSY = true) ∧
      (∀ k, s.age.running = some k → t.age.running = some k)) ∧
  (∀ (mb : Fin 20) (s : State) (c : Command), s.runs mb 0x76 3 true c → s.fw.dones = [] →
    ∃ t, exec (.ageBaseline mb) s = .next t ∧ s.answers t mb c 0 [] ∧
      ∀ w, w < 16 → bit (wbits (c.word 1) 15 0) w = true → t.leg 0xB010 w = 0) ∧
  (∀ (mb : Fin 20) (s : State) (c : Command), s.runs mb 0x77 2 false c →
    (let n := wbits (c.word 2) 1 0
     ∃ t, exec (.ageRead mb) s = .next t ∧ OnlyAnswered mb s t ∧
      (n = 0 → s.answers t mb c 4 []) ∧
      (n ≠ 0 → s.age.history.length < (c.word 1).toNat + n → s.answers t mb c 0xD []) ∧
      (n ≠ 0 → (c.word 1).toNat + n ≤ s.age.history.length →
        s.answers t mb c 0 (((s.age.history.drop (c.word 1).toNat).take n).flatten.take 63)))))

/-- PERIODIC_REPLAN_DUE starts a re-plan a day of operation after the last, and in TRAINING lets it wait; REPLAN_DONE ends it, counted;
AGE_CANARY marks its canary; IMAGE_WRITE_DONE answers the IMAGE_UPDATE that waits, OK or INTEGRITY (R339, R351, R352). -/
def Obligations.AgeingRowsAct : Prop :=
  (∀ s : State, s.alive = true → s.getB Fd.AGE_CTL_EN = true → s.age.running = none → ∃ t, exec .periodicReplanDue s = .next t ∧
    (s.age.lastPlan + 86400 ≤ s.time.opSec → s.get Fd.PWR_SVC_STATE = 3 → t = { s with age := { s.age with waiting := true } }) ∧
    (s.age.lastPlan + 86400 ≤ s.time.opSec → s.get Fd.PWR_SVC_STATE ≠ 3 → t.age.running = some 1 ∧ t.getB Fd.AGE_STAT_BUSY = true) ∧
    (s.time.opSec < s.age.lastPlan + 86400 → t = s)) ∧
  (∀ (used : List Nat) (kind : Nat) (s : State), s.alive = true → s.age.running = some kind → ∃ t, exec (.replanDone used) s = .next t ∧
    t.age.running = none ∧ t.age.waits = [] ∧ t.age.lastPlan = s.time.opSec ∧ t.getB Fd.AGE_STAT_BUSY = false ∧
    t.get Fd.AGE_STAT_PLANS = min (s.get Fd.AGE_STAT_PLANS + 1) (2 ^ Fd.AGE_STAT_PLANS.width - 1)) ∧
  (∀ (k : Fin 48) (s : State), s.alive = true → ∃ t, exec (.ageCanary k) s = .next t ∧
    (k.val < 32 → bit (t.get Fd.AGE_CANARY_LO_FIRED) k = true ∧ t.get Fd.AGE_CANARY_HI_FIRED = s.get Fd.AGE_CANARY_HI_FIRED) ∧
    (32 ≤ k.val → bit (t.get Fd.AGE_CANARY_HI_FIRED) (k.val - 32) = true ∧
      t.get Fd.AGE_CANARY_LO_FIRED = s.get Fd.AGE_CANARY_LO_FIRED)) ∧
  (∀ (img : BootImage) (mb : Nat) (c : Command) (s : State), s.alive = true → s.start.writing = some (mb, c) → c.early = false →
    ∃ t, exec (.imageWriteDone img) s = .next t ∧ t.start.writing = none ∧
      s.answers t mb c (if s.imageOk img then 0 else 8) [])

/-! ### The host link and the test port (19) -/

/-- PERST_N_ASSERT takes the link down and leaves every mailbox alone (R370); PERST_N_DEASSERT and LINK_L0_RETURN train it where they may;
PCI_LINK takes a link in L0 down, its width and speed 0 (R301). -/
def Obligations.HostLinkFollowsPins : Prop :=
  (∀ s : State, ∃ t, exec .perstNAssert s = .next t ∧ t.pci = { perst := true, l0 := false, master := false } ∧ t.mbox = s.mbox) ∧
  (∀ (width speed : Fin 5) (master : Bool) (s : State), width.val ≠ 0 → width.val ≠ 3 → speed.val ≠ 0 →
    ∃ t, exec (.perstNDeassert width speed master) s = .next t ∧
      (s.pci.perst = true → s.start.good = true → s.start.inReset = false → t.pci = { perst := false, l0 := true, master := master } ∧
        t.get Fd.PCI_LNK_STAT_WIDTH = width.val ∧ t.get Fd.PCI_LNK_STAT_SPEED = speed.val) ∧
      (s.pci.perst = false → t = s)) ∧
  (∀ s : State, ∃ t, exec .pciLink s = .next t ∧ (s.pci.l0 = true → t.pci = { s.pci with l0 := false } ∧
      t.get Fd.PCI_LNK_STAT_WIDTH = 0 ∧ t.get Fd.PCI_LNK_STAT_SPEED = 0 ∧ t.mbox = s.mbox) ∧
    (s.pci.l0 = false → t = s)) ∧
  (∀ (width speed : Fin 5) (master : Bool) (s : State), width.val ≠ 0 → width.val ≠ 3 → speed.val ≠ 0 →
    ∃ t, exec (.linkL0Return width speed master) s = .next t ∧
      (s.pci.perst = false → s.pci.l0 = false → t.pci = { perst := false, l0 := true, master := master } ∧
        t.get Fd.PCI_LNK_STAT_WIDTH = width.val ∧ t.get Fd.PCI_LNK_STAT_SPEED = speed.val) ∧
      (s.pci.perst = true ∨ s.pci.l0 = true → t = s))

/-- The instructions of the test access port change the port and what it shifts out, nothing else: INSET_SEL, INSET_READ and INSET_STAT act in
FROZEN only and shift zeros out of it; EXTEST drives the balls in FROZEN and in reset and is BYPASS elsewhere; SAMPLE_PRELOAD captures and
loads, and drives nothing; BYPASS delays by one bit; TEST_LOGIC_RESET selects BYPASS (R350, R373). -/
def Obligations.TestPortShifts : Prop :=
  (∀ (region : Fin 256) (word : Nat) (s : State), ∃ t, exec (.insetSel region word) s = .next t ∧
    t = { s with tap := t.tap, out := { s.out with tdo := [] } } ∧ t.tap.ir = 0xC0 ∧ t.tap.driving = false ∧
    (s.start.frozen = true → t.tap.region = region.val ∧ t.tap.word = word % 2 ^ 32) ∧
    (s.start.frozen = false → t.tap.region = s.tap.region ∧ t.tap.word = s.tap.word)) ∧
  (∀ (raw : Word) (ue : Bool) (s : State), ∃ t, exec (.insetRead raw ue) s = .next t ∧
    t = { s with tap := t.tap, out := { s.out with tdo := t.out.tdo } } ∧ t.tap.ir = 0xC1 ∧
    (s.start.frozen = true → t.out.tdo = wordBits (s.insetWord raw) ∧ t.tap.word = (s.tap.word + 1) % 2 ^ 32 ∧
      t.tap.bad = min (s.tap.bad + b2n ue) 65535) ∧
    (s.start.frozen = false → t.out.tdo = List.replicate 32 false ∧ t.tap.word = s.tap.word)) ∧
  (∀ s : State, ∃ t, exec .insetStat s = .next t ∧ t = { s with tap := t.tap, out := { s.out with tdo := t.out.tdo } } ∧ t.tap.ir = 0xC2 ∧
    (s.start.frozen = true → t.out.tdo = wordBits (wd (2 ^ 31 + b2n (regionWords s.tap.region != 0) * 2 ^ 30 + s.tap.bad))) ∧
    (s.start.frozen = false → t.out.tdo = List.replicate 32 false)) ∧
  (∀ (pins data : List Bool) (s : State), ∃ t, exec (.extest pins data) s = .next t ∧
    t = { s with tap := t.tap, out := { s.out with tdo := t.out.tdo } } ∧
    (s.start.frozen = true ∨ s.start.inReset = true → t.tap.ir = 0 ∧ t.out.tdo = pins ∧ t.tap.scan = data ∧ t.tap.driving = true) ∧
    (s.start.frozen = false → s.start.inReset = false → t.tap.ir = 0xFF ∧ t.out.tdo = bypassed data ∧ t.tap.driving = false)) ∧
  (∀ (pins data : List Bool) (s : State), exec (.samplePreload pins data) s =
    .next { s with tap := { s.tap with ir := 1, driving := false, scan := data }, out := { s.out with tdo := pins } }) ∧
  (∀ (bits : List Bool) (s : State), exec (.bypass bits) s =
    .next { s with tap := { s.tap with ir := 0xFF, driving := false }, out := { s.out with tdo := (false :: bits).take bits.length } }) ∧
  (∀ s : State, exec .testLogicReset s =
    .next { s with tap := { s.tap with ir := 0xFF, driving := false }, out := { s.out with tdo := [] } })
end

