-- ==== Sys2Proof/Laws/Maps.lean ====
section
/-!
SUPPORT. The laws of the sparse maps: a read after a write, and the canonical form that every write keeps.
-/

namespace Sys2Proof.Machine

theorem mapGet_mapErase_same {α : Type} (d : α) (m : List (Nat × α)) (x : Nat) : mapGet d (mapErase m x) x = d := by
  induction m with
  | nil => rfl
  | cons p m ih =>
    obtain ⟨k, v⟩ := p
    simp only [mapErase]
    split
    · exact ih
    · rename_i h; simp [mapGet, h, ih]

theorem mapGet_mapErase_other {α : Type} (d : α) (m : List (Nat × α)) {x y : Nat} (h : y ≠ x) :
    mapGet d (mapErase m x) y = mapGet d m y := by
  induction m with
  | nil => rfl
  | cons p m ih =>
    obtain ⟨k, v⟩ := p
    simp only [mapErase]
    split
    · rename_i hk; subst hk; simp [mapGet, Ne.symm h, ih]
    · simp [mapGet, ih]

/-- A key that a map does not list. -/
theorem mapGet_mapInsert_same {α : Type} (d : α) (m : List (Nat × α)) (x : Nat) (v : α) (h : ∀ p ∈ m, p.1 ≠ x) :
    mapGet d (mapInsert m x v) x = v := by
  induction m with
  | nil => simp [mapInsert, mapGet]
  | cons p m ih =>
    obtain ⟨k, w⟩ := p
    have hk : k ≠ x := h (k, w) (by simp)
    have ih := ih fun q hq => h q (by simp [hq])
    simp only [mapInsert]
    split <;> simp [mapGet, hk, ih]

theorem mapGet_mapInsert_other {α : Type} (d : α) (m : List (Nat × α)) {x y : Nat} (v : α) (h : y ≠ x) :
    mapGet d (mapInsert m x v) y = mapGet d m y := by
  induction m with
  | nil => simp [mapInsert, mapGet, Ne.symm h]
  | cons p m ih =>
    obtain ⟨k, w⟩ := p
    simp only [mapInsert]
    split
    · simp [mapGet, Ne.symm h]
    · simp [mapGet, ih]

theorem mapErase_not_listed {α : Type} (m : List (Nat × α)) (x : Nat) : ∀ p ∈ mapErase m x, p.1 ≠ x := by
  induction m with
  | nil => simp [mapErase]
  | cons p m ih =>
    obtain ⟨k, v⟩ := p
    simp only [mapErase]
    split
    · exact ih
    · rename_i h
      intro q hq
      rcases List.mem_cons.1 hq with rfl | hq
      · exact h
      · exact ih q hq

/-- A read of the key written gives the value written. -/
@[simp] theorem mapGet_mapSet_same {α : Type} [DecidableEq α] (d : α) (m : List (Nat × α)) (x : Nat) (v : α) :
    mapGet d (mapSet d m x v) x = v := by
  unfold mapSet
  split
  · rename_i h; rw [h]; exact mapGet_mapErase_same d m x
  · exact mapGet_mapInsert_same d _ x v (mapErase_not_listed m x)

/-- A write leaves every other key alone. -/
theorem mapGet_mapSet_other {α : Type} [DecidableEq α] (d : α) (m : List (Nat × α)) {x y : Nat} (v : α) (h : y ≠ x) :
    mapGet d (mapSet d m x v) y = mapGet d m y := by
  unfold mapSet
  split
  · exact mapGet_mapErase_other d m h
  · rw [mapGet_mapInsert_other d _ v h, mapGet_mapErase_other d m h]

/-! ### The canonical form -/

theorem mapSorted_mono {α : Type} {m : List (Nat × α)} {a b : Nat} (hab : a ≤ b) (h : mapSorted m b = true) :
    mapSorted m a = true := by
  cases m with
  | nil => rfl
  | cons p m =>
    obtain ⟨k, v⟩ := p
    simp only [mapSorted, Bool.and_eq_true, decide_eq_true_eq] at h ⊢
    exact ⟨by omega, h.2⟩

theorem mapSorted_mapErase {α : Type} {m : List (Nat × α)} (x : Nat) :
    ∀ {lo : Nat}, mapSorted m lo = true → mapSorted (mapErase m x) lo = true := by
  induction m with
  | nil => intro lo h; exact h
  | cons p m ih =>
    obtain ⟨k, v⟩ := p
    intro lo h
    simp only [mapSorted, Bool.and_eq_true, decide_eq_true_eq] at h
    simp only [mapErase]
    split
    · exact ih (mapSorted_mono (by omega) h.2)
    · simp only [mapSorted, Bool.and_eq_true, decide_eq_true_eq]
      exact ⟨h.1, ih h.2⟩

theorem mapSorted_mapInsert {α : Type} {m : List (Nat × α)} {x : Nat} (v : α) (hx : ∀ p ∈ m, p.1 ≠ x) :
    ∀ {lo : Nat}, lo ≤ x → mapSorted m lo = true → mapSorted (mapInsert m x v) lo = true := by
  induction m with
  | nil => intro lo hl _; simp [mapInsert, mapSorted, hl]
  | cons p m ih =>
    obtain ⟨k, w⟩ := p
    intro lo hl h
    have hk : k ≠ x := hx (k, w) (by simp)
    simp only [mapSorted, Bool.and_eq_true, decide_eq_true_eq] at h
    simp only [mapInsert]
    split
    · simp only [mapSorted, Bool.and_eq_true, decide_eq_true_eq]
      exact ⟨hl, by omega, h.2⟩
    · simp only [mapSorted, Bool.and_eq_true, decide_eq_true_eq]
      exact ⟨h.1, ih (fun q hq => hx q (by simp [hq])) (by omega) h.2⟩

/-- A write keeps the keys rising. -/
theorem mapSorted_mapSet {α : Type} [DecidableEq α] (d : α) {m : List (Nat × α)} (x : Nat) (v : α)
    (h : mapSorted m 0 = true) : mapSorted (mapSet d m x v) 0 = true := by
  unfold mapSet
  split
  · exact mapSorted_mapErase x h
  · exact mapSorted_mapInsert v (mapErase_not_listed m x) (Nat.zero_le x) (mapSorted_mapErase x h)

theorem mem_mapErase {α : Type} {m : List (Nat × α)} {x : Nat} {p : Nat × α} (h : p ∈ mapErase m x) : p ∈ m := by
  induction m with
  | nil => exact h
  | cons q m ih =>
    obtain ⟨k, v⟩ := q
    simp only [mapErase] at h
    split at h
    · exact List.mem_cons_of_mem _ (ih h)
    · rcases List.mem_cons.1 h with rfl | h
      · simp
      · exact List.mem_cons_of_mem _ (ih h)

theorem mem_mapInsert {α : Type} {m : List (Nat × α)} {x : Nat} {v : α} {p : Nat × α} (h : p ∈ mapInsert m x v) :
    p = (x, v) ∨ p ∈ m := by
  induction m with
  | nil => simpa [mapInsert] using h
  | cons q m ih =>
    obtain ⟨k, w⟩ := q
    simp only [mapInsert] at h
    split at h
    · simpa using h
    · rcases List.mem_cons.1 h with rfl | h
      · simp
      · rcases ih h with rfl | h
        · simp
        · exact .inr (List.mem_cons_of_mem _ h)

/-- A write lists no value equal to the default. -/
theorem mapSet_no_default {α : Type} [DecidableEq α] (d : α) {m : List (Nat × α)} (x : Nat) (v : α)
    (h : ∀ p ∈ m, p.2 ≠ d) : ∀ p ∈ mapSet d m x v, p.2 ≠ d := by
  unfold mapSet
  split
  · exact fun p hp => h p (mem_mapErase hp)
  · rename_i hv
    intro p hp
    rcases mem_mapInsert hp with rfl | hp
    · exact hv
    · exact h p (mem_mapErase hp)

end Sys2Proof.Machine
end

