-- ==== Sys2Proof/Laws/Registers.lean ====
section
/-!
SUPPORT. The laws of the register store: a register after a write, a field after a write of it, of another field of its register
and of another register.
-/

namespace Sys2Proof.Machine

@[simp] theorem reg_setReg_same (s : State) (o : Nat) (v : Word) : (s.setReg o v).reg o = v := by
  simp [State.reg, State.setReg]

theorem reg_setReg_other (s : State) {o p : Nat} (v : Word) (h : p ≠ o) : (s.setReg o v).reg p = s.reg p := by
  simp only [State.reg, State.setReg]
  by_cases hr : wd (resetAt p) = wd (resetAt o)
  · rw [hr]; exact mapGet_mapSet_other _ _ v h
  · unfold mapSet
    split
    · exact mapGet_mapErase_other _ _ h
    · rw [mapGet_mapInsert_other _ _ v h, mapGet_mapErase_other _ _ h]

theorem reg_set_other (s : State) (f : Fld) (v i j : Nat) {p : Nat} (h : p ≠ f.reg.off i j) :
    (s.set f v i j).reg p = s.reg p := reg_setReg_other s _ h

/-- The number of a word with a field set: the bits below, the field, the bits above. -/
theorem setBits_toNat (v : Word) (l w x : Nat) (h : l + w ≤ 32) :
    (setBits v l w x).toNat = 2 ^ l * (2 ^ w * (v.toNat / 2 ^ l / 2 ^ w) + x % 2 ^ w) + v.toNat % 2 ^ l := by
  have hx : x % 2 ^ w < 2 ^ w := Nat.mod_lt _ (Nat.two_pow_pos w)
  have e : v.toNat - getBits v l w * 2 ^ l + x % 2 ^ w * 2 ^ l
      = 2 ^ l * (2 ^ w * (v.toNat / 2 ^ l / 2 ^ w) + x % 2 ^ w) + v.toNat % 2 ^ l := by
    unfold getBits
    have h1 := Nat.div_add_mod v.toNat (2 ^ l)
    have h2 := Nat.div_add_mod (v.toNat / 2 ^ l) (2 ^ w)
    generalize v.toNat / 2 ^ l / 2 ^ w = q at *
    generalize v.toNat / 2 ^ l % 2 ^ w = r at *
    generalize v.toNat % 2 ^ l = z at *
    rw [← h1, ← h2]
    ring_nf
    omega
  have hlt : 2 ^ l * (2 ^ w * (v.toNat / 2 ^ l / 2 ^ w) + x % 2 ^ w) + v.toNat % 2 ^ l < 2 ^ 32 := by
    obtain ⟨k, hk⟩ := Nat.le.dest h
    have hv : v.toNat < 2 ^ 32 := v.isLt
    have hz : v.toNat % 2 ^ l < 2 ^ l := Nat.mod_lt _ (Nat.two_pow_pos l)
    have hq : v.toNat / 2 ^ l / 2 ^ w < 2 ^ k := by
      rw [Nat.div_div_eq_div_mul, Nat.div_lt_iff_lt_mul (Nat.mul_pos (Nat.two_pow_pos l) (Nat.two_pow_pos w)),
        ← pow_add, ← pow_add]
      rwa [show k + (l + w) = 32 by omega]
    have hy : 2 ^ w * (v.toNat / 2 ^ l / 2 ^ w) + x % 2 ^ w < 2 ^ w * 2 ^ k :=
      calc 2 ^ w * (v.toNat / 2 ^ l / 2 ^ w) + x % 2 ^ w < 2 ^ w * (v.toNat / 2 ^ l / 2 ^ w) + 2 ^ w := by omega
        _ = 2 ^ w * (v.toNat / 2 ^ l / 2 ^ w + 1) := by ring
        _ ≤ 2 ^ w * 2 ^ k := Nat.mul_le_mul_left _ hq
    calc 2 ^ l * (2 ^ w * (v.toNat / 2 ^ l / 2 ^ w) + x % 2 ^ w) + v.toNat % 2 ^ l
        < 2 ^ l * (2 ^ w * (v.toNat / 2 ^ l / 2 ^ w) + x % 2 ^ w) + 2 ^ l := by omega
      _ = 2 ^ l * (2 ^ w * (v.toNat / 2 ^ l / 2 ^ w) + x % 2 ^ w + 1) := by ring
      _ ≤ 2 ^ l * (2 ^ w * 2 ^ k) := Nat.mul_le_mul_left _ hy
      _ = 2 ^ 32 := by rw [← pow_add, ← pow_add]; congr 1; omega
  unfold setBits wd
  rw [BitVec.toNat_ofNat, e, Nat.mod_eq_of_lt hlt]

/-- Bit `i` of a word with a field set. -/
theorem setBits_testBit (v : Word) (l w x i : Nat) (h : l + w ≤ 32) :
    (setBits v l w x).toNat.testBit i = if l ≤ i ∧ i < l + w then x.testBit (i - l) else v.toNat.testBit i := by
  rw [setBits_toNat v l w x h, Nat.testBit_two_pow_mul_add _ (Nat.mod_lt _ (Nat.two_pow_pos l))]
  by_cases h1 : i < l
  · simp [h1, Nat.testBit_mod_two_pow, show ¬ (l ≤ i ∧ i < l + w) by omega]
  · rw [if_neg h1, Nat.testBit_two_pow_mul_add _ (Nat.mod_lt _ (Nat.two_pow_pos w))]
    by_cases h2 : i - l < w
    · simp [h2, Nat.testBit_mod_two_pow, show l ≤ i ∧ i < l + w by omega]
    · rw [if_neg h2, if_neg (by omega), Nat.testBit_div_two_pow, Nat.testBit_div_two_pow]
      congr 1
      omega

theorem getBits_testBit (v : Word) (l w i : Nat) :
    (getBits v l w).testBit i = (decide (i < w) && v.toNat.testBit (i + l)) := by
  simp [getBits, Nat.testBit_mod_two_pow, Nat.testBit_div_two_pow, Nat.add_comm]

/-- The bits of a field after they are set. -/
theorem getBits_setBits_same (v : Word) (l w x : Nat) (h : l + w ≤ 32) : getBits (setBits v l w x) l w = x % 2 ^ w := by
  apply Nat.eq_of_testBit_eq
  intro i
  rw [getBits_testBit, setBits_testBit v l w x _ h, Nat.testBit_mod_two_pow]
  by_cases hi : i < w
  · simp [hi, show l ≤ i + l ∧ i + l < l + w by omega]
  · simp [hi]

/-- The bits of a field after another field of the word is set. -/
theorem getBits_setBits_other (v : Word) (l w x l' w' : Nat) (h : l + w ≤ 32) (hd : l + w ≤ l' ∨ l' + w' ≤ l) :
    getBits (setBits v l w x) l' w' = getBits v l' w' := by
  apply Nat.eq_of_testBit_eq
  intro i
  rw [getBits_testBit, getBits_testBit, setBits_testBit v l w x _ h]
  by_cases hi : i < w'
  · rw [if_neg (by omega)]
  · simp [hi]

/-! ### Fields of the state -/

/-- A field that lies within its word. -/
def Fld.fits (f : Fld) : Prop := f.lsb + f.width ≤ 32

/-- A field after a write of it. -/
theorem get_set_same (s : State) (f : Fld) (v i j : Nat) (h : f.fits) : (s.set f v i j).get f i j = v % 2 ^ f.width := by
  unfold State.get State.set
  rw [reg_setReg_same]
  exact getBits_setBits_same _ _ _ _ h

/-- A field after a write of another field of the same register element. -/
theorem get_set_field (s : State) (f g : Fld) (v i j : Nat) (hr : g.reg = f.reg) (h : f.fits)
    (hd : f.lsb + f.width ≤ g.lsb ∨ g.lsb + g.width ≤ f.lsb) : (s.set f v i j).get g i j = s.get g i j := by
  unfold State.get State.set
  rw [hr, reg_setReg_same]
  exact getBits_setBits_other _ _ _ _ _ _ h hd

/-- A field after a write to another register element. -/
theorem get_set_other (s : State) (f g : Fld) (v i j k l : Nat) (h : g.reg.off k l ≠ f.reg.off i j) :
    (s.set f v i j).get g k l = s.get g k l := by
  unfold State.get
  rw [reg_set_other s f v i j h]

theorem getB_setB_same (s : State) (f : Fld) (v : Bool) (i j : Nat) (h : f.fits) (hw : 0 < f.width) :
    (s.setB f v i j).getB f i j = v := by
  unfold State.getB State.setB
  rw [get_set_same s f _ i j h]
  have h1 : (1 : Nat) < 2 ^ f.width := Nat.one_lt_two_pow (by omega)
  cases v <;> simp [b2n, Nat.mod_eq_of_lt h1]

end Sys2Proof.Machine
end

