-- ==== Sys2Proof/Laws/State.lean ====
section
/-!
SUPPORT. What the updates of the register store and of a mailbox leave alone: every other field of the state, by rfl.
-/

namespace Sys2Proof.Machine

@[simp] theorem State.setReg_time (s : State) (o : Nat) (v : Word) : (s.setReg o v).time = s.time := rfl
@[simp] theorem State.setReg_mbox (s : State) (o : Nat) (v : Word) : (s.setReg o v).mbox = s.mbox := rfl
@[simp] theorem State.setReg_fw (s : State) (o : Nat) (v : Word) : (s.setReg o v).fw = s.fw := rfl
@[simp] theorem State.setReg_flt (s : State) (o : Nat) (v : Word) : (s.setReg o v).flt = s.flt := rfl
@[simp] theorem State.setReg_book (s : State) (o : Nat) (v : Word) : (s.setReg o v).book = s.book := rfl
@[simp] theorem State.setReg_integ (s : State) (o : Nat) (v : Word) : (s.setReg o v).integ = s.integ := rfl
@[simp] theorem State.setReg_out (s : State) (o : Nat) (v : Word) : (s.setReg o v).out = s.out := rfl
@[simp] theorem State.setReg_lane (s : State) (o : Nat) (v : Word) : (s.setReg o v).lane = s.lane := rfl
@[simp] theorem State.setReg_ref (s : State) (o : Nat) (v : Word) : (s.setReg o v).ref = s.ref := rfl
@[simp] theorem State.setReg_tdd (s : State) (o : Nat) (v : Word) : (s.setReg o v).tdd = s.tdd := rfl
@[simp] theorem State.setReg_win (s : State) (o : Nat) (v : Word) : (s.setReg o v).win = s.win := rfl
@[simp] theorem State.setReg_can (s : State) (o : Nat) (v : Word) : (s.setReg o v).can = s.can := rfl
@[simp] theorem State.setReg_svy (s : State) (o : Nat) (v : Word) : (s.setReg o v).svy = s.svy := rfl
@[simp] theorem State.setReg_pos (s : State) (o : Nat) (v : Word) : (s.setReg o v).pos = s.pos := rfl
@[simp] theorem State.setReg_con (s : State) (o : Nat) (v : Word) : (s.setReg o v).con = s.con := rfl
@[simp] theorem State.setReg_prot (s : State) (o : Nat) (v : Word) : (s.setReg o v).prot = s.prot := rfl
@[simp] theorem State.setReg_cx (s : State) (o : Nat) (v : Word) : (s.setReg o v).cx = s.cx := rfl
@[simp] theorem State.setReg_rce (s : State) (o : Nat) (v : Word) : (s.setReg o v).rce = s.rce := rfl
@[simp] theorem State.setReg_sns (s : State) (o : Nat) (v : Word) : (s.setReg o v).sns = s.sns := rfl
@[simp] theorem State.setReg_pmc (s : State) (o : Nat) (v : Word) : (s.setReg o v).pmc = s.pmc := rfl
@[simp] theorem State.setReg_capt (s : State) (o : Nat) (v : Word) : (s.setReg o v).capt = s.capt := rfl
@[simp] theorem State.setReg_dram (s : State) (o : Nat) (v : Word) : (s.setReg o v).dram = s.dram := rfl
@[simp] theorem State.setReg_patrol (s : State) (o : Nat) (v : Word) : (s.setReg o v).patrol = s.patrol := rfl
@[simp] theorem State.setReg_start (s : State) (o : Nat) (v : Word) : (s.setReg o v).start = s.start := rfl
@[simp] theorem State.setReg_age (s : State) (o : Nat) (v : Word) : (s.setReg o v).age = s.age := rfl
@[simp] theorem State.setReg_tap (s : State) (o : Nat) (v : Word) : (s.setReg o v).tap = s.tap := rfl
@[simp] theorem State.setReg_pci (s : State) (o : Nat) (v : Word) : (s.setReg o v).pci = s.pci := rfl
@[simp] theorem State.setReg_failAt (s : State) (o : Nat) (v : Word) : (s.setReg o v).failAt = s.failAt := rfl
@[simp] theorem State.setReg_readyAt (s : State) (o : Nat) (v : Word) : (s.setReg o v).readyAt = s.readyAt := rfl
@[simp] theorem State.setReg_draws (s : State) (o : Nat) (v : Word) : (s.setReg o v).draws = s.draws := rfl
@[simp] theorem State.setReg_pending (s : State) (o : Nat) (v : Word) : (s.setReg o v).pending = s.pending := rfl

@[simp] theorem State.set_time (s : State) (f : Fld) (v i j : Nat) : (s.set f v i j).time = s.time := rfl
@[simp] theorem State.set_mbox (s : State) (f : Fld) (v i j : Nat) : (s.set f v i j).mbox = s.mbox := rfl
@[simp] theorem State.set_fw (s : State) (f : Fld) (v i j : Nat) : (s.set f v i j).fw = s.fw := rfl
@[simp] theorem State.set_flt (s : State) (f : Fld) (v i j : Nat) : (s.set f v i j).flt = s.flt := rfl
@[simp] theorem State.set_book (s : State) (f : Fld) (v i j : Nat) : (s.set f v i j).book = s.book := rfl
@[simp] theorem State.set_integ (s : State) (f : Fld) (v i j : Nat) : (s.set f v i j).integ = s.integ := rfl
@[simp] theorem State.set_out (s : State) (f : Fld) (v i j : Nat) : (s.set f v i j).out = s.out := rfl
@[simp] theorem State.set_lane (s : State) (f : Fld) (v i j : Nat) : (s.set f v i j).lane = s.lane := rfl
@[simp] theorem State.set_ref (s : State) (f : Fld) (v i j : Nat) : (s.set f v i j).ref = s.ref := rfl
@[simp] theorem State.set_tdd (s : State) (f : Fld) (v i j : Nat) : (s.set f v i j).tdd = s.tdd := rfl
@[simp] theorem State.set_win (s : State) (f : Fld) (v i j : Nat) : (s.set f v i j).win = s.win := rfl
@[simp] theorem State.set_can (s : State) (f : Fld) (v i j : Nat) : (s.set f v i j).can = s.can := rfl
@[simp] theorem State.set_svy (s : State) (f : Fld) (v i j : Nat) : (s.set f v i j).svy = s.svy := rfl
@[simp] theorem State.set_pos (s : State) (f : Fld) (v i j : Nat) : (s.set f v i j).pos = s.pos := rfl
@[simp] theorem State.set_con (s : State) (f : Fld) (v i j : Nat) : (s.set f v i j).con = s.con := rfl
@[simp] theorem State.set_prot (s : State) (f : Fld) (v i j : Nat) : (s.set f v i j).prot = s.prot := rfl
@[simp] theorem State.set_cx (s : State) (f : Fld) (v i j : Nat) : (s.set f v i j).cx = s.cx := rfl
@[simp] theorem State.set_rce (s : State) (f : Fld) (v i j : Nat) : (s.set f v i j).rce = s.rce := rfl
@[simp] theorem State.set_sns (s : State) (f : Fld) (v i j : Nat) : (s.set f v i j).sns = s.sns := rfl
@[simp] theorem State.set_pmc (s : State) (f : Fld) (v i j : Nat) : (s.set f v i j).pmc = s.pmc := rfl
@[simp] theorem State.set_capt (s : State) (f : Fld) (v i j : Nat) : (s.set f v i j).capt = s.capt := rfl
@[simp] theorem State.set_dram (s : State) (f : Fld) (v i j : Nat) : (s.set f v i j).dram = s.dram := rfl
@[simp] theorem State.set_patrol (s : State) (f : Fld) (v i j : Nat) : (s.set f v i j).patrol = s.patrol := rfl
@[simp] theorem State.set_start (s : State) (f : Fld) (v i j : Nat) : (s.set f v i j).start = s.start := rfl
@[simp] theorem State.set_age (s : State) (f : Fld) (v i j : Nat) : (s.set f v i j).age = s.age := rfl
@[simp] theorem State.set_tap (s : State) (f : Fld) (v i j : Nat) : (s.set f v i j).tap = s.tap := rfl
@[simp] theorem State.set_pci (s : State) (f : Fld) (v i j : Nat) : (s.set f v i j).pci = s.pci := rfl
@[simp] theorem State.set_failAt (s : State) (f : Fld) (v i j : Nat) : (s.set f v i j).failAt = s.failAt := rfl
@[simp] theorem State.set_readyAt (s : State) (f : Fld) (v i j : Nat) : (s.set f v i j).readyAt = s.readyAt := rfl
@[simp] theorem State.set_draws (s : State) (f : Fld) (v i j : Nat) : (s.set f v i j).draws = s.draws := rfl
@[simp] theorem State.set_pending (s : State) (f : Fld) (v i j : Nat) : (s.set f v i j).pending = s.pending := rfl

@[simp] theorem State.setI_time (s : State) (f : Fld) (v : Int) (i j : Nat) : (s.setI f v i j).time = s.time := rfl
@[simp] theorem State.setI_mbox (s : State) (f : Fld) (v : Int) (i j : Nat) : (s.setI f v i j).mbox = s.mbox := rfl
@[simp] theorem State.setI_fw (s : State) (f : Fld) (v : Int) (i j : Nat) : (s.setI f v i j).fw = s.fw := rfl
@[simp] theorem State.setI_flt (s : State) (f : Fld) (v : Int) (i j : Nat) : (s.setI f v i j).flt = s.flt := rfl
@[simp] theorem State.setI_book (s : State) (f : Fld) (v : Int) (i j : Nat) : (s.setI f v i j).book = s.book := rfl
@[simp] theorem State.setI_integ (s : State) (f : Fld) (v : Int) (i j : Nat) : (s.setI f v i j).integ = s.integ := rfl
@[simp] theorem State.setI_out (s : State) (f : Fld) (v : Int) (i j : Nat) : (s.setI f v i j).out = s.out := rfl
@[simp] theorem State.setI_lane (s : State) (f : Fld) (v : Int) (i j : Nat) : (s.setI f v i j).lane = s.lane := rfl
@[simp] theorem State.setI_ref (s : State) (f : Fld) (v : Int) (i j : Nat) : (s.setI f v i j).ref = s.ref := rfl
@[simp] theorem State.setI_tdd (s : State) (f : Fld) (v : Int) (i j : Nat) : (s.setI f v i j).tdd = s.tdd := rfl
@[simp] theorem State.setI_win (s : State) (f : Fld) (v : Int) (i j : Nat) : (s.setI f v i j).win = s.win := rfl
@[simp] theorem State.setI_can (s : State) (f : Fld) (v : Int) (i j : Nat) : (s.setI f v i j).can = s.can := rfl
@[simp] theorem State.setI_svy (s : State) (f : Fld) (v : Int) (i j : Nat) : (s.setI f v i j).svy = s.svy := rfl
@[simp] theorem State.setI_pos (s : State) (f : Fld) (v : Int) (i j : Nat) : (s.setI f v i j).pos = s.pos := rfl
@[simp] theorem State.setI_con (s : State) (f : Fld) (v : Int) (i j : Nat) : (s.setI f v i j).con = s.con := rfl
@[simp] theorem State.setI_prot (s : State) (f : Fld) (v : Int) (i j : Nat) : (s.setI f v i j).prot = s.prot := rfl
@[simp] theorem State.setI_cx (s : State) (f : Fld) (v : Int) (i j : Nat) : (s.setI f v i j).cx = s.cx := rfl
@[simp] theorem State.setI_rce (s : State) (f : Fld) (v : Int) (i j : Nat) : (s.setI f v i j).rce = s.rce := rfl
@[simp] theorem State.setI_sns (s : State) (f : Fld) (v : Int) (i j : Nat) : (s.setI f v i j).sns = s.sns := rfl
@[simp] theorem State.setI_pmc (s : State) (f : Fld) (v : Int) (i j : Nat) : (s.setI f v i j).pmc = s.pmc := rfl
@[simp] theorem State.setI_capt (s : State) (f : Fld) (v : Int) (i j : Nat) : (s.setI f v i j).capt = s.capt := rfl
@[simp] theorem State.setI_dram (s : State) (f : Fld) (v : Int) (i j : Nat) : (s.setI f v i j).dram = s.dram := rfl
@[simp] theorem State.setI_patrol (s : State) (f : Fld) (v : Int) (i j : Nat) : (s.setI f v i j).patrol = s.patrol := rfl
@[simp] theorem State.setI_start (s : State) (f : Fld) (v : Int) (i j : Nat) : (s.setI f v i j).start = s.start := rfl
@[simp] theorem State.setI_age (s : State) (f : Fld) (v : Int) (i j : Nat) : (s.setI f v i j).age = s.age := rfl
@[simp] theorem State.setI_tap (s : State) (f : Fld) (v : Int) (i j : Nat) : (s.setI f v i j).tap = s.tap := rfl
@[simp] theorem State.setI_pci (s : State) (f : Fld) (v : Int) (i j : Nat) : (s.setI f v i j).pci = s.pci := rfl
@[simp] theorem State.setI_failAt (s : State) (f : Fld) (v : Int) (i j : Nat) : (s.setI f v i j).failAt = s.failAt := rfl
@[simp] theorem State.setI_readyAt (s : State) (f : Fld) (v : Int) (i j : Nat) : (s.setI f v i j).readyAt = s.readyAt := rfl
@[simp] theorem State.setI_draws (s : State) (f : Fld) (v : Int) (i j : Nat) : (s.setI f v i j).draws = s.draws := rfl
@[simp] theorem State.setI_pending (s : State) (f : Fld) (v : Int) (i j : Nat) : (s.setI f v i j).pending = s.pending := rfl

@[simp] theorem State.setB_time (s : State) (f : Fld) (v : Bool) (i j : Nat) : (s.setB f v i j).time = s.time := rfl
@[simp] theorem State.setB_mbox (s : State) (f : Fld) (v : Bool) (i j : Nat) : (s.setB f v i j).mbox = s.mbox := rfl
@[simp] theorem State.setB_fw (s : State) (f : Fld) (v : Bool) (i j : Nat) : (s.setB f v i j).fw = s.fw := rfl
@[simp] theorem State.setB_flt (s : State) (f : Fld) (v : Bool) (i j : Nat) : (s.setB f v i j).flt = s.flt := rfl
@[simp] theorem State.setB_book (s : State) (f : Fld) (v : Bool) (i j : Nat) : (s.setB f v i j).book = s.book := rfl
@[simp] theorem State.setB_integ (s : State) (f : Fld) (v : Bool) (i j : Nat) : (s.setB f v i j).integ = s.integ := rfl
@[simp] theorem State.setB_out (s : State) (f : Fld) (v : Bool) (i j : Nat) : (s.setB f v i j).out = s.out := rfl
@[simp] theorem State.setB_lane (s : State) (f : Fld) (v : Bool) (i j : Nat) : (s.setB f v i j).lane = s.lane := rfl
@[simp] theorem State.setB_ref (s : State) (f : Fld) (v : Bool) (i j : Nat) : (s.setB f v i j).ref = s.ref := rfl
@[simp] theorem State.setB_tdd (s : State) (f : Fld) (v : Bool) (i j : Nat) : (s.setB f v i j).tdd = s.tdd := rfl
@[simp] theorem State.setB_win (s : State) (f : Fld) (v : Bool) (i j : Nat) : (s.setB f v i j).win = s.win := rfl
@[simp] theorem State.setB_can (s : State) (f : Fld) (v : Bool) (i j : Nat) : (s.setB f v i j).can = s.can := rfl
@[simp] theorem State.setB_svy (s : State) (f : Fld) (v : Bool) (i j : Nat) : (s.setB f v i j).svy = s.svy := rfl
@[simp] theorem State.setB_pos (s : State) (f : Fld) (v : Bool) (i j : Nat) : (s.setB f v i j).pos = s.pos := rfl
@[simp] theorem State.setB_con (s : State) (f : Fld) (v : Bool) (i j : Nat) : (s.setB f v i j).con = s.con := rfl
@[simp] theorem State.setB_prot (s : State) (f : Fld) (v : Bool) (i j : Nat) : (s.setB f v i j).prot = s.prot := rfl
@[simp] theorem State.setB_cx (s : State) (f : Fld) (v : Bool) (i j : Nat) : (s.setB f v i j).cx = s.cx := rfl
@[simp] theorem State.setB_rce (s : State) (f : Fld) (v : Bool) (i j : Nat) : (s.setB f v i j).rce = s.rce := rfl
@[simp] theorem State.setB_sns (s : State) (f : Fld) (v : Bool) (i j : Nat) : (s.setB f v i j).sns = s.sns := rfl
@[simp] theorem State.setB_pmc (s : State) (f : Fld) (v : Bool) (i j : Nat) : (s.setB f v i j).pmc = s.pmc := rfl
@[simp] theorem State.setB_capt (s : State) (f : Fld) (v : Bool) (i j : Nat) : (s.setB f v i j).capt = s.capt := rfl
@[simp] theorem State.setB_dram (s : State) (f : Fld) (v : Bool) (i j : Nat) : (s.setB f v i j).dram = s.dram := rfl
@[simp] theorem State.setB_patrol (s : State) (f : Fld) (v : Bool) (i j : Nat) : (s.setB f v i j).patrol = s.patrol := rfl
@[simp] theorem State.setB_start (s : State) (f : Fld) (v : Bool) (i j : Nat) : (s.setB f v i j).start = s.start := rfl
@[simp] theorem State.setB_age (s : State) (f : Fld) (v : Bool) (i j : Nat) : (s.setB f v i j).age = s.age := rfl
@[simp] theorem State.setB_tap (s : State) (f : Fld) (v : Bool) (i j : Nat) : (s.setB f v i j).tap = s.tap := rfl
@[simp] theorem State.setB_pci (s : State) (f : Fld) (v : Bool) (i j : Nat) : (s.setB f v i j).pci = s.pci := rfl
@[simp] theorem State.setB_failAt (s : State) (f : Fld) (v : Bool) (i j : Nat) : (s.setB f v i j).failAt = s.failAt := rfl
@[simp] theorem State.setB_readyAt (s : State) (f : Fld) (v : Bool) (i j : Nat) : (s.setB f v i j).readyAt = s.readyAt := rfl
@[simp] theorem State.setB_draws (s : State) (f : Fld) (v : Bool) (i j : Nat) : (s.setB f v i j).draws = s.draws := rfl
@[simp] theorem State.setB_pending (s : State) (f : Fld) (v : Bool) (i j : Nat) : (s.setB f v i j).pending = s.pending := rfl

@[simp] theorem State.addSat_time (s : State) (f : Fld) (n i j : Nat) : (s.addSat f n i j).time = s.time := rfl
@[simp] theorem State.addSat_mbox (s : State) (f : Fld) (n i j : Nat) : (s.addSat f n i j).mbox = s.mbox := rfl
@[simp] theorem State.addSat_fw (s : State) (f : Fld) (n i j : Nat) : (s.addSat f n i j).fw = s.fw := rfl
@[simp] theorem State.addSat_flt (s : State) (f : Fld) (n i j : Nat) : (s.addSat f n i j).flt = s.flt := rfl
@[simp] theorem State.addSat_book (s : State) (f : Fld) (n i j : Nat) : (s.addSat f n i j).book = s.book := rfl
@[simp] theorem State.addSat_integ (s : State) (f : Fld) (n i j : Nat) : (s.addSat f n i j).integ = s.integ := rfl
@[simp] theorem State.addSat_out (s : State) (f : Fld) (n i j : Nat) : (s.addSat f n i j).out = s.out := rfl
@[simp] theorem State.addSat_lane (s : State) (f : Fld) (n i j : Nat) : (s.addSat f n i j).lane = s.lane := rfl
@[simp] theorem State.addSat_ref (s : State) (f : Fld) (n i j : Nat) : (s.addSat f n i j).ref = s.ref := rfl
@[simp] theorem State.addSat_tdd (s : State) (f : Fld) (n i j : Nat) : (s.addSat f n i j).tdd = s.tdd := rfl
@[simp] theorem State.addSat_win (s : State) (f : Fld) (n i j : Nat) : (s.addSat f n i j).win = s.win := rfl
@[simp] theorem State.addSat_can (s : State) (f : Fld) (n i j : Nat) : (s.addSat f n i j).can = s.can := rfl
@[simp] theorem State.addSat_svy (s : State) (f : Fld) (n i j : Nat) : (s.addSat f n i j).svy = s.svy := rfl
@[simp] theorem State.addSat_pos (s : State) (f : Fld) (n i j : Nat) : (s.addSat f n i j).pos = s.pos := rfl
@[simp] theorem State.addSat_con (s : State) (f : Fld) (n i j : Nat) : (s.addSat f n i j).con = s.con := rfl
@[simp] theorem State.addSat_prot (s : State) (f : Fld) (n i j : Nat) : (s.addSat f n i j).prot = s.prot := rfl
@[simp] theorem State.addSat_cx (s : State) (f : Fld) (n i j : Nat) : (s.addSat f n i j).cx = s.cx := rfl
@[simp] theorem State.addSat_rce (s : State) (f : Fld) (n i j : Nat) : (s.addSat f n i j).rce = s.rce := rfl
@[simp] theorem State.addSat_sns (s : State) (f : Fld) (n i j : Nat) : (s.addSat f n i j).sns = s.sns := rfl
@[simp] theorem State.addSat_pmc (s : State) (f : Fld) (n i j : Nat) : (s.addSat f n i j).pmc = s.pmc := rfl
@[simp] theorem State.addSat_capt (s : State) (f : Fld) (n i j : Nat) : (s.addSat f n i j).capt = s.capt := rfl
@[simp] theorem State.addSat_dram (s : State) (f : Fld) (n i j : Nat) : (s.addSat f n i j).dram = s.dram := rfl
@[simp] theorem State.addSat_patrol (s : State) (f : Fld) (n i j : Nat) : (s.addSat f n i j).patrol = s.patrol := rfl
@[simp] theorem State.addSat_start (s : State) (f : Fld) (n i j : Nat) : (s.addSat f n i j).start = s.start := rfl
@[simp] theorem State.addSat_age (s : State) (f : Fld) (n i j : Nat) : (s.addSat f n i j).age = s.age := rfl
@[simp] theorem State.addSat_tap (s : State) (f : Fld) (n i j : Nat) : (s.addSat f n i j).tap = s.tap := rfl
@[simp] theorem State.addSat_pci (s : State) (f : Fld) (n i j : Nat) : (s.addSat f n i j).pci = s.pci := rfl
@[simp] theorem State.addSat_failAt (s : State) (f : Fld) (n i j : Nat) : (s.addSat f n i j).failAt = s.failAt := rfl
@[simp] theorem State.addSat_readyAt (s : State) (f : Fld) (n i j : Nat) : (s.addSat f n i j).readyAt = s.readyAt := rfl
@[simp] theorem State.addSat_draws (s : State) (f : Fld) (n i j : Nat) : (s.addSat f n i j).draws = s.draws := rfl
@[simp] theorem State.addSat_pending (s : State) (f : Fld) (n i j : Nat) : (s.addSat f n i j).pending = s.pending := rfl

@[simp] theorem State.addWrap_time (s : State) (f : Fld) (n i j : Nat) : (s.addWrap f n i j).time = s.time := rfl
@[simp] theorem State.addWrap_mbox (s : State) (f : Fld) (n i j : Nat) : (s.addWrap f n i j).mbox = s.mbox := rfl
@[simp] theorem State.addWrap_fw (s : State) (f : Fld) (n i j : Nat) : (s.addWrap f n i j).fw = s.fw := rfl
@[simp] theorem State.addWrap_flt (s : State) (f : Fld) (n i j : Nat) : (s.addWrap f n i j).flt = s.flt := rfl
@[simp] theorem State.addWrap_book (s : State) (f : Fld) (n i j : Nat) : (s.addWrap f n i j).book = s.book := rfl
@[simp] theorem State.addWrap_integ (s : State) (f : Fld) (n i j : Nat) : (s.addWrap f n i j).integ = s.integ := rfl
@[simp] theorem State.addWrap_out (s : State) (f : Fld) (n i j : Nat) : (s.addWrap f n i j).out = s.out := rfl
@[simp] theorem State.addWrap_lane (s : State) (f : Fld) (n i j : Nat) : (s.addWrap f n i j).lane = s.lane := rfl
@[simp] theorem State.addWrap_ref (s : State) (f : Fld) (n i j : Nat) : (s.addWrap f n i j).ref = s.ref := rfl
@[simp] theorem State.addWrap_tdd (s : State) (f : Fld) (n i j : Nat) : (s.addWrap f n i j).tdd = s.tdd := rfl
@[simp] theorem State.addWrap_win (s : State) (f : Fld) (n i j : Nat) : (s.addWrap f n i j).win = s.win := rfl
@[simp] theorem State.addWrap_can (s : State) (f : Fld) (n i j : Nat) : (s.addWrap f n i j).can = s.can := rfl
@[simp] theorem State.addWrap_svy (s : State) (f : Fld) (n i j : Nat) : (s.addWrap f n i j).svy = s.svy := rfl
@[simp] theorem State.addWrap_pos (s : State) (f : Fld) (n i j : Nat) : (s.addWrap f n i j).pos = s.pos := rfl
@[simp] theorem State.addWrap_con (s : State) (f : Fld) (n i j : Nat) : (s.addWrap f n i j).con = s.con := rfl
@[simp] theorem State.addWrap_prot (s : State) (f : Fld) (n i j : Nat) : (s.addWrap f n i j).prot = s.prot := rfl
@[simp] theorem State.addWrap_cx (s : State) (f : Fld) (n i j : Nat) : (s.addWrap f n i j).cx = s.cx := rfl
@[simp] theorem State.addWrap_rce (s : State) (f : Fld) (n i j : Nat) : (s.addWrap f n i j).rce = s.rce := rfl
@[simp] theorem State.addWrap_sns (s : State) (f : Fld) (n i j : Nat) : (s.addWrap f n i j).sns = s.sns := rfl
@[simp] theorem State.addWrap_pmc (s : State) (f : Fld) (n i j : Nat) : (s.addWrap f n i j).pmc = s.pmc := rfl
@[simp] theorem State.addWrap_capt (s : State) (f : Fld) (n i j : Nat) : (s.addWrap f n i j).capt = s.capt := rfl
@[simp] theorem State.addWrap_dram (s : State) (f : Fld) (n i j : Nat) : (s.addWrap f n i j).dram = s.dram := rfl
@[simp] theorem State.addWrap_patrol (s : State) (f : Fld) (n i j : Nat) : (s.addWrap f n i j).patrol = s.patrol := rfl
@[simp] theorem State.addWrap_start (s : State) (f : Fld) (n i j : Nat) : (s.addWrap f n i j).start = s.start := rfl
@[simp] theorem State.addWrap_age (s : State) (f : Fld) (n i j : Nat) : (s.addWrap f n i j).age = s.age := rfl
@[simp] theorem State.addWrap_tap (s : State) (f : Fld) (n i j : Nat) : (s.addWrap f n i j).tap = s.tap := rfl
@[simp] theorem State.addWrap_pci (s : State) (f : Fld) (n i j : Nat) : (s.addWrap f n i j).pci = s.pci := rfl
@[simp] theorem State.addWrap_failAt (s : State) (f : Fld) (n i j : Nat) : (s.addWrap f n i j).failAt = s.failAt := rfl
@[simp] theorem State.addWrap_readyAt (s : State) (f : Fld) (n i j : Nat) : (s.addWrap f n i j).readyAt = s.readyAt := rfl
@[simp] theorem State.addWrap_draws (s : State) (f : Fld) (n i j : Nat) : (s.addWrap f n i j).draws = s.draws := rfl
@[simp] theorem State.addWrap_pending (s : State) (f : Fld) (n i j : Nat) : (s.addWrap f n i j).pending = s.pending := rfl

@[simp] theorem State.setMb_csr (s : State) (m : Nat) (b : Mailbox) : (s.setMb m b).csr = s.csr := rfl
@[simp] theorem State.setMb_time (s : State) (m : Nat) (b : Mailbox) : (s.setMb m b).time = s.time := rfl
@[simp] theorem State.setMb_fw (s : State) (m : Nat) (b : Mailbox) : (s.setMb m b).fw = s.fw := rfl
@[simp] theorem State.setMb_flt (s : State) (m : Nat) (b : Mailbox) : (s.setMb m b).flt = s.flt := rfl
@[simp] theorem State.setMb_book (s : State) (m : Nat) (b : Mailbox) : (s.setMb m b).book = s.book := rfl
@[simp] theorem State.setMb_integ (s : State) (m : Nat) (b : Mailbox) : (s.setMb m b).integ = s.integ := rfl
@[simp] theorem State.setMb_out (s : State) (m : Nat) (b : Mailbox) : (s.setMb m b).out = s.out := rfl
@[simp] theorem State.setMb_lane (s : State) (m : Nat) (b : Mailbox) : (s.setMb m b).lane = s.lane := rfl
@[simp] theorem State.setMb_ref (s : State) (m : Nat) (b : Mailbox) : (s.setMb m b).ref = s.ref := rfl
@[simp] theorem State.setMb_tdd (s : State) (m : Nat) (b : Mailbox) : (s.setMb m b).tdd = s.tdd := rfl
@[simp] theorem State.setMb_win (s : State) (m : Nat) (b : Mailbox) : (s.setMb m b).win = s.win := rfl
@[simp] theorem State.setMb_can (s : State) (m : Nat) (b : Mailbox) : (s.setMb m b).can = s.can := rfl
@[simp] theorem State.setMb_svy (s : State) (m : Nat) (b : Mailbox) : (s.setMb m b).svy = s.svy := rfl
@[simp] theorem State.setMb_pos (s : State) (m : Nat) (b : Mailbox) : (s.setMb m b).pos = s.pos := rfl
@[simp] theorem State.setMb_con (s : State) (m : Nat) (b : Mailbox) : (s.setMb m b).con = s.con := rfl
@[simp] theorem State.setMb_prot (s : State) (m : Nat) (b : Mailbox) : (s.setMb m b).prot = s.prot := rfl
@[simp] theorem State.setMb_cx (s : State) (m : Nat) (b : Mailbox) : (s.setMb m b).cx = s.cx := rfl
@[simp] theorem State.setMb_rce (s : State) (m : Nat) (b : Mailbox) : (s.setMb m b).rce = s.rce := rfl
@[simp] theorem State.setMb_sns (s : State) (m : Nat) (b : Mailbox) : (s.setMb m b).sns = s.sns := rfl
@[simp] theorem State.setMb_pmc (s : State) (m : Nat) (b : Mailbox) : (s.setMb m b).pmc = s.pmc := rfl
@[simp] theorem State.setMb_capt (s : State) (m : Nat) (b : Mailbox) : (s.setMb m b).capt = s.capt := rfl
@[simp] theorem State.setMb_dram (s : State) (m : Nat) (b : Mailbox) : (s.setMb m b).dram = s.dram := rfl
@[simp] theorem State.setMb_patrol (s : State) (m : Nat) (b : Mailbox) : (s.setMb m b).patrol = s.patrol := rfl
@[simp] theorem State.setMb_start (s : State) (m : Nat) (b : Mailbox) : (s.setMb m b).start = s.start := rfl
@[simp] theorem State.setMb_age (s : State) (m : Nat) (b : Mailbox) : (s.setMb m b).age = s.age := rfl
@[simp] theorem State.setMb_tap (s : State) (m : Nat) (b : Mailbox) : (s.setMb m b).tap = s.tap := rfl
@[simp] theorem State.setMb_pci (s : State) (m : Nat) (b : Mailbox) : (s.setMb m b).pci = s.pci := rfl
@[simp] theorem State.setMb_failAt (s : State) (m : Nat) (b : Mailbox) : (s.setMb m b).failAt = s.failAt := rfl
@[simp] theorem State.setMb_readyAt (s : State) (m : Nat) (b : Mailbox) : (s.setMb m b).readyAt = s.readyAt := rfl
@[simp] theorem State.setMb_draws (s : State) (m : Nat) (b : Mailbox) : (s.setMb m b).draws = s.draws := rfl
@[simp] theorem State.setMb_pending (s : State) (m : Nat) (b : Mailbox) : (s.setMb m b).pending = s.pending := rfl

end Sys2Proof.Machine
end

