-- ==== Sys2Proof/Laws/Raise.lean ====
section
/-!
SUPPORT. Everything that counting, raising an event, offering a record and raising a notification can do: `OnlyRaised`.
-/

namespace Sys2Proof.Machine

theorem OnlyRaised.refl (s : State) : OnlyRaised s s := ⟨rfl, fun _ _ => rfl⟩

theorem OnlyRaised.trans {s t u : State} (h : OnlyRaised s t) (k : OnlyRaised t u) : OnlyRaised s u :=
  ⟨k.part.trans h.part, fun o ho => (k.regs o ho).trans (h.regs o ho)⟩

/-- The chain taken from its end. -/
theorem OnlyRaised.after {s t u : State} (k : OnlyRaised t u) (h : OnlyRaised s t) : OnlyRaised s u := h.trans k

theorem OnlyRaised.forEach {α : Type} (l : List α) (f : State → α → State) (hf : ∀ s a, OnlyRaised s (f s a)) (s : State) :
    OnlyRaised s (forEach l s f) := by
  induction l generalizing s with
  | nil => exact .refl s
  | cons a l ih => exact (hf s a).trans (ih (f s a))

theorem OnlyRaised.forEach_mem {α : Type} (l : List α) (f : State → α → State) (hf : ∀ s, ∀ a ∈ l, OnlyRaised s (f s a))
    (s : State) : OnlyRaised s (Machine.forEach l s f) := by
  induction l generalizing s with
  | nil => exact .refl s
  | cons a l ih => exact (hf s a (by simp)).trans (ih (fun s b hb => hf s b (by simp [hb])) (f s a))

/-- A change that keeps the quiet part and the register store. -/
theorem OnlyRaised.of_part {s t : State} (h : t.quietPart = s.quietPart) (hc : t.csr = s.csr) : OnlyRaised s t :=
  ⟨h, fun o _ => by simp only [State.reg, hc]⟩

/-- A register write outside the quiet registers. -/
theorem OnlyRaised.setReg (s : State) (o : Nat) (v : Word) (h : quiet o = false) : OnlyRaised s (s.setReg o v) :=
  ⟨rfl, fun p hp => reg_setReg_other s v (by rintro rfl; simp [h] at hp)⟩

theorem OnlyRaised.set (s : State) (f : Fld) (v i j : Nat) (h : quiet (f.reg.off i j) = false) : OnlyRaised s (s.set f v i j) :=
  .setReg s _ _ h

theorem OnlyRaised.setB (s : State) (f : Fld) (v : Bool) (i j : Nat) (h : quiet (f.reg.off i j) = false) :
    OnlyRaised s (s.setB f v i j) := .setReg s _ _ h

theorem OnlyRaised.addSat (s : State) (f : Fld) (v i j : Nat) (h : quiet (f.reg.off i j) = false) :
    OnlyRaised s (s.addSat f v i j) := .setReg s _ _ h

theorem quiet_sstat {i : Nat} (h : i < 512) : quiet (Reg.FLT_SSTAT.off i 0) = false := by
  simp only [quiet, RegDesc.off, Reg.FLT_SSTAT]; simp; omega

theorem quiet_samecyc {i : Nat} (h : i < 16) : quiet (Reg.FLT_SAMECYC.off i 0) = false := by
  simp only [quiet, RegDesc.off, Reg.FLT_SAMECYC]; simp; omega

theorem quiet_valHi {i : Nat} (h : i < 384) : quiet (Reg.PMC_VAL_HI.off i 0) = false := by
  simp only [quiet, RegDesc.off, Reg.PMC_VAL_HI]; simp; omega

theorem quiet_clrSec {i : Nat} (h : i < 512) : quiet (Reg.FLT_CLR_SEC.off i 0) = false := by
  simp only [quiet, RegDesc.off, Reg.FLT_CLR_SEC]; simp; omega

theorem quiet_clrGt {i : Nat} (h : i < 512) : quiet (Reg.FLT_CLR_GT.off i 0) = false := by
  simp only [quiet, RegDesc.off, Reg.FLT_CLR_GT]; simp; omega

theorem OnlyRaised.ite {c : Prop} [Decidable c] {s t u : State} (h : c → OnlyRaised s t) (k : ¬c → OnlyRaised s u) :
    OnlyRaised s (if c then t else u) := by
  split
  · exact h ‹_›
  · exact k ‹_›

theorem addCounter_raised (s : State) {i : Nat} (n : Nat) (h : i < 384) : OnlyRaised s (s.addCounter i n) := by
  unfold State.addCounter
  refine .ite (fun _ => .of_part rfl rfl) fun _ => ?_
  exact .after (.setB _ _ _ _ _ (quiet_valHi h)) (.of_part rfl rfl)

/-- Counting an event. -/
theorem count_raised (s : State) (b i c n : Nat) (a : EventAttr) : OnlyRaised s (s.count b i c n a) := by
  unfold State.count
  refine .ite (fun _ => .refl s) fun _ => .forEach _ _ (fun s e => ?_) s
  refine .ite (fun h => ?_) fun _ => .refl s
  simp only [Bool.and_eq_true, decide_eq_true_eq] at h
  exact addCounter_raised s n h.1.1.1.1

/-- Raising a notification. -/
theorem notify_raised (s : State) (code : Nat) (content : List Word) (at_ : Nat) : OnlyRaised s (s.notify code content at_) := by
  unfold State.notify
  exact .ite (fun _ => .of_part rfl rfl) fun _ => .refl s

theorem notifyNow_raised (s : State) (code : Nat) (content : List Word) : OnlyRaised s (s.notifyNow code content) :=
  notify_raised s code content _

theorem notifyChart_raised (s : State) (code : Nat) (content : List Word) : OnlyRaised s (s.notifyChart code content) :=
  notify_raised s code content _

theorem alertPulse_raised (s : State) : OnlyRaised s s.alertPulse := by
  unfold State.alertPulse
  exact .after (.setB _ _ _ _ _ (by decide)) (.after (.setB _ _ _ _ _ (by decide)) (.of_part rfl rfl))

theorem openInterval_raised (s : State) {src : Nat} (h : src < 512) : OnlyRaised s (s.openInterval src) := by
  unfold State.openInterval
  exact .after (.setB _ _ _ _ _ (quiet_sstat h)) (.of_part rfl rfl)

theorem escalate_raised (s : State) {src : Nat} (yes : Bool) (h : src < 512) : OnlyRaised s (s.escalate src yes) := by
  unfold State.escalate
  exact .ite (fun _ => .setB _ _ _ _ _ (quiet_sstat h)) fun _ => .refl s

theorem countEvent_raised (s : State) {src : Nat} (h : src < 512) : OnlyRaised s (s.countEvent src).1 := by
  unfold State.countEvent
  split
  · exact .refl s
  · exact .after (escalate_raised _ _ h) (.after (.set _ _ _ _ _ (quiet_sstat h))
      (.ite (fun _ => .refl s) fun _ => openInterval_raised s h))

theorem markSource_raised (s : State) (e : FaultEv) (sev : Nat) (h : e.source < 512) : OnlyRaised s (s.markSource e sev) := by
  have q := quiet_sstat h
  unfold State.markSource
  refine .after (count_raised _ _ _ _ _ _) ?_
  refine .trans ?_ (.ite (fun _ => .refl _) fun _ => .addSat _ _ _ _ _ q)
  exact .after (.setB _ _ _ _ _ q) (.after (.setB _ _ _ _ _ q) (.after (.set _ _ _ _ _ q)
    (.after (.setB _ _ _ _ _ q) (.setB _ _ _ _ _ q))))

theorem hitCapture_raised (s : State) (src : Nat) : OnlyRaised s (s.hitCapture src) := by
  unfold State.hitCapture
  exact .ite (fun _ => .of_part rfl rfl) fun _ => .refl s

theorem postReaction_raised (s : State) (src sev : Nat) (sc : Nat × Nat) : OnlyRaised s (s.postReaction src sev sc) := by
  unfold State.postReaction
  refine .trans ?_ (.ite (fun _ => alertPulse_raised _) fun _ => .refl _)
  exact .ite (fun _ => .refl s) fun _ => .of_part rfl rfl

theorem askFreeze_raised (s : State) (src : Nat) (yes : Bool) : OnlyRaised s (s.askFreeze src yes) := by
  unfold State.askFreeze
  exact .ite (fun _ => .of_part rfl rfl) fun _ => .refl s

theorem requestSnap_raised (s : State) (yes : Bool) : OnlyRaised s (s.requestSnap yes) := by
  unfold State.requestSnap
  exact .ite (fun _ => .of_part rfl rfl) fun _ => .refl s

theorem notifyFault_raised (s : State) (e : FaultEv) (sev lanes : Nat) : OnlyRaised s (s.notifyFault e sev lanes) := by
  unfold State.notifyFault
  exact .ite (fun _ => notifyNow_raised _ _ _) fun _ => .refl s

/-- One event in the collector. -/
theorem collectOne_raised (s : State) (e : FaultEv) (h : e.source < 512) : OnlyRaised s (s.collectOne e).1 :=
  .after (notifyFault_raised _ _ _ _) (.after (requestSnap_raised _ _) (.after (askFreeze_raised _ _ _)
    (.after (postReaction_raised _ _ _ _) (.after (hitCapture_raised _ _)
      (.after (markSource_raised _ _ _ h) (countEvent_raised s h))))))

theorem collectAll_raised (l : List FaultEv) : ∀ s : State, (∀ e ∈ l, e.source < 512) → OnlyRaised s (s.collectAll l).1 := by
  induction l with
  | nil => intro s _; exact .refl s
  | cons e es ih =>
    intro s h
    simp only [State.collectAll]
    exact (collectOne_raised s e (h e (by simp))).trans (ih _ fun e he => h e (by simp [he]))

theorem collectOne_source (s : State) (e : FaultEv) : (s.collectOne e).2.ev = e := rfl

theorem collectAll_sources (l : List FaultEv) : ∀ s : State, (s.collectAll l).2.map (·.ev) = l := by
  induction l with
  | nil => intro s; rfl
  | cons e es ih =>
    intro s
    simp only [State.collectAll, List.map_cons, ih, collectOne_source]

theorem writeFirst_raised (s : State) (n : Nat) (r : EventResult) : OnlyRaised s (s.writeFirst n r) :=
  .after (.set _ _ _ _ _ (by decide)) (.after (.set _ _ _ _ _ (by decide)) (.after (.set _ _ _ _ _ (by decide))
    (.after (.set _ _ _ _ _ (by decide)) (.after (.set _ _ _ _ _ (by decide)) (.after (.setB _ _ _ _ _ (by decide))
      (.after (.setB _ _ _ _ _ (by decide)) (.after (.set _ _ _ _ _ (by decide)) (.setB _ _ _ _ _ (by decide)))))))))

theorem writeSamecyc_raised (s : State) (rs : List EventResult) (h : ∀ r ∈ rs, r.ev.source < 512) :
    OnlyRaised s (s.writeSamecyc rs) := by
  unfold State.writeSamecyc
  refine OnlyRaised.forEach_mem rs _ (fun u q hq => ?_) s
  have hq : q.ev.source / 32 < 16 := by have := h q hq; omega
  exact OnlyRaised.set u Fd.FLT_SAMECYC_SRC _ (q.ev.source / 32) 0 (quiet_samecyc hq)

theorem captureFirst_raised (s : State) (rs : List EventResult) (h : ∀ r ∈ rs, r.ev.source < 512) :
    OnlyRaised s (s.captureFirst rs) := by
  unfold State.captureFirst
  refine .ite (fun _ => .refl s) fun _ => ?_
  split
  · exact .refl s
  · exact .after (writeSamecyc_raised _ _ h) (writeFirst_raised _ _ _)

theorem countDrop_raised (s : State) (sev : Nat) (st : Stamp) : OnlyRaised s (s.countDrop sev st).1 := .of_part rfl rfl

theorem raiseNoRecord_raised (s : State) {src : Nat} (h : src < 512) : OnlyRaised s (s.raiseNoRecord src) := by
  unfold State.raiseNoRecord
  simp only []
  have hl : ∀ e ∈ [(⟨src, false, false, 0, 0⟩ : FaultEv)], e.source < 512 := by simpa using h
  refine (collectAll_raised _ s hl).trans (captureFirst_raised _ _ fun r hr => ?_)
  have hm : r.ev ∈ (s.collectAll [⟨src, false, false, 0, 0⟩]).2.map (·.ev) := List.mem_map_of_mem hr
  rw [collectAll_sources] at hm
  exact hl _ hm

theorem toPulse_raised (s : State) (src : Nat) : OnlyRaised s (s.toPulse src) := .of_part rfl rfl

theorem pulseNoRecord_raised (s : State) {src : Nat} (h : src < 512) : OnlyRaised s (s.pulseNoRecord src) :=
  (raiseNoRecord_raised s h).trans (toPulse_raised _ _)

theorem dropOffer_raised (s : State) (sev : Nat) (st : Stamp) : OnlyRaised s (s.dropOffer sev st) := by
  unfold State.dropOffer
  simp only []
  exact .ite (fun _ => (countDrop_raised s sev st).trans (pulseNoRecord_raised _ (by decide))) fun _ => countDrop_raised s sev st

/-- Offering a record. -/
theorem offer_raised (s : State) (r : Record) : OnlyRaised s (s.offer r) := by
  unfold State.offer
  split
  · exact .of_part rfl rfl
  · simp only []
    refine .ite (fun _ => .of_part rfl rfl) fun _ => .ite (fun _ => ?_) fun _ => dropOffer_raised _ _ _
    split
    · exact .after (dropOffer_raised _ _ _) (.of_part rfl rfl)
    · exact dropOffer_raised _ _ _

theorem offerEvent_raised (s : State) (rs : List EventResult) (r : EventResult) : OnlyRaised s (s.offerEvent rs r) := by
  unfold State.offerEvent
  exact .ite (fun _ => .refl s) fun _ => .ite (fun _ => .refl s) fun _ => offer_raised _ _

/-- One collector cycle. -/
theorem raiseCycle_raised (s : State) (l : List FaultEv) (h : ∀ e ∈ l, e.source < 512) : OnlyRaised s (s.raiseCycle l) := by
  unfold State.raiseCycle
  simp only []
  have hl : ∀ e ∈ (if l.any (·.inj) then l ++ [⟨289, false, false, 0, 0⟩] else l), e.source < 512 := by
    intro e he
    split at he
    · rcases List.mem_append.1 he with he | he
      · exact h e he
      · rw [List.mem_singleton.1 he]; decide
    · exact h e he
  generalize (if l.any (·.inj) then l ++ [⟨289, false, false, 0, 0⟩] else l) = evs at hl
  refine OnlyRaised.trans ?_ (.forEach _ _ (fun s r => offerEvent_raised s _ r) _)
  refine OnlyRaised.trans ?_ (captureFirst_raised _ _ fun r hr => ?_)
  · exact (collectAll_raised evs s hl).trans (.ite (fun _ => toPulse_raised _ _) fun _ => .refl _)
  · have hm := List.mem_map_of_mem (f := (·.ev)) hr
    rw [collectAll_sources] at hm
    exact hl _ hm

theorem raiseOn_raised (s : State) {src : Nat} (lanes domains : Nat) (h : src < 512) :
    OnlyRaised s (s.raiseOn src lanes domains) := by
  unfold State.raiseOn
  exact .ite (fun _ => .refl s) fun _ => raiseCycle_raised _ _ (by simpa using h)

theorem raise_raised (s : State) {src : Nat} (h : src < 512) : OnlyRaised s (s.raise src) := raiseOn_raised s 0 0 h

theorem pulseInj_raised (s : State) {src : Nat} (inj : Bool) (lanes domains : Nat) (h : src < 512) :
    OnlyRaised s (s.pulseInj src inj lanes domains) :=
  (raiseCycle_raised _ _ (by simpa using h)).trans (toPulse_raised _ _)

theorem pulseOn_raised (s : State) {src : Nat} (lanes domains : Nat) (h : src < 512) :
    OnlyRaised s (s.pulseOn src lanes domains) := pulseInj_raised s false lanes domains h

theorem pulse_raised (s : State) {src : Nat} (h : src < 512) : OnlyRaised s (s.pulse src) := pulseOn_raised s 0 0 h

theorem markClear_raised (s : State) {src : Nat} (h : src < 512) : OnlyRaised s (s.markClear src) :=
  .after (.set _ _ _ _ _ (quiet_clrGt h)) (.after (.set _ _ _ _ _ (quiet_clrSec h)) (.setB _ _ _ _ _ (quiet_sstat h)))

theorem notifyClear_raised (s : State) (src sev lanes : Nat) : OnlyRaised s (s.notifyClear src sev lanes) :=
  .ite (fun _ => notifyNow_raised _ _ _) fun _ => .refl s

theorem offerClear_raised (s : State) (src sev lanes domains : Nat) : OnlyRaised s (s.offerClear src sev lanes domains) :=
  .ite (fun _ => .refl s) fun _ => offer_raised _ _

/-- A clearance. -/
theorem clearSource_raised (s : State) {src : Nat} (h : src < 512) : OnlyRaised s (s.clearSource src) := by
  unfold State.clearSource
  exact .ite (fun _ => .after (offerClear_raised _ _ _ _ _) (.after (notifyClear_raised _ _ _ _) (markClear_raised s h)))
    fun _ => .refl s

/-- A COMMAND record. -/
theorem commandRecord_raised (s : State) (mb tag opcode status role oMb oTag id idx : Nat) (payload : List Word) :
    OnlyRaised s (s.commandRecord mb tag opcode status role oMb oTag id idx payload) := offer_raised _ _

end Sys2Proof.Machine
end

