-- ==== Sys2Proof/Laws/Commands.lean ====
section
/-!
SUPPORT. What taking, checking and answering a command of a mailbox can do, and the one lemma by which a command row is run.
-/

namespace Sys2Proof.Machine

/-! ### Mailboxes -/

@[simp] theorem mb_setMb_same (s : State) (m : Nat) (b : Mailbox) : (s.setMb m b).mb m = b := by
  simp [State.mb, State.setMb]

theorem mb_setMb_other (s : State) {m k : Nat} (b : Mailbox) (h : k ≠ m) : (s.setMb m b).mb k = s.mb k :=
  mapGet_mapSet_other _ _ b h

@[simp] theorem reg_setMb (s : State) (m : Nat) (b : Mailbox) (o : Nat) : (s.setMb m b).reg o = s.reg o := rfl

@[simp] theorem get_setMb (s : State) (m : Nat) (b : Mailbox) (f : Fld) (i j : Nat) : (s.setMb m b).get f i j = s.get f i j := rfl

/-! ### Fields that raising leaves alone -/

section
variable {s t : State} (h : OnlyRaised s t)
include h

theorem OnlyRaised.mbox : t.mbox = s.mbox := (congrArg State.mbox h.part : _)
theorem OnlyRaised.time : t.time = s.time := (congrArg State.time h.part : _)
theorem OnlyRaised.pending : t.pending = s.pending := (congrArg State.pending h.part : _)
theorem OnlyRaised.integ : t.integ = s.integ := (congrArg State.integ h.part : _)
theorem OnlyRaised.out : t.out = s.out := (congrArg State.out h.part : _)
theorem OnlyRaised.lane : t.lane = s.lane := (congrArg State.lane h.part : _)
theorem OnlyRaised.ref : t.ref = s.ref := (congrArg State.ref h.part : _)
theorem OnlyRaised.tdd : t.tdd = s.tdd := (congrArg State.tdd h.part : _)
theorem OnlyRaised.win : t.win = s.win := (congrArg State.win h.part : _)
theorem OnlyRaised.can : t.can = s.can := (congrArg State.can h.part : _)
theorem OnlyRaised.svy : t.svy = s.svy := (congrArg State.svy h.part : _)
theorem OnlyRaised.pos : t.pos = s.pos := (congrArg State.pos h.part : _)
theorem OnlyRaised.con : t.con = s.con := (congrArg State.con h.part : _)
theorem OnlyRaised.prot : t.prot = s.prot := (congrArg State.prot h.part : _)
theorem OnlyRaised.cx : t.cx = s.cx := (congrArg State.cx h.part : _)
theorem OnlyRaised.rce : t.rce = s.rce := (congrArg State.rce h.part : _)
theorem OnlyRaised.sns : t.sns = s.sns := (congrArg State.sns h.part : _)
theorem OnlyRaised.dram : t.dram = s.dram := (congrArg State.dram h.part : _)
theorem OnlyRaised.start : t.start = s.start := (congrArg State.start h.part : _)
theorem OnlyRaised.age : t.age = s.age := (congrArg State.age h.part : _)
theorem OnlyRaised.tap : t.tap = s.tap := (congrArg State.tap h.part : _)
theorem OnlyRaised.pci : t.pci = s.pci := (congrArg State.pci h.part : _)
theorem OnlyRaised.failAt : t.failAt = s.failAt := (congrArg State.failAt h.part : _)
theorem OnlyRaised.readyAt : t.readyAt = s.readyAt := (congrArg State.readyAt h.part : _)
theorem OnlyRaised.draws : t.draws = s.draws := (congrArg State.draws h.part : _)
theorem OnlyRaised.legend : t.fw.legend = s.fw.legend := (congrArg (fun x => x.fw.legend) h.part : _)
theorem OnlyRaised.lockHolder : t.fw.lockHolder = s.fw.lockHolder := (congrArg (fun x => x.fw.lockHolder) h.part : _)
theorem OnlyRaised.leaseEnd : t.fw.leaseEnd = s.fw.leaseEnd := (congrArg (fun x => x.fw.leaseEnd) h.part : _)
theorem OnlyRaised.orders : t.fw.orders = s.fw.orders := (congrArg (fun x => x.fw.orders) h.part : _)
theorem OnlyRaised.dones : t.fw.dones = s.fw.dones := (congrArg (fun x => x.fw.dones) h.part : _)
theorem OnlyRaised.captures : t.fw.captures = s.fw.captures := (congrArg (fun x => x.fw.captures) h.part : _)
theorem OnlyRaised.unlockEnd : t.flt.unlockEnd = s.flt.unlockEnd := (congrArg (fun x => x.flt.unlockEnd) h.part : _)
theorem OnlyRaised.armed : t.flt.armed = s.flt.armed := (congrArg (fun x => x.flt.armed) h.part : _)

theorem OnlyRaised.mb (m : Nat) : t.mb m = s.mb m := by unfold State.mb; rw [h.mbox]

theorem OnlyRaised.get (f : Fld) (i j : Nat) (hq : quiet (f.reg.off i j) = true) : t.get f i j = s.get f i j := by
  unfold State.get; rw [h.regs _ hq]

end

/-! ### Only answered -/

theorem OnlyAnswered.refl (m : Nat) (s : State) : OnlyAnswered m s s :=
  ⟨rfl, fun _ _ => rfl, rfl, ⟨[], by simp⟩, fun _ _ => rfl⟩

theorem OnlyAnswered.trans {m : Nat} {s t u : State} (h : OnlyAnswered m s t) (k : OnlyAnswered m t u) : OnlyAnswered m s u := by
  obtain ⟨a, ha⟩ := h.grows
  obtain ⟨b, hb⟩ := k.grows
  exact ⟨k.part.trans h.part, fun o ho => (k.regs o ho).trans (h.regs o ho), k.box.trans h.box,
    ⟨a ++ b, by rw [hb, ha, List.append_assoc]⟩, fun n hn => (k.others n hn).trans (h.others n hn)⟩

theorem OnlyRaised.answered {s t : State} (h : OnlyRaised s t) (m : Nat) : OnlyAnswered m s t :=
  ⟨congrArg (fun x : State => { x with mbox := [] }) h.part, h.regs, by rw [h.mb], ⟨[], by rw [h.mb]; simp⟩, fun k _ => h.mb k⟩

/-- A mailbox with another queue and more responses. -/
theorem OnlyAnswered.setMb (s : State) (m : Nat) (b : Mailbox)
    (hb : { b with queue := [], waiting := [] } = { s.mb m with queue := [], waiting := [] })
    (hw : ∃ more, b.waiting = (s.mb m).waiting ++ more) : OnlyAnswered m s (s.setMb m b) :=
  ⟨rfl, fun _ _ => rfl, by rw [mb_setMb_same]; exact hb, by rw [mb_setMb_same]; exact hw, fun _ hk => mb_setMb_other s b hk⟩

section
variable {m : Nat} {s t : State} (h : OnlyAnswered m s t)
include h

theorem OnlyAnswered.time : t.time = s.time := (congrArg State.time h.part : _)
theorem OnlyAnswered.pending : t.pending = s.pending := (congrArg State.pending h.part : _)
theorem OnlyAnswered.lane : t.lane = s.lane := (congrArg State.lane h.part : _)
theorem OnlyAnswered.ref : t.ref = s.ref := (congrArg State.ref h.part : _)
theorem OnlyAnswered.tdd : t.tdd = s.tdd := (congrArg State.tdd h.part : _)
theorem OnlyAnswered.win : t.win = s.win := (congrArg State.win h.part : _)
theorem OnlyAnswered.can : t.can = s.can := (congrArg State.can h.part : _)
theorem OnlyAnswered.svy : t.svy = s.svy := (congrArg State.svy h.part : _)
theorem OnlyAnswered.pos : t.pos = s.pos := (congrArg State.pos h.part : _)
theorem OnlyAnswered.con : t.con = s.con := (congrArg State.con h.part : _)
theorem OnlyAnswered.prot : t.prot = s.prot := (congrArg State.prot h.part : _)
theorem OnlyAnswered.rce : t.rce = s.rce := (congrArg State.rce h.part : _)
theorem OnlyAnswered.sns : t.sns = s.sns := (congrArg State.sns h.part : _)
theorem OnlyAnswered.start : t.start = s.start := (congrArg State.start h.part : _)
theorem OnlyAnswered.age : t.age = s.age := (congrArg State.age h.part : _)
theorem OnlyAnswered.pci : t.pci = s.pci := (congrArg State.pci h.part : _)
theorem OnlyAnswered.failAt : t.failAt = s.failAt := (congrArg State.failAt h.part : _)
theorem OnlyAnswered.draws : t.draws = s.draws := (congrArg State.draws h.part : _)
theorem OnlyAnswered.legend : t.fw.legend = s.fw.legend := (congrArg (fun x => x.fw.legend) h.part : _)
theorem OnlyAnswered.lockHolder : t.fw.lockHolder = s.fw.lockHolder := (congrArg (fun x => x.fw.lockHolder) h.part : _)
theorem OnlyAnswered.leaseEnd : t.fw.leaseEnd = s.fw.leaseEnd := (congrArg (fun x => x.fw.leaseEnd) h.part : _)
theorem OnlyAnswered.unlockEnd : t.flt.unlockEnd = s.flt.unlockEnd := (congrArg (fun x => x.flt.unlockEnd) h.part : _)
theorem OnlyAnswered.armed : t.flt.armed = s.flt.armed := (congrArg (fun x => x.flt.armed) h.part : _)
theorem OnlyAnswered.nonce : t.book.nonce = s.book.nonce := (congrArg (fun x => x.book.nonce) h.part : _)
theorem OnlyAnswered.key : t.book.key = s.book.key := (congrArg (fun x => x.book.key) h.part : _)
theorem OnlyAnswered.base : t.book.base = s.book.base := (congrArg (fun x => x.book.base) h.part : _)
theorem OnlyAnswered.apertures : t.book.apertures = s.book.apertures := (congrArg (fun x => x.book.apertures) h.part : _)

theorem OnlyAnswered.get (f : Fld) (i j : Nat) (hq : quiet (f.reg.off i j) = true) : t.get f i j = s.get f i j := by
  unfold State.get; rw [h.regs _ hq]

end

/-- An answer stays first among the responses added. -/
theorem answers_after {m : Nat} {s t u : State} {c : Command} {st : Nat} {p : List Word} (h : s.answers t m c st p)
    (k : OnlyAnswered m t u) : s.answers u m c st p := by
  obtain ⟨r, more, hw, hr⟩ := h
  obtain ⟨b, hb⟩ := k.grows
  exact ⟨r, more ++ b, by rw [hb, hw]; simp, hr⟩

/-- An answer of a state whose held responses are those of `s`. -/
theorem answers_from {m : Nat} {s t u : State} {c : Command} {st : Nat} {p : List Word} (h : t.answers u m c st p)
    (k : (t.mb m).waiting = (s.mb m).waiting) : s.answers u m c st p := by
  obtain ⟨r, more, hw, hr⟩ := h
  exact ⟨r, more, by rw [hw, k], hr⟩

/-! ### Taking and completing -/

theorem startOldest_answered (s : State) (m : Nat) : OnlyAnswered m s (s.startOldest m) :=
  .setMb s m _ rfl ⟨[], by simp⟩

@[simp] theorem startOldest_waiting (s : State) (m : Nat) : ((s.startOldest m).mb m).waiting = (s.mb m).waiting := by
  simp [State.startOldest]

theorem recordIf_answered (s : State) (yes : Bool) (role mb : Nat) (c : Command) (st m : Nat) :
    OnlyAnswered m s (s.recordIf yes role mb c st) := by
  unfold State.recordIf
  split
  · exact (commandRecord_raised ..).answered m
  · exact .refl m s

/-- Completing a command that was not answered ACCEPTED. -/
theorem complete_answered (s : State) (m : Nat) (c : Command) (st : Nat) (p : List Word) :
    OnlyAnswered m s (s.complete m c st p) := by
  unfold State.complete
  simp only []
  refine OnlyAnswered.trans ?_ (recordIf_answered ..)
  refine OnlyAnswered.trans ?_ (recordIf_answered ..)
  split
  · refine .trans (t := s.setMb m _) (.setMb s m _ ?_ ?_) ((notify_raised ..).answered m)
    · rfl
    · exact ⟨[], by simp⟩
  · exact .setMb s m _ rfl ⟨_, rfl⟩

theorem complete_answers (s : State) (m : Nat) (c : Command) (st : Nat) (p : List Word) (h : c.early = false) :
    s.answers (s.complete m c st p) m c st (p.take 63) := by
  unfold State.complete
  simp only [h, Bool.false_eq_true, if_false]
  refine answers_after (answers_after ?_ (recordIf_answered ..)) (recordIf_answered ..)
  unfold State.answers
  rw [mb_setMb_same]
  exact ⟨_, [], rfl, rfl, rfl, rfl⟩

theorem drainUndefined_answered (k : Nat) : ∀ (s : State) (m : Nat), OnlyAnswered m s (s.drainUndefined k m) := by
  induction k with
  | zero => intro s m; exact .refl m s
  | succ k ih =>
    intro s m
    simp only [State.drainUndefined]
    split
    · split
      · exact .refl m s
      · exact ((startOldest_answered s m).trans (complete_answered ..)).trans (ih _ m)
    · exact .refl m s

/-! ### Running a command row -/

/-- The command as its row executes it. -/
def State.begun (s : State) (c : Command) : Command := { c with started := true, startedAt := s.time.gt }

theorem checkCommand_startOldest (s : State) (m : Nat) (c : Command) (level : Nat) (p : Bool) (n : Nat) :
    (s.startOldest n).checkCommand m (s.begun c) level p = s.checkCommand m c level p := rfl

/-- A command row whose command runs: what its body does with the started command, then the answers to undefined opcodes behind it. -/
theorem runs_row {s : State} {mb op lv : Nat} {pm : Bool} {c : Command} (h : s.runs mb op lv pm c) (level : Command → Nat)
    (perm : State → Command → Bool) (hl : level (s.begun c) = lv) (hp : perm (s.startOldest mb) (s.begun c) = pm)
    (body : State → Command → State) :
    s.runCommand mb op (fun s c => s.checked mb c (level c) (perm s c) fun s => body s c) =
      (body (s.startOldest mb) (s.begun c)).drainUndefined 4 mb := by
  obtain ⟨_, hs, hr, ho, rfl, _, hc, hu⟩ := h
  have h1 : (s.startOldest mb).checkCommand mb (s.begun c) (level (s.begun c)) (perm (s.startOldest mb) (s.begun c)) = none := by
    rw [hl, hp]; exact hc
  have h2 : (s.startOldest mb).unserved (s.begun c) = false := hu
  unfold State.runCommand
  simp only [hs, hr, ho, Bool.and_self, if_true]
  change State.drainUndefined 4 ((s.startOldest mb).checked mb (s.begun c) (level (s.begun c)) (perm (s.startOldest mb) (s.begun c))
    fun u => body u (s.begun c)) mb = _
  unfold State.checked
  simp only [h1, h2, Bool.false_and, Bool.false_eq_true, if_false]

/-- A command row of a device that runs, of which the body keeps the timebase and the queue. -/
theorem runs_next {s : State} {mb op lv : Nat} {pm : Bool} {c : Command} (h : s.runs mb op lv pm c) (level : Command → Nat)
    (perm : State → Command → Bool) (body : State → Command → State) (hl : level (s.begun c) = lv)
    (hp : perm (s.startOldest mb) (s.begun c) = pm) (b : State) (hb : body (s.startOldest mb) (s.begun c) = b)
    (ht : b.time = s.time) (hq : b.pending = s.pending) :
    ∃ t, s.whenLive (.next (s.runCommand mb op fun s c => s.checked mb c (level c) (perm s c) fun s => body s c)) = .next t ∧
      OnlyAnswered mb b t := by
  subst hb
  have hd := drainUndefined_answered 4 (body (s.startOldest mb) (s.begun c)) mb
  refine ⟨_, ?_, hd⟩
  rw [runs_row h level perm hl hp]
  simp only [State.whenLive, h.1, if_true, State.keepTime]
  congr 1
  rw [← hq, ← ht, ← hd.time, ← hd.pending]

/-- A command row whose body ends in an answer of the state `b`. -/
theorem runs_complete {s : State} {mb op lv : Nat} {pm : Bool} {c : Command} (h : s.runs mb op lv pm c) (level : Command → Nat)
    (perm : State → Command → Bool) (body : State → Command → State) (hl : level (s.begun c) = lv)
    (hp : perm (s.startOldest mb) (s.begun c) = pm) (b : State) (st : Nat) (p : List Word)
    (hb : body (s.startOldest mb) (s.begun c) = b.complete mb (s.begun c) st p)
    (ht : b.time = s.time) (hq : b.pending = s.pending) (hw : (b.mb mb).waiting = (s.mb mb).waiting) :
    ∃ t, s.whenLive (.next (s.runCommand mb op fun s c => s.checked mb c (level c) (perm s c) fun s => body s c)) = .next t ∧
      s.answers t mb c st (p.take 63) ∧ OnlyAnswered mb b t := by
  have hc := complete_answered b mb (s.begun c) st p
  obtain ⟨t, e, hk⟩ := runs_next h level perm body hl hp _ hb (hc.time.trans ht) (hc.pending.trans hq)
  refine ⟨t, e, answers_after (answers_from ?_ hw) hk, hc.trans hk⟩
  exact complete_answers b mb (s.begun c) st p h.2.2.2.2.2.1

/-- A command row that only answers. -/
theorem runs_answers {s : State} {mb op lv : Nat} {pm : Bool} {c : Command} (h : s.runs mb op lv pm c) (level : Command → Nat)
    (perm : State → Command → Bool) (body : State → Command → State) (hl : level (s.begun c) = lv)
    (hp : perm (s.startOldest mb) (s.begun c) = pm) (st : Nat) (p : List Word)
    (hb : body (s.startOldest mb) (s.begun c) = (s.startOldest mb).complete mb (s.begun c) st p) :
    ∃ t, s.whenLive (.next (s.runCommand mb op fun s c => s.checked mb c (level c) (perm s c) fun s => body s c)) = .next t ∧
      s.answers t mb c st (p.take 63) ∧ OnlyAnswered mb s t := by
  obtain ⟨t, e, ha, hk⟩ := runs_complete h level perm body hl hp _ st p hb rfl rfl (startOldest_waiting s mb)
  exact ⟨t, e, ha, (startOldest_answered s mb).trans hk⟩

end Sys2Proof.Machine
end

