-- ==== Sys2Proof/WellFormed.lean ====
section
/-!
DEFINITION. Which commands are well formed: what the operands that a type does not bound may hold (addresses of a port's space,
indexes, sizes, the ranges of measured values). A command that is not well formed names no event of the hardware; the machine is total
all the same.
-/

namespace Sys2Proof

/-- Keys of a sparse list rise strictly. -/
def keysRise : List Nat → Bool
  | [] => true
  | [_] => true
  | a :: b :: l => decide (a < b) && keysRise (b :: l)

/-- A signed number of `n` bits. -/
def fits (n : Nat) (x : Int) : Bool := decide (-(2 ^ (n - 1) : Int) ≤ x) && decide (x < 2 ^ (n - 1))

/-- Complex subband samples of a tick, both rails of 20 bits, as of the estimate that stage 8 subtracts (R90). -/
def railsFit (l : List (Int × Int)) : Bool := l.all fun p => fits 20 p.1 && fits 20 p.2

/-- Size in bytes of the space a port addresses (Table 14.1). -/
def Port.space : Port → Nat
  | .datum => 0x40000
  | .chart => 0x40000
  | .bar2 => 0x80000
  | .bar0 => 0x10000

/-- An event names a source of Table 15.1, lanes and domains that exist. -/
def FaultEv.wellFormed (e : FaultEv) : Bool := decide (e.source < 512) && decide (e.lanes < 2 ^ 16) && decide (e.domains < 2 ^ 256)

/-- The fields of a record fit their places (Table 16.1). -/
def Record.wellFormed (r : Record) : Bool :=
  decide (r.typ < 256) && decide (r.source < 1024) && decide (r.sev < 4) && r.payload.length == 10

/-- What a stateless piece works for exists. -/
def PostSrc.wellFormed : PostSrc → Bool
  | .support _ => true
  | .powers p r => decide (p < 256) && decide (r < 1280)
  | .measure d => decide (d < 256)

/-- Lanes, subbands and samples of a tick that exist. -/
def TickInput.wellFormed (t : TickInput) : Bool :=
  (t.raw.all fun p => decide (p.1 < 16) && decide ((p.2.map Prod.fst).sum ≤ 3072) && p.2.all fun r => fits 14 r.2.1 && fits 14 r.2.2) &&
    (t.rx.all fun p => decide (p.1 < 16 * 2048) && railsFit p.2) &&
    (t.synth.all fun p => decide (p.1 < 16) && decide (p.2.length ≤ 1536)) &&
    (t.probe.all fun p => decide (p.1 < 16) && decide (p.2.length ≤ 1536)) &&
    (t.dac.all fun p => decide (p.1 < 16) && decide (p.2.length ≤ 3072)) &&
    t.posts.all fun p => p.src.wellFormed && decide (p.cycles ≤ 8)

/-- Lanes, domains, windows, channels and parties that exist, the presence pins eight. -/
def SheetInput.wellFormed (t : SheetInput) : Bool :=
  decide (t.presence < 256) && decide ((t.tacho0.map fun p => p.2.2).sum ≤ 125000) &&
    decide ((t.tacho1.map fun p => p.2.2).sum ≤ 125000) && (t.rx.all fun p => decide (p.1 < 16)) &&
    (t.tx.all fun p => decide (p.1 < 16)) && (t.obs.all fun p => decide (p.1 < 16)) &&
    (t.dom.all fun p => decide (p.1 < 256)) && (t.iso.all fun p => decide (p.1 < 16)) &&
    t.dram.all fun p => decide (p.1 < 4)

/-- A level of 16 bits and a burst's identity within its fields (Table 11.3). -/
def RecceResult.wellFormed : RecceResult → Bool
  | .found l ssb ident phase _ => fits 16 l && decide (ssb < 64) && decide (ident < 1024) && decide (phase < 2 ^ 24)
  | .notFound => true
  | .overload => true

/-- A header of 256 bytes and a body that a boot device holds (Table 18.3). -/
def BootImage.wellFormed (i : BootImage) : Bool := i.header.length == 256 && decide (i.body.length ≤ 16773120)

/-- Results for sides below `n`. -/
def sidesOf (n : Nat) (l : List (Nat × CalResult)) : Bool := l.all fun p => decide (p.1 < n)

/-- A command whose operands lie where the spec puts them. -/
def Instr.wellFormed : Instr → Bool
  | .doorbellRing _ => true
  | .doorbellAck _ => true
  | .cmdCopyDone _ => true
  | .responsePost _ => true
  | .notificationPost => true
  | .nop _ => true
  | .identify _ => true
  | .mbLevel _ => true
  | .notifyMask _ => true
  | .timestamp _ => true
  | .restart _ => true
  | .get _ => true
  | .set _ => true
  | .stage _ => true
  | .commit _ => true
  | .discard _ => true
  | .describe _ => true
  | .atlasLoad _ => true
  | .atlasLoadDone bytes => keysRise (bytes.map Prod.fst)
  | .atlasSwitch _ => true
  | .atlasStatus _ => true
  | .posFix _ => true
  | .posRoute _ => true
  | .passage _ => true
  | .winConfig _ => true
  | .winEnable _ => true
  | .routeLoad _ => true
  | .trimLoad _ => true
  | .firLoad _ => true
  | .bankApply _ => true
  | .winStatus _ => true
  | .pathConfig _ => true
  | .amapLoad _ => true
  | .pathEnable _ => true
  | .pathStatus _ => true
  | .domainMode _ => true
  | .laneTx _ => true
  | .laneTune _ => true
  | .beamSet _ => true
  | .laneConfig _ => true
  | .captureArm _ => true
  | .captureTrigger => true
  | .captureDone data => keysRise (data.map Prod.fst)
  | .captureAbort _ data => keysRise (data.map Prod.fst)
  | .captureRead _ => true
  | .captureStatus _ => true
  | .loopMeasure _ => true
  | .calStart _ => true
  | .pmcExport _ => true
  | .pmcStatus _ => true
  | .fbStatus _ => true
  | .fbRead _ _ => true
  | .fbNonce _ => true
  | .fbSeek _ => true
  | .fbClearCompat _ => true
  | .fbClear _ => true
  | .fbKey _ => true
  | .protStatus _ => true
  | .protStop _ => true
  | .protRelease _ => true
  | .faultStatus _ => true
  | .faultClear _ => true
  | .fiUnlock _ => true
  | .fiInject _ => true
  | .freeze _ => true
  | .startStatus _ => true
  | .startRetry _ => true
  | .imageWrite _ => true
  | .ageStatus _ => true
  | .ageReplan _ => true
  | .ageBaseline _ => true
  | .ageRead _ => true
  | .lockAcquire _ => true
  | .lockRenew _ => true
  | .lockRelease _ => true
  | .lockBreak _ => true
  | .lockStatus _ => true
  | .lockLeaseExpiry => true
  | .registerWrite port addr _ _ => decide (addr < port.space)
  | .clearingRead port addr _ => decide (addr < port.space)
  | .aliasAccess _ addr _ => decide (addr < 0x800000)
  | .sspiTransaction opening data reads => if opening.getLsbD 31 then reads == 0 else data.isEmpty
  | .gtSecRead => true
  | .poolUsedRead _ => true
  | .stDataRead _ => true
  | .jres0Read _ _ => true
  | .valLoRead _ _ => true
  | .ap0Read _ _ => true
  | .ap15Read _ => true
  | .tblDataAccess _ _ => true
  | .amapDataAccess _ _ => true
  | .rseqDataAccess _ _ _ => true
  | .wctlEnWrite _ _ _ => true
  | .wctlSwap _ _ _ => true
  | .pcfg0EnWrite _ _ _ => true
  | .calCtlRxStart _ _ _ => true
  | .calCtlTxStart _ _ _ => true
  | .calibrationEnd _ _ _ => true
  | .svyFence _ _ => true
  | .snsCal0 _ _ => true
  | .snsCal1 _ _ => true
  | .snsSwap _ _ => true
  | .injReqGo _ _ => true
  | .pmcClear _ _ => true
  | .loopStart _ _ _ => true
  | .loopMeasureEnd _ scan => scan.taps.all fun c => decide (c.branch < 2) && decide (c.tx < 2) && decide (c.lag ≤ 1023)
  | .swTrig _ _ _ => true
  | .ageNow _ _ => true
  | .sealWrite _ _ _ => true
  | .sealHoldWrite _ _ _ => true
  | .sealHoldTimeout _ => true
  | .sweepPassDone _ => true
  | .scfgFreqWrite _ _ _ => true
  | .lsrcWrite _ _ _ => true
  | .txEnWrite _ _ _ => true
  | .rxEnWrite _ _ _ => true
  | .dctlEnWrite _ _ _ => true
  | .ccfg3EnWrite _ _ _ => true
  | .conEnWrite _ _ => true
  | .alertSwWrite _ _ => true
  | .tddCtlWrite _ _ => true
  | .rceCtlWrite _ _ => true
  | .gridTickBoundary inp => inp.wellFormed
  | .oscClosure _ => true
  | .gateClose _ i => decide (i < 1280)
  | .pieceCompletion _ name row _ _ cycle => decide (row < 1280) && decide (cycle < 2000) && (match name with
    | .path _ => true
    | .posted src => src.wellFormed)
  | .tickClose => true
  | .reexecDeadline => true
  | .engineWatchdog _ => true
  | .residueFailure _ => true
  | .svyEccCe _ => true
  | .svyEccUe _ _ => true
  | .crossbarParity _ => true
  | .coverTestDone => true
  | .sheetBoundary inp => inp.wellFormed
  | .contourLost _ _ => true
  | .contourFrozen _ _ => true
  | .supHoldExpiry _ => true
  | .guardExpiry _ => true
  | .plausMaxReached _ _ => true
  | .presenceAssert _ => true
  | .trackEmpty _ => true
  | .corrStale _ _ => true
  | .rowReloadDone _ row => decide (row < 1280)
  | .cutEnd _ row => decide (row < 1280)
  | .skHalfEnd _ row => decide (row < 1280)
  | .checkpointGenerationStart => true
  | .checkpointGenerationDone => true
  | .counterDump => true
  | .operatingSecond => true
  | .recceJobDue _ => true
  | .recceJobStart pa pb _ => fits 16 pa && fits 16 pb
  | .recceJobEnd r => r.wellFormed
  | .resultPost => true
  | .synrcUnlock => true
  | .surveyStale _ => true
  | .cxReqAssert _ _ => true
  | .cxPriAssert _ => true
  | .deferralTimeout _ => true
  | .cxGntAssert _ => true
  | .cxReqDeassert _ => true
  | .cxMaxHold _ => true
  | .cxOgntDeassert => true
  | .ograntTimeout => true
  | .senseSlot _ _ => true
  | .senseSequenceEnd => true
  | .injectedConversion _ _ _ => true
  | .snsCalStep _ _ => true
  | .snsCalDue _ _ => true
  | .clrFloorTrip _ => true
  | .nrsTrip _ => true
  | .emsTrip _ => true
  | .spurTrip step => decide (step ≤ 7500000)
  | .protHoldRelease _ _ _ => true
  | .datumTickTimeout => true
  | .datumRestart => true
  | .datumRestartDone => true
  | .faultEvent events => !events.isEmpty && events.all FaultEv.wellFormed
  | .faultClearance _ => true
  | .pairInvalid _ => true
  | .faultReaction => true
  | .escIntervalEnd _ => true
  | .alertPulseEnd => true
  | .synLock _ => true
  | .synSettled _ => true
  | .synUnlock _ => true
  | .lockAttemptTimeout _ => true
  | .txPendingTimeout _ => true
  | .refInvalid _ => true
  | .refRevert => true
  | .holdoverLong => true
  | .ppsEdge _ => true
  | .tddResultTimeout => true
  | .tddHoldoverExpiry => true
  | .tddStep => true
  | .segmentStart _ _ => true
  | .patternChange _ => true
  | .guardWaitEnd _ _ => true
  | .rffeSequenceStart _ _ _ _ => true
  | .rffeSequenceEnd _ _ _ => true
  | .recordOffer r => r.wellFormed
  | .recordWrite _ => true
  | .dropsOffer => true
  | .nonceLapse => true
  | .authBusyEnd => true
  | .fiUnlockLapse => true
  | .dramUe _ entry => entry.all fun e => decide (e < 4 * 65536)
  | .dramCmdTimeout _ => true
  | .lockstepMismatch => true
  | .failoverTakeover => true
  | .warmRestartDone _ => true
  | .vinValid => true
  | .railsReady _ => true
  | .vinLoss => true
  | .vinLow _ => true
  | .resetNAssert => true
  | .resetNRelease _ => true
  | .datumOrderedStart _ => true
  | .romBootDone _ trained ref1 ref2 _ _ => decide (trained < 16) && decide (ref1 < 8) && decide (ref2 < 8)
  | .imageVerifyDone img => img.wellFormed
  | .startCalDone rx tx sns => sidesOf 16 rx && sidesOf 16 tx && sidesOf 2 sns
  | .sketchEntry => true
  | .trainingRamp => true
  | .fullEntry => true
  | .startFailTimeout => true
  | .failCountClear => true
  | .freezeNAssert => true
  | .perstNAssert => true
  | .perstNDeassert _ _ _ => true
  | .pciLink => true
  | .insetSel _ word => decide (word < 2 ^ 32)
  | .insetRead _ _ => true
  | .insetStat => true
  | .extest pins data => pins.length == data.length
  | .samplePreload pins data => pins.length == data.length
  | .bypass _ => true
  | .testLogicReset => true
  | .periodicReplanDue => true
  | .replanDone used => used.length == 8 && used.all fun u => decide (u < 65536)
  | .ageCanary _ => true
  | .recalDue _ _ => true
  | .imageWriteDone img => img.wellFormed
  | .counterWrap _ n => decide (1 ≤ n)
  | .linkL0Return _ _ _ => true

end Sys2Proof
end

