-- ==== Sys2Proof/Tests/Slice0.lean ====
section
/-!
SUPPORT. Tests. Each `test_hyps_…` shows concrete states and operands that meet the hypotheses of one statement, clause by clause, at
boundary values where a clause has a range; each `test_ill_…` a command that `Instr.wellFormed` refuses; the others check an effect
against the worked examples and tables of the spec.
-/

namespace Sys2Proof.Tests

open Sys2Proof Sys2Proof.Machine

/-! ### Helpers -/

/-- A device in service: the start is over and the Chart pair serves. -/
def live : State :=
  { State.reset with start := { State.reset.start with phase := 0 }, csr := [(Reg.MBX_CSTAT.off 0 0, 0x80000000)] }

/-- A command with its payload, tag 7, at the host's level. -/
def cmd (op : Nat) (ws : List Word) : Command :=
  { opcode := op, tag := 7, len := ws.length, flags := 0, payload := ws, level := 3, acceptedAt := 0, bookSeq := 5, started := false
    startedAt := 0, early := false, fo := false }

/-- A state with one command in the queue of a mailbox. -/
def queued (s : State) (mb op : Nat) (ws : List Word) : State :=
  { s with mbox := [(mb, { Mailbox.reset with tokens := 3, queued := 1, queue := [cmd op ws] })] }

/-- The device in service with one command in the queue of a mailbox. -/
def asked (mb op : Nat) (ws : List Word) : State := queued live mb op ws

/-- What a command leaves. -/
def after (o : Out) : State := match o with
  | .next t => t
  | _ => State.reset

/-- The device in service at a grid tick. -/
def at_ (gt : Nat) : State := { live with time := { live.time with gt := gt } }

/-! ### The queue, time, reset -/

theorem test_hyps_StepRunsFrontCommand : { live with pending := [.nop 0, .tickClose] }.pending = .nop 0 :: [.tickClose] := by decide

theorem test_hyps_StepConsumesOneCommand :
    exec .tickClose live = .next (after (exec .tickClose live)) ∧ step live = .next (after (step live)) ∧ State.reset.pending = [] :=
  ⟨rfl, rfl, rfl⟩

theorem test_hyps_BoundariesMoveTime :
    live.alive = true ∧ live.start.phase ≠ 1 ∧ (at_ 80).sheetDue = true ∧ (at_ 81).sheetDue = false ∧
      live.toSheet.start.frozen = false ∧ (at_ 640000).time.secBase + 640000 ≤ (at_ 640000).time.gt ∧
      (at_ 639999).time.gt < (at_ 639999).time.secBase + 640000 := by decide

theorem test_hyps_OnlyBoundariesMoveTime :
    movesTime .tickClose = false ∧ exec .tickClose live = .next (after (exec .tickClose live)) := ⟨by decide, rfl⟩

theorem test_hyps_OperatingTimeNeverGoesBack :
    State.reset.time.Kept ∧ ({ State.reset.time with opSec := 1, pwrCyc := 0xFFFFFF } : Time).Kept ∧
      step live = .next (after (step live)) := ⟨by unfold Time.Kept; decide, by unfold Time.Kept; decide, rfl⟩

theorem test_hyps_StoppedDeviceIsInert :
    worksStopped (.nop 0) = false ∧ { live with start := { live.start with frozen := true } }.alive = false ∧
      { live with start := { live.start with inReset := true } }.alive = false ∧
      { live with start := { live.start with good := false } }.alive = false := by decide

/-! ### Mailboxes -/

/-- Mailbox 2 enabled. -/
def on2 : State := live.setB Fd.MBX_MBCFG_EN true 2

theorem test_hyps_DoorbellsMoveTokens :
    on2.alive = true ∧ 1 ≤ (on2.mb 2).tokens ∧ (on2.mb 2).cmdBusy = false ∧ on2.getB Fd.MBX_MBCFG_EN 2 = true ∧
      (on2.mb 2).owesReset = false ∧ ((on2.setMb 2 { Mailbox.reset with tokens := 0 }).mb 2).tokens = 0 ∧
      ((on2.setMb 2 { Mailbox.reset with rspValid := true }).mb 2).rspValid = true ∧ (on2.mb 2).rspValid = false ∧
      ((on2.setMb 15 { Mailbox.reset with rspValid := true }).mb 15).rspValid = true := by decide

def answer : Response := ⟨cmd 0x00 [], 0, 7, 0, [], 0, 0⟩
def notice : Notification := ⟨0xF1, 0, ⟨0, 0, 0⟩, [], 0⟩
def noticed (raised queue : List Notification) : State :=
  { live with fw := { live.fw with notices := { live.fw.notices with raised := raised, queue := queue } } }

theorem test_hyps_CommandsEnterAndResponsesPost :
    (let s := live.setMb 2 { Mailbox.reset with cmdBusy := true }
     s.alive = true ∧ (s.mb 2).cmdBusy = true ∧
      ∀ c ∈ (s.mb 2).queue ++ [(s.mb 2).copied], opcodeDefined c.opcode = true) ∧
    (let s := live.setMb 2 { Mailbox.reset with waiting := [answer] }
     (s.mb 2).rspValid = false ∧ takeFirst (fun r => decide (r.postAt ≤ s.time.gt)) (s.mb 2).waiting = some (answer, [])) ∧
    (let s := noticed [] [notice]
     s.alive = true ∧ (s.mb 15).rspValid = false ∧ s.fw.notices.queue = notice :: []) ∧
    (let s := noticed [notice] (List.replicate 63 notice)
     s.alive = true ∧ s.fw.notices.queue.length < 64 ∧
      takeFirst (fun n => decide (n.postAt ≤ s.time.gt)) s.fw.notices.raised = some (notice, [])) := by decide

theorem test_hyps_TokensConserved :
    (let s := on2.setMb 2 { Mailbox.reset with rspValid := true, tokens := 3, queued := 1 }
     1 ≤ (s.mb 2).queued ∧ (s.mb 2).tokens + (s.mb 2).queued = 4 ∧ (on2.mb 2).tokens + (on2.mb 2).queued = 4) ∧
    exec (.doorbellRing 2) on2 = .next (after (exec (.doorbellRing 2) on2)) := ⟨by decide, rfl⟩

theorem test_hyps_ChecksRefuseInOrder :
    (let s := asked 2 0x02 []
     s.alive = true ∧ s.serves 0x02 = true ∧ s.romServes 2 = true ∧ s.oldest 2 = some (cmd 0x02 []) ∧ lengthOk (cmd 0x02 []) = false) ∧
    (let c := { cmd 0x02 [1] with flags := 4 }
     let s := live.setMb 2 { Mailbox.reset with queue := [c] }
     s.alive = true ∧ s.serves 0x02 = true ∧ s.oldest 2 = some c ∧ lengthOk c = true ∧ c.len ≤ 63 ∧ c.flags / 4 ≠ 0) ∧
    (let c := { cmd 0x02 [1] with flags := 3, level := 2 }
     let s := live.setMb 2 { Mailbox.reset with queue := [c] }
     s.alive = true ∧ s.serves 0x02 = true ∧ s.oldest 2 = some c ∧ lengthOk c = true ∧ c.flags / 4 = 0 ∧ c.level < 3) := by decide

theorem test_hyps_SystemCommandsAct :
    (asked 2 0x00 [5]).runs 2 0x00 1 false (cmd 0x00 [5]) ∧ (asked 2 0x01 []).runs 2 0x01 1 false (cmd 0x01 []) ∧
      (asked 2 0x04 []).runs 2 0x04 1 false (cmd 0x04 []) ∧ (asked 2 0x02 [0x100]).runs 2 0x02 3 false (cmd 0x02 [0x100]) ∧
      (asked 2 0x02 [0x113]).runs 2 0x02 3 false (cmd 0x02 [0x113]) ∧
      (asked 2 0x03 [0xFFFF]).runs 2 0x03 3 false (cmd 0x03 [0xFFFF]) ∧
      (asked 2 0x05 [0x52455354]).runs 2 0x05 3 false (cmd 0x05 [0x52455354]) ∧
      (asked 2 0x05 [0]).runs 2 0x05 3 false (cmd 0x05 [0]) := by simp only [State.runs]; (repeat' apply And.intro) <;> decide +kernel

def locked (h : Nat) (s : State) : State := { s with fw := { s.fw with lockHolder := some h, leaseEnd := 10 } }

theorem test_hyps_MaintenanceLockGoverns :
    (asked 2 0xE0 [1]).runs 2 0xE0 1 false (cmd 0xE0 [1]) ∧ (locked 3 (asked 2 0xE0 [3600])).runs 2 0xE0 1 false (cmd 0xE0 [3600]) ∧
      (locked 2 (asked 2 0xE1 [3600])).runs 2 0xE1 1 false (cmd 0xE1 [3600]) ∧ (asked 2 0xE1 [1]).runs 2 0xE1 1 false (cmd 0xE1 [1]) ∧
      (locked 2 (asked 2 0xE2 [])).runs 2 0xE2 1 false (cmd 0xE2 []) ∧ (asked 2 0xE2 []).runs 2 0xE2 1 false (cmd 0xE2 []) ∧
      (locked 3 (asked 2 0xE3 [])).runs 2 0xE3 3 false (cmd 0xE3 []) ∧ (asked 2 0xE3 []).runs 2 0xE3 3 false (cmd 0xE3 []) ∧
      (asked 2 0xE4 []).runs 2 0xE4 1 false (cmd 0xE4 []) ∧ (locked 2 live).alive = true ∧ (locked 2 live).fw.lockHolder = some 2 ∧
      (locked 2 live).time.opSec < (locked 2 live).fw.leaseEnd ∧
      (let s := locked 2 { live with time := { live.time with opSec := 10 } }; s.fw.leaseEnd ≤ s.time.opSec) := by
  simp only [State.runs]; (repeat' apply And.intro) <;> decide +kernel

/-! ### The Legend -/

theorem test_hyps_LegendReadsAndStages :
    (asked 2 0x10 [0x0040, 1]).runs 2 0x10 2 false (cmd 0x10 [0x0040, 1]) ∧ (cmd 0x10 [0x0040, 1]).legFault 62 = none ∧
      (asked 2 0x15 [0x0041]).runs 2 0x15 2 false (cmd 0x15 [0x0041]) ∧ (findParam (cmd 0x15 [0x0041]).legId).isSome = true ∧
      (asked 2 0x15 [0x10041]).runs 2 0x15 2 false (cmd 0x15 [0x10041]) ∧ (findParam (cmd 0x15 [0x10041]).legId).isSome = true ∧
      (let c := cmd 0x12 [0x0040, 1, 7]
       (asked 2 0x12 [0x0040, 1, 7]).runs 2 0x12 c.legLevel false c ∧ c.legFault 61 = none ∧
        (asked 2 0x12 [0x0040, 1, 7]).commitRuns 2 = false ∧ c.legElems.any elemBad = false ∧
        (c.legElems.foldl stageElem ((asked 2 0x12 [0x0040, 1, 7]).mb 2).staging).length ≤ 4096) ∧
      (asked 2 0x14 []).runs 2 0x14 1 false (cmd 0x14 []) ∧ (asked 2 0x14 []).commitRuns 2 = false := by
  simp only [State.runs]; (repeat' apply And.intro) <;> decide +kernel

theorem test_hyps_LegendSetsWaitForBoundary :
    (let c := cmd 0x11 [0x0040, 1, 7]
     let s := asked 2 0x11 [0x0040, 1, 7]
     s.runs 2 0x11 c.legLevel (s.setPermissive c.legElems) c ∧ c.legFault 61 = none ∧ s.failingElem c.legElems = none) ∧
    (let c := cmd 0x11 [0x0040, 1, 8]
     let s := asked 2 0x11 [0x0040, 1, 8]
     s.runs 2 0x11 c.legLevel (s.setPermissive c.legElems) c ∧ c.legFault 61 = none ∧ s.failingElem c.legElems = some ⟨0x40, 0, 8⟩) ∧
    (let c := cmd 0x13 []
     let s := live.setMb 2 { Mailbox.reset with queue := [c], staging := [⟨0x40, 0, 1⟩] }
     s.runs 2 0x13 3 (s.setPermissive (s.mb 2).staging) c ∧ s.commitRuns 2 = false ∧ s.failingElem (s.mb 2).staging = none) ∧
    (let c := cmd 0x13 []
     let s := live.setMb 2 { Mailbox.reset with queue := [{ c with started := true, tag := 6 }, c], staging := [] }
     s.runs 2 0x13 3 (s.setPermissive (s.mb 2).staging) c ∧ s.commitRuns 2 = true) := by
  simp only [State.runs]; (repeat' apply And.intro) <;> decide +kernel

/-! ### Atlas and position -/

def posIn (mode : Nat) (s : State) : State := s.set Fd.POS_CTL_MODE mode

theorem test_hyps_PositionBlockActs :
    (let s := posIn 1 (asked 2 0x20 [0, 0, 0])
     s.runs 2 0x20 3 true (cmd 0x20 [0, 0, 0]) ∧ s.posOff = false ∧ s.pos.load = none ∧ s.getB Fd.POS_ATLAS_SW_PEND = false) ∧
    (let q : PosWait := ⟨2, cmd 0x20 [0, 0, 0]⟩
     let s := { posIn 1 live with pos := { live.pos with load := some q } }
     s.alive = true ∧ s.pos.load = some q ∧ q.cmd.early = false) ∧
    (let s := (posIn 1 (asked 2 0x21 [])).setSlotValid 1 true
     s.runs 2 0x21 3 true (cmd 0x21 []) ∧ s.posOff = false ∧ s.pos.load = none ∧
      s.slotValid (1 - s.get Fd.POS_ATLAS_ACT_SLOT) = true) ∧
    (asked 2 0x22 []).runs 2 0x22 2 false (cmd 0x22 []) ∧
    (posIn 1 (asked 2 0x23 [0, 0, 1, 0, 0])).runs 2 0x23 3 false (cmd 0x23 [0, 0, 1, 0, 0]) ∧ sigmaOk 1 = true ∧ sigmaOk 1000000 = true ∧
    sigmaOk 1000001 = false ∧ sigmaOk 0 = false ∧ (posIn 2 live).get Fd.POS_CTL_MODE = 2 ∧
    (posIn 1 (asked 2 0x24 [1, 9])).runs 2 0x24 3 false (cmd 0x24 [1, 9]) ∧ (posIn 1 (asked 2 0x24 [1, 9])).posOff = false ∧
    (asked 2 0x24 [0]).runs 2 0x24 3 false (cmd 0x24 [0]) ∧
    (asked 2 0x24 [9, 1, 2, 3, 4, 5, 6, 7, 8, 9]).runs 2 0x24 3 false (cmd 0x24 [9, 1, 2, 3, 4, 5, 6, 7, 8, 9]) ∧
    (posIn 2 (asked 2 0x25 [0, 0, 1, 0, 0, 0])).runs 2 0x25 3 false (cmd 0x25 [0, 0, 1, 0, 0, 0]) ∧
    (let s := (posIn 2 live).setB Fd.POS_PRES_EN true 3
     let s := { s with pos := { s.pos with presHold := [(3, 1)] } }
     s.alive = true ∧ s.get Fd.POS_CTL_MODE = 2 ∧ s.getB Fd.POS_PRES_EN 3 = true ∧ s.getB Fd.POS_PRES_STATE 3 = false ∧
      1 ≤ mapGet 0 s.pos.presHold 3) ∧
    (let s := posIn 2 live
     let s := { s with pos := { s.pos with track0 := { Track.reset with occupied := true } } }
     s.alive = true ∧ (s.track 0).occupied = true ∧ s.presenceOn 0 = false) := by
  simp only [State.runs]; (repeat' apply And.intro) <;> decide +kernel

/-! ### Windows, paths, lanes, domains -/

/-- RXL1, RXL2, TXL1 and TXL2 tuned to 2 GHz. -/
def tuned (s : State) : State :=
  forEach [1, 2] s fun s n => (s.setReg (Reg.SYN_LSRC.off n 0) 0x88).set Fd.SYN_SCFG_FREQ 2000000 0

/-- The words of a WIN_CONFIG of window 3: profile 1, branch lanes 1 and 2, 40 subbands from 24 on. -/
def winWords : List Word := [3, 0x100, 0x2121, 0x280018, 0x280018, 0, 0x1000, 0]

theorem test_hyps_WindowConfigurationWrites :
    (let c := cmd 0x30 winWords
     let s := tuned (asked 2 0x30 winWords)
     s.runs 2 0x30 3 true c ∧ (s.putWinConfig 3 c).loBad 3 = false ∧ wbits (c.word 2) 9 8 ≠ 0 ∧
      ((asked 2 0x30 winWords).putWinConfig 3 c).loBad 3 = true ∧ (s.setB Fd.CHN_WCTL_EN true 3).runs 2 0x30 3 true c ∧ s.fw.dones = [] ∧ maskClear (c.word 2).toNat 0x00FF1300 = 0 ∧ bit (c.word 2).toNat 19 = false ∧
      contentErr (wbits (c.word 2) 9 8) (wbits (c.word 2) 17 16) (c.word 3) (c.word 4) (c.word 5) (c.word 6) (c.word 7) = 0 ∧
      s.getB Fd.CHN_WCTL_EN 3 = false ∧ s.pathsName 3 = false) ∧
    (asked 2 0x36 [3]).runs 2 0x36 2 false (cmd 0x36 [3]) ∧
    (let c := cmd 0x32 [0x04FF0003, 1, 0x40000000]
     (asked 2 0x32 [0x04FF0003, 1, 0x40000000]).runs 2 0x32 3 true c ∧ wbits (c.word 1) 26 16 + 1 = 1280 ∧
      (((c.payload.drop 2).take 1).all fun v => v.toNat &&& 0x3F00FFFF == 0) = true) ∧
    (let c := cmd 0x32 [0x05000003, 1, 0]
     (asked 2 0x32 [0x05000003, 1, 0]).runs 2 0x32 3 true c ∧ 1280 < wbits (c.word 1) 26 16 + 1) ∧
    (let c := cmd 0x33 (3 :: List.replicate 32 0)
     (asked 2 0x33 (3 :: List.replicate 32 0)).runs 2 0x33 3 true c ∧
      (nth ((c.payload.drop 1).take 32) 0).toNat &&& 0xFFF8F800 = 0 ∧ ((((c.payload.drop 1).take 32).drop 22).all fun v => v == 0) = true) ∧
    (let c := cmd 0x34 [0x01000003, 1, 9]
     (asked 2 0x34 [0x01000003, 1, 9]).runs 2 0x34 3 true c ∧ wbits (c.word 1) 24 16 + 1 = 257) ∧
    (let c := cmd 0x34 [0x01010003, 1, 9]
     (asked 2 0x34 [0x01010003, 1, 9]).runs 2 0x34 3 true c ∧ 257 < wbits (c.word 1) 24 16 + 1) := by
  simp only [State.runs]; (repeat' apply And.intro) <;> decide +kernel

theorem test_hyps_WindowOrdersWait :
    (let c := cmd 0x31 [3, 1]
     let s := asked 2 0x31 [3, 1]
     s.runs 2 0x31 3 true c ∧ s.fw.dones = [] ∧ (maskList (wbits (c.word 1) 15 0) 16).filter (fun w => bit (wbits (c.word 2) 15 0) w) ≠ [] ∧
      (maskList (wbits (c.word 1) 15 0) 16).filter (fun w => !bit (wbits (c.word 2) 15 0) w) ≠ []) ∧
    (let c := cmd 0x31 [1, 0]
     let s := asked 2 0x31 [1, 0]
     s.runs 2 0x31 3 true c ∧ s.enableFault [] s.enabledWindows = none) ∧
    (let c := cmd 0x31 [1, 1]
     let s := asked 2 0x31 [1, 1]
     s.runs 2 0x31 3 true c ∧ (s.enableFault [0] s.enabledWindows).isSome = true) ∧
    (let c := cmd 0x35 [1]
     let s := asked 2 0x35 [1]
     s.runs 2 0x35 3 true c ∧ s.pendingFault [0] 0 = none ∧ s.getB Fd.CHN_WSTAT_SWAP_PEND 0 = false ∧ s.win.applies = []) ∧
    (let c := cmd 0x35 [1]
     let s := (asked 2 0x35 [1]).setB Fd.CHN_WSTAT_SWAP_PEND true 0
     s.runs 2 0x35 3 true c ∧ s.getB Fd.CHN_WSTAT_SWAP_PEND 0 = true) ∧
    (let c := cmd 0x35 [1]
     let s := ((asked 2 0x35 [1]).set Fd.CHN_WCTL_PROFILE 1 0).set Fd.CHN_WRX_COUNT 2 0
     let s := { s with win := { s.win with pendTab := [(bankKey 0 0 0 0, 0x40000000), (bankKey 0 0 0 1, 0x40010000)] } }
     s.runs 2 0x35 3 true c ∧ maskList (wbits (c.word 1) 15 0) 16 = [0] ∧ s.pendingFault [0] 0 = none) := by
  simp only [State.runs]; (repeat' apply And.intro) <;> decide +kernel

theorem test_hyps_LaneOrdersAct :
    (let s := asked 2 0x3C [1, 1]
     s.runs 2 0x3C 3 true (cmd 0x3C [1, 1]) ∧ s.fw.dones = [] ∧ bit 1 0 = true ∧ s.getB Fd.LANE_CTL_TX_EN 0 = false) ∧
    (let s := (asked 2 0x3C [1, 1]).setB Fd.LANE_CTL_TX_EN true 0
     s.runs 2 0x3C 3 true (cmd 0x3C [1, 1]) ∧ s.getB Fd.LANE_CTL_TX_EN 0 = true) ∧
    (let s := asked 2 0x3D [1, 380000]
     s.runs 2 0x3D 3 true (cmd 0x3D [1, 380000]) ∧ s.lane.tunes = [] ∧ s.retuneForbidden 1 = false ∧
      s.get Fd.SYN_SCFG_FREQ 1 ≠ 380000 ∧ (s.writeFreq 1 380000).getB Fd.SYN_SSTAT_SETTLED 1 = false) ∧
    (let s := (((asked 2 0x3D [1, 380000]).set Fd.SYN_SCFG_FREQ 380000 1).set Fd.SYN_SSTAT_STATE 2 1).setB Fd.SYN_SSTAT_SETTLED true 1
     s.runs 2 0x3D 3 true (cmd 0x3D [1, 380000]) ∧ s.get Fd.SYN_SCFG_FREQ 1 = 380000 ∧
      (s.writeFreq 1 380000).getB Fd.SYN_SSTAT_SETTLED 1 = true) ∧
    (asked 2 0x3D [1, 7200000]).runs 2 0x3D 3 true (cmd 0x3D [1, 7200000]) ∧
    (asked 2 0x3D [1, 379999]).runs 2 0x3D 3 true (cmd 0x3D [1, 379999]) ∧
    (asked 2 0x3D [1, 7200001]).runs 2 0x3D 3 true (cmd 0x3D [1, 7200001]) ∧
    (let c := cmd 0x3E [0x10, 0, 639999]
     let s := asked 2 0x3E [0x10, 0, 639999]
     let s := { s with tdd := { s.tdd with words := [(1, 0x50000000)] } }
     s.runs 2 0x3E 3 true c ∧ wbits (s.rffeWord 0 1) 31 28 = 5 ∧ (c.word 3).toNat ≤ 639999 ∧
      ((s.rffeTime 0 1 + 1967 : Nat) : Int) ≤ s.stampTick 0 639999 * 1536 - ((c.acceptedAt * 1536 : Nat) : Int)) ∧
    (let c := cmd 0x3E [0x10, 0, 0]
     let s := asked 2 0x3E [0x10, 0, 0]
     let s := { s with tdd := { s.tdd with words := [(1, 0x50000000)] } }
     s.runs 2 0x3E 3 true c ∧ s.stampTick 0 0 * 1536 - ((c.acceptedAt * 1536 : Nat) : Int) < ((s.rffeTime 0 1 + 1967 : Nat) : Int)) ∧
    (let c := cmd 0x3F [3, 0x88, 0, 0, 0]
     let s := asked 2 0x3F [3, 0x88, 0, 0, 0]
     s.runs 2 0x3F 3 true c ∧ s.fifthLane 3 0x88 = false ∧ (∀ w, w < 16 → s.getB Fd.CHN_WCTL_EN w = false) ∧
      (s.reg (Reg.LANE_CTL.off 3 0)).toNat % 4 = 0) ∧
    (let ws : List Word := [3, 0, 0, 0, 0]
     let s := (asked 2 0x3F ws).setReg (Reg.LANE_CTL.off 3 0) 3
     s.runs 2 0x3F 3 true (cmd 0x3F ws) ∧ s.fifthLane 3 0 = false ∧ wbits (0 : Word) 7 0 = (s.reg (Reg.SYN_LSRC.off 3 0)).toNat ∧
      wbits (0 : Word) 7 4 = (s.reg (Reg.LANE_CTL.off 3 0)).toNat / 16) := by
  simp only [State.runs]; (repeat' apply And.intro) <;> decide +kernel

/-- The words of a PATH_CONFIG of path 5 in window 3: 40 rows, 64 taps, lag 100. -/
def pathWords : List Word := [5, 0x03000000, 0x280040, 0x06400000, 0]

theorem test_hyps_PathCommandsAct :
    (let c := cmd 0x37 pathWords
     let s := (asked 2 0x37 pathWords).set Fd.CHN_WCTL_PROFILE 1 3
     s.runs 2 0x37 3 true c ∧ s.fw.dones = [] ∧ (c.word 2).toNat &&& 0xB03FF800 = 0 ∧ (c.word 3).toNat &&& 0xF800F800 = 0 ∧
      (c.word 4).toNat &&& 0xC0008FE0 = 0 ∧ (c.word 5).toNat &&& 0xFFC0 = 0 ∧
      s.get Fd.CHN_WCTL_PROFILE (wbits (c.word 2) 27 24) ≠ 0 ∧
      pathRange (s.get Fd.CHN_WCTL_PROFILE (wbits (c.word 2) 27 24)) (wbits (c.word 3) 26 16) (wbits (c.word 3) 10 0)
        (wbits (c.word 4) 29 20) = true ∧ s.getB Fd.CAN_PCFG0_EN 5 = false) ∧
    (let s := asked 2 0x38 [4095, 1, 1, 2]
     s.runs 2 0x38 3 true (cmd 0x38 [4095, 1, 1, 2]) ∧ (∀ p, p < 256 → s.getB Fd.CAN_PCFG0_EN p = false)) ∧
    (asked 2 0x38 [4095, 2, 1, 2, 3, 4]).runs 2 0x38 3 true (cmd 0x38 [4095, 2, 1, 2, 3, 4]) ∧
    (let ws : List Word := 3 :: List.replicate 7 0 ++ 1 :: List.replicate 7 0
     (asked 2 0x39 ws).runs 2 0x39 3 true (cmd 0x39 ws) ∧ bit ((cmd 0x39 ws).word 1).toNat 0 = true ∧
      bit ((cmd 0x39 ws).word 9).toNat 0 = true ∧ bit ((cmd 0x39 ws).word 1).toNat 1 = true ∧ bit ((cmd 0x39 ws).word 9).toNat 1 = false) ∧
    (let ws : List Word := 3 :: List.replicate 15 0
     (asked 2 0x39 ws).runs 2 0x39 3 true (cmd 0x39 ws) ∧
      ∀ p, p < 256 → bit ((cmd 0x39 ws).word (9 + p / 32)).toNat (p % 32) = false) ∧
    (let ws : List Word := List.replicate 16 0
     let s := asked 2 0x39 ws
     s.runs 2 0x39 3 true (cmd 0x39 ws) ∧ s.firstPathErr [] = none) ∧
    (asked 2 0x3A [255]).runs 2 0x3A 2 false (cmd 0x3A [255]) := by
  simp only [State.runs]; (repeat' apply And.intro) <;> decide +kernel

theorem test_hyps_LaneTxArbitrated :
    (let c := cmd 0x3C [1, 1]
     let s := locked 3 (asked 2 0x3C [1, 1])
     s.alive = true ∧ s.serves 0x3C = true ∧ s.romServes 2 = true ∧ s.oldest 2 = some c ∧ s.checkCommand 2 c 3 false = none ∧
      s.lockedFor 2 = true ∧ s.getB Fd.SYN_LSTATE_TX_REQ 0 = false) ∧
    (let c := cmd 0x3C [1, 1]
     let d : Done := ⟨4, 1, 0x3C, true, [(targetKey 0x3C 0, 0)], [], []⟩
     let s := (asked 2 0x3C [1, 1]).setB Fd.LANE_CTL_TX_EN true 0
     let s := { s with fw := { s.fw with dones := [d] } }
     s.runs 2 0x3C 3 true c ∧ d ∈ s.fw.dones ∧ d.restrictive = true ∧ s.getB Fd.SYN_LSTATE_TX_REQ 0 = false ∧
      ∀ k, k < 16 → bit (wbits (c.word 1) 15 0) k = true → bit (wbits (c.word 2) 15 0) k = true → s.getB Fd.LANE_CTL_TX_EN k = true) ∧
    (let s := locked 3 (asked 2 0x3C [1, 0])
     s.runs 2 0x3C 3 false (cmd 0x3C [1, 0]) ∧ s.lockedFor 2 = true ∧ s.fw.dones = []) := by
  simp only [State.runs]; (repeat' apply And.intro) <;> decide +kernel

theorem test_hyps_DomainsSupervised :
    (asked 2 0x3B [0x105, 0xFFFFFF00]).runs 2 0x3B 3 true (cmd 0x3B [0x105, 0xFFFFFF00]) ∧
    wdI (signed 16 (wbits (0xFFFFFF00 : Word) 15 0)) = 0xFFFFFF00 ∧
    (asked 2 0x3B [0x305, 0]).runs 2 0x3B 3 true (cmd 0x3B [0x305, 0]) ∧
    (let s := live.setB Fd.CON_SUP_CTL_LOSS_EN true
     let x := s.ctX (6 * 9 + 3)
     (s.setCtX (6 * 9 + 3) { x with lost := 8000 }).lostDue 9 3 = true ∧ s.lostDue 9 3 = false ∧ s.frozenDue 9 3 = false ∧
      (s.setCtX (6 * 9 + 3) { x with frozen := 480000, hi := 30000, lo := -30000 }).frozenDue 9 3 = true) ∧
    (let s := (live.set Fd.CON_DSUPST_STATE 1 9).set Fd.CON_DSUPST_CNT 255 9
     s.get Fd.CON_DSUPST_STATE 9 = 1 ∧ s.legN 0x30A3 ≤ s.get Fd.CON_DSUPST_CNT 9) ∧
    (let s := live.set Fd.CON_DSUPST_STATE 3 9
     let s := s.setDomX 9 { s.domX 9 with good := 8000 }
     s.get Fd.CON_DSUPST_STATE 9 = 3 ∧ s.legN 0x30A5 ≤ (s.domX 9).good) ∧
    (let s := live.setB Fd.CON_SUP_CTL_PLAUS_EN true
     let s := s.setCtX 59 { s.ctX 59 with impl := 255 }
     s.getB Fd.CON_SUP_CTL_PLAUS_EN = true ∧ s.legN 0x30A7 ≤ (s.ctX (6 * 9 + 5)).impl) := by
  simp only [State.runs]; (repeat' apply And.intro) <;> decide +kernel

/-! ### The survey -/

def piece : Piece := ⟨3, 0, 5, 0, 8, 0, 0, 16, false⟩

theorem test_hyps_ShowerAccountsForPieces :
    (let s := { live with svy := { live.svy with closed := false, todo := [piece], issued := 1 } }
     s.alive = true ∧ s.svy.closed = false ∧ s.svy.todo ≠ [] ∧
      s.svy.todo.find? (fun p => p.named 5 0 0 && p.party == 24 / 8) = some piece ∧
      bit (s.get Fd.SVY_ENG_LOST_LOST (24 / 32)) (24 % 32) = false ∧
      ¬ (piece.late = true ∧ 1992 < 640 + s.pieceCycles piece (s.time.gt % 80)) ∧
      s.svy.todo.find? (fun p => p.named 6 0 0 && p.party == 24 / 8) = none ∧
      s.svy.posts.find? (fun p => p.src == .powers 5 0) = none) ∧
    (let s := { live with svy := { live.svy with closed := false, todo := List.replicate 9 piece } }.setB Fd.CAN_PSTAT_ACTIVE true 5
     8 < (s.svy.todo.filter fun q => q.party == piece.party).length ∧ s.getB Fd.SVY_PSTATE_LOST piece.party = false ∧
      s.pActive piece.path = true) ∧
    (let s := { live with svy := { live.svy with closed := true, relist := [piece] } }.setB Fd.CAN_PSTAT_ACTIVE true 5
     s.alive = true ∧ s.svy.closed = true ∧ piece ∈ s.svy.relist ∧ s.pActive piece.path = true ∧
      s.svy.relist.find? (fun p => p.named 5 0 0 && p.party == 24 / 8) = some piece) := by
  (repeat' apply And.intro) <;> decide +kernel

theorem test_hyps_SurveyErrorsFenceAndRestore :
    bit (live.get Fd.SVY_ENG_LOST_LOST 0) 9 = false ∧ (maskList (maskClear 0xFF (2 ^ 1)) 8).length = 7 ∧
      bit ((live.set Fd.SVY_ENG_LOST_LOST 0x200 0).get Fd.SVY_ENG_LOST_LOST 0) 9 = true ∧
      (maskList (maskClear ((live.set Fd.SVY_PSTATE_ENG_MASK 0x7F 1).get Fd.SVY_PSTATE_ENG_MASK 1) (2 ^ 1)) 8).length ≤ 6 ∧
      (let s := { live with svy := { live.svy with rowUnits := [⟨4, 5, 2, 9, 1⟩] } }.setB Fd.CAN_PSTAT_ACTIVE true 5
       s.ringAt 4 76 = none ∧ (5, 2) ∈ s.rowsAt 4 76 ∧ s.pActive 5 = true) ∧
      (let s := { live with svy := { live.svy with ue := [(4, 0, 3)] } }
       3 ≤ (mapGet (0, 0) s.svy.ue 4).2 ∧ s.time.gt < (mapGet (0, 0) s.svy.ue 4).1 + 640000) ∧
      (live.setB Fd.SVY_SSTAT_COVER_BUSY true).getB Fd.SVY_SSTAT_COVER_BUSY = true ∧ live.getB Fd.SVY_SSTAT_COVER_BUSY = false := by
  (repeat' apply And.intro) <;> decide +kernel

theorem test_hyps_RowsRestoreFromImages :
    (let s := (live.setB Fd.CAN_PSTAT_ACTIVE true 5).setRow 5 2 { RowX.reset with restoring := true }
     let s := { s with svy := { s.svy with runs := [⟨3, 0, 5, 0, 8, 0, 4⟩] } }
     s.pActive 5 = true ∧ (s.row 5 2).restoring = true ∧ (s.svy.partyOf 5 2).isSome = true ∧ live.pActive 5 = false) ∧
    ((live.setRow 5 2047 { RowX.reset with reopen := true }).row 5 2047).reopen = true ∧
    (let s := live.setRow 5 2 { RowX.reset with cutEnd := some 0, halfEnd := some 1 }
     (s.row 5 2).cutEnd = some 0 ∧ 0 ≤ s.sheet ∧ (s.row 5 2).halfEnd = some 1 ∧ s.sheet < 1) ∧
    (let s := live.setRow 5 2 { RowX.reset with cutEnd := some 1, halfEnd := some 0, imageDepth := 1000, depth := 0 }
     (s.row 5 2).cutEnd = some 1 ∧ (s.row 5 2).depth < (s.row 5 2).imageDepth - 768 ∧ (s.row 5 2).halfEnd = some 0) ∧
    (let s := live.setB Fd.CAN_CTL_CP_EN true
     s.alive = true ∧ s.getB Fd.CAN_CTL_CP_EN = true ∧ s.time.gt % 80 = 0 ∧ s.sheet % 2 ^ 32 % 80 = 0) ∧
    (let g : Generation := ⟨1, 1, 0, [], 0, []⟩
     let s := { at_ (80 * 72) with can := { live.can with writing := some g } }
     s.alive = true ∧ s.can.writing = some g ∧ s.sheet ≤ g.start + 72 ∧ g.start + 72 < (at_ (80 * 73)).sheet) := by
  (repeat' apply And.intro) <;> decide +kernel

/-! ### Registers -/

theorem test_hyps_RegisterWriteLands :
    live.alive = true ∧ Reg.CON_GLIM.off 255 0 % 4 = 0 ∧ Reg.CON_GLIM.off 255 0 < 0x40000 ∧
      (findReg (Reg.CON_GLIM.off 255 0)).isSome = true ∧ 3 < writeLevel .pciePriv (Reg.CON_GLIM.off 255 0) ∧ 0x3FFFF % 4 ≠ 0 ∧
      ((live.setMb 2 { Mailbox.reset with cmdBusy := true }).mb 2).cmdBusy = true ∧ (live.mb 2).cmdBusy = false := by
  (repeat' apply And.intro) <;> decide +kernel

theorem test_hyps_ClearingReadsAndAliases :
    live.alive = true ∧ (findReg (Reg.LANE_RX_STAT.off 3 0)).isSome = true ∧ Reg.LANE_RX_STAT.off 3 0 % 4 = 0 ∧
      Reg.LANE_RX_STAT.off 3 0 < 0x40000 ∧ (findReg (Reg.PMC_CTL.off 0 0)).isSome = true ∧ 2 < live.readLevel (Reg.PMC_CTL.off 0 0) := by
  (repeat' apply And.intro) <;> decide +kernel

theorem test_hyps_TransactionsAndLatches :
    bit (0x7FFFFFFF : Word).toNat 31 = false ∧ bit (0x80000000 : Word).toNat 31 = true ∧ wbits (0x80000000 : Word) 30 28 = 0 ∧
      wbits (0x800000FC : Word) 23 0 / 4 * 4 % 0x1000 < 0x100 ∧ (live.mb 16).cmdBusy = false ∧ 2 ≤ live.masterLevel .pcieUser ∧
      3 ≤ live.masterLevel .pciePriv ∧
      (let s := { live with rce := { live.rce with live := [(31, 1, 2)] } }
       s.rce.live.find? (fun p => p.1 == 31) = some (31, 1, 2)) := by
  (repeat' apply And.intro) <;> decide +kernel

theorem test_hyps_WindowsOntoStores :
    live.alive = true ∧ 2 ≤ live.masterLevel .pcieUser ∧ live.get Fd.CON_ST_SEL_WORD = 0 ∧
      (live.set Fd.CON_ST_SEL_WORD 1).get Fd.CON_ST_SEL_WORD = 1 ∧ (live.set Fd.CON_ST_SEL_WORD 4).get Fd.CON_ST_SEL_WORD = 4 ∧
      (live.set Fd.CON_ST_SEL_WORD 5).get Fd.CON_ST_SEL_WORD = 5 ∧ live.book.findFrom (live.aperture 2).cursor = none ∧
      (let s := { live with book := { live.book with main := [⟨0, List.replicate 16 0, false⟩] } }
       (s.book.findFrom 0).isSome = true ∧ s.flt.armed = []) ∧
      4 ≤ live.masterLevel .chart ∧ live.get Fd.CHN_TBL_SEL_INDEX < tblLen live.tblKind ∧
      ((live.set Fd.CHN_TBL_SEL_BANK 1).bankBusy 0 ((live.set Fd.CHN_TBL_SEL_BANK 1).get Fd.CHN_TBL_SEL_BANK) = false) := by
  (repeat' apply And.intro) <;> decide +kernel

theorem test_hyps_EnablesStoredAndBound :
    live.alive = true ∧ 4 ≤ live.masterLevel .chart ∧ live.getB Fd.CHN_WCTL_EN 3 = false ∧ bit (1 : Word).toNat 0 = true ∧
      (live.setB Fd.CHN_WCTL_EN true 3).getB Fd.CHN_WCTL_EN 3 = true ∧ bit (0 : Word).toNat 0 = false ∧
      bit (0x80000000 : Word).toNat 31 = true ∧ live.win.swaps = [] ∧ live.swapCause 3 = 8 ∧
      ((live.set Fd.CHN_WCTL_PROFILE 1 3).get Fd.CHN_WCTL_PROFILE 3 = 1 ∧ (live.set Fd.CHN_WCTL_SWAP_ALIGN 0 3).get Fd.CHN_WCTL_SWAP_ALIGN 3 = 0 ∧
        live.getB Fd.CHN_WCTL_LINK_EN 3 = false ∧ live.getB Fd.CHN_WSTAT_SWAP_PEND 3 = false) ∧ live.getB Fd.CAN_PCFG0_EN 255 = false ∧
      (live.setB Fd.CAN_PCFG0_EN true 255).getB Fd.CAN_PCFG0_EN 255 = true ∧ 380000 ≤ wbits (7200000 : Word) 22 0 ∧
      live.getB Fd.LANE_CTL_RX_EN 15 = false ∧ live.getB Fd.LANE_CTL_TX_EN 15 = false ∧
      (live.reg (Reg.SYN_LSRC.off 15 0)).toNat < 256 ∧ live.fifthLane 15 0x88 = false ∧
      (live.setB Fd.RCE_CTL_EN true).getB Fd.RCE_CTL_EN = true := by
  (repeat' apply And.intro) <;> decide +kernel

theorem test_hyps_OrdersByBit :
    live.alive = true ∧ 4 ≤ live.masterLevel .chart ∧ bit (0x20000000 : Word).toNat 29 = true ∧
      (let s := { at_ 5120 with con := { live.con with loops := [(3, 0, false)] } }
       s.con.loops.find? (fun p => p.1 == 3) = some (3, 0, false) ∧ 0 + 64 ≤ s.sheet) ∧
      loopLagOf ⟨[⟨0, 0, 1023, 100⟩, ⟨1, 1, 0, 100⟩], 1⟩ 0 = some 1023 ∧ loopLagOf ⟨[⟨0, 0, 1023, 100⟩, ⟨1, 1, 0, 100⟩], 1⟩ 1 = some 0 ∧
      loopLagOf ⟨[⟨0, 0, 1023, 100⟩], 1⟩ 1 = none ∧
      live.age.running = none ∧ bit (0x10000 : Word).toNat 16 = true ∧ bit (live.get Fd.SVY_ENG_LOST_LOST 0) 0 = false ∧
      bit (0xC0000000 : Word).toNat 30 = true ∧
      wbits ({ live with tdd := { live.tdd with words := [(256 * 2 + 1, 0x60000000)] } }.rffeWord 2 1) 31 28 = 6 ∧
      blockWriteLevel 34 ≤ live.masterLevel .datum ∧
      (let s := (at_ 5120).setB (Fd.SEAL_CTL_HOLD 3) true
       s.getB (Fd.SEAL_CTL_HOLD 3) = true ∧ (s.sweeper 3).holdAt + 5120 ≤ s.time.gt) ∧
      (live.sweeper 3).dirty = false ∧ ((live.touchSweep 3).sweeper 3).dirty = true := by
  (repeat' apply And.intro) <;> decide +kernel

/-! ### Lanes, reconnaissance, sense -/

theorem test_hyps_SynthesiserLocksAndLoses :
    (live.set Fd.SYN_SSTAT_STATE 1 7).get Fd.SYN_SSTAT_STATE 7 = 1 ∧ live.get Fd.SYN_SSTAT_STATE 7 ≠ 1 ∧
      (let s := (at_ 641).setB Fd.SYN_SSTAT_LOCK true 7
       s.getB Fd.SYN_SSTAT_LOCK 7 = true ∧ (s.synX 7).lockAt + s.legN 0x1040 < s.time.gt) ∧
      (at_ 0).time.gt ≤ ((at_ 0).synX 7).lockAt + (at_ 0).legN 0x1040 ∧ live.getB Fd.SYN_SSTAT_LOCK 7 = false ∧
      (live.synX 7).fails + 1 < live.legN 0x1041 + b2n (live.synX 7).cold ∧
      (let s := live.setSynX 7 { live.synX 7 with fails := 7 }
       s.legN 0x1041 + b2n (s.synX 7).cold ≤ (s.synX 7).fails + 1) := by
  (repeat' apply And.intro) <;> decide +kernel

theorem test_hyps_LaneTimersAct :
    (let s := (at_ 1280).set Fd.SYN_LSTATE_TX_STATE 2 15
     s.alive = true ∧ s.get Fd.SYN_LSTATE_TX_STATE 15 = 2 ∧ (s.laneX 15).pendLoss = false ∧
      (s.laneX 15).pendFrom + 1280 ≤ s.time.gt ∧ s.txReady 15 = false) ∧
    (at_ 1279).time.gt < ((at_ 1279).laneX 15).pendFrom + 1280 ∧ live.getB Fd.MBX_CSTAT_READY = true ∧
    (live.setB Fd.LANE_CTL_TX_EN true 15).getB Fd.LANE_CTL_TX_EN 15 = true ∧ live.calPermitted 15 true = true ∧
    (live.setB Fd.LANE_CTL_RX_EN true 15).getB Fd.LANE_CTL_RX_EN 15 = true ∧ live.calPermitted 15 false = true ∧ live.lane.calDue = 0 ∧
    live.recalElapsed 15 true = false ∧
    (let s := { live with time := { live.time with opSec := 3600 * live.legN 0x1018 } }
     s.recalElapsed 15 true = true ∧ s.recalElapsed 15 false = true) ∧
    (let s := live.setLaneX 15 { live.laneX 15 with holdRx := 480000, off := [(5, 480000)] }
     s.staleSide 15 false 6 = true ∧ s.staleSide 15 true 6 = true ∧ s.staleSide 15 false 5 = false ∧ s.staleSide 15 true (-5) = false) := by
  (repeat' apply And.intro) <;> decide +kernel

/-- Job 3 enabled every eighth sheet, at its sheet. -/
def jobDue : State :=
  (((at_ 240).setB Fd.RCE_CTL_EN true).set Fd.RCE_JCFG0_KIND 1 3).set Fd.RCE_JCFG0_PERIOD 8 3

def work : RceWork := ⟨2, 0, 3, 0⟩
def run : RceRun := ⟨work, 0, 0, 0, 0, 0, 3, true, true, false, 1, 0, 0, false⟩
def running (q : RceRun) : State := { at_ 1 with rce := { live.rce with cur := some q } }

theorem test_hyps_RecceWorkRuns :
    jobDue.alive = true ∧ jobDue.recceOn = true ∧ jobDue.jobOn 3 = true ∧ jobDue.time.gt % 80 = 0 ∧
      jobDue.sheet % 2 ^ 32 % jobDue.get Fd.RCE_JCFG0_PERIOD 3 = 3 % jobDue.get Fd.RCE_JCFG0_PERIOD 3 ∧ (jobDue.jobX 3).lastDue ≠ some jobDue.sheet ∧
      (let s := { jobDue with rce := { jobDue.rce with waiting := [work] } }
       work ∈ s.rce.waiting ∧ work.kind = 0 ∧ work.idx = 3 ∧
        (firstWork ((s.rce.waiting ++ s.surveysDue).filter (s.mayStart s.now))).isSome = true) ∧
      (running run).rce.cur = some run ∧ run.cx = false ∧ (running run).cxMeets = false ∧ { run with cx := true }.cx = true ∧
      run.waitGrant = false ∧ run.endAt < (running run).now + 1536 ∧ (running run).now + 1536 ≤ { run with endAt := 10000 }.endAt ∧
      (let d : RceDone := ⟨work, 1, 2, 0, 0, 0, 0, 0, 3, 0⟩
       let s := { at_ 1 with rce := { live.rce with done := [d] } }
       s.rce.done = d :: [] ∧ d.endAt < s.time.gt ∧ (at_ 0).time.gt ≤ d.endAt) ∧
      (let s := (at_ 80000000).setB Fd.FLT_WCFG_EMS_EN true 15
       s.getB Fd.FLT_WCFG_EMS_EN (31 / 2) = true ∧
        ((s.rce.spans.find? fun q => q.1 == 31).map (·.2)).getD 0 + 2 * s.get Fd.FLT_THR_EMS_REV ≤ s.sheet) := by
  (repeat' apply And.intro) <;> decide +kernel

theorem test_hyps_SharedAerialAndLinksServed :
    (live.cxLink 1).since = none ∧
      (let l := { CxLink.reset with since := some 0, deferred := 1, grantAt := some 0 }
       let s := (at_ 128).setCxLink 1 l
       s.alive = true ∧ (s.cxLink 1).since ≠ none ∧ (s.cxLink 1).deferred ≠ 0 ∧ (s.cxLink 1).b0 + 128 ≤ s.time.gt ∧
        (s.cxLink 1).grantAt = some 0 ∧ 0 < s.now + 1536 ∧ (s.cxLink 1).long = false) ∧
      (let s := (at_ 8000000).setCxLink 1 { CxLink.reset with since := some 0 }
       (s.cxLink 1).since = some 0 ∧ 0 + 80 * s.legN 0x6064 < s.time.gt) ∧
      (running run).rce.cur = some run ∧ run.shared = true ∧ run.waitGrant = false ∧ { run with waitGrant := true }.waitGrant = true ∧
      run.preAt < (running run).now + 1536 ∧ (running run).now + 1536 ≤ { run with preAt := 10000 }.preAt ∧
      run.reqAt + usToSamples ((at_ 10000).legN 0x6002) < (at_ 10000).now + 1536 := by
  (repeat' apply And.intro) <;> decide +kernel

/-- A sequence of bank 0 with two positions and one round runs. -/
def sensing (slot round : Nat) : State :=
  { (live.set Fd.SNS_SEQ_LEN 2 0).set Fd.SNS_SEQ_ROUNDS 1 0 with sns := { live.sns with active := true, slot := slot, round := round } }

theorem test_hyps_SenseConverts :
    (sensing 1 0).sns.active = true ∧ (sensing 1 0).sns.round < (sensing 1 0).get Fd.SNS_SEQ_ROUNDS 0 ∧
      (sensing 1 0).sns.slot < (sensing 1 0).get Fd.SNS_SEQ_LEN 0 ∧ (sensing 2 0).get Fd.SNS_SEQ_LEN 0 ≤ (sensing 2 0).sns.slot ∧
      (sensing 0 1).get Fd.SNS_SEQ_ROUNDS 0 ≤ (sensing 0 1).sns.round ∧
      (let s := live.setSnsConv 1 { SnsConv.reset with queue := [(32, true, 0)] }
       s.alive = true ∧ s.flt.snapReq = [] ∧ s.sns.active = false ∧ s.tooLate 1535 = false ∧
        (s.snsConv 1).queue = (32, true, 0) :: []) ∧
      (let s := live.setSnsConv 1 { SnsConv.reset with calLeft := 1 }
       s.sns.active = false ∧ (s.snsConv 1).stepped = false ∧ (s.snsConv 1).queue = [] ∧ (s.snsConv 1).calLeft = 1) ∧
      2 ≤ ((live.setSnsConv 1 { SnsConv.reset with calLeft := 2 }).snsConv 1).calLeft ∧ (live.snsConv 1).calLeft = 0 ∧
      (live.snsConv 1).calAt + live.get Fd.SNS_CAL_CFG_IVL * 38400000 ≤ (at_ 10000000000).time.gt ∧
      live.get Fd.SNS_CAL_CFG_TEMP < ((100 : Int) - (live.snsConv 1).calTemp).natAbs := by
  (repeat' apply And.intro) <;> decide +kernel

theorem test_hyps_CalibrationsAndSenseOrders :
    live.alive = true ∧ 4 ≤ live.masterLevel .chart ∧ bit (1 : Word).toNat 0 = true ∧ bit (2 : Word).toNat 0 = false ∧
      bit (2 : Word).toNat 1 = true ∧ live.getB Fd.LANE_CAL_STAT_RX_BUSY 15 = false ∧
      (live.setB Fd.LANE_CAL_STAT_RX_BUSY true 15).getB Fd.LANE_CAL_STAT_RX_BUSY 15 = true ∧
      (live.setB Fd.LANE_CAL_STAT_TX_BUSY true 15).getB Fd.LANE_CAL_STAT_TX_BUSY 15 = true ∧ bit (4 : Word).toNat 2 = true ∧
      bit (8 : Word).toNat 3 = true ∧ wbits (0x80000020 : Word) 5 0 ≤ 32 ∧ wbits (0xC0000020 : Word) 30 30 = 1 ∧
      (live.snsConv 1).queue.length < 4 ∧
      4 ≤ ((live.setSnsConv 1 { SnsConv.reset with queue := List.replicate 4 (1, false, 0) }).snsConv 1).queue.length := by
  (repeat' apply And.intro) <;> decide +kernel

/-! ### Captures and counters -/

def capturing (st : Nat) (gt : Nat) : State := { at_ gt with capt := { live.capt with state := st, len := 1536, lanes := 1, held := 1536 } }

theorem test_hyps_CapturesRunAndAnswer :
    (let ws : List Word := [1, 0, 0, 0, 1536, 1536]
     let c := cmd 0x40 ws
     let s := (asked 2 0x40 ws).set Fd.SYN_LSTATE_RX_STATE 3 0
     s.runs 2 0x40 3 false c ∧ (captureLanes (c.word 1)).length = 1 ∧ wbits (c.word 2) 1 0 = 0 ∧ 1536 ≤ captureShare (c.word 1) ∧
      s.capt.state ≠ 1 ∧ s.capt.state ≠ 2 ∧ s.captureOff (c.word 1) = false) ∧
    (capturing 1 1).alive = true ∧ (capturing 1 1).captureMet = true ∧ live.captureMet = false ∧
    (capturing 2 1).capt.state = 2 ∧
    (capturing 2 1).capt.len - (capturing 2 1).capt.pre ≤ ((capturing 2 1).time.gt - (capturing 2 1).capt.trigAt) * 1536 ∧
    (queued (capturing 2 1) 2 0x41 []).runs 2 0x41 3 false (cmd 0x41 []) ∧ (asked 2 0x41 []).runs 2 0x41 3 false (cmd 0x41 []) ∧
    (let ws : List Word := [0x1000, 0, 0, 1535, 1]
     let c := cmd 0x42 ws
     let s := queued (capturing 3 1) 2 0x42 ws
     s.runs 2 0x42 3 false c ∧ hostAddress c % 4096 = 0 ∧ wbits (c.word 3) 1 0 < (captureLanes s.capt.lanes).length ∧
      (c.word 4).toNat + (c.word 5).toNat ≤ s.captureHeld ∧ s.capt.state ≠ 2) ∧
    (asked 2 0x43 []).runs 2 0x43 2 false (cmd 0x43 []) := by
  simp only [State.runs]; (repeat' apply And.intro) <;> decide +kernel

theorem test_hyps_CountersAndMeasurementsServe :
    (asked 2 0x44 [0x8000]).runs 2 0x44 3 false (cmd 0x44 [0x8000]) ∧ (asked 2 0x44 [0x8000]).getB Fd.CON_WLCTL_LOOP_BUSY 15 = false ∧
      ((asked 2 0x44 [0x8000]).setB Fd.CON_WLCTL_LOOP_BUSY true 15).runs 2 0x44 3 false (cmd 0x44 [0x8000]) ∧
      (asked 2 0x45 [0x1F]).runs 2 0x45 3 false (cmd 0x45 [0x1F]) ∧ (asked 2 0x45 [0x0F]).runs 2 0x45 3 false (cmd 0x45 [0x0F]) ∧
      (asked 2 0x45 [0x2F]).runs 2 0x45 3 false (cmd 0x45 [0x2F]) ∧
      (asked 2 0x48 [0, 0x1000, 1, 4096]).runs 2 0x48 3 false (cmd 0x48 [0, 0x1000, 1, 4096]) ∧
      hostAddress (cmd 0x48 [0x1000, 0, 1, 4096]) % 4096 = 0 ∧ live.getB Fd.DRC_CSTAT_LOST (live.get Fd.PMC_DR_CTL_CH) = false ∧
      (asked 2 0x48 [1, 0, 1, 4096]).runs 2 0x48 3 false (cmd 0x48 [1, 0, 1, 4096]) ∧
      hostAddress (cmd 0x48 [1, 1, 1, 4096]) % 4096 ≠ 0 ∧ (asked 2 0x49 []).runs 2 0x49 1 false (cmd 0x49 []) ∧
      live.pmc.writing = none ∧
      (let d : Dump := ⟨none, some (0, 4095, [1]), []⟩
       { live with pmc := { live.pmc with writing := some d } }.pmc.writing = some d) ∧
      (let s := { live with pmc := { live.pmc with run := true, sel := [(5, 0, 0)], cnt := [(5, 2 ^ 48 - 1)] } }
       (s.pmc.sel.any fun e => e.1 == 5) = true ∧ 2 ^ 48 ≤ mapGet 0 s.pmc.cnt 5 + 1) := by
  simp only [State.runs]; (repeat' apply And.intro) <;> decide +kernel

/-! ### Protection and faults -/

theorem test_hyps_TripsLayRestrictions :
    (let s := { live with con := { live.con with osc := [(9, 0, 5)] } }
     s.alive = true ∧ s.con.osc.find? (fun p => p.1 == 9 && decide (p.2.1 ≤ s.time.gt)) = some (9, 0, 5)) ∧
    (let s := { live.set Fd.FLT_PCTL_EN 31 with prot := { live.prot with
       clrRun := [(9, 1000000)], nrsRun := [(15, 1000000)], emsRun := [(31, 2)], spurRun := [(800000, 2)] } }
     s.kindOn 1 = true ∧ max 1 (s.get Fd.FLT_THR_CLR_SHEETS) ≤ mapGet 0 s.prot.clrRun 9 ∧ s.kindOn 3 = true ∧
      max 1 (s.get Fd.FLT_THR_NRS_SHEETS) ≤ mapGet 0 s.prot.nrsRun 15 ∧ s.kindOn 4 = true ∧
      2 ≤ mapGet 0 s.prot.emsRun (2 * 15 + 1) ∧ 2 ≤ mapGet 0 s.prot.spurRun 800000) ∧
    (live.set Fd.FLT_PCTL_EN 0).kindOn 3 = false := by
  (repeat' apply And.intro) <;> decide +kernel

def held (k : Nat) : Restriction := ⟨k, 1, 5, 0, 1, false, 0, true, none⟩
def holding (k gt : Nat) : State := { at_ gt with prot := { live.prot with held := [held k] } }

theorem test_hyps_RestrictionsRelease :
    (holding 4 0).prot.held.find? (fun r => r.kind == 4 && r.cls == 1 && r.target == 5) = some (held 4) ∧
      (holding 4 0).releaseDue (held 4) = false ∧ (holding 4 80000000000).releaseDue (held 4) = true ∧
      (holding 5 80000000000).releaseDue (held 5) = true ∧ (held 5).unmuteAt = none ∧
      (let r := { held 5 with unmuteAt := some 1 }
       let s := { at_ 80 with prot := { live.prot with held := [r] } }
       s.releaseDue r = true ∧ 1 ≤ s.sheet ∧ (at_ 0).sheet < 1) ∧
      (let s := (at_ 640).setGate 3 7 ⟨true, 640, 0, 0, 0, 0, 0, []⟩
       let s := s.set Fd.FLT_GCFG_SLOTS 1 3
       (s.gate 3 7).isOpen = true ∧ s.gateHold 3 ≤ (s.gate 3 7).since) ∧
      (live.gate 3 7).isOpen = false ∧ { live with prot := { live.prot with datumDown := true } }.prot.datumDown = true := by
  (repeat' apply And.intro) <;> decide +kernel

theorem test_hyps_ProtectionCommandsAct :
    (asked 2 0x60 []).runs 2 0x60 2 false (cmd 0x60 []) ∧ (asked 2 0x63 []).runs 2 0x63 2 false (cmd 0x63 []) ∧
      (asked 2 0x61 [0x8000, 0x8000]).runs 2 0x61 1 false (cmd 0x61 [0x8000, 0x8000]) ∧
      (asked 2 0x61 [0x8000, 0x8000]).prot.datumDown = false ∧
      (let s := asked 2 0x61 [0x8000, 0x8000]
       { s with prot := { s.prot with datumDown := true } }.runs 2 0x61 1 false (cmd 0x61 [0x8000, 0x8000])) ∧
      (asked 2 0x62 [9, 0, 0]).runs 2 0x62 3 true (cmd 0x62 [9, 0, 0]) ∧ (asked 2 0x62 [8, 1, 0]).runs 2 0x62 3 true (cmd 0x62 [8, 1, 0]) ∧
      (asked 2 0x62 [8, 1, 0]).releasable (cmd 0x62 [8, 1, 0]) = false ∧
      (asked 2 0x62 [1, 256, 0]).runs 2 0x62 3 true (cmd 0x62 [1, 256, 0]) ∧
      (let s := asked 2 0x62 [4, 5, 0]
       let s := { s with prot := { s.prot with held := [{ held 4 with latched := true }] } }
       s.runs 2 0x62 3 true (cmd 0x62 [4, 5, 0]) ∧ s.releasable (cmd 0x62 [4, 5, 0]) = true) := by
  simp only [State.runs]; (repeat' apply And.intro) <;> decide +kernel

theorem test_hyps_CollectorRowsAct :
    (∀ e ∈ [(⟨511, false, false, 0, 0⟩ : FaultEv)], e.source < 512) ∧ reservedSource 0 = false ∧ reservedSource 511 = true ∧
      (live.setB Fd.FLT_SSTAT_ACTIVE true 296).getB Fd.FLT_SSTAT_ACTIVE 296 = true ∧
      (let r : Reaction := ⟨3, 2, 1, 1, 0, false⟩
       let s := { live with flt := { live.flt with reactions := [r] } }
       r ∈ s.flt.reactions ∧ r.dueAt ≤ s.time.gt) ∧
      (let s := { at_ 10000000 with flt := { live.flt with intervals := [(3, 0)] } }
       s.flt.intervals.find? (fun p => p.1 == 3) = some (3, 0) ∧ 0 ≤ s.time.gt) ∧
      (let s := { live with flt := { live.flt with alertEnd := some 1, unlockEnd := some 1 } }
       s.flt.alertEnd = some 1 ∧ s.start.frozen = false ∧ s.time.gt < 1 ∧ s.start.inReset = false ∧ s.start.phase ≠ 1 ∧
        s.flt.unlockEnd = some 1 ∧ s.fw.lockHolder = none) := by
  (repeat' apply And.intro) <;> decide +kernel

theorem test_hyps_FaultsClearedAndInjected :
    (asked 2 0x64 [3]).runs 2 0x64 3 true (cmd 0x64 [3]) ∧ bit ((cmd 0x64 [3]).word 1).toNat 16 = false ∧
      reservedSource 3 = false ∧ (asked 2 0x64 [3]).getB Fd.FLT_SSTAT_ACTIVE 3 = false ∧
      ((asked 2 0x64 [3]).setB Fd.FLT_SSTAT_ACTIVE true 3).runs 2 0x64 3 true (cmd 0x64 [3]) ∧
      (asked 2 0x64 [511]).runs 2 0x64 3 true (cmd 0x64 [511]) ∧
      (asked 2 0x65 [0x46494E4A, 600]).runs 2 0x65 3 false (cmd 0x65 [0x46494E4A, 600]) ∧
      (asked 2 0x65 [0x46494E4A, 600]).get Fd.FLT_FI_POLICY_POLICY ≠ 2 ∧
      (let s := (locked 2 (asked 2 0x65 [0x46494E4A, 1])).set Fd.FLT_FI_POLICY_POLICY 2
       s.runs 2 0x65 3 false (cmd 0x65 [0x46494E4A, 1]) ∧ s.get Fd.FLT_FI_POLICY_POLICY = 2 ∧ s.fw.lockHolder = some 2) ∧
      (let s := (asked 2 0x66 [0x10001, 0]).set Fd.FLT_FI_POLICY_POLICY 2
       let c := cmd 0x66 [0x10001, 0]
       s.runs 2 0x66 3 false c ∧ wbits (c.word 1) 7 0 = 1 ∧ injectInstOk 1 0 = true ∧ wbits (c.word 1) 17 16 = 1 ∧
        s.get Fd.FLT_FI_POLICY_POLICY = 2 ∧ s.flt.unlockEnd = none) := by
  simp only [State.runs]; (repeat' apply And.intro) <;> decide +kernel

/-! ### The Field Book -/

def record : Record := ⟨3, 5, 1, 0, false, false, ⟨0, 0, 0⟩, List.replicate 10 0⟩

theorem test_hyps_BookTakesRecords :
    foldInto live.book.fifo record = none ∧ fifoDepth live.book.fifo < 256 ∧
      (let s := { live with book := { live.book with fifo := [⟨record, 1, record.stamp, 1, 3, false⟩] } }
       (foldInto s.book.fifo record).isSome = true ∧ s.book.full = false ∧ s.book.level ≤ 2) ∧
      (let s := { live with book := { live.book with firstDrop := some ⟨0, 0, 0⟩, lastDrop := some ⟨0, 0, 0⟩ } }
       s.alive = true ∧ s.book.firstDrop = some ⟨0, 0, 0⟩ ∧ s.book.lastDrop = some ⟨0, 0, 0⟩ ∧ fifoDepth s.book.fifo ≤ 128) ∧
      (let s := { live with book := { live.book with authBusyUntil := some 0 } }
       s.book.authBusyUntil = some 0 ∧ 0 ≤ s.time.opSec) := by
  (repeat' apply And.intro) <;> decide +kernel

def nonced (s : State) : State := { s with book := { s.book with nonce := some ⟨1, 2, 60⟩ } }

theorem test_hyps_BookCommandsServe :
    (asked 2 0x50 []).runs 2 0x50 1 false (cmd 0x50 []) ∧ (asked 2 0x51 [0, 3]).runs 2 0x51 1 false (cmd 0x51 [0, 3]) ∧
      (asked 2 0x51 [0, 0]).runs 2 0x51 1 false (cmd 0x51 [0, 0]) ∧ live.book.findFrom 0 = none ∧
      (asked 2 0x53 [9]).runs 2 0x53 1 false (cmd 0x53 [9]) ∧
      (nonced (asked 2 0x5C [0, 4, 0, 0])).runs 2 0x5C 3 true (cmd 0x5C [0, 4, 0, 0]) ∧ seqLe 0 4 = true ∧ seqLe 4 5 = true ∧
      (nonced (asked 2 0x5C [0, 4, 0, 0])).book.level ≠ 2 ∧ (nonced (asked 2 0x5C [0, 4, 0, 0])).book.full = false ∧
      live.legN 0x9000 < (⟨2, 100, false⟩ : BookRun).failures ∧ { live.book with level := 1 }.level = 1 ∧
      (nonced (asked 2 0x5D [0, 4, 1, 2, 0, 0])).runs 2 0x5D 3 true (cmd 0x5D [0, 4, 1, 2, 0, 0]) := by
  simp only [State.runs]; (repeat' apply And.intro) <;> decide +kernel

/-- The device locked out of authentication. -/
def lockedOut (s : State) : State := { s with book := { s.book with authBusyUntil := some 60 } }

theorem test_hyps_NonceLifecycle :
    (asked 2 0x52 []).runs 2 0x52 3 false (cmd 0x52 []) ∧ (asked 2 0x52 []).book.authBusyUntil = none ∧
      (lockedOut (asked 2 0x52 [])).runs 2 0x52 3 false (cmd 0x52 []) ∧ (lockedOut live).book.authBusyUntil ≠ none ∧
      (nonced (asked 2 0x5C [0, 4, 0, 0])).runs 2 0x5C 3 true (cmd 0x5C [0, 4, 0, 0]) ∧
      (nonced (asked 2 0x5E (List.replicate 10 0))).runs 2 0x5E 3 true (cmd 0x5E (List.replicate 10 0)) ∧
      (nonced (asked 2 0x5D [0, 4, 1, 2, 0, 0])).runs 2 0x5D 3 true (cmd 0x5D [0, 4, 1, 2, 0, 0]) ∧
      (nonced live).book.nonce = some ⟨1, 2, 60⟩ ∧ 1 = (cmd 0x5D [0, 4, 1, 2, 0, 0]).word 3 ∧
      2 = (cmd 0x5D [0, 4, 1, 2, 0, 0]).word 4 ∧
      (nonced (asked 2 0x5D [0, 4, 1, 3, 0, 0])).runs 2 0x5D 3 true (cmd 0x5D [0, 4, 1, 3, 0, 0]) ∧
      2 ≠ (cmd 0x5D [0, 4, 1, 3, 0, 0]).word 4 ∧ live.time.opSec < 60 ∧ 0 ≤ live.time.opSec := by
  simp only [State.runs]; (repeat' apply And.intro) <;> decide +kernel

theorem test_hyps_BookKeyReplaced :
    (let ws : List Word := List.replicate 8 0xFFFFFFFF ++ [0, 0]
     (asked 2 0x5E ws).runs 2 0x5E 3 true (cmd 0x5E ws) ∧
       ((((cmd 0x5E ws).payload.take 8).flatMap wordBytes).map fun n => BitVec.ofNat 8 n).all (fun b => b == 0xFF) = true) ∧
    (let ws : List Word := List.replicate 10 0
     (asked 2 0x5E ws).runs 2 0x5E 3 true (cmd 0x5E ws) ∧ (asked 2 0x5E ws).book.key.all (fun b => b == 0xFF) = true ∧
       ((((cmd 0x5E ws).payload.take 8).flatMap wordBytes).map fun n => BitVec.ofNat 8 n).all (fun b => b == 0xFF) = false) ∧
    (let ws : List Word := List.replicate 10 0
     let s := { asked 2 0x5E ws with book := { live.book with key := List.replicate 32 1 } }
     s.runs 2 0x5E 3 true (cmd 0x5E ws) ∧ s.book.key.all (fun b => b == 0xFF) = false ∧ s.book.nonce = none) := by
  simp only [State.runs]; (repeat' apply And.intro) <;> decide +kernel

/-! ### References, TDD, the front-end bus -/

def pattern : Pattern := []

theorem test_hyps_ReferencesAndTddAct :
    live.get Fd.SYN_REF_STAT_SEL = 0 ∧ (live.set Fd.SYN_REF_STAT_SEL 1).get Fd.SYN_REF_STAT_SEL = 1 ∧
      (let s := ((live.set Fd.SYN_REF_STAT_SEL 2).setB Fd.SYN_REF_CTL_REVERT true).setB Fd.SYN_REF_STAT_REF_OK true
       s.getB Fd.SYN_REF_CTL_REVERT = true ∧ s.get Fd.SYN_REF_STAT_SEL ≠ 0 ∧ s.getB Fd.SYN_REF_STAT_REF_OK = true ∧
        s.ref.validSheets < s.legN 0x1043 ∧ s.get Fd.SYN_REF_STAT_SEL = 2 ∧ s.time.gt ≤ s.ref.holdAt + 38400000) ∧
      (at_ 38400001).ref.holdAt + 38400000 < (at_ 38400001).time.gt ∧
      (let s := (live.setB Fd.TDD_CTL_EN true).set Fd.TDD_CTL_SRC 1
       s.getB Fd.TDD_CTL_EN = true ∧ s.get Fd.TDD_CTL_SRC = 1) ∧
      (let s := (at_ 1000000000).set Fd.TDD_STAT_STATE 2
       s.get Fd.TDD_STAT_STATE = 2 ∧ s.tdd.lastAt + s.resultInterval + 1280 ≤ s.time.gt) ∧
      (let s := (at_ 1000000000).set Fd.TDD_STAT_STATE 3
       s.get Fd.TDD_STAT_STATE = 3 ∧ s.tdd.holdAt + 80 * s.legN 0x6045 ≤ s.time.gt) ∧
      (let s := { live with tdd := { live.tdd with step := some (5, 0, 0) } }
       s.tdd.step = some (5, 0, 0) ∧ 0 < s.now + 1536) ∧
      (let s := (live.setB Fd.CHN_WCTL_LINK_EN true 3).set Fd.CHN_WCTL_LINK_W 4 3
       s.partner 3 = some 4) ∧
      (let s := (at_ 10000).setPair 3 { live.pair 3 with rolePend := false, roleAt := 0, paHeld := 1 }
       (s.pair (s.downMember 3)).rolePend = false ∧ (s.pair (s.downMember 3)).roleAt + s.guardSamples ≤ s.now + 1535) ∧
      (let s := live.setPair 3 { live.pair 3 with next := some (pattern, 0, 0), rolePend := true, roleAt := 0 }
       (s.pair 3).next = some (pattern, 0, 0) ∧ pattern.valid = false ∧ (s.pair (s.downMember 3)).rolePend = true ∧
        (s.pair (s.downMember 3)).roleAt ≤ s.now + 0) := by
  (repeat' apply And.intro) <;> decide +kernel

def beam : BeamWait := ⟨2, cmd 0x3E [], 1, 3, 0⟩
def job : RffeJob := ⟨3, 0, some 0, none⟩

theorem test_hyps_FrontEndSequencesRun :
    (let s := live.setB Fd.TDD_RCTL_EN true 1
     let s := { s with tdd := { s.tdd with words := [(256 * 1 + 3, 0x50000000)], beams := [beam] } }
     s.getB Fd.TDD_RCTL_EN 1 = true ∧ s.rffeEvent 1 3 0 = true ∧ 0 ≤ s.now + 0 + s.rffeAdv 1 3 ∧ s.rffeQueue 1 = []) ∧
    (let s := live.setRffeQueue 1 [job]
     s.rffeQueue 1 = job :: [] ∧ job.begun = some 0 ∧ 0 + s.rffeTime 1 job.seq ≤ s.now + 1536) := by
  (repeat' apply And.intro) <;> decide +kernel

/-! ### DRAM, failover, power, start-up, ageing -/

theorem test_hyps_RedundantPartsLost_dram :
    live.getB Fd.DRC_CSTAT_LOST 3 = false ∧ (live.setB Fd.DRC_CSTAT_LOST true 3).getB Fd.DRC_CSTAT_LOST 3 = true ∧
      (let s := { at_ 639999 with dram := [(3, 0, 3)] }
       3 ≤ (mapGet (0, 0) s.dram 3).2 ∧ s.time.gt < (mapGet (0, 0) s.dram 3).1 + 640000) ∧
      (let s := { at_ 640000 with dram := [(3, 0, 3)] }
       (mapGet (0, 0) s.dram 3).1 + 640000 ≤ s.time.gt) := by
  (repeat' apply And.intro) <;> decide +kernel

def taken : Capture := ⟨0, [], [(0, 1)], [], [], some 2, 10, [], [], [], [], []⟩

theorem test_hyps_RedundantPartsLost_pairs :
    (live.setB Fd.MBX_CSTAT_STANDBY true).getB Fd.MBX_CSTAT_STANDBY = true ∧
      (live.setB Fd.MBX_CSTAT_STANDBY false).getB Fd.MBX_CSTAT_STANDBY = false ∧
      (let s := { at_ 80 with failAt := some 79, fw := { live.fw with captures := [taken] } }
       s.alive = true ∧ s.failAt = some 79 ∧ (s.fw.captures.find? fun c => decide (c.at_ < 79)) = some taken ∧ s.time.gt % 80 = 0 ∧ 79 < s.time.gt) ∧
      (let s := { at_ 80 with start := { live.start with warm := true }, fw := { live.fw with captures := [taken] } }
       s.alive = true ∧ s.start.warm = true ∧ s.fw.captures = taken :: []) := by
  (repeat' apply And.intro) <;> decide +kernel

theorem test_hyps_PowerRowsAct :
    { live with start := { live.start with vin := false } }.start.vin = false ∧ live.start.vin = true ∧
      { live with start := { live.start with good := false } }.start.good = false ∧
      { live with start := { live.start with inReset := true } }.start.inReset = true ∧ live.alive = true := by
  (repeat' apply And.intro) <;> decide +kernel

theorem test_hyps_ResetsBeginStarts :
    live.start.inReset = false ∧ live.start.good = true ∧ { live with start := { live.start with inReset := true } }.start.inReset = true ∧
      keptRegs.contains (Reg.CON_GLIM.off 0 0) = false := by
  (repeat' apply And.intro) <;> decide +kernel

def image : BootImage := ⟨[], [], State.reset.start.sketch⟩

theorem test_hyps_StartStepsFollow :
    State.reset.alive = true ∧ State.reset.start.phase = 1 ∧ State.reset.getB Fd.DRC_CSTAT_LOST 3 = false ∧ bit 8 3 = true ∧
      (let s := { live with start := { live.start with phase := 2, order := [0, 1] } }
       s.alive = true ∧ s.start.phase = 2 ∧ s.start.order = 0 :: [1] ∧ s.imageOk image = false) ∧
      (let s := { live with start := { live.start with phase := 3 } }
       s.alive = true ∧ s.start.phase = 3 ∧ (findResult [(15, .pass)] 15).isSome = true ∧ findResult [(15, .pass)] 14 = none) := by
  (repeat' apply And.intro) <;> decide +kernel

theorem test_hyps_ServiceStatesFollow :
    (let s := { live with start := { live.start with phase := 4 } }
     s.alive = true ∧ s.start.phase = 4 ∧ s.isoValid = true ∧ s.start.failed = false) ∧
      (let s := (at_ 640).set Fd.PWR_SVC_STATE 3
       s.get Fd.PWR_SVC_STATE = 3 ∧ s.start.rampAt + 8 ≤ s.sheet ∧ s.time.gt % 80 = 0) ∧
      (let s := (at_ 80000000).set Fd.PWR_SVC_STATE 3
       s.start.trainAt + s.legN 0x0042 ≤ s.sheet) ∧
      (let s := { at_ 3200000 with start := { live.start with phase := 2 } }
       s.start.phase ≠ 0 ∧ 40000 ≤ s.start.preMs * 8 + s.sheet) ∧
      (let s := { at_ 3199999 with start := { live.start with phase := 2 } }
       s.start.preMs * 8 + s.sheet < 40000) ∧
      (let s := (at_ 384000000).set Fd.PWR_SVC_STATE 4
       s.get Fd.PWR_SVC_STATE = 4 ∧ s.start.fullAt + 4800000 ≤ s.sheet) ∧
      (live.setB Fd.FRZ_CTL_PIN_EN true).getB Fd.FRZ_CTL_PIN_EN = true ∧ (live.setB Fd.FRZ_CTL_PIN_EN false).getB Fd.FRZ_CTL_PIN_EN = false := by
  (repeat' apply And.intro) <;> decide +kernel

theorem test_hyps_StartAndAgeCommandsAct :
    (asked 2 0x70 [0x46525A4E]).runs 2 0x70 1 false (cmd 0x70 [0x46525A4E]) ∧ (asked 2 0x70 [0]).runs 2 0x70 1 false (cmd 0x70 [0]) ∧
      (asked 2 0x71 []).runs 2 0x71 1 false (cmd 0x71 []) ∧ (asked 2 0x72 [0x52455452]).runs 2 0x72 3 false (cmd 0x72 [0x52455452]) ∧
      ((asked 2 0x72 [0x52455452]).set Fd.PWR_SVC_STATE 6).runs 2 0x72 3 false (cmd 0x72 [0x52455452]) ∧
      ((asked 2 0x72 [0x52455452]).set Fd.PWR_SVC_STATE 6).get Fd.PWR_SVC_STATE = 6 ∧
      (asked 2 0x73 [0, 0, 0]).runs 2 0x73 3 false (cmd 0x73 [0, 0, 0]) ∧ (asked 2 0x73 [0, 0, 0]).start.writing = none ∧
      (asked 2 0x74 []).runs 2 0x74 2 false (cmd 0x74 []) ∧ (asked 2 0x75 []).runs 2 0x75 3 false (cmd 0x75 []) ∧
      (asked 2 0x75 []).age.running = none ∧ (asked 2 0x76 [0x8000]).runs 2 0x76 3 true (cmd 0x76 [0x8000]) ∧
      (asked 2 0x77 [0, 1]).runs 2 0x77 2 false (cmd 0x77 [0, 1]) ∧ (asked 2 0x77 [0, 1]).age.history.length < 0 + 1 ∧
      (asked 2 0x77 [0, 0]).runs 2 0x77 2 false (cmd 0x77 [0, 0]) := by
  simp only [State.runs]; (repeat' apply And.intro) <;> decide +kernel

theorem test_hyps_AgeingRowsAct :
    (live.setB Fd.AGE_CTL_EN true).getB Fd.AGE_CTL_EN = true ∧ live.age.running = none ∧
      (let s := { live with time := { live.time with opSec := 86400 } }
       s.age.lastPlan + 86400 ≤ s.time.opSec ∧ s.get Fd.PWR_SVC_STATE ≠ 3) ∧
      live.time.opSec < live.age.lastPlan + 86400 ∧
      { live with age := { live.age with running := some 1 } }.age.running = some 1 ∧
      (let s := { live with start := { live.start with writing := some (2, cmd 0x73 [0, 0, 0]) } }
       s.start.writing = some (2, cmd 0x73 [0, 0, 0]) ∧ (cmd 0x73 [0, 0, 0]).early = false ∧ s.imageOk image = false) := by
  (repeat' apply And.intro) <;> decide +kernel

/-! ### The host link and the test port -/

theorem test_hyps_HostLinkFollowsPins :
    (let s := { live with pci := { live.pci with perst := true } }
     s.pci.perst = true ∧ s.start.good = true ∧ s.start.inReset = false) ∧
    (let s := { live with pci := { live.pci with perst := false, l0 := true } }
     s.pci.l0 = true ∧ s.pci.perst = false) ∧
    { live with pci := { live.pci with perst := false, l0 := false } }.pci.l0 = false := by
  (repeat' apply And.intro) <;> decide +kernel

theorem test_hyps_TestPortShifts :
    { live with start := { live.start with frozen := true } }.start.frozen = true ∧ live.start.frozen = false ∧
      live.start.inReset = false ∧ { live with start := { live.start with inReset := true } }.start.inReset = true := by
  (repeat' apply And.intro) <;> decide +kernel


/-! ### Ill-formed commands are refused, one for each check -/

/-- Bytes and words whose keys do not rise. -/
def tangled {α : Type} (a : α) : List (Nat × α) := [(4, a), (4, a)]

/-- A tick in which nothing was measured. -/
def quietTick : TickInput := ⟨[], [], [], [], [], [], [], 0, false⟩

/-- A sheet in which nothing was measured. -/
def quietSheet : SheetInput := ⟨[], [], 0, true, true, [], [], [], [], [], 0, 3300, [], [], []⟩

/-- An image whose header is one byte short. -/
def shortImage : BootImage := ⟨List.replicate 255 0, [], ⟨0, 0, 0, [], [], []⟩⟩

theorem test_ill_atlasLoadDone : (Instr.atlasLoadDone (tangled 0)).wellFormed = false := by decide

theorem test_ill_captures :
    (Instr.captureDone (tangled 0)).wellFormed = false ∧ (Instr.captureAbort 3 (tangled 0)).wellFormed = false := by decide

theorem test_ill_accesses :
    (Instr.registerWrite .datum 0x40000 false 0).wellFormed = false ∧ (Instr.clearingRead .bar0 0x10000 false).wellFormed = false ∧
      (Instr.aliasAccess .bar4 0x800000 ⟨false, none⟩).wellFormed = false := by decide

theorem test_ill_sspiTransaction :
    (Instr.sspiTransaction 0x80000000 [] 1).wellFormed = false ∧ (Instr.sspiTransaction 0 [0] 1).wellFormed = false := by decide

theorem test_ill_loopMeasureEnd : (Instr.loopMeasureEnd 0 ⟨[⟨0, 0, 1024, 1⟩], 0⟩).wellFormed = false := by decide

theorem test_ill_gridTickBoundary :
    (Instr.gridTickBoundary { quietTick with raw := [(16, [])] }).wellFormed = false ∧
      (Instr.gridTickBoundary { quietTick with raw := [(0, [(3073, 0, 0)])] }).wellFormed = false ∧
      (Instr.gridTickBoundary { quietTick with raw := [(0, [(1, 8192, 0)])] }).wellFormed = false ∧
      (Instr.gridTickBoundary { quietTick with rx := [(16 * 2048, [])] }).wellFormed = false ∧
      (Instr.gridTickBoundary { quietTick with rx := [(0, [(524288, 0)])] }).wellFormed = false ∧
      (Instr.gridTickBoundary { quietTick with synth := [(0, List.replicate 1537 (0, 0))] }).wellFormed = false ∧
      (Instr.gridTickBoundary { quietTick with probe := [(16, [])] }).wellFormed = false ∧
      (Instr.gridTickBoundary { quietTick with dac := [(0, List.replicate 3073 (0, 0))] }).wellFormed = false ∧
      (Instr.gridTickBoundary { quietTick with posts := [⟨.powers 0 0, 9⟩] }).wellFormed = false := by decide +kernel

theorem test_ill_sheetBoundary :
    (Instr.sheetBoundary { quietSheet with presence := 256 }).wellFormed = false ∧
      (Instr.sheetBoundary { quietSheet with tacho0 := [(true, false, 125001)] }).wellFormed = false ∧
      (Instr.sheetBoundary { quietSheet with tx := [(16, 0)] }).wellFormed = false ∧
      (Instr.sheetBoundary { quietSheet with dram := [(4, 0, 0)] }).wellFormed = false := by decide

theorem test_ill_gateClose : (Instr.gateClose 0 1280).wellFormed = false := by decide

theorem test_ill_pieceCompletion :
    (Instr.pieceCompletion 0 (.path 0) 1280 0 false 0).wellFormed = false ∧
      (Instr.pieceCompletion 0 (.path 0) 0 0 false 2000).wellFormed = false ∧
      (Instr.pieceCompletion 0 (.posted (.measure 256)) 0 0 false 0).wellFormed = false := by decide

theorem test_ill_rows :
    (Instr.rowReloadDone 0 1280).wellFormed = false ∧ (Instr.cutEnd 0 1280).wellFormed = false ∧
      (Instr.skHalfEnd 0 1280).wellFormed = false := by decide

theorem test_ill_recce :
    (Instr.recceJobStart 32768 0 false).wellFormed = false ∧ (Instr.recceJobEnd (.found 0 64 0 0 0)).wellFormed = false ∧
      (Instr.recceJobEnd (.found 0 0 1024 0 0)).wellFormed = false := by decide

theorem test_ill_spurTrip : (Instr.spurTrip 7500001).wellFormed = false := by decide

theorem test_ill_faultEvent :
    (Instr.faultEvent []).wellFormed = false ∧ (Instr.faultEvent [⟨512, false, false, 0, 0⟩]).wellFormed = false ∧
      (Instr.faultEvent [⟨1, false, false, 65536, 0⟩]).wellFormed = false := by decide

theorem test_ill_recordOffer :
    (Instr.recordOffer ⟨1, 0, 4, 0, false, false, ⟨0, 0, 0⟩, List.replicate 10 0⟩).wellFormed = false ∧
      (Instr.recordOffer ⟨1, 0, 0, 0, false, false, ⟨0, 0, 0⟩, []⟩).wellFormed = false := by decide

theorem test_ill_dramUe : (Instr.dramUe 0 (some 262144)).wellFormed = false := by decide

theorem test_ill_romBootDone :
    (Instr.romBootDone 0 16 0 0 true true).wellFormed = false ∧ (Instr.romBootDone 0 0 8 0 true true).wellFormed = false := by decide

theorem test_ill_images :
    (Instr.imageVerifyDone shortImage).wellFormed = false ∧ (Instr.imageWriteDone shortImage).wellFormed = false := by decide +kernel

theorem test_ill_startCalDone : (Instr.startCalDone [] [] [(2, .pass)]).wellFormed = false := by decide

theorem test_ill_insetSel : (Instr.insetSel 0 4294967296).wellFormed = false := by decide

theorem test_ill_scan :
    (Instr.extest [true] []).wellFormed = false ∧ (Instr.samplePreload [] [true]).wellFormed = false := by decide

theorem test_ill_replanDone_counterWrap :
    (Instr.replanDone (List.replicate 7 0)).wellFormed = false ∧ (Instr.counterWrap 0 0).wellFormed = false := by decide

/-! ### Effects, against the worked examples and tables of the spec -/

/-- 00_scope.md, after Table 0.5: rnd(−5, 1) = −3, rnd(5, 1) = 3, sat(40,000, 16) = 32,767. -/
theorem test_rounding : rnd (-5) 1 = -3 ∧ rnd 5 1 = 3 ∧ sat 40000 16 = 32767 := by decide

/-- Worked example 2.1: index 30 falls to 24 and to 18 in two clipped grid ticks; the clips inside the settle count, and do not step. -/
theorem test_fast_attack_ladder :
    (let s0 := (live.set Fd.LANE_RX_GAIN_APPLIED 30 3).setB Fd.LANE_RX_FAST_EN true 3
     let s1 := s0.clipTick 3 500 500
     let s2 := s1.clipTick 3 400 400
     let s3 := s2.clipTick 3 20 0
     (s1.get Fd.LANE_RX_GAIN_APPLIED 3, s2.get Fd.LANE_RX_GAIN_APPLIED 3, s3.get Fd.LANE_RX_GAIN_APPLIED 3,
       s3.get Fd.LANE_RX_CLIPCNT_TICKS 3)) = (24, 18, 18, 3) := by decide +kernel

/-- Worked example 4.2: sk = 3,120, sh = 12 and d_i = 7,808. -/
theorem test_update : normaliser 64 2688000 16 4096 16 4 = (3120, 12) ∧ updateTap (0, 0) (10250, 0) 3120 12 0 = ((7808, 0), false) := by
  decide +kernel

/-- The TGT contour of Worked example 7.1. -/
def tgtLaw : Law := ⟨1, 8192, 8192, 0, 0, 0, 0, 0, 0, 0⟩

/-- Worked example 7.1, E1: p = 768 LSB, i = 11,008 LSB, applied 11,776; then E2 from m = −9,216. -/
theorem test_tgt_response :
    (let e0 := initContour ContourX.reset 10240 (-7680) (some (-7680))
     let e1 := evalContour tgtLaw e0 (-7680) (some (-10752))
     let e2 := evalContour tgtLaw e1 (-7680) (some (-9216))
     (e1.e, e1.i, e1.v, e2.e, e2.i, e2.v)) = (3072, 721420288, 11776, 1536, 11392 * 65536, 11776) := by decide +kernel

/-- Worked example 15.1: the third event of an interval escalates. -/
theorem test_escalation :
    (let s := (live.set Fd.FLT_SCFG_N 3 269).set Fd.FLT_SCFG_W 8000 269
     let ev (g : Nat) (s : State) : State :=
       after (exec (.faultClearance 269)
         (after (exec (.faultEvent [⟨269, false, false, 64, 0⟩]) { s with time := { s.time with gt := g } })))
     let a := ev 642000 (ev 641500 (ev 641000 s))
     (a.get Fd.FLT_SSTAT_CNT 269, a.get Fd.FLT_SSTAT_SEV 269, a.getB Fd.FLT_SSTAT_ESC 269)) = (3, 2, true) := by decide +kernel

/-- Worked example 14.1: SWAP acts once; TRIM keeps 1 while the window is enabled, and WIGN names the offset. -/
theorem test_wctl_write :
    (let s := live.setReg 0xA240 0x20010301
     let s1 := after (exec (.registerWrite .chart 0xA240 false 0xA0010301) s)
     let s2 := after (exec (.registerWrite .chart 0xA240 false 0x20020301) s1)
     (s1.getB Fd.CHN_WSTAT_SWAP_PEND 5, s1.getB (Fd.BLK_STAT_WIGN 20), s2.reg 0xA240, s2.getB (Fd.BLK_STAT_WIGN 20),
       s2.get (Fd.WIGN_ADDR_MASTER 20), s2.get (Fd.WIGN_ADDR_OFFSET 20))) =
      (true, false, 0x20010301, true, 1, 0xA240) := by decide +kernel

end Sys2Proof.Tests
end

/-!
SUPPORT. Proofs about time: which commands leave the timebase alone.
-/

namespace Sys2Proof.Machine

-- The option has the proofs elaborated one after another, not beside the tests above: the two together exceed the check's memory.
set_option deprecated.oldSectionVars true

/-- The outcomes of commands that run under a guard that puts the timebase back: `whenLive` on a device that runs, `keepTime` whether it
runs or not. -/
def Guarded (s : State) (o : Out) : Prop := (∃ o', o = s.whenLive o') ∨ ∃ o', o = s.keepTime o'

theorem Guarded.live {s : State} (o : Out) : Guarded s (s.whenLive o) := .inl ⟨o, rfl⟩

theorem Guarded.of_keepTime {s : State} {o o' : Out} (e : o = s.keepTime o') : Guarded s o := .inr ⟨o', e⟩

theorem keepTime_keeps {s t : State} {o : Out} (h : s.keepTime o = .next t) : t.time = s.time := by
  cases o with
  | next u => cases h; rfl
  | fault r => cases h
  | refused r => cases h

theorem whenLive_keeps {s t : State} {o : Out} (h : s.whenLive o = .next t) : t.time = s.time := by
  unfold State.whenLive at h
  split at h
  · exact keepTime_keeps h
  · cases h; rfl

/-- Every command off the list of `movesTime` runs under one of the two guards: those of a working device under `whenLive`, those of
its pins, links and test port under `keepTime`. -/
theorem exec_guarded (c : Instr) (s : State) (hc : movesTime c = false) : Guarded s (exec c s) := by
  cases c
  case gridTickBoundary | sheetBoundary | operatingSecond | datumOrderedStart | startRetry | warmRestartDone | vinValid
      | railsReady | vinLoss | resetNAssert | resetNRelease | romBootDone => cases hc
  case alertPulseEnd => exact .of_keepTime (execAlertPulseEnd.eq_1 ..)
  case cxReqAssert => exact .of_keepTime (execCxReqAssert.eq_1 ..)
  case cxReqDeassert => exact .of_keepTime (execCxReqDeassert.eq_1 ..)
  case perstNAssert => exact .of_keepTime (execPerstNAssert.eq_1 ..)
  case perstNDeassert => exact .of_keepTime (execPerstNDeassert.eq_1 ..)
  case pciLink => exact .of_keepTime (execPciLink.eq_1 ..)
  case linkL0Return => exact .of_keepTime (execLinkL0Return.eq_1 ..)
  case extest => exact .of_keepTime (execExtest.eq_1 ..)
  case samplePreload => exact .of_keepTime (execSamplePreload.eq_1 ..)
  case bypass => exact .of_keepTime (execBypass.eq_1 ..)
  case testLogicReset => exact .of_keepTime (execTestLogicReset.eq_1 ..)
  case insetSel => exact .of_keepTime (execInsetSel.eq_1 ..)
  case insetRead => exact .of_keepTime (execInsetRead.eq_1 ..)
  case insetStat => exact .of_keepTime (execInsetStat.eq_1 ..)
  all_goals exact .live _

theorem Guarded.time {s t : State} {o : Out} (h : Guarded s o) (e : o = .next t) : t.time = s.time := by
  obtain ⟨o', rfl⟩ | ⟨o', rfl⟩ := h
  · exact whenLive_keeps e
  · exact keepTime_keeps e

/-- Settles O5: a row that moves no time runs under `State.whenLive` or `State.keepTime`, and both put the timebase back. -/
theorem onlyBoundariesMoveTime : Obligations.OnlyBoundariesMoveTime :=
  fun c s _ hc h => (exec_guarded c s hc).time h

end Sys2Proof.Machine

/-!
SUPPORT. Proofs about register accesses: refusals, clearing reads, and accesses to one bit.
-/

namespace Sys2Proof.Machine

-- The option has the proofs elaborated one after another, not beside the tests above: the two together exceed the check's memory.
set_option deprecated.oldSectionVars true

/-! ### The rows, run on a device that works -/

/-- The effect `u` of a command on `s`, with the queue and the timebase of `s` put back. -/
def State.putBack (u s : State) : State := { u with pending := s.pending, time := s.time }

section
variable (u s : State)

@[simp] theorem putBack_can : (u.putBack s).can = u.can := rfl
@[simp] theorem putBack_out : (u.putBack s).out = u.out := rfl
@[simp] theorem putBack_reg (o : Nat) : (u.putBack s).reg o = u.reg o := rfl
@[simp] theorem putBack_getB (f : Fld) (i j : Nat) : (u.putBack s).getB f i j = u.getB f i j := rfl
@[simp] theorem putBack_mb (m : Nat) : (u.putBack s).mb m = u.mb m := rfl

end

theorem exec_next {c : Instr} {s u : State} (hs : s.alive = true) (e : exec c s = s.whenLive (.next u)) :
    exec c s = .next (u.putBack s) := by
  rw [e]
  simp only [State.whenLive, hs, if_true, State.keepTime, State.putBack]

theorem exec_clearingRead (port : Port) (addr : Nat) (narrow : Bool) (s : State) :
    exec (.clearingRead port addr narrow) s = s.whenLive (.next (s.busRead port addr narrow)) := rfl

theorem exec_aliasAccess (port : AliasPort) (addr : Nat) (acc : AliasAccess) (s : State) :
    exec (.aliasAccess port addr acc) s = execAliasAccess port addr acc s := rfl

/-! ### Words and masks -/

theorem maskClear_div_two (a m : Nat) : maskClear a m / 2 = maskClear (a / 2) (m / 2) := by
  have hd := Nat.and_div_two (a := a) (b := m)
  have hm : (a &&& m) % 2 ≤ a % 2 := by
    rw [Nat.and_mod_two_pow (n := 1)]; exact Nat.and_le_left
  have hl : a &&& m ≤ a := Nat.and_le_left
  simp only [maskClear]
  omega

/-- A bit of a number with a mask's bits cleared. -/
theorem testBit_maskClear (k : Nat) : ∀ a m : Nat, (maskClear a m).testBit k = (a.testBit k && !m.testBit k) := by
  induction k with
  | zero =>
    intro a m
    have hb := Nat.and_mod_two_eq_one (a := a) (b := m)
    have hl : a &&& m ≤ a := Nat.and_le_left
    rw [Bool.eq_iff_iff]
    simp only [Nat.testBit_zero, maskClear, Bool.and_eq_true, Bool.not_eq_true', decide_eq_true_eq, decide_eq_false_iff_not]
    omega
  | succ k ih =>
    intro a m
    rw [← Nat.testBit_div_two, maskClear_div_two, ih, Nat.testBit_div_two, Nat.testBit_div_two]

theorem maskClear_and (a m : Nat) : maskClear a m &&& m = 0 := by
  apply Nat.eq_of_testBit_eq
  intro k
  rw [Nat.testBit_and, testBit_maskClear]
  cases m.testBit k <;> simp

theorem wd_maskClear_and (v : Word) (m : Nat) : (wd (maskClear v.toNat m)).toNat &&& m = 0 := by
  have h : maskClear v.toNat m < 2 ^ 32 := lt_of_le_of_lt (Nat.sub_le _ _) v.isLt
  rw [wd, BitVec.toNat_ofNat, Nat.mod_eq_of_lt h, maskClear_and]

theorem maskClear_two_pow (v : Word) (b : Nat) : maskClear v.toNat (2 ^ b) = v.toNat - getBits v b 1 * 2 ^ b := by
  simp [maskClear, getBits, Nat.and_two_pow, Nat.toNat_testBit]

/-- The bits of a word with one bit replaced, as ALIAS_ACCESS composes it. -/
theorem testBit_wd_replaceBit (w : Word) {b : Nat} (hb : b < 32) (v : Bool) (k : Nat) :
    (wd (maskClear w.toNat (2 ^ b) + b2n v * 2 ^ b)).toNat.testBit k = if k = b then v else w.toNat.testBit k := by
  have e : wd (maskClear w.toNat (2 ^ b) + b2n v * 2 ^ b) = setBits w b 1 (b2n v) := by
    rw [maskClear_two_pow]; cases v <;> rfl
  rw [e, setBits_testBit w b 1 _ k (by omega)]
  by_cases hk : k = b
  · subst hk; cases v <;> simp [b2n]
  · rw [if_neg (by omega), if_neg hk]

/-! ### A refused access (R270, R271, R276) -/

/-- The record of a refused access, before it is counted and raised. -/
def State.markRefusal (s : State) (m : Master) (i kind off : Nat) (write : Bool) : State :=
  (if s.getB (Fd.BLK_STAT_ACC_ERR i) then s
    else (((s.set (Fd.ACC_ADDR_MASTER i) (masterCode m)).set (Fd.ACC_ADDR_KIND i) kind).setB (Fd.ACC_ADDR_WRITE i) write).set
      (Fd.ACC_ADDR_OFFSET i) off).setB (Fd.BLK_STAT_ACC_ERR i) true

theorem quiet_blkStat {i : Nat} (h : i < 35) : quiet ((Reg.BLK_STAT i).off 0 0) = true := by
  revert h; revert i; decide

section
variable (s : State) (m : Master) {i : Nat} (kind off : Nat) (write : Bool)

theorem refuse_raised (h : i < 35) : OnlyRaised (s.markRefusal m i kind off write) (s.refuse m i kind off write) :=
  .after (pulse_raised _ (by unfold regSource; omega)) (count_raised ..)

theorem markRefusal_accErr : (s.markRefusal m i kind off write).getB (Fd.BLK_STAT_ACC_ERR i) = true :=
  getB_setB_same _ (Fd.BLK_STAT_ACC_ERR i) true 0 0 (show 2 + 1 ≤ 32 by decide) Nat.one_pos

theorem markRefusal_can : (s.markRefusal m i kind off write).can = s.can := by
  unfold State.markRefusal
  rw [State.setB_can]
  split
  · rfl
  · rw [State.set_can, State.setB_can, State.set_can, State.set_can]

theorem markRefusal_reg {o : Nat} (hs : o ≠ (Reg.BLK_STAT i).off 0 0) (ha : o ≠ (Reg.ACC_ADDR i).off 0 0) :
    (s.markRefusal m i kind off write).reg o = s.reg o := by
  unfold State.markRefusal
  rw [State.setB, reg_set_other _ (Fd.BLK_STAT_ACC_ERR i) _ 0 0 hs]
  split
  · rfl
  · rw [reg_set_other _ (Fd.ACC_ADDR_OFFSET i) _ 0 0 ha, State.setB, reg_set_other _ (Fd.ACC_ADDR_WRITE i) _ 0 0 ha,
      reg_set_other _ (Fd.ACC_ADDR_KIND i) _ 0 0 ha, reg_set_other _ (Fd.ACC_ADDR_MASTER i) _ 0 0 ha]

theorem refuse_accErr (h : i < 35) : (s.refuse m i kind off write).getB (Fd.BLK_STAT_ACC_ERR i) = true := by
  rw [State.getB, (refuse_raised s m kind off write h).get (Fd.BLK_STAT_ACC_ERR i) 0 0 (quiet_blkStat h)]
  exact markRefusal_accErr s m kind off write

theorem refuse_can (h : i < 35) : (s.refuse m i kind off write).can = s.can :=
  (refuse_raised s m kind off write h).can.trans (markRefusal_can s m kind off write)

theorem refuse_reg (h : i < 35) {o : Nat} (hq : quiet o = true) (hs : o ≠ (Reg.BLK_STAT i).off 0 0)
    (ha : o ≠ (Reg.ACC_ADDR i).off 0 0) : (s.refuse m i kind off write).reg o = s.reg o :=
  ((refuse_raised s m kind off write h).regs o hq).trans (markRefusal_reg s m kind off write hs ha)

end

@[simp] theorem answer_reg (s : State) (v : Word) (o : Nat) : (s.answer v).reg o = s.reg o := rfl
@[simp] theorem answer_getB (s : State) (v : Word) (f : Fld) (i j : Nat) : (s.answer v).getB f i j = s.getB f i j := rfl

/-! ### Register reads by level (R17, R273) -/

theorem readLevel_le (s : State) (off : Nat) : s.readLevel off ≤ 3 := by
  unfold State.readLevel
  split_ifs <;> omega

theorem blockWriteLevel_le (i : Nat) : blockWriteLevel i ≤ 5 := by
  unfold blockWriteLevel
  split_ifs <;> omega

theorem clearRc_reg (s : State) (p : RegAt) (off : Nat) : ((s.clearRc p off).reg off).toNat &&& p.reg.rcMask = 0 := by
  unfold State.clearRc
  split
  · next h => rw [h, Nat.and_zero]
  · rw [reg_setReg_same, wd_maskClear_and]

/-- The Datum core may write every block, so its read of a register clears the RC fields. -/
theorem csrRead_datum_clears (s : State) {off : Nat} {p : RegAt} (h : findReg off = some p) :
    ((s.csrRead .datum off false false).reg off).toNat &&& p.reg.rcMask = 0 := by
  have hr : ¬ s.masterLevel .datum < s.readLevel off := by
    have := readLevel_le s off
    simp only [State.masterLevel]; omega
  have hw : decide (blockWriteLevel (setOf off) ≤ s.masterLevel .datum) = true := decide_eq_true (blockWriteLevel_le _)
  simp only [State.csrRead, h, hr, hw, Bool.false_eq_true, if_false, if_true]
  exact clearRc_reg ..

theorem csrRead_refused (s : State) (m : Master) {off : Nat} {p : RegAt} (ue : Bool) (h : findReg off = some p)
    (hl : s.masterLevel m < s.readLevel off) :
    s.csrRead m off false ue = (s.refuse m (setOf off) 1 off false).answer 0 := by
  simp only [State.csrRead, h, hl, Bool.false_eq_true, if_false, if_true]

/-- Only the performance counters are kept from a host user (Table 14.2, R337). -/
theorem setOf_of_readLevel {s : State} {off : Nat} (h : 2 < s.readLevel off) : setOf off = 30 := by
  by_contra hne
  unfold State.readLevel at h
  rw [if_neg hne] at h
  split_ifs at h <;> omega

/-! ### The lookup of a register by its offset -/

theorem at?_some {r : RegDesc} {off i j : Nat} (h : r.at? off = some (i, j)) :
    i < r.count ∧ j < r.count2 ∧ off = r.off i j := by
  simp only [RegDesc.at?, Option.ite_none_left_eq_some, Option.ite_none_right_eq_some, Option.some.injEq,
    Prod.mk.injEq] at h
  obtain ⟨hb, ⟨hi, hj, hd⟩, rfl, rfl⟩ := h
  exact ⟨hi, hj, by unfold RegDesc.off; omega⟩

/-- The element of a register of one index, looked up at its offset. -/
theorem at?_off {r : RegDesc} {i : Nat} (h2 : r.stride2 = 0) (hj : 0 < r.count2) (hs : 0 < r.stride) (hi : i < r.count) :
    r.at? (r.off i 0) = some (i, 0) := by
  have ho : r.off i 0 - r.base = r.stride * i := by unfold RegDesc.off; omega
  have hb : ¬ r.off i 0 < r.base := by unfold RegDesc.off; omega
  have hd : r.stride * i / r.stride = i := Nat.mul_div_cancel_left i hs
  simp only [RegDesc.at?, hb, ho, Nat.pos_iff_ne_zero.1 hs, hd, h2, hi, hj, if_false, if_true, true_and, Nat.zero_mul, Nat.add_zero]

/-- Registers of which no element lies at an offset are passed over in its lookup. -/
theorem findIn_append {l : List RegDesc} (rs : List RegDesc) {off : Nat}
    (h : ∀ r ∈ l, ∀ i < r.count, ∀ j < r.count2, off ≠ r.off i j) : findIn (l ++ rs) off = findIn rs off := by
  induction l with
  | nil => rfl
  | cons r l ih =>
    have hr : r.at? off = none := by
      rw [Option.eq_none_iff_forall_ne_some]
      rintro ⟨i, j⟩ e
      obtain ⟨hi, hj, ho⟩ := at?_some e
      exact h r (by simp) i hi j hj ho
    simp only [List.cons_append, findIn, hr]
    exact ih fun q hq => h q (by simp [hq])

/-! ### CON.GLIM: a register of which every bit is RW and no access has an effect of its own -/

section
variable (d : Fin 256)

theorem off_glim : Reg.CON_GLIM.off d 0 = 0x21004 + 16 * d.val := by
  simp only [RegDesc.off, Reg.CON_GLIM]; omega

theorem glim_aligned : Reg.CON_GLIM.off d 0 % 4 = 0 := by rw [off_glim]; omega

theorem glim_inMap : Reg.CON_GLIM.off d 0 < 0x40000 := by rw [off_glim]; omega

/-- The registers of CON listed before GLIM lie below it, but for DCTL, whose elements stand between its own. -/
theorem before_glim {r : RegDesc} (h : r ∈ regsCon.take 19) {i j : Nat} (hi : i < r.count) (hj : j < r.count2) :
    Reg.CON_GLIM.off d 0 ≠ r.off i j := by
  have hall : ∀ r ∈ regsCon.take 19, r.count2 = 1 ∧ (r.base + r.stride * (r.count - 1) < 0x21004 ∨ r = Reg.CON_DCTL) := by decide
  obtain ⟨h1, hlow | rfl⟩ := hall r h
  · have hm : r.stride * i ≤ r.stride * (r.count - 1) := Nat.mul_le_mul_left _ (by omega)
    have hj0 : j = 0 := by omega
    rw [off_glim, hj0, RegDesc.off]
    omega
  · rw [off_glim, RegDesc.off]
    simp only [Reg.CON_DCTL] at *
    omega

theorem setOf_glim : setOf (Reg.CON_GLIM.off d 0) = 23 := by
  have h := off_glim d
  rw [setOf, if_neg (by omega), if_neg (by omega), if_neg (by omega), if_neg (by omega), if_neg (by omega), if_neg (by omega),
    if_neg (by omega), if_neg (by omega), if_pos (by omega)]

theorem findReg_glim : findReg (Reg.CON_GLIM.off d 0) = some ⟨Reg.CON_GLIM, d, 0⟩ := by
  have hb : Reg.setBase 23 = 0x20000 := by decide
  have h := off_glim d
  have hl : regsOfSet 23 = regsCon.take 19 ++ Reg.CON_GLIM :: regsCon.drop 20 := rfl
  rw [findReg, if_pos (by omega)]
  simp only [setOf_glim, hb]
  rw [if_neg (by omega), hl, findIn_append _ fun r hr i hi j hj => before_glim d hr hi hj, findIn,
    at?_off rfl Nat.one_pos (by decide) d.isLt]

theorem quiet_glim : quiet (Reg.CON_GLIM.off d 0) = true := by
  have := d.isLt
  simp only [off_glim, quiet, Bool.not_eq_true', Bool.or_eq_false_iff, decide_eq_false_iff_not]
  omega

theorem writeLevel_glim : writeLevel .chart (Reg.CON_GLIM.off d 0) = 4 := by
  have h := off_glim d
  have hosc : Reg.CON_OSC_CFG.base = 0x20058 := rfl
  have hal : Reg.FLT_ALERT.base = 0x34048 := rfl
  have hcur : Reg.FBK_CURSOR.base = 0x38088 := rfl
  have hap : Reg.FBK_AP_CTL.base = 0x3808C := rfl
  unfold writeLevel
  rw [if_neg (by omega), if_neg (by omega), if_neg (by omega), setOf_glim]
  rfl

theorem accOf_glim (b : Fin 32) : Reg.CON_GLIM.accOf b = .rw := by
  revert b; decide

theorem view_glim (s : State) (bank : Nat) :
    s.view bank ⟨Reg.CON_GLIM, d, 0⟩ (Reg.CON_GLIM.off d 0) = s.reg (Reg.CON_GLIM.off d 0) := by
  unfold State.view
  rw [setOf_glim]
  rfl

theorem refuse_glim_reg (s : State) (m : Master) (kind off : Nat) (write : Bool) :
    (s.refuse m setCon kind off write).reg (Reg.CON_GLIM.off d 0) = s.reg (Reg.CON_GLIM.off d 0) := by
  have hs : (Reg.BLK_STAT setCon).off 0 0 = 0x20004 := by decide
  have ha : (Reg.ACC_ADDR setCon).off 0 0 = 0x20024 := by decide
  have hd := off_glim d
  exact refuse_reg s m kind off write (by decide) (quiet_glim d) (by omega) (by omega)

theorem mergeWord_glim (old data : Word) (on1 : Bool) : mergeWord ⟨Reg.CON_GLIM, d, 0⟩ old data on1 = data := by
  have hrw : Reg.CON_GLIM.accMask .rw = 2 ^ 32 - 1 := by decide
  have hrwe : Reg.CON_GLIM.accMask .rwe = 0 := by decide
  simp only [mergeWord, hrw, hrwe, ite_self, Nat.or_zero, maskClear, Nat.and_two_pow_sub_one_eq_mod,
    Nat.mod_eq_of_lt (BitVec.isLt _), Nat.sub_self, Nat.zero_add, wd, BitVec.ofNat_toNat, BitVec.setWidth_eq]

theorem writeEffect_glim (s : State) (m : Master) (old v data : Word) :
    s.writeEffect m ⟨Reg.CON_GLIM, d, 0⟩ (Reg.CON_GLIM.off d 0) old v data = s.setReg (Reg.CON_GLIM.off d 0) v := by
  have hb : Reg.setBase 23 = 0x20000 := by decide
  have h : ¬ Reg.CON_GLIM.off d 0 - Reg.setBase 23 < 0x40 := by rw [off_glim, hb]; omega
  unfold State.writeEffect
  simp only [setOf_glim, h, if_false]
  rfl

theorem writeWord_glim_reg (s : State) (m : Master) (data : Word) :
    (s.writeWord m ⟨Reg.CON_GLIM, d, 0⟩ (Reg.CON_GLIM.off d 0) data).reg (Reg.CON_GLIM.off d 0) = data := by
  unfold State.writeWord
  simp only [writeEffect_glim, reg_setReg_same, mergeWord_glim]
  rfl

end

/-! ### Accesses of Chart to one bit (ALIAS_ACCESS) -/

theorem not_chart_below_readLevel (s : State) (off : Nat) : ¬ s.masterLevel .chart < s.readLevel off := by
  have := readLevel_le s off
  simp only [State.masterLevel]; omega

section
variable {off : Nat} (b : Fin 32) (s : State) (h4 : off % 4 = 0) (hoff : off < 0x40000)
include h4 hoff

/-- Bit `b` of a register word stands at four bytes of the 128 that the word takes in the window of ALIAS_ACCESS (R19, R275). -/
theorem bitAddress_split : ¬ (0x800000 ≤ off * 32 + 4 * b.val ∨ (off * 32 + 4 * b.val) % 4 ≠ 0) ∧
    (off * 32 + 4 * b.val) / 128 * 4 = off ∧ (off * 32 + 4 * b.val) % 128 / 4 = b.val := by omega

theorem exec_aliasRead (narrow : Bool) :
    exec (.aliasAccess .chart (off * 32 + 4 * b.val) ⟨narrow, none⟩) s =
      s.whenLive (.next (s.aliasRead .chart off b narrow)) := by
  obtain ⟨hin, hword, hbit⟩ := bitAddress_split b h4 hoff
  simp only [exec_aliasAccess, execAliasAccess, hin, if_false, hword, hbit]

theorem exec_aliasWrite (narrow v : Bool) :
    exec (.aliasAccess .chart (off * 32 + 4 * b.val) ⟨narrow, some v⟩) s =
      s.whenLive (.next (s.aliasWrite .chart off b narrow v)) := by
  obtain ⟨hin, hword, hbit⟩ := bitAddress_split b h4 hoff
  simp only [exec_aliasAccess, execAliasAccess, hin, if_false, hword, hbit]

end

theorem aliasRead_glim (d : Fin 256) (b : Fin 32) (s : State) :
    (s.aliasRead .chart (Reg.CON_GLIM.off d 0) b false).out.readData =
      if (s.reg (Reg.CON_GLIM.off d 0)).toNat.testBit b then 1 else 0 := by
  have hl := not_chart_below_readLevel s (Reg.CON_GLIM.off d 0)
  have hrc : (Acc.rw == Acc.rc) = false := rfl
  have hwp : (Acc.rw != Acc.wp) = true := rfl
  simp only [State.aliasRead, findReg_glim, hl, view_glim, accOf_glim, hrc, hwp, Bool.false_eq_true, if_false, Bool.false_and,
    Bool.and_true, State.answer, bit]
  cases (s.reg (Reg.CON_GLIM.off d 0)).toNat.testBit b <;> rfl

theorem aliasWrite_glim (d : Fin 256) (b : Fin 32) (v : Bool) (s : State) (k : Nat) :
    ((s.aliasWrite .chart (Reg.CON_GLIM.off d 0) b false v).reg (Reg.CON_GLIM.off d 0)).toNat.testBit k =
      if k = b.val then v else (s.reg (Reg.CON_GLIM.off d 0)).toNat.testBit k := by
  have hl : ¬ s.masterLevel .chart < writeLevel .chart (Reg.CON_GLIM.off d 0) := by
    rw [writeLevel_glim]; exact Nat.lt_irrefl 4
  have hp : isDataPort ⟨Reg.CON_GLIM, d, 0⟩ = false := rfl
  have ha : (Acc.rw == Acc.ro || Acc.rw == Acc.rc) = false := rfl
  have hwp : Reg.CON_GLIM.accMask .wp = 0 := by decide
  have hr : (s.countAccess .chart (Reg.CON_GLIM.off d 0) 4).reg (Reg.CON_GLIM.off d 0) = s.reg (Reg.CON_GLIM.off d 0) :=
    (count_raised ..).regs _ (quiet_glim d)
  simp only [State.aliasWrite, findReg_glim, hl, hp, accOf_glim, ha, hwp, Bool.false_eq_true, if_false, writeWord_glim_reg,
    view_glim, hr, Nat.zero_or]
  exact testBit_wd_replaceBit _ b.isLt v k

theorem aliasWrite_dataPort (s : State) (m : Master) {off : Nat} {p : RegAt} (b : Nat) (v : Bool) (h : findReg off = some p)
    (hl : writeLevel m off ≤ s.masterLevel m) (hp : isDataPort p = true) :
    s.aliasWrite m off b false v = s.refuse m (setOf off) 3 off true := by
  simp only [State.aliasWrite, h, Nat.not_lt.2 hl, hp, Bool.false_eq_true, if_false, if_true]

theorem aliasRead_narrow (s : State) (m : Master) {off : Nat} {p : RegAt} (b : Nat) (h : findReg off = some p) :
    s.aliasRead m off b true = (s.refuse m (setOf off) 2 off false).answer 0 := by
  simp only [State.aliasRead, h, if_true]

theorem aliasWrite_narrow (s : State) (m : Master) {off : Nat} {p : RegAt} (b : Nat) (v : Bool) (h : findReg off = some p) :
    s.aliasWrite m off b true v = s.refuse m (setOf off) 2 off true := by
  simp only [State.aliasWrite, h, if_true]

/-! ### Accesses over a bus -/

theorem busRead_datum (s : State) {addr : Nat} (h4 : addr % 4 = 0) (ha : addr < 0x40000) :
    s.busRead .datum addr false = s.csrRead .datum addr false false := by
  simp only [State.busRead, busTarget, h4, ha, ne_eq, not_true, if_false, if_true]

theorem busRead_user (s : State) {a : Nat} (h4 : a % 4 = 0) (hlo : ¬ a < 0x40000) (hhi : a < 0x80000) :
    s.busRead .bar2 a false = s.csrRead .pcieUser (a - 0x40000) false false := by
  simp only [State.busRead, busTarget, h4, hlo, hhi, ne_eq, not_true, if_false, if_true]

theorem busRead_pageStatus (s : State) (m : Fin 16) :
    s.busRead .bar0 (0x1000 * m.val + 0x204) false = (s.answer (s.pageStatus m)).setMb m { s.mb m with dbOvf := false } := by
  have h4 : (0x1000 * m.val + 0x204) % 4 = 0 := by omega
  have hl : ¬ 0x10000 ≤ 0x1000 * m.val + 0x204 := by omega
  have hd : (0x1000 * m.val + 0x204) / 0x1000 = m.val := by omega
  have hm : (0x1000 * m.val + 0x204) % 0x1000 = 0x204 := by omega
  have h1 : ¬ (0x204 < 0x100) := by decide
  have h2 : ¬ (0x204 < 0x200) := by decide
  simp only [State.busRead, State.pageRead, h4, hl, hd, hm, h1, h2, ne_eq, not_true, if_false, if_true, Bool.false_eq_true]

/-! ### The rows CLEARING_READ and ALIAS_ACCESS -/

theorem clearingRead_clears_rc {addr : Nat} {p : RegAt} {s : State} (hs : s.alive = true) (h4 : addr % 4 = 0)
    (ha : addr < 0x40000) (hp : findReg addr = some p) :
    ∃ t, exec (.clearingRead .datum addr false) s = .next t ∧ (t.reg addr).toNat &&& p.reg.rcMask = 0 := by
  refine ⟨_, exec_next hs (exec_clearingRead ..), ?_⟩
  rw [putBack_reg, busRead_datum s h4 ha]
  exact csrRead_datum_clears s hp

theorem clearingRead_pageStatus (m : Fin 16) {s : State} (hs : s.alive = true) :
    ∃ t, exec (.clearingRead .bar0 (0x1000 * m.val + 0x204) false) s = .next t ∧ t.out.readData = s.pageStatus m ∧
      t.mb m = { s.mb m with dbOvf := false } := by
  refine ⟨_, exec_next hs (exec_clearingRead ..), ?_⟩
  rw [putBack_out, putBack_mb, busRead_pageStatus, mb_setMb_same, State.setMb_out]
  exact ⟨rfl, rfl⟩

theorem clearingRead_below_level {addr : Nat} {p : RegAt} {s : State} (hs : s.alive = true) (h4 : addr % 4 = 0)
    (ha : addr < 0x40000) (hp : findReg addr = some p) (hl : 2 < s.readLevel addr) :
    ∃ t, exec (.clearingRead .bar2 (addr + 0x40000) false) s = .next t ∧ t.out.readData = 0 ∧
      t.getB (Fd.BLK_STAT_ACC_ERR (setOf addr)) = true := by
  have hset : setOf addr < 35 := by rw [setOf_of_readLevel hl]; decide
  have hoff : addr + 0x40000 - 0x40000 = addr := by omega
  refine ⟨_, exec_next hs (exec_clearingRead ..), ?_⟩
  rw [putBack_out, putBack_getB, busRead_user s (by omega) (by omega) (by omega), hoff,
    csrRead_refused s .pcieUser false hp hl, answer_getB]
  exact ⟨rfl, refuse_accErr s .pcieUser 1 addr false hset⟩

theorem aliasAccess_offGrid {s : State} (hs : s.alive = true) (port : AliasPort) {addr : Nat} (n : Bool)
    (ha : 0x800000 ≤ addr ∨ addr % 4 ≠ 0) :
    ∃ t, exec (.aliasAccess port addr ⟨n, none⟩) s = .next t ∧ t.out.readData = 0 ∧ t.csr = s.csr := by
  have e : exec (.aliasAccess port addr ⟨n, none⟩) s = s.whenLive (.next (s.answer 0)) := by
    simp only [exec_aliasAccess, execAliasAccess, ha, if_true, Option.isNone]
  exact ⟨_, exec_next hs e, rfl, rfl⟩

section
variable {s : State} (hs : s.alive = true) (b : Fin 32)
include hs

theorem aliasAccess_writes_bit (d : Fin 256) (v : Bool) :
    ∃ t, exec (.aliasAccess .chart (Reg.CON_GLIM.off d 0 * 32 + 4 * b.val) ⟨false, some v⟩) s = .next t ∧
      ∀ k, (t.reg (Reg.CON_GLIM.off d 0)).toNat.testBit k =
        if k = b.val then v else (s.reg (Reg.CON_GLIM.off d 0)).toNat.testBit k := by
  refine ⟨_, exec_next hs (exec_aliasWrite b s (glim_aligned d) (glim_inMap d) false v), fun k => ?_⟩
  rw [putBack_reg, aliasWrite_glim]

theorem aliasAccess_reads_bit (d : Fin 256) :
    ∃ t, exec (.aliasAccess .chart (Reg.CON_GLIM.off d 0 * 32 + 4 * b.val) ⟨false, none⟩) s = .next t ∧
      t.out.readData = if (s.reg (Reg.CON_GLIM.off d 0)).toNat.testBit b then 1 else 0 := by
  refine ⟨_, exec_next hs (exec_aliasRead b s (glim_aligned d) (glim_inMap d) false), ?_⟩
  rw [putBack_out, aliasRead_glim]

theorem aliasAccess_dataPort (v : Bool) :
    ∃ t, exec (.aliasAccess .chart (Reg.CAN_AMAP_DATA.base * 32 + 4 * b.val) ⟨false, some v⟩) s = .next t ∧ t.can = s.can ∧
      t.getB (Fd.BLK_STAT_ACC_ERR setCan) = true := by
  have hf : findReg Reg.CAN_AMAP_DATA.base = some ⟨Reg.CAN_AMAP_DATA, 0, 0⟩ := by decide
  have hw : writeLevel .chart Reg.CAN_AMAP_DATA.base = 4 := by decide
  have hset : setOf Reg.CAN_AMAP_DATA.base = setCan := by decide
  refine ⟨_, exec_next hs (exec_aliasWrite b s (by decide) (by decide) false v), ?_⟩
  rw [putBack_can, putBack_getB, aliasWrite_dataPort s .chart b v hf (Nat.le_of_eq hw) rfl, hset]
  exact ⟨refuse_can s .chart 3 _ true (by decide), refuse_accErr s .chart 3 _ true (by decide)⟩

theorem aliasAccess_narrow (d : Fin 256) (w : Option Bool) :
    ∃ t, exec (.aliasAccess .chart (Reg.CON_GLIM.off d 0 * 32 + 4 * b.val) ⟨true, w⟩) s = .next t ∧
      t.reg (Reg.CON_GLIM.off d 0) = s.reg (Reg.CON_GLIM.off d 0) ∧ t.getB (Fd.BLK_STAT_ACC_ERR setCon) = true ∧
      (w = none → t.out.readData = 0) := by
  cases w with
  | none =>
    refine ⟨_, exec_next hs (exec_aliasRead b s (glim_aligned d) (glim_inMap d) true), ?_⟩
    rw [putBack_reg, putBack_getB, putBack_out, aliasRead_narrow s .chart b (findReg_glim d), setOf_glim, answer_reg, answer_getB]
    exact ⟨refuse_glim_reg d s .chart 2 _ false, refuse_accErr s .chart 2 _ false (by decide), fun _ => rfl⟩
  | some v =>
    refine ⟨_, exec_next hs (exec_aliasWrite b s (glim_aligned d) (glim_inMap d) true v), ?_⟩
    rw [putBack_reg, putBack_getB, aliasWrite_narrow s .chart b v (findReg_glim d), setOf_glim]
    exact ⟨refuse_glim_reg d s .chart 2 _ true, refuse_accErr s .chart 2 _ true (by decide), fun h => nomatch h⟩

end

/-- Settles O28: CLEARING_READ and ALIAS_ACCESS of a device that runs reduce to the register and page reads and writes above, and a
refusal to `refuse_raised`. -/
theorem clearingReadsAndAliases : Obligations.ClearingReadsAndAliases :=
  ⟨⟨fun _ _ _ hs h4 ha hp => clearingRead_clears_rc hs h4 ha hp, fun m _ hs => clearingRead_pageStatus m hs,
      fun _ _ _ hs h4 ha hp hl => clearingRead_below_level hs h4 ha hp hl⟩,
    fun d b v _ hs => aliasAccess_writes_bit hs b d v,
    fun d b _ hs => aliasAccess_reads_bit hs b d, fun b v _ hs => aliasAccess_dataPort hs b v,
    fun d b w _ hs => aliasAccess_narrow hs b d w, fun port _ n _ hs ha => aliasAccess_offGrid hs port n ha⟩

end Sys2Proof.Machine

/-!
SUPPORT. Proofs about time over every command: how a reset, a start and a loss of power leave the timebase.
-/

namespace Sys2Proof.Machine

-- The option has the proofs elaborated one after another, not beside the tests above: the two together exceed the check's memory.
set_option deprecated.oldSectionVars true

/-! ### What repeating a change leaves alone -/

/-- `p` reads the same of `t` as of `s`. A structure, so that checking a proof compares the states as they are written and evaluates
neither. -/
structure Keeps {σ β : Type} (p : σ → β) (s t : σ) : Prop where
  eq : p t = p s

/-- What every change of a list leaves alone, the whole list leaves alone. -/
theorem forEach_keeps_mem {α σ β : Type} (p : σ → β) (l : List α) (f : σ → α → σ)
    (hf : ∀ s, ∀ a ∈ l, Keeps p s (f s a)) (s : σ) : p (forEach l s f) = p s := by
  induction l generalizing s with
  | nil => rfl
  | cons a l ih => exact (ih (fun s b hb => hf s b (by simp [hb])) (f s a)).trans (hf s a (by simp)).eq

theorem forEach_keeps {α σ β : Type} (p : σ → β) (l : List α) (f : σ → α → σ) (hf : ∀ s a, Keeps p s (f s a))
    (s : σ) : p (forEach l s f) = p s := forEach_keeps_mem p l f (fun s a _ => hf s a) s

/-! ### The timebase under the operations of a start

`simp -implicitDefEqProofs` writes each rewriting into the proof: to check one that it leaves out, the kernel would unfold whole
states. -/

@[simp] theorem offer_time (s : State) (r : Record) : (s.offer r).time = s.time := (offer_raised s r).time

@[simp] theorem dropOffer_time (s : State) (sev : Nat) (st : Stamp) : (s.dropOffer sev st).time = s.time :=
  (dropOffer_raised s sev st).time

@[simp] theorem alertPulse_time (s : State) : s.alertPulse.time = s.time := (alertPulse_raised s).time

@[simp] theorem notifyNow_time (s : State) (code : Nat) (l : List Word) : (s.notifyNow code l).time = s.time :=
  (notifyNow_raised s code l).time

@[simp] theorem notifyChart_time (s : State) (code : Nat) (l : List Word) : (s.notifyChart code l).time = s.time :=
  (notifyChart_raised s code l).time

@[simp] theorem raise_time (s : State) {src : Nat} (h : src < 512) : (s.raise src).time = s.time := (raise_raised s h).time

@[simp] theorem pulse_time (s : State) {src : Nat} (h : src < 512) : (s.pulse src).time = s.time := (pulse_raised s h).time

@[simp] theorem pulseNoRecord_time (s : State) {src : Nat} (h : src < 512) : (s.pulseNoRecord src).time = s.time :=
  (pulseNoRecord_raised s h).time

@[simp] theorem complete_time (s : State) (m : Nat) (c : Command) (st : Nat) (p : List Word) : (s.complete m c st p).time = s.time :=
  (complete_answered s m c st p).time

@[simp] theorem setService_time (s : State) (st : Nat) : (s.setService st).time = s.time := by
  simp -implicitDefEqProofs [State.setService]

@[simp] theorem imageRecord_time (s : State) (i r : Nat) : (s.imageRecord i r).time = s.time := by
  simp -implicitDefEqProofs [State.imageRecord]

@[simp] theorem startFailure_time (s : State) (reason : Nat) : (s.startFailure reason).time = s.time := by
  simp -implicitDefEqProofs [State.startFailure]

@[simp] theorem clearWaits_time (s : State) : s.clearWaits.time = s.time := rfl

@[simp] theorem dropLock_time (s : State) : s.dropLock.time = s.time := rfl

@[simp] theorem abortMailboxes_time (s : State) : s.abortMailboxes.time = s.time := by
  simp -implicitDefEqProofs only [State.abortMailboxes, dropLock_time, clearWaits_time]
  refine forEach_keeps State.time _ _ (fun s m => ⟨?_⟩) s
  rw [State.setMb_time]
  exact forEach_keeps State.time _ _ (fun s c => ⟨notifyNow_time ..⟩) s

@[simp] theorem cxCopy_time (s : State) : s.cxCopy.time = s.time := by
  unfold State.cxCopy
  exact forEach_keeps State.time _ _ (fun _ _ => ⟨State.setB_time ..⟩) s

@[simp] theorem cxLow_time (s : State) : s.cxLow.time = s.time := by
  unfold State.cxLow
  exact forEach_keeps State.time _ _ (fun _ _ => ⟨State.setB_time ..⟩) s

/-- The timebase that a reset leaves: grid ticks from 0, one operating second after the one stored (R27). -/
def Time.resumed (a : Time) : Time :=
  { State.reset.time with opSec := a.mramSec + 1, mramSec := a.mramSec + 1, pwrCyc := a.pwrCyc }

/-- The state on which a reset acts: the commands that wait are answered, and an image being written is recorded (R260). -/
def State.settled (s : State) (vin : Bool) : State :=
  (if s.start.writing.isSome && vin then s.imageRecord (1 - s.fw.bootImage) 2 else s).abortMailboxes

theorem settled_time (s : State) (vin : Bool) : (s.settled vin).time = s.time := by
  simp -implicitDefEqProofs only [State.settled, abortMailboxes_time, apply_ite State.time, imageRecord_time, ite_self]

theorem resetDevice_time (s : State) (kind : Nat) (vin : Bool) : (s.resetDevice kind vin).time = s.time.resumed := by
  rw [← settled_time s vin]
  cases vin with
  | false => rfl
  | true =>
    unfold State.resetDevice
    simp -implicitDefEqProofs only [if_true, apply_ite State.time, State.setB_time, ite_self]
    rw [forEach_keeps State.time _ _ fun _ _ => ⟨by simp -implicitDefEqProofs only [State.setB_time]⟩,
      forEach_keeps State.time _ _ fun _ _ => ⟨by simp -implicitDefEqProofs only [State.setB_time]⟩]
    rfl

@[simp] theorem beginStart_time (s : State) (sel : Nat) : (s.beginStart sel).time = s.time := rfl

theorem orderStart_time (s : State) (sel : Nat) : (s.orderStart sel).time = s.time.resumed := by
  simp -implicitDefEqProofs only [State.orderStart, beginStart_time, resetDevice_time, apply_ite State.time,
    startFailure_time, ite_self]

/-! ### The timebase under the end of ROM boot -/

@[simp] theorem countVictim_time (s : State) (sev : Nat) : (s.countVictim sev).time = s.time := by
  simp -implicitDefEqProofs [State.countVictim, apply_ite State.time]

theorem place_time {s t : State} {r : Record} {q n : Nat} (h : s.place r = some (t, q, n)) : t.time = s.time := by
  unfold State.place at h
  simp -implicitDefEqProofs only [] at h
  split at h
  · split at h
    · cases h; exact countVictim_time s _
    · cases h
  · cases h; rfl

@[simp] theorem placeOrDrop_time (s : State) (r : Record) : (s.placeOrDrop r).1.time = s.time := by
  unfold State.placeOrDrop
  split
  · next h => exact place_time h
  · exact dropOffer_time ..

@[simp] theorem levelEvent_time (s : State) (lv : Nat) : (s.levelEvent lv).time = s.time := by
  simp -implicitDefEqProofs [State.levelEvent, apply_ite State.time]

theorem bookRebuild_time (s : State) (mainOk spareOk : Bool) : (s.bookRebuild mainOk spareOk).time = s.time := by
  simp -implicitDefEqProofs [State.bookRebuild, apply_ite State.time]

@[simp] theorem enterHoldover_time (s : State) : s.enterHoldover.time = s.time := by simp -implicitDefEqProofs [State.enterHoldover]

@[simp] theorem refLost_time (s : State) (second : Bool) : (s.refLost second).time = s.time := by
  simp -implicitDefEqProofs [State.refLost, apply_ite State.time]

theorem bootRefs_time (s : State) (ref1 ref2 : Nat) : (s.bootRefs ref1 ref2).time = s.time := by
  simp -implicitDefEqProofs [State.bootRefs, apply_ite State.time]

@[simp] theorem setSlot_time (s : State) (k : Nat) (a : Slot) : (s.setSlot k a).time = s.time := rfl

@[simp] theorem syncMirror_time (s : State) : s.syncMirror.time = s.time := rfl

@[simp] theorem loseAtlasChannel_time (s : State) (c : Nat) : (s.loseAtlasChannel c).time = s.time := by
  simp -implicitDefEqProofs only [State.loseAtlasChannel, apply_ite State.time, pulse_time, setSlot_time,
    syncMirror_time, ite_self, Nat.reduceLT]

@[simp] theorem loseImages_time (s : State) (c : Nat) : (s.loseImages c).time = s.time := rfl

@[simp] theorem captureStop_time (s : State) (data : List (Nat × Word)) : (s.captureStop data).time = s.time := by
  unfold State.captureStop State.captureEnd
  simp -implicitDefEqProofs only []
  split
  · exact complete_time ..
  · rfl

@[simp] theorem dropDram_time (s : State) : s.dropDram.time = s.time := rfl

@[simp] theorem dropDramInFlight_time (s : State) (c : Nat) : (s.dropDramInFlight c).time = s.time := by
  unfold State.dropDramInFlight
  split
  · simp -implicitDefEqProofs only [apply_ite State.time, State.setB_time, dropDram_time, ite_self]
  · rfl

theorem loseDram_time (s : State) {c : Nat} (inj : Bool) (hc : c < 4) : (s.loseDram c inj).time = s.time := by
  have hraise (u : State) : (u.raiseCycle [⟨285 + c, inj, false, 0, 0⟩]).time = u.time :=
    (raiseCycle_raised u _ (by simp; omega)).time
  simp -implicitDefEqProofs only [State.loseDram, apply_ite State.time, dropDramInFlight_time, captureStop_time,
    loseAtlasChannel_time, loseImages_time, hraise, State.setB_time, ite_self]

theorem trainDram_time (s : State) (trained : Nat) {c : Nat} (hc : c < 4) : (s.trainDram trained c).time = s.time := by
  simp -implicitDefEqProofs only [State.trainDram, apply_ite State.time, raise_time _ (show 285 + c < 512 by omega),
    loseDram_time _ false hc, State.setB_time, ite_self]

theorem romBoot_time (s : State) (trained ref1 ref2 : Nat) (mainOk spareOk : Bool) :
    (forEach (List.range 4) ((s.bookRebuild mainOk spareOk).bootRefs ref1 ref2) fun s c => s.trainDram trained c).time = s.time :=
  (forEach_keeps_mem State.time _ _ (fun s _ hc => ⟨trainDram_time s trained (List.mem_range.1 hc)⟩) _).trans
    ((bootRefs_time ..).trans (bookRebuild_time ..))

/-! ### Timebases that follow one another (R27) -/

/-- From a timebase within its bounds, `b` is one within its bounds, and its operating second, the copy in MRAM and the count of power
cycles are no lower. -/
def Time.Follows (a b : Time) : Prop :=
  a.Kept → b.Kept ∧ a.opSec ≤ b.opSec ∧ a.mramSec ≤ b.mramSec ∧ a.pwrCyc ≤ b.pwrCyc

theorem Time.Follows.of_seconds {a b : Time} (ho : b.opSec = a.opSec) (hm : b.mramSec = a.mramSec) (hp : b.pwrCyc = a.pwrCyc) :
    a.Follows b := by
  rintro ⟨h1, h2, h3⟩
  refine ⟨⟨?_, ?_, ?_⟩, ?_, ?_, ?_⟩ <;> omega

theorem Time.Follows.of_eq {a b : Time} (h : b = a) : a.Follows b := h ▸ .of_seconds rfl rfl rfl

/-- A reset resumes one second after the one stored, at most the one that ran. -/
theorem Time.Follows.resumed (a : Time) : a.Follows a.resumed := by
  rintro ⟨h1, h2, h3⟩
  refine ⟨⟨?_, ?_, h3⟩, h2, ?_, le_refl _⟩ <;> simp only [Time.resumed] <;> omega

theorem Time.Follows.nextSecond (a : Time) (base : Nat) :
    a.Follows { a with opSec := a.opSec + 1, mramSec := a.opSec + 1, secBase := base } := by
  rintro ⟨h1, h2, h3⟩
  refine ⟨⟨?_, ?_, h3⟩, ?_, ?_, le_refl _⟩ <;> simp only [] <;> omega

/-- A power cycle counts up to 24 bits. -/
theorem Time.Follows.powerCycle (a : Time) : a.Follows { a with pwrCyc := min (a.pwrCyc + 1) 0xFFFFFF } := by
  rintro ⟨h1, h2, h3⟩
  refine ⟨⟨h1, h2, min_le_right _ _⟩, le_refl _, le_refl _, ?_⟩
  simp only []
  omega

theorem follows_ite {a : Time} {c : Prop} [Decidable c] {t u : State} (ht : a.Follows t.time) (hu : a.Follows u.time) :
    a.Follows (if c then t else u).time := by
  split
  · exact ht
  · exact hu

/-! ### Outcomes whose timebase follows -/

/-- Every next state of an outcome has a timebase that follows `a`. -/
def Advances (a : Time) (o : Out) : Prop := ∀ t, o = .next t → a.Follows t.time

theorem Advances.next {a : Time} {u : State} (h : a.Follows u.time) : Advances a (.next u) := by
  rintro t ⟨⟩
  exact h

theorem Advances.ite {a : Time} {c : Prop} [Decidable c] {o o' : Out} (h : Advances a o) (h' : Advances a o') :
    Advances a (if c then o else o') := by
  split
  · exact h
  · exact h'

theorem Advances.keepQueue {a : Time} {o : Out} (s : State) (h : Advances a o) : Advances a (s.keepQueue o) := by
  cases o with
  | next u => exact .next (h u rfl)
  | fault f => rintro t ⟨⟩
  | refused r => rintro t ⟨⟩

theorem Advances.live {o : Out} {s : State} (h : Advances s.time o) : Advances s.time (s.whenLiveTimed o) :=
  .ite (.keepQueue s h) (.next (.of_eq rfl))

/-! ### The rows that move time -/

section
variable (s : State)

theorem gridTickBoundary_advances (inp : TickInput) : Advances s.time (exec (.gridTickBoundary inp) s) := by
  refine .live (.ite (.next (.of_eq rfl)) (.next ?_))
  exact .of_seconds rfl rfl rfl

theorem sheetBoundary_advances (inp : SheetInput) : Advances s.time (exec (.sheetBoundary inp) s) := by
  refine .live (.ite (.next (.of_eq rfl)) (.next ?_))
  exact .of_seconds rfl rfl rfl

theorem operatingSecond_advances : Advances s.time (exec .operatingSecond s) :=
  .live (.ite (.next (.of_eq rfl)) (.next (.nextSecond s.time _)))

theorem orderStart_advances {u : State} (sel : Nat) (hu : u.time = s.time) : s.time.Follows (u.orderStart sel).time := by
  rw [orderStart_time, hu]
  exact .resumed s.time

theorem datumOrderedStart_advances (sel : Fin 4) : Advances s.time (exec (.datumOrderedStart sel) s) :=
  .live (.next (orderStart_advances s sel rfl))

/-- A command row follows where its body does: the answers to undefined opcodes take no time. -/
theorem runCommand_follows (m op : Nat) (body : State → Command → State)
    (hb : ∀ u c, u.time = s.time → s.time.Follows (body u c).time) : s.time.Follows (s.runCommand m op body).time := by
  unfold State.runCommand
  refine follows_ite ?_ (.of_eq rfl)
  split
  · refine follows_ite ?_ (.of_eq rfl)
    rw [(drainUndefined_answered ..).time]
    exact hb _ _ (startOldest_answered ..).time
  · exact .of_eq rfl

theorem checked_follows {u : State} (m : Nat) (c : Command) (level : Nat) (perm : Bool) (body : State → State) (hu : u.time = s.time)
    (hb : s.time.Follows (body u).time) : s.time.Follows (u.checked m c level perm body).time := by
  unfold State.checked
  split
  · exact .of_eq ((complete_time ..).trans hu)
  · exact follows_ite (.of_eq ((complete_time ..).trans hu)) hb

theorem startRetry_advances (mb : Fin 20) : Advances s.time (exec (.startRetry mb) s) := by
  refine .live (.next (runCommand_follows s mb 0x72 _ fun u c hu => checked_follows s mb c 3 false _ hu ?_))
  refine follows_ite (.of_eq ((complete_time ..).trans hu)) (follows_ite (.of_eq ((complete_time ..).trans hu)) ?_)
  exact orderStart_advances s _ ((State.set_time ..).trans hu)

theorem warmRestartDone_advances (ok : Bool) : Advances s.time (exec (.warmRestartDone ok) s) := by
  refine .live (.ite (.next (.of_eq rfl)) ?_)
  split
  · refine .next (.of_eq ?_)
    simp -implicitDefEqProofs
  · exact .next (orderStart_advances s _ rfl)

theorem vinValid_advances : Advances s.time (exec .vinValid s) :=
  .keepQueue s (.ite (.next (.of_eq rfl)) (.next (.powerCycle s.time)))

theorem railsReady_advances (sel : Fin 4) : Advances s.time (exec (.railsReady sel) s) :=
  .keepQueue s (.ite (.next (.of_eq rfl)) (.next (follows_ite (.of_eq rfl) (.of_eq rfl))))

theorem resetDevice_advances (kind : Nat) (vin : Bool) : s.time.Follows (s.resetDevice kind vin).time := by
  rw [resetDevice_time]
  exact .resumed s.time

theorem vinLoss_advances : Advances s.time (exec .vinLoss s) :=
  .keepQueue s (.ite (.next (.of_eq rfl)) (.next (resetDevice_advances s 0 false)))

theorem resetNAssert_advances : Advances s.time (exec .resetNAssert s) := by
  refine .keepQueue s (.ite (.next (.of_eq rfl)) (.ite (.next (.of_eq rfl)) (.next ?_)))
  simp -implicitDefEqProofs only [cxCopy_time]
  exact resetDevice_advances s 1 true

theorem resetNRelease_advances (sel : Fin 4) : Advances s.time (exec (.resetNRelease sel) s) := by
  refine .keepQueue s (.ite (.next (.of_eq rfl)) (.next (follows_ite (.of_eq ?_) (.of_eq rfl))))
  rw [beginStart_time, cxLow_time]

theorem romBootDone_advances (ms trained ref1 ref2 : Nat) (mainOk spareOk : Bool) :
    Advances s.time (exec (.romBootDone ms trained ref1 ref2 mainOk spareOk) s) := by
  refine .keepQueue s (.ite (.next (.of_eq rfl)) (.next ?_))
  rw [romBoot_time]
  exact .of_seconds rfl rfl rfl

/-- No command takes the operating second back: those off the list of `movesTime` leave the timebase as it is, and each on it
follows. -/
theorem exec_advances (c : Instr) : Advances s.time (exec c s) := by
  by_cases hc : movesTime c = false
  · exact fun t h => .of_eq (onlyBoundariesMoveTime c s t hc h)
  · cases c with
    | gridTickBoundary inp => exact gridTickBoundary_advances s inp
    | sheetBoundary inp => exact sheetBoundary_advances s inp
    | operatingSecond => exact operatingSecond_advances s
    | datumOrderedStart sel => exact datumOrderedStart_advances s sel
    | startRetry mb => exact startRetry_advances s mb
    | warmRestartDone ok => exact warmRestartDone_advances s ok
    | vinValid => exact vinValid_advances s
    | railsReady sel => exact railsReady_advances s sel
    | vinLoss => exact vinLoss_advances s
    | resetNAssert => exact resetNAssert_advances s
    | resetNRelease sel => exact resetNRelease_advances s sel
    | romBootDone ms trained ref1 ref2 mainOk spareOk => exact romBootDone_advances s ms trained ref1 ref2 mainOk spareOk
    | _ => exact absurd rfl hc

end

theorem step_advances (s : State) : Advances s.time (step s) := by
  unfold step
  split
  · exact .next (.of_eq rfl)
  · exact exec_advances { s with pending := _ } _

/-- Settles O6: a step runs one command, and no command takes the timebase back (`exec_advances`). -/
theorem operatingTimeNeverGoesBack : Obligations.OperatingTimeNeverGoesBack :=
  fun s t hk h => step_advances s t h hk

/-! ### The rows of the cadence, run on a device that works -/

theorem exec_timed {c : Instr} {s u : State} (hs : s.alive = true) (e : exec c s = s.whenLiveTimed (.next u)) :
    exec c s = .next { u with pending := s.pending } := by
  rw [e]
  simp only [State.whenLiveTimed, hs, if_true, State.keepQueue]

theorem sheetDue_boundary {s : State} (h : s.sheetDue = true) : s.time.gt % 80 = 0 := by
  simp only [State.sheetDue, Bool.and_eq_true, decide_eq_true_eq] at h
  exact h.1

/-- The grid tick at which SHEET_BOUNDARY stands. -/
def State.boundaryTick (s : State) : Nat := if s.sheetDue then s.time.gt else s.nextSheetTick

theorem boundaryTick_due {s : State} (h : s.sheetDue = true) : s.boundaryTick = s.time.gt := by
  simp only [State.boundaryTick, h, if_true]

theorem boundaryTick_next {s : State} (h : s.sheetDue = false) : s.boundaryTick = (s.time.gt / 80 + 1) * 80 := by
  simp only [State.boundaryTick, h, Bool.false_eq_true, if_false, State.nextSheetTick, State.sheet]

theorem boundaryTick_mod (s : State) : s.boundaryTick % 80 = 0 := by
  cases h : s.sheetDue with
  | true => rw [boundaryTick_due h, sheetDue_boundary h]
  | false => rw [boundaryTick_next h, Nat.mul_mod_left]

theorem gridTickBoundary_next {s : State} (hs : s.alive = true) (hp : s.start.phase ≠ 1) (inp : TickInput) :
    ∃ t, exec (.gridTickBoundary inp) s = .next t ∧ t.time = { s.time with gt := s.time.gt + 1 } := by
  have e : exec (.gridTickBoundary inp) s =
      s.whenLiveTimed (.next { s.gridTick inp with time := { s.time with gt := s.time.gt + 1 } }) :=
    congrArg s.whenLiveTimed (if_neg hp)
  exact ⟨_, exec_timed hs e, rfl⟩

theorem sheetBoundary_next {s : State} (hs : s.alive = true) (hp : s.start.phase ≠ 1) (inp : SheetInput) :
    ∃ t, exec (.sheetBoundary inp) s = .next t ∧ t.time = { s.time with
      gt := s.boundaryTick, sheetsRun := if s.toSheet.start.frozen then s.time.sheetsRun else s.boundaryTick / 80 + 1 } := by
  have e : exec (.sheetBoundary inp) s = s.whenLiveTimed (.next
      { (if s.toSheet.start.frozen then s.toSheet else s.toSheet.sheetBoundary inp) with
        time := { s.time with
          gt := s.boundaryTick
          sheetsRun := if s.toSheet.start.frozen then s.time.sheetsRun else s.boundaryTick / 80 + 1 } }) :=
    congrArg s.whenLiveTimed (if_neg hp)
  exact ⟨_, exec_timed hs e, rfl⟩

/-- What OPERATING_SECOND leaves once its time has come. -/
def State.nextSecond (s : State) : State :=
  { s with time := { s.time with
      opSec := s.time.opSec + 1, mramSec := s.time.opSec + 1, secBase := s.time.secBase + 640000 } }

theorem exec_operatingSecond (s : State) : exec .operatingSecond s =
    s.whenLiveTimed (if s.start.phase = 1 ∨ s.time.gt < s.time.secBase + 640000 then .next s else .next s.nextSecond) := rfl

theorem operatingSecond_due {s : State} (hs : s.alive = true) (hp : s.start.phase ≠ 1)
    (h : s.time.secBase + 640000 ≤ s.time.gt) : exec .operatingSecond s = .next s.nextSecond := by
  have hn : ¬ (s.start.phase = 1 ∨ s.time.gt < s.time.secBase + 640000) := by omega
  refine exec_timed (u := s.nextSecond) hs ?_
  rw [exec_operatingSecond, if_neg hn]

theorem operatingSecond_early {s : State} (hs : s.alive = true) (h : s.time.gt < s.time.secBase + 640000) :
    exec .operatingSecond s = .next s := by
  refine exec_timed hs ?_
  rw [exec_operatingSecond, if_pos (.inr h)]

/-- Settles O4: each row writes the timebase last (`gridTickBoundary_next`, `sheetBoundary_next`, `operatingSecond_due`), so what it
does before that does not enter. -/
theorem boundariesMoveTime : Obligations.BoundariesMoveTime := by
  refine ⟨fun inp s hs hp => gridTickBoundary_next hs hp inp, fun inp s hs hp => ?_, fun s hs hp => ?_⟩
  · obtain ⟨t, e, ht⟩ := sheetBoundary_next hs hp inp
    refine ⟨t, e, ?_⟩
    rw [ht]
    exact ⟨boundaryTick_mod s, boundaryTick_due, boundaryTick_next, fun hf => by simp only [hf, Bool.false_eq_true, if_false],
      rfl, rfl, rfl, rfl⟩
  · rcases Nat.lt_or_ge s.time.gt (s.time.secBase + 640000) with h | h
    · exact ⟨s, operatingSecond_early hs h, fun h' => absurd h (Nat.not_lt.2 h'), fun _ => rfl⟩
    · exact ⟨_, operatingSecond_due hs hp h, fun _ => rfl, fun h' => absurd h' (Nat.not_lt.2 h)⟩

end Sys2Proof.Machine

/-!
SUPPORT. Proofs about the system commands of Table 13.8.
-/

namespace Sys2Proof.Machine

-- The option has the proofs elaborated one after another, not beside the tests above: the two together exceed the check's memory.
set_option deprecated.oldSectionVars true

/-! ### NOP, IDENTIFY, TIMESTAMP -/

section
variable {mb : Fin 20} {s : State} {c : Command}

theorem nop_answers (h : s.runs mb 0x00 1 false c) :
    ∃ t, exec (.nop mb) s = .next t ∧ s.answers t mb c 0 (c.payload.take 63) ∧ OnlyAnswered mb s t :=
  runs_answers h (fun _ => 1) (fun _ _ => false) (fun s c => s.complete mb c 0x00 c.payload) rfl rfl 0 c.payload rfl

/-- The payload of IDENTIFY (Table 13.8). -/
def State.identity (s : State) : List Word :=
  [s.reg (Reg.SYS_DEV_ID.off 0 0), s.fw.version, s.reg (Reg.SYS_SERIAL_LO.off 0 0), s.reg (Reg.SYS_SERIAL_HI.off 0 0),
    wd (s.get Fd.MBX_CSTAT_PAIR + s.fw.bootImage * 256)]

theorem identify_answers (h : s.runs mb 0x01 1 false c) :
    ∃ t, exec (.identify mb) s = .next t ∧ s.answers t mb c 0 s.identity ∧ OnlyAnswered mb s t :=
  runs_answers h (fun _ => 1) (fun _ _ => false) (fun s c => s.complete mb c 0x00 s.identity) rfl rfl 0 s.identity rfl

theorem latchTime_startOldest (s : State) (m : Nat) : (s.startOldest m).latchTime = s.latchTime.startOldest m := rfl

theorem timestamp_answers (h : s.runs mb 0x04 1 false c) :
    ∃ t, exec (.timestamp mb) s = .next t ∧
      s.answers t mb c 0 [wd s.time.opSec, wd s.time.pwrCyc, wd s.gtInSec] ∧ OnlyAnswered mb s.latchTime t := by
  obtain ⟨t, e, ha, hk⟩ := runs_complete h (fun _ => 1) (fun _ _ => false)
    (fun s c => s.latchTime.complete mb c 0x00 [wd s.time.opSec, wd s.time.pwrCyc, wd s.gtInSec]) rfl rfl
    (s.startOldest mb).latchTime 0 [wd s.time.opSec, wd s.time.pwrCyc, wd s.gtInSec] rfl rfl rfl (startOldest_waiting s mb)
  rw [latchTime_startOldest] at hk
  exact ⟨t, e, ha, (startOldest_answered s.latchTime mb).trans hk⟩

/-! ### MB_LEVEL and NOTIFY_MASK -/

/-- Word 1 of MB_LEVEL names a mailbox whose level may not be set, or no level. -/
abbrev badLevel (w : Word) : Prop := wbits w 4 0 = 0 ∨ wbits w 4 0 = 15 ∨ 19 < wbits w 4 0 ∨ wbits w 9 8 = 0

/-- The state with a level to set once the response tagged `tag` is posted. -/
def State.awaitLevel (s : State) (mb tag : Nat) (w : Word) : State :=
  s.setMb mb { s.mb mb with levelPending := (s.mb mb).levelPending ++ [(tag, wbits w 4 0, wbits w 9 8)] }

/-- What MB_LEVEL does once its checks have passed. -/
def mbLevelBody (mb : Nat) (s : State) (c : Command) : State :=
  if badLevel (c.word 1) then s.complete mb c 0x04 else (s.complete mb c 0x00).awaitLevel mb c.tag (c.word 1)

theorem exec_mbLevel (mb : Fin 20) (s : State) : exec (.mbLevel mb) s =
    s.whenLive (.next (s.runCommand mb 0x02 fun s c => s.checked mb c 3 false fun s => mbLevelBody mb s c)) := rfl

theorem mbLevel_refused (h : s.runs mb 0x02 3 false c) (hb : badLevel (c.word 1)) :
    ∃ t, exec (.mbLevel mb) s = .next t ∧ s.answers t mb c 4 [] ∧ OnlyAnswered mb s t := by
  rw [exec_mbLevel]
  exact runs_answers h (fun _ => 3) (fun _ _ => false) (mbLevelBody mb) rfl rfl 4 [] (if_pos hb)

theorem OnlyAnswered.levelPending {m : Nat} {s t : State} (h : OnlyAnswered m s t) :
    (t.mb m).levelPending = (s.mb m).levelPending := (congrArg (fun b : Mailbox => b.levelPending) h.box : _)

theorem awaitLevel_levelPending (s : State) (m tag : Nat) (w : Word) : ((s.awaitLevel m tag w).mb m).levelPending =
    (s.mb m).levelPending ++ [(tag, wbits w 4 0, wbits w 9 8)] := by
  rw [State.awaitLevel, mb_setMb_same]

theorem awaitLevel_answers {m : Nat} {s t : State} {d : Command} {st : Nat} {p : List Word} (tag : Nat) (w : Word)
    (h : s.answers t m d st p) : s.answers (t.awaitLevel m tag w) m d st p := by
  unfold State.answers State.awaitLevel
  rw [mb_setMb_same]
  exact h

theorem begun_not_early {m op level : Nat} {perm : Bool} (h : s.runs m op level perm c) :
    (s.begun c).early = false := by
  obtain ⟨_, _, _, _, _, early, _, _⟩ := h
  exact early

theorem mbLevel_sets (h : s.runs mb 0x02 3 false c) (hb : ¬ badLevel (c.word 1)) :
    ∃ t, exec (.mbLevel mb) s = .next t ∧ s.answers t mb c 0 [] ∧
      (t.mb mb).levelPending = (s.mb mb).levelPending ++ [(c.tag, wbits (c.word 1) 4 0, wbits (c.word 1) 9 8)] := by
  have hu := startOldest_answered s mb
  have hc := complete_answered (s.startOldest mb) mb (s.begun c) 0 []
  obtain ⟨t, e, hk⟩ := runs_next h (fun _ => 3) (fun _ _ => false) (mbLevelBody mb) rfl rfl _ (if_neg hb)
    (hc.time.trans hu.time) (hc.pending.trans hu.pending)
  rw [exec_mbLevel]
  refine ⟨t, e, answers_after (awaitLevel_answers _ _ ?_) hk, ?_⟩
  · exact answers_from (complete_answers (s.startOldest mb) mb (s.begun c) 0 [] (begun_not_early h)) (startOldest_waiting s mb)
  · rw [hk.levelPending, awaitLevel_levelPending, hc.levelPending, hu.levelPending]
    rfl

theorem notifyMask_writes (h : s.runs mb 0x03 3 false c) :
    ∃ t, exec (.notifyMask mb) s = .next t ∧ s.answers t mb c 0 [] ∧ t.get Fd.MBX_NMASK_EN = wbits (c.word 1) 15 0 ∧
      OnlyAnswered mb (s.set Fd.MBX_NMASK_EN (wbits (c.word 1) 15 0)) t := by
  obtain ⟨t, e, ha, hk⟩ := runs_complete h (fun _ => 3) (fun _ _ => false)
    (fun s c => (s.set Fd.MBX_NMASK_EN (wbits (c.word 1) 15 0)).complete mb c 0x00) rfl rfl
    ((s.set Fd.MBX_NMASK_EN (wbits (c.word 1) 15 0)).startOldest mb) 0 [] rfl rfl rfl (startOldest_waiting _ mb)
  have hm := (startOldest_answered (s.set Fd.MBX_NMASK_EN (wbits (c.word 1) 15 0)) mb).trans hk
  have hw : wbits (c.word 1) 15 0 < 2 ^ 16 := Nat.mod_lt _ (by decide)
  refine ⟨t, e, ha, ?_, hm⟩
  rw [hm.get Fd.MBX_NMASK_EN 0 0 (by decide), get_set_same _ Fd.MBX_NMASK_EN _ 0 0 (by unfold Fld.fits; decide)]
  exact Nat.mod_eq_of_lt hw

/-! ### RESTART -/

end

@[simp] theorem offer_pending (s : State) (r : Record) : (s.offer r).pending = s.pending := (offer_raised s r).pending

theorem offer_get (s : State) (r : Record) (f : Fld) (i j : Nat) (hq : quiet (f.reg.off i j) = true) :
    (s.offer r).get f i j = s.get f i j := (offer_raised s r).get f i j hq

section
variable (s : State)

@[simp] theorem abortMailboxes_pending : s.abortMailboxes.pending = s.pending := by
  have hd (u : State) : u.clearWaits.dropLock.pending = u.pending := rfl
  simp -implicitDefEqProofs only [State.abortMailboxes, hd]
  refine forEach_keeps State.pending _ _ (fun s m => ⟨?_⟩) s
  rw [State.setMb_pending]
  exact forEach_keeps State.pending _ _ (fun s c => ⟨(notifyNow_raised ..).pending⟩) s

theorem abortMailboxes_get (f : Fld) (i j : Nat) (hq : quiet (f.reg.off i j) = true) :
    s.abortMailboxes.get f i j = s.get f i j := by
  have hu (u : State) (n : Nat) : State.get { u.clearWaits.dropLock with
      start := { u.clearWaits.dropLock.start with aborted := n } } f i j = u.get f i j := rfl
  unfold State.abortMailboxes
  refine (hu _ _).trans (forEach_keeps (fun u : State => u.get f i j) _ _ (fun s m => ⟨?_⟩) s)
  refine (get_setMb ..).trans ?_
  exact forEach_keeps (fun u : State => u.get f i j) _ _ (fun s c => ⟨(notifyNow_raised ..).get f i j hq⟩) s

theorem abortMailboxes_lockHolder : s.abortMailboxes.fw.lockHolder = none := rfl

theorem setService_state {st : Nat} (h : st < 2 ^ Fd.PWR_SVC_STATE.width) : (s.setService st).get Fd.PWR_SVC_STATE = st := by
  rw [State.setService, offer_get _ _ _ _ _ (by decide), get_set_same _ _ _ _ _ (by unfold Fld.fits; decide), Nat.mod_eq_of_lt h]

/-- A start ordered by RESTART: the service state, the mailboxes, the atlas, and the state of the start (R344). -/
def State.restartBegun (s : State) : State :=
  let s := (s.setService 5).setB Fd.MBX_CSTAT_READY false
  ((if s.start.writing.isSome then s.imageRecord (1 - s.fw.bootImage) 2 else s).abortMailboxes).setB Fd.POS_ATLAS_LOADING false

/-- The state marked as restarting, `before` being the service state to which it returns. -/
def State.warming (s : State) (before : Nat) : State :=
  { s with start := { s.start with warm := true, ordered := true, before := before }, failAt := none, readyAt := none }

theorem startWarm_true :
    s.startWarm true = s.restartBegun.warming (if s.start.warm then s.start.before else s.get Fd.PWR_SVC_STATE) := by
  unfold State.startWarm State.restartBegun State.warming
  simp -implicitDefEqProofs only [Bool.not_true, Bool.false_and, Bool.false_eq_true, if_false]

theorem restartBegun_time : s.restartBegun.time = s.time := by
  simp -implicitDefEqProofs only [State.restartBegun, State.setB_time, abortMailboxes_time, apply_ite State.time, imageRecord_time,
    setService_time, ite_self]

@[simp] theorem imageRecord_pending (i r : Nat) : (s.imageRecord i r).pending = s.pending := offer_pending _ _

@[simp] theorem setService_pending (st : Nat) : (s.setService st).pending = s.pending := by
  rw [State.setService, offer_pending, State.set_pending]

theorem restartBegun_pending : s.restartBegun.pending = s.pending := by
  simp -implicitDefEqProofs only [State.restartBegun, State.setB_pending, abortMailboxes_pending, apply_ite State.pending,
    imageRecord_pending, setService_pending, ite_self]

theorem restartBegun_lockHolder : s.restartBegun.fw.lockHolder = none := by
  rw [State.restartBegun, State.setB_fw, abortMailboxes_lockHolder]

theorem restartBegun_get (f : Fld) (i j : Nat) (hq : quiet (f.reg.off i j) = true) (ha : f.reg.off i j ≠ Reg.POS_ATLAS.off 0 0) :
    s.restartBegun.get f i j = ((s.setService 5).setB Fd.MBX_CSTAT_READY false).get f i j := by
  refine (get_set_other _ Fd.POS_ATLAS_LOADING f _ 0 0 i j ha).trans ((abortMailboxes_get _ f i j hq).trans ?_)
  split
  · exact offer_get _ _ f i j hq
  · rfl

theorem restartBegun_state : s.restartBegun.get Fd.PWR_SVC_STATE = 5 := by
  rw [restartBegun_get s _ _ _ (by decide) (by decide), State.setB, get_set_other _ _ _ _ _ _ _ _ (by decide),
    setService_state s (by decide)]

theorem restartBegun_ready : s.restartBegun.getB Fd.MBX_CSTAT_READY = false := by
  rw [State.getB, restartBegun_get s _ _ _ (by decide) (by decide)]
  exact getB_setB_same _ Fd.MBX_CSTAT_READY false 0 0 (by unfold Fld.fits; decide) (by decide)

end

/-- The state that a RESTART leaves. -/
structure Restarting (t : State) : Prop where
  warm : t.start.warm = true
  state : t.get Fd.PWR_SVC_STATE = 5
  ready : t.getB Fd.MBX_CSTAT_READY = false
  lock : t.fw.lockHolder = none

theorem Restarting.after {m : Nat} {s t : State} (h : Restarting s) (k : OnlyAnswered m s t) : Restarting t where
  warm := by rw [k.start, h.warm]
  state := by rw [k.get _ _ _ (by decide), h.state]
  ready := by rw [State.getB, k.get _ _ _ (by decide)]; exact h.ready
  lock := by rw [k.lockHolder, h.lock]

theorem warming_restarting {s : State} (before : Nat) (hs : s.get Fd.PWR_SVC_STATE = 5) (hr : s.getB Fd.MBX_CSTAT_READY = false)
    (hl : s.fw.lockHolder = none) : Restarting (s.warming before) := ⟨rfl, hs, hr, hl⟩

theorem warming_time (s : State) (before : Nat) : (s.warming before).time = s.time := rfl

theorem warming_pending (s : State) (before : Nat) : (s.warming before).pending = s.pending := rfl

theorem startWarm_restarting (s : State) : Restarting (s.startWarm true) := by
  rw [startWarm_true]
  exact warming_restarting _ (restartBegun_state s) (restartBegun_ready s) (restartBegun_lockHolder s)

theorem startWarm_time (s : State) : (s.startWarm true).time = s.time := by
  rw [startWarm_true, warming_time, restartBegun_time]

theorem startWarm_pending (s : State) : (s.startWarm true).pending = s.pending := by
  rw [startWarm_true, warming_pending, restartBegun_pending]

section
variable {mb : Fin 20} {s : State} {c : Command}

/-- What RESTART does once its checks have passed. -/
def restartBody (mb : Nat) (s : State) (c : Command) : State :=
  if c.word 1 ≠ 0x52455354 then s.complete mb c 0x04 else s.startWarm true

theorem exec_restart (mb : Fin 20) (s : State) : exec (.restart mb) s =
    s.whenLive (.next (s.runCommand mb 0x05 fun s c => s.checked mb c 3 false fun s => restartBody mb s c)) := rfl

theorem restart_refused (h : s.runs mb 0x05 3 false c) (hw : c.word 1 ≠ 0x52455354) :
    ∃ t, exec (.restart mb) s = .next t ∧ s.answers t mb c 4 [] ∧ OnlyAnswered mb s t := by
  rw [exec_restart]
  exact runs_answers h (fun _ => 3) (fun _ _ => false) (restartBody mb) rfl rfl 4 [] (if_pos hw)

theorem restart_begins (h : s.runs mb 0x05 3 false c) (hw : c.word 1 = 0x52455354) :
    ∃ t, exec (.restart mb) s = .next t ∧ Restarting t := by
  have hu := startOldest_answered s mb
  obtain ⟨t, e, hk⟩ := runs_next h (fun _ => 3) (fun _ _ => false) (restartBody mb) rfl rfl _ (if_neg (not_not_intro hw))
    ((startWarm_time _).trans hu.time) ((startWarm_pending _).trans hu.pending)
  rw [exec_restart]
  exact ⟨t, e, (startWarm_restarting _).after hk⟩

end

/-- Settles O13: each row runs its command (`runs_next`) and answers it; what else it does is the lemma of its name. -/
theorem systemCommandsAct : Obligations.SystemCommandsAct := by
  refine ⟨⟨fun mb s c h => nop_answers h, fun mb s c h => identify_answers h, fun mb s c h => timestamp_answers h⟩,
    fun mb s c h => ?_, fun mb s c h => notifyMask_writes h, fun mb s c h => ?_⟩
  · by_cases hb : badLevel (c.word 1)
    · obtain ⟨t, e, ha, hk⟩ := mbLevel_refused h hb
      exact ⟨t, e, fun _ => ⟨ha, hk⟩, fun hn => absurd hb hn⟩
    · obtain ⟨t, e, ha, hl⟩ := mbLevel_sets h hb
      exact ⟨t, e, fun hp => absurd hp hb, fun _ => ⟨ha, hl⟩⟩
  · by_cases hw : c.word 1 = 0x52455354
    · obtain ⟨t, e, hr⟩ := restart_begins h hw
      exact ⟨t, e, fun hn => absurd hw hn, fun _ => ⟨hr.warm, hr.state, hr.ready, hr.lock⟩⟩
    · obtain ⟨t, e, ha, hk⟩ := restart_refused h hw
      exact ⟨t, e, fun _ => ⟨ha, hk⟩, fun hp => absurd hp hw⟩

end Sys2Proof.Machine

/-!
SUPPORT. Proofs about power: what VIN's coming and going and its level leave, and that a source raised holds error.
-/

namespace Sys2Proof.Machine

-- The option has the proofs elaborated one after another, not beside the tests above: the two together exceed the check's memory.
set_option deprecated.oldSectionVars true

/-! ### Raising lets no source fall -/

/-- A source active in `s` is active in `t`. -/
structure NoneCleared (s t : State) : Prop where
  active : ∀ src < 512, s.getB Fd.FLT_SSTAT_ACTIVE src = true → t.getB Fd.FLT_SSTAT_ACTIVE src = true

theorem NoneCleared.refl (s : State) : NoneCleared s s := ⟨fun _ _ h => h⟩

/-- The chain taken from its end. -/
theorem NoneCleared.after {s t u : State} (k : NoneCleared t u) (h : NoneCleared s t) : NoneCleared s u :=
  ⟨fun src hs ha => k.active src hs (h.active src hs ha)⟩

theorem NoneCleared.ite {c : Prop} [Decidable c] {s t u : State} (h : c → NoneCleared s t) (k : NoneCleared s u) :
    NoneCleared s (if c then t else u) := by
  split
  · exact h ‹_›
  · exact k

theorem NoneCleared.forEach_mem {α : Type} (l : List α) (f : State → α → State)
    (hf : ∀ s, ∀ a ∈ l, NoneCleared s (f s a)) (s : State) : NoneCleared s (forEach l s f) := by
  induction l generalizing s with
  | nil => exact .refl s
  | cons a l ih => exact .after (ih (fun s b hb => hf s b (by simp [hb])) (f s a)) (hf s a (by simp))

theorem NoneCleared.forEach {α : Type} (l : List α) (f : State → α → State) (hf : ∀ s a, NoneCleared s (f s a)) (s : State) :
    NoneCleared s (Machine.forEach l s f) := .forEach_mem l f (fun s a _ => hf s a) s

theorem NoneCleared.of_csr {s t : State} (h : t.csr = s.csr) : NoneCleared s t :=
  ⟨fun src _ ha => by rw [← ha]; simp only [State.getB, State.get, State.reg, h]⟩

theorem sstat_off (src : Nat) : Reg.FLT_SSTAT.off src 0 = 0x35800 + 4 * src := by
  simp only [RegDesc.off, Reg.FLT_SSTAT]; omega

/-- A register outside SSTAT. -/
theorem NoneCleared.set (s : State) (f : Fld) (v i j : Nat) (h : f.reg.off i j < 0x35800 ∨ 0x36000 ≤ f.reg.off i j) :
    NoneCleared s (s.set f v i j) := by
  refine ⟨fun src hs ha => ?_⟩
  have ho : Fd.FLT_SSTAT_ACTIVE.reg.off src 0 ≠ f.reg.off i j := by
    have : Fd.FLT_SSTAT_ACTIVE.reg.off src 0 = 0x35800 + 4 * src := sstat_off src
    omega
  rwa [State.getB, get_set_other s f _ v i j src 0 ho]

/-- A field of SSTAT below ACTIVE. -/
theorem NoneCleared.setSstat (s : State) (f : Fld) (v i : Nat) (hr : f.reg = Reg.FLT_SSTAT) (hf : f.lsb + f.width ≤ 31) :
    NoneCleared s (s.set f v i) := by
  refine ⟨fun src _ ha => ?_⟩
  have hg : (s.set f v i).get Fd.FLT_SSTAT_ACTIVE src = s.get Fd.FLT_SSTAT_ACTIVE src := by
    by_cases hi : src = i
    · subst hi
      exact get_set_field s f _ v src 0 hr.symm (Nat.le_trans hf (by decide)) (.inl hf)
    · refine get_set_other s f _ v i 0 src 0 ?_
      have h1 : Fd.FLT_SSTAT_ACTIVE.reg.off src 0 = 0x35800 + 4 * src := sstat_off src
      have h2 : f.reg.off i 0 = 0x35800 + 4 * i := by rw [hr]; exact sstat_off i
      omega
  rwa [State.getB, hg]

theorem active_setB (s : State) (src : Nat) :
    (s.setB Fd.FLT_SSTAT_ACTIVE true src).getB Fd.FLT_SSTAT_ACTIVE src = true :=
  getB_setB_same s Fd.FLT_SSTAT_ACTIVE true src 0 (by unfold Fld.fits; decide) (by decide)

theorem NoneCleared.activate (s : State) (i : Nat) : NoneCleared s (s.setB Fd.FLT_SSTAT_ACTIVE true i) := by
  refine ⟨fun src _ ha => ?_⟩
  by_cases hi : src = i
  · subst hi; exact active_setB s src
  · have ho : Fd.FLT_SSTAT_ACTIVE.reg.off src 0 ≠ Fd.FLT_SSTAT_ACTIVE.reg.off i 0 := by
      have h1 : Fd.FLT_SSTAT_ACTIVE.reg.off src 0 = 0x35800 + 4 * src := sstat_off src
      have h2 : Fd.FLT_SSTAT_ACTIVE.reg.off i 0 = 0x35800 + 4 * i := sstat_off i
      omega
    rwa [State.setB, State.getB, get_set_other s _ _ _ i 0 src 0 ho]

theorem addCounter_noneCleared (s : State) (i n : Nat) : NoneCleared s (s.addCounter i n) := by
  unfold State.addCounter
  refine .ite (fun _ => .of_csr rfl) ?_
  have ho : 0x36000 ≤ Reg.PMC_VAL_HI.off i 0 := by simp only [RegDesc.off, Reg.PMC_VAL_HI]; omega
  exact .after (.set _ Fd.PMC_VAL_HI_WRAP _ i 0 (.inr ho)) (.of_csr rfl)

theorem count_noneCleared (s : State) (b i c n : Nat) (a : EventAttr) : NoneCleared s (s.count b i c n a) := by
  unfold State.count
  refine .ite (fun _ => .refl s) (.forEach _ _ (fun s e => ?_) s)
  exact .ite (fun _ => addCounter_noneCleared ..) (.refl s)

theorem notify_noneCleared (s : State) (code : Nat) (l : List Word) (at_ : Nat) : NoneCleared s (s.notify code l at_) := by
  unfold State.notify
  exact .ite (fun _ => .of_csr rfl) (.refl s)

theorem countEvent_noneCleared (s : State) (src : Nat) : NoneCleared s (s.countEvent src).1 := by
  unfold State.countEvent
  split
  · exact .refl s
  · unfold State.escalate State.openInterval
    refine .after (.ite (fun _ => .setSstat _ Fd.FLT_SSTAT_ESC _ _ rfl (by decide)) (.refl _)) ?_
    refine .after (.setSstat _ Fd.FLT_SSTAT_CNT _ _ rfl (by decide)) (.ite (fun _ => .refl s) ?_)
    exact .after (.setSstat _ Fd.FLT_SSTAT_ESC _ _ rfl (by decide)) (.of_csr rfl)

/-- What follows the setting of ACTIVE in SSTAT. -/
theorem markSource_after_active (s : State) (e : FaultEv) (sev : Nat) :
    NoneCleared (s.setB Fd.FLT_SSTAT_ACTIVE true e.source) (s.markSource e sev) := by
  unfold State.markSource
  refine .after (count_noneCleared ..) ?_
  refine .after (.ite (fun _ => .refl _) (.setSstat _ Fd.FLT_SSTAT_TOTAL _ _ rfl (by decide))) ?_
  refine .after (.setSstat _ Fd.FLT_SSTAT_PATH _ _ rfl (by decide)) ?_
  refine .after (.setSstat _ Fd.FLT_SSTAT_INJ _ _ rfl (by decide)) ?_
  refine .after (.setSstat _ Fd.FLT_SSTAT_SEV _ _ rfl (by decide)) ?_
  exact .setSstat _ Fd.FLT_SSTAT_LATCHED _ _ rfl (by decide)

theorem alertPulse_noneCleared (s : State) : NoneCleared s s.alertPulse := by
  unfold State.alertPulse
  exact .after (.set _ Fd.FLT_ALERT_PULSE _ 0 0 (by decide)) (.after (.set _ Fd.FLT_ALERT_SW _ 0 0 (by decide)) (.of_csr rfl))

theorem postReaction_noneCleared (s : State) (src sev : Nat) (sc : Nat × Nat) : NoneCleared s (s.postReaction src sev sc) := by
  unfold State.postReaction
  refine .after (.ite (fun _ => alertPulse_noneCleared _) (.refl _)) ?_
  exact .ite (fun _ => .refl s) (.of_csr rfl)

theorem hitCapture_noneCleared (s : State) (src : Nat) : NoneCleared s (s.hitCapture src) := by
  unfold State.hitCapture
  exact .ite (fun _ => .of_csr rfl) (.refl s)

theorem askFreeze_noneCleared (s : State) (src : Nat) (yes : Bool) : NoneCleared s (s.askFreeze src yes) := by
  unfold State.askFreeze
  exact .ite (fun _ => .of_csr rfl) (.refl s)

theorem requestSnap_noneCleared (s : State) (yes : Bool) : NoneCleared s (s.requestSnap yes) := by
  unfold State.requestSnap
  exact .ite (fun _ => .of_csr rfl) (.refl s)

theorem notifyFault_noneCleared (s : State) (e : FaultEv) (sev lanes : Nat) : NoneCleared s (s.notifyFault e sev lanes) := by
  unfold State.notifyFault
  exact .ite (fun _ => notify_noneCleared ..) (.refl s)

/-- What the collector does with an event once ACTIVE of its source is set. -/
theorem collectOne_after_active (s : State) (e : FaultEv) :
    NoneCleared ((s.countEvent e.source).1.setB Fd.FLT_SSTAT_ACTIVE true e.source) (s.collectOne e).1 :=
  .after (notifyFault_noneCleared ..) (.after (requestSnap_noneCleared ..) (.after (askFreeze_noneCleared ..)
    (.after (postReaction_noneCleared ..) (.after (hitCapture_noneCleared ..) (markSource_after_active ..)))))

theorem collectOne_active (s : State) (e : FaultEv) (h : e.source < 512) :
    (s.collectOne e).1.getB Fd.FLT_SSTAT_ACTIVE e.source = true :=
  (collectOne_after_active s e).active _ h (active_setB _ _)

theorem collectOne_noneCleared (s : State) (e : FaultEv) : NoneCleared s (s.collectOne e).1 :=
  .after (collectOne_after_active s e) (.after (.activate _ _) (countEvent_noneCleared s e.source))

theorem captureFirst_noneCleared (s : State) (rs : List EventResult) (h : ∀ r ∈ rs, r.ev.source < 512) :
    NoneCleared s (s.captureFirst rs) := by
  unfold State.captureFirst
  refine .ite (fun _ => .refl s) ?_
  split
  · exact .refl s
  · unfold State.writeSamecyc State.writeFirst
    refine .after (.forEach_mem rs _ (fun u q hq => ?_) _) ?_
    · have hq := h q hq
      have ho : Reg.FLT_SAMECYC.off (q.ev.source / 32) 0 < 0x35800 := by simp only [RegDesc.off, Reg.FLT_SAMECYC]; omega
      exact .set u Fd.FLT_SAMECYC_SRC _ _ 0 (.inl ho)
    · refine .after (.set _ Fd.FLT_FIRST_CNT_COUNT _ 0 0 (by decide)) (.after (.set _ Fd.FLT_FIRST_PC_PWR_CYC _ 0 0 (by decide)) ?_)
      refine .after (.set _ Fd.FLT_FIRST_GT_GT _ 0 0 (by decide)) (.after (.set _ Fd.FLT_FIRST_SEC_OP_SEC _ 0 0 (by decide)) ?_)
      refine .after (.set _ Fd.FLT_FIRST_SOURCE _ 0 0 (by decide)) (.after (.set _ Fd.FLT_FIRST_INJ _ 0 0 (by decide)) ?_)
      refine .after (.set _ Fd.FLT_FIRST_PATH _ 0 0 (by decide)) (.after (.set _ Fd.FLT_FIRST_SEV _ 0 0 (by decide)) ?_)
      exact .set _ Fd.FLT_FIRST_VALID _ 0 0 (by decide)

/-- One event collected and captured. -/
theorem captureOne_noneCleared (s : State) (e : FaultEv) (h : e.source < 512) :
    NoneCleared (s.collectOne e).1 ((s.collectAll [e]).1.captureFirst (s.collectAll [e]).2) :=
  captureFirst_noneCleared _ _ fun r hr => by rw [List.mem_singleton.1 hr]; exact h

theorem toPulse_noneCleared (s : State) (src : Nat) : NoneCleared s (s.toPulse src) := .of_csr rfl

theorem pulseNoRecord_noneCleared (s : State) {src : Nat} (h : src < 512) : NoneCleared s (s.pulseNoRecord src) :=
  .after (toPulse_noneCleared ..)
    (.after (captureOne_noneCleared s ⟨src, false, false, 0, 0⟩ h) (collectOne_noneCleared s _))

theorem dropOffer_noneCleared (s : State) (sev : Nat) (st : Stamp) : NoneCleared s (s.dropOffer sev st) := by
  unfold State.dropOffer State.countDrop
  exact .ite (fun _ => .after (pulseNoRecord_noneCleared _ (by decide)) (.of_csr rfl)) (.of_csr rfl)

theorem offer_noneCleared (s : State) (r : Record) : NoneCleared s (s.offer r) := by
  unfold State.offer
  split
  · exact .of_csr rfl
  · refine .ite (fun _ => .of_csr rfl) (.ite (fun _ => ?_) (dropOffer_noneCleared ..))
    split
    · exact .after (dropOffer_noneCleared ..) (.of_csr rfl)
    · exact dropOffer_noneCleared ..

theorem offerEvent_noneCleared (s : State) (rs : List EventResult) (r : EventResult) : NoneCleared s (s.offerEvent rs r) := by
  unfold State.offerEvent
  exact .ite (fun _ => .refl s) (.ite (fun _ => .refl s) (offer_noneCleared ..))

/-- A source raised is active (R287). -/
theorem raise_active (s : State) {src : Nat} (h : src < 512) : (s.raise src).getB Fd.FLT_SSTAT_ACTIVE src = true := by
  unfold State.raise State.raiseOn
  split
  · assumption
  · refine NoneCleared.active (s := (s.collectOne ⟨src, false, false, 0, 0⟩).1) ?_ src h (collectOne_active s _ h)
    unfold State.raiseCycle
    exact .after (.forEach _ _ (fun s r => offerEvent_noneCleared ..) _) (captureOne_noneCleared s _ h)

/-! ### VIN and the rails come -/

/-- The device with VIN, before its rails are good. -/
def State.powered (s : State) : State :=
  { s with
    start := { s.start with vin := true, kind := 0 }
    time := { s.time with pwrCyc := min (s.time.pwrCyc + 1) 0xFFFFFF } }

theorem exec_vinValid (s : State) : exec .vinValid s = s.keepQueue (if s.start.vin then .next s else .next s.powered) := rfl

theorem vinValid_acts (s : State) : ∃ t, exec .vinValid s = .next t ∧ (s.start.vin = true → t = s) ∧
    (s.start.vin = false →
      t.start.vin = true ∧ t.time = { s.time with pwrCyc := min (s.time.pwrCyc + 1) 0xFFFFFF } ∧ t.csr = s.csr) := by
  cases hv : s.start.vin with
  | true => exact ⟨s, by rw [exec_vinValid, if_pos hv]; rfl, fun _ => rfl, nofun⟩
  | false =>
    have hn : ¬ s.start.vin = true := by rw [hv]; decide
    exact ⟨s.powered, by rw [exec_vinValid, if_neg hn]; rfl, nofun, fun _ => ⟨rfl, rfl, rfl⟩⟩

/-- The device with its rails good. -/
def State.railsGood (s : State) : State := { s with start := { s.start with good := true } }

theorem exec_railsReady (sel : Fin 4) (s : State) : exec (.railsReady sel) s = s.keepQueue (
    if !s.start.vin || s.start.good then .next s
    else .next (if s.start.inReset then s.railsGood else s.railsGood.beginStart sel)) := rfl

theorem railsReady_acts (sel : Fin 4) {s : State} (hv : s.start.vin = true) (hg : s.start.good = false) :
    ∃ t, exec (.railsReady sel) s = .next t ∧
      (s.start.inReset = false → t = { s with start := { s.start with good := true, phase := 1, bootSel := sel } }) ∧
      (s.start.inReset = true → t = { s with start := { s.start with good := true } }) := by
  have hn : ¬ (!s.start.vin || s.start.good) = true := by rw [hv, hg]; decide
  rw [exec_railsReady, if_neg hn]
  cases hr : s.start.inReset with
  | true => exact ⟨s.railsGood, rfl, nofun, fun _ => rfl⟩
  | false => exact ⟨s.railsGood.beginStart sel, rfl, fun _ => rfl, nofun⟩

/-! ### VIN goes -/

theorem OnlyRaised.main {s t : State} (h : OnlyRaised s t) : t.book.main = s.book.main := (congrArg (fun x => x.book.main) h.part : _)

theorem abortMailboxes_main (s : State) : s.abortMailboxes.book.main = s.book.main := by
  have hu (u : State) (n : Nat) : { u.clearWaits.dropLock with
      start := { u.clearWaits.dropLock.start with aborted := n } }.book.main = u.book.main := rfl
  unfold State.abortMailboxes
  refine (hu _ _).trans (forEach_keeps (fun u : State => u.book.main) _ _ (fun s m => ⟨?_⟩) s)
  rw [State.setMb_book]
  exact forEach_keeps (fun u : State => u.book.main) _ _ (fun s c => ⟨(notifyNow_raised ..).main⟩) s

section
variable (s : State) (kind : Nat)

theorem resetDevice_mbox : (s.resetDevice kind false).mbox = [] := rfl

theorem resetDevice_notices : (s.resetDevice kind false).fw.notices = State.reset.fw.notices := rfl

theorem resetDevice_fifo : (s.resetDevice kind false).book.fifo = [] := rfl

theorem resetDevice_imageA : (s.resetDevice kind false).can.imageA = none := rfl

/-- Without VIN no image is being recorded: the reset only answers the commands that wait. -/
theorem resetDevice_main : (s.resetDevice kind false).book.main = s.book.main := by
  unfold State.resetDevice
  simp -implicitDefEqProofs only [Bool.and_false, Bool.false_eq_true, if_false, abortMailboxes_main]

end

/-- The device without VIN and rails. -/
def State.dark (s : State) : State := { s with start := { s.start with vin := false, good := false } }

theorem exec_vinLoss (s : State) :
    exec .vinLoss s = s.keepQueue (if !s.start.vin then .next s else .next (s.resetDevice 0 false).dark) := rfl

theorem vinLoss_acts {s : State} (hv : s.start.vin = true) :
    ∃ t, exec .vinLoss s = .next t ∧ t.start.vin = false ∧ t.start.good = false ∧ t.mbox = [] ∧
      t.fw.notices = State.reset.fw.notices ∧ t.book.fifo = [] ∧ t.book.main = s.book.main ∧ t.can.imageA = none ∧
      t.time.opSec = s.time.mramSec + 1 := by
  have hn : ¬ (!s.start.vin) = true := by rw [hv]; decide
  rw [exec_vinLoss, if_neg hn]
  refine ⟨{ (s.resetDevice 0 false).dark with pending := s.pending }, rfl, rfl, rfl, resetDevice_mbox s 0, resetDevice_notices s 0,
    resetDevice_fifo s 0, resetDevice_main s 0, resetDevice_imageA s 0, ?_⟩
  exact congrArg Time.opSec (resetDevice_time s 0 false)

/-! ### VIN is low -/

/-- The supply shown by VIN_LOW (Table 18.15). -/
def State.showVin (s : State) (mv : Nat) : State := (s.set Fd.PWR_VIN_MV mv).setB Fd.PWR_VIN_LOW true

theorem showVin_time (s : State) (mv : Nat) : (s.showVin mv).time = s.time := by
  rw [State.showVin, State.setB_time, State.set_time]

theorem showVin_pending (s : State) (mv : Nat) : (s.showVin mv).pending = s.pending := by
  rw [State.showVin, State.setB_pending, State.set_pending]

theorem vinSheet_low (s : State) (mv : Fin 2700) : s.vinSheet mv = (s.showVin mv).raise 497 := by
  have hmv := mv.isLt
  have hm : min mv.val 65535 = mv.val := by omega
  unfold State.vinSheet
  rw [hm]
  exact if_pos hmv

theorem showVin_mv (s : State) (mv : Fin 2700) : (s.showVin mv).get Fd.PWR_VIN_MV = mv.val := by
  have hmv := mv.isLt
  rw [State.showVin, State.setB, get_set_field _ Fd.PWR_VIN_LOW Fd.PWR_VIN_MV _ 0 0 rfl (by unfold Fld.fits; decide) (by decide),
    get_set_same _ _ _ _ _ (by unfold Fld.fits; decide)]
  exact Nat.mod_eq_of_lt (Nat.lt_trans hmv (by decide))

theorem showVin_low (s : State) (mv : Nat) : (s.showVin mv).getB Fd.PWR_VIN_LOW = true :=
  getB_setB_same _ Fd.PWR_VIN_LOW true 0 0 (by unfold Fld.fits; decide) (by decide)

theorem exec_vinLow (mv : Fin 2700) (s : State) : exec (.vinLow mv) s = s.whenLive (.next (s.vinSheet mv)) := rfl

theorem putBack_self {s u : State} (ht : u.time = s.time) (hq : u.pending = s.pending) : u.putBack s = u := by
  rw [State.putBack, ← ht, ← hq]

theorem vinLow_acts (mv : Fin 2700) {s : State} (hs : s.alive = true) :
    ∃ t, exec (.vinLow mv) s = .next t ∧ OnlyRaised (s.showVin mv) t ∧ t.get Fd.PWR_VIN_MV = mv.val ∧
      t.getB Fd.PWR_VIN_LOW = true ∧ t.getB Fd.FLT_SSTAT_ACTIVE 497 = true := by
  have hr := raise_raised (s.showVin mv) (show 497 < 512 by decide)
  have e := exec_next hs ((exec_vinLow mv s).trans (by rw [vinSheet_low]))
  rw [putBack_self (hr.time.trans (showVin_time s mv)) (hr.pending.trans (showVin_pending s mv))] at e
  refine ⟨_, e, hr, ?_, ?_, raise_active _ (by decide)⟩
  · rw [hr.get _ _ _ (by decide), showVin_mv]
  · rw [State.getB, hr.get _ _ _ (by decide)]
    exact showVin_low s mv

/-- Settles O53: each row writes what it shows or loses in one step; VIN_LOSS is a reset without VIN, VIN_LOW a source raised. -/
theorem powerRowsAct : Obligations.PowerRowsAct :=
  ⟨vinValid_acts, fun sel _ hv hg => railsReady_acts sel hv hg, fun _ hv => vinLoss_acts hv, fun mv _ hs => vinLow_acts mv hs⟩

end Sys2Proof.Machine

/-!
SUPPORT. Proofs about protection trips: the restrictions that a trip lays, and what it leaves alone.
-/

namespace Sys2Proof.Machine

-- The option has the proofs elaborated one after another, not beside the tests above: the two together exceed the check's memory.
set_option deprecated.oldSectionVars true

/-! ### Changes that lay and lift no restriction -/

/-- `t` has the restrictions, the timebase and the oscillation closures of `s`. -/
structure SameHeld (s t : State) : Prop where
  prot : t.prot = s.prot
  time : t.time = s.time
  osc : t.con.osc = s.con.osc

theorem SameHeld.refl (s : State) : SameHeld s s := ⟨rfl, rfl, rfl⟩

/-- The chain taken from its end. -/
theorem SameHeld.after {s t u : State} (k : SameHeld t u) (h : SameHeld s t) : SameHeld s u :=
  ⟨k.prot.trans h.prot, k.time.trans h.time, k.osc.trans h.osc⟩

theorem SameHeld.ite {c : Prop} [Decidable c] {s t u : State} (h : SameHeld s t) (k : SameHeld s u) :
    SameHeld s (if c then t else u) := by
  split
  · exact h
  · exact k

theorem SameHeld.forEach {α : Type} (l : List α) (f : State → α → State) (hf : ∀ s a, SameHeld s (f s a)) (s : State) :
    SameHeld s (forEach l s f) := by
  induction l generalizing s with
  | nil => exact .refl s
  | cons a l ih => exact .after (ih (f s a)) (hf s a)

theorem SameHeld.of_raised {s t : State} (h : OnlyRaised s t) : SameHeld s t :=
  ⟨h.prot, h.time, congrArg (fun c => c.osc) h.con⟩

section
variable (s : State)

theorem SameHeld.set (f : Fld) (v i j : Nat) : SameHeld s (s.set f v i j) := ⟨rfl, rfl, rfl⟩

theorem SameHeld.setB (f : Fld) (v : Bool) (i j : Nat) : SameHeld s (s.setB f v i j) := .set s f _ i j

theorem SameHeld.addSat (f : Fld) (n i j : Nat) : SameHeld s (s.addSat f n i j) := .set s f _ i j

theorem withLane_sameHeld (x : Lanes) : SameHeld s { s with lane := x } := ⟨rfl, rfl, rfl⟩

theorem withCan_sameHeld (x : Canceller) : SameHeld s { s with can := x } := ⟨rfl, rfl, rfl⟩

theorem awaitInit_sameHeld (d : Nat) : SameHeld s (s.awaitInit d) :=
  .after (.setB _ Fd.CON_GAPP_CLOSED true d 0) ⟨rfl, rfl, rfl⟩

theorem refreshRunning_sameHeld (w : Nat) : SameHeld s (s.refreshRunning w) := by
  unfold State.refreshRunning
  refine .ite (.after (.forEach _ _ awaitInit_sameHeld _) ?_) ?_
  all_goals exact .after (.ite (withCan_sameHeld ..) (.refl _)) (.setB ..)

theorem updateMuted_sameHeld (n : Nat) : SameHeld s (s.updateMuted n) := by
  unfold State.updateMuted
  refine .ite (.ite (.ite ?_ (.after (.setB ..) ?_)) (.after (.setB ..) ?_)) (.ite ?_ (.setB ..))
  all_goals exact .after (withLane_sameHeld ..) (.setB ..)

theorem refreshDomain_sameHeld (d : Nat) : SameHeld s (s.refreshDomain d) :=
  .after (.forEach _ _ (fun _ _ => .setB ..) _) (.after (.setB ..) (.after (.setB ..) (.after (.setB ..) (.after (.setB ..)
    (.after (.setB ..) (.set ..))))))

theorem refreshStop_sameHeld (w : Nat) : SameHeld s (s.refreshStop w) :=
  .after (refreshRunning_sameHeld ..) (.after (.setB ..) (.after (.setB ..) (.after (.set ..) (.after (.setB ..) (.set ..)))))

theorem refreshLane_sameHeld (n : Nat) : SameHeld s (s.refreshLane n) :=
  .after (updateMuted_sameHeld ..) (.after (.setB ..) (.after (.setB ..) (.after (.setB ..) (.after (.setB ..)
    (.after (.setB ..) (.setB ..))))))

theorem refreshTarget_sameHeld (cls t : Nat) : SameHeld s (s.refreshTarget cls t) :=
  .ite (refreshDomain_sameHeld s t) (.ite (refreshStop_sameHeld s t) (refreshLane_sameHeld s t))

theorem refreshPstatProt_sameHeld : SameHeld s s.refreshPstatProt :=
  .after (.set ..) (.after (.set ..) (.after (.set ..) (.after (.setB ..) (.setB ..))))

theorem noteProt_sameHeld (release : Bool) (r : Restriction) (value : Int) : SameHeld s (s.noteProt release r value) :=
  .of_raised ((offer_raised ..).trans (notifyNow_raised ..))

end

/-! ### Laying a restriction -/

/-- The restriction that a trip lays on a target now (R183, R184). -/
def State.restriction (s : State) (kind cls group t : Nat) : Restriction :=
  let old := s.prot.held.find? fun r => r.kind == kind && r.cls == cls && r.target == t
  let n := s.tripCount kind cls t
  let limit := if kind < 8 then s.get Fd.FLT_HOLD_LIMIT kind else 0
  ⟨kind, cls, t, s.time.gt, n, (limit != 0 && decide (limit < n)) || old.any (·.latched), group, old.any (·.inForce), none⟩

/-- The restrictions with one of a kind laid on a target anew, and its trip counted. -/
def State.lay (s : State) (kind cls group t : Nat) : State :=
  { s with prot := { s.prot with
      held := (s.prot.held.filter fun q => !(q.kind == kind && q.cls == cls && q.target == t)) ++ [s.restriction kind cls group t]
      trips := (s.prot.trips.filter fun p => decide (s.time.gt ≤ p.2.2.2 + 80 * s.get Fd.FLT_RETRY_WIN_SHEETS)) ++
        [(kind, cls, t, s.time.gt)] } }

theorem holdTarget_sameHeld (s : State) (kind cls group : Nat) (value : Int) (t : Nat) :
    SameHeld (s.lay kind cls group t) (s.holdTarget kind cls group value t) :=
  .after (noteProt_sameHeld ..) (.ite (.set ..) (.ite (.after (.addSat ..) (.after (.set ..) (.set ..))) (.set ..)))

/-- A restriction of a kind on a target has been laid at a grid tick. -/
def State.Holds (s : State) (kind cls t at_ : Nat) : Prop :=
  ∃ r ∈ s.prot.held, r.kind = kind ∧ r.cls = cls ∧ r.target = t ∧ r.since = at_

theorem SameHeld.holds {s t : State} (h : SameHeld s t) {kind cls x at_ : Nat} (k : s.Holds kind cls x at_) :
    t.Holds kind cls x at_ := by
  obtain ⟨r, hr, hk⟩ := k
  exact ⟨r, by rw [h.prot]; exact hr, hk⟩

section
variable (s : State) (kind cls group t : Nat)

theorem lay_holds : (s.lay kind cls group t).Holds kind cls t s.time.gt :=
  ⟨s.restriction kind cls group t, List.mem_append_right _ (List.mem_singleton.2 rfl), rfl, rfl, rfl, rfl⟩

/-- A restriction on another target stays. -/
theorem lay_holds_other {x at_ : Nat} (h : s.Holds kind cls x at_) (hx : x ≠ t) : (s.lay kind cls group t).Holds kind cls x at_ := by
  obtain ⟨r, hr, hk, hc, ht, hs⟩ := h
  refine ⟨r, List.mem_append_left _ (List.mem_filter.2 ⟨hr, ?_⟩), hk, hc, ht, hs⟩
  simp [ht, hx]

theorem holdTarget_holds (value : Int) : (s.holdTarget kind cls group value t).Holds kind cls t s.time.gt :=
  (holdTarget_sameHeld ..).holds (lay_holds ..)

theorem holdTarget_holds_other (value : Int) {x at_ : Nat} (h : s.Holds kind cls x at_) (hx : x ≠ t) :
    (s.holdTarget kind cls group value t).Holds kind cls x at_ :=
  (holdTarget_sameHeld ..).holds (lay_holds_other s kind cls group t h hx)

end

/-- What laying restrictions leaves alone. -/
def State.besideHeld (s : State) : Time × List (Nat × Nat × Int) × Nat := (s.time, s.con.osc, s.prot.goodTicks)

theorem SameHeld.keeps {s t : State} (h : SameHeld s t) : t.besideHeld = s.besideHeld := by
  rw [State.besideHeld, h.prot, h.time, h.osc, State.besideHeld]

theorem holdTarget_besideHeld (s : State) (kind cls group : Nat) (value : Int) (t : Nat) :
    (s.holdTarget kind cls group value t).besideHeld = s.besideHeld := (holdTarget_sameHeld ..).keeps

/-- Every target of a trip is held from its grid tick. -/
theorem holdTargets_hold (kind cls group : Nat) (value : Int) (x at_ : Nat) (l : List Nat) :
    ∀ s : State, s.time.gt = at_ → (x ∈ l ∨ s.Holds kind cls x at_) →
      (forEach l s fun s t => s.holdTarget kind cls group value t).Holds kind cls x at_ := by
  induction l with
  | nil => exact fun s _ h => h.resolve_left (by simp)
  | cons t l ih =>
    intro s ht h
    have hn : (s.holdTarget kind cls group value t).time.gt = at_ :=
      (congrArg (fun p => p.1.gt) (holdTarget_besideHeld s kind cls group value t)).trans ht
    refine ih _ hn ?_
    by_cases hx : x = t
    · subst hx; exact .inr (ht ▸ holdTarget_holds s kind cls group x value)
    · exact h.imp (fun hm => (List.mem_cons.1 hm).resolve_left hx) fun hh => holdTarget_holds_other s kind cls group t value hh hx

/-! ### Trips (R182, R183) -/

section
variable (s : State) {kind : Nat} (hk : kind < 8) (cls : Nat) (targets : List Nat) (value : Int)
include hk

/-- The event of a trip touches no restriction. -/
theorem trip_sameHeld : SameHeld (forEach targets s fun s t =>
    s.holdTarget kind cls (if kind = 4 ∧ cls = 2 then listMask targets else 0) value t) (s.trip kind cls targets value) := by
  unfold State.trip
  simp only [hk, if_true]
  exact .of_raised (pulseOn_raised _ _ _ (by omega))

theorem trip_holds {x : Nat} (hx : x ∈ targets) : (s.trip kind cls targets value).Holds kind cls x s.time.gt :=
  (trip_sameHeld s hk cls targets value).holds (holdTargets_hold kind cls _ value x _ targets s rfl (.inl hx))

theorem trip_besideHeld : (s.trip kind cls targets value).besideHeld = s.besideHeld :=
  (trip_sameHeld s hk cls targets value).keeps.trans (forEach_keeps State.besideHeld _ _ (fun _ _ => ⟨holdTarget_besideHeld ..⟩) s)

end

/-! ### Restrictions come into force (R183) -/

/-- Every restriction in force. -/
def State.allInForce (s : State) : State :=
  { s with prot := { s.prot with held := s.prot.held.map fun (r : Restriction) => ({ r with inForce := true } : Restriction) } }

theorem enforce_sameHeld (s : State) (h : ¬ (s.prot.held.filter fun r => !r.inForce).isEmpty = true) :
    SameHeld s.allInForce s.enforce := by
  unfold State.enforce
  rw [if_neg h]
  exact .after (refreshPstatProt_sameHeld _) (.forEach _ _ (fun _ _ => refreshTarget_sameHeld ..) _)

theorem enforce_idle (s : State) (h : (s.prot.held.filter fun r => !r.inForce).isEmpty = true) : s.enforce = s := by
  unfold State.enforce
  exact if_pos h

theorem enforce_besideHeld (s : State) : s.enforce.besideHeld = s.besideHeld := by
  by_cases h : (s.prot.held.filter fun r => !r.inForce).isEmpty = true
  · rw [enforce_idle s h]
  · exact (enforce_sameHeld s h).keeps

/-- A restriction held is in force after the grid tick boundary. -/
theorem enforce_mem {s : State} {r : Restriction} (hr : r ∈ s.prot.held) :
    ({ r with inForce := true } : Restriction) ∈ s.enforce.prot.held := by
  by_cases h : (s.prot.held.filter fun r => !r.inForce).isEmpty = true
  · have hf : r.inForce = true := by
      have := List.filter_eq_nil_iff.1 (List.isEmpty_iff.1 h) r hr
      simpa using this
    rw [enforce_idle s h, ← hf]
    exact hr
  · rw [(enforce_sameHeld s h).prot]
    exact List.mem_map_of_mem hr

/-- A restriction of a kind on a target has been laid at a grid tick and is in force. -/
def State.Enforces (s : State) (kind cls t at_ : Nat) : Prop :=
  ∃ r ∈ s.prot.held, r.kind = kind ∧ r.cls = cls ∧ r.target = t ∧ r.since = at_ ∧ r.inForce = true

theorem enforce_enforces {s : State} {kind cls t at_ : Nat} (h : s.Holds kind cls t at_) : s.enforce.Enforces kind cls t at_ := by
  obtain ⟨r, hr, hk, hc, ht, hs⟩ := h
  exact ⟨_, enforce_mem hr, hk, hc, ht, hs, rfl⟩

/-! ### The conditions of the trips -/

/-- A kind off, or a count not reached. -/
theorem not_due {on : Bool} {n count : Nat} (h : on = false ∨ count < n) : ¬ (on = true ∧ n ≤ count) := by
  rintro ⟨rfl, hn⟩
  exact h.elim nofun (Nat.not_lt.2 hn)

section
variable (s : State)

theorem clrFloorTrip_holds (d : Nat) (hk : s.kindOn 1 = true)
    (hn : max 1 (s.get Fd.FLT_THR_CLR_SHEETS) ≤ mapGet 0 s.prot.clrRun d) : (s.clrFloorTrip d).Holds 1 0 d s.time.gt := by
  unfold State.clrFloorTrip
  rw [if_pos ⟨hk, hn⟩]
  exact trip_holds _ (by decide) 0 [d] _ (List.mem_singleton.2 rfl)

theorem clrFloorTrip_rests (d : Nat)
    (h : s.kindOn 1 = false ∨ mapGet 0 s.prot.clrRun d < max 1 (s.get Fd.FLT_THR_CLR_SHEETS)) : s.clrFloorTrip d = s := by
  unfold State.clrFloorTrip
  exact if_neg (not_due h)

theorem nrsTrip_holds (w : Nat) (hk : s.kindOn 3 = true)
    (hn : max 1 (s.get Fd.FLT_THR_NRS_SHEETS) ≤ mapGet 0 s.prot.nrsRun w) : (s.nrsTrip w).Holds 3 1 w s.time.gt := by
  unfold State.nrsTrip
  rw [if_pos ⟨hk, hn⟩]
  exact trip_holds _ (by decide) 1 [w] _ (List.mem_singleton.2 rfl)

theorem nrsTrip_rests (w : Nat)
    (h : s.kindOn 3 = false ∨ mapGet 0 s.prot.nrsRun w < max 1 (s.get Fd.FLT_THR_NRS_SHEETS)) : s.nrsTrip w = s := by
  unfold State.nrsTrip
  exact if_neg (not_due h)

theorem emsTrip_holds (w : Nat) (hk : s.kindOn 4 = true)
    (hn : 2 ≤ mapGet 0 s.prot.emsRun (2 * w) ∨ 2 ≤ mapGet 0 s.prot.emsRun (2 * w + 1)) :
    (s.emsTrip w).Holds 4 1 w s.time.gt := by
  have hc : s.kindOn 4 = true ∧ (decide (2 ≤ mapGet 0 s.prot.emsRun (2 * w + 0)) = true ∨
      decide (2 ≤ mapGet 0 s.prot.emsRun (2 * w + 1)) = true) := ⟨hk, by simpa using hn⟩
  unfold State.emsTrip
  simp only []
  rw [if_pos hc]
  exact trip_holds _ (by decide) 1 [w] _ (List.mem_singleton.2 rfl)

theorem emsTrip_rests (w : Nat)
    (h : s.kindOn 4 = false ∨ (mapGet 0 s.prot.emsRun (2 * w) < 2 ∧ mapGet 0 s.prot.emsRun (2 * w + 1) < 2)) :
    s.emsTrip w = s := by
  unfold State.emsTrip
  refine if_neg fun ⟨hk, hn⟩ => ?_
  simp only [decide_eq_true_eq, Nat.add_zero] at hn
  rcases h with hf | hl
  · exact absurd hk (by simp [hf])
  · omega

theorem spurTrip_holds (step : Nat) (hk : s.kindOn 4 = true) (hn : 2 ≤ mapGet 0 s.prot.spurRun step) {n : Nat}
    (hl : n ∈ s.lanesAtStep step) : (s.spurTrip step).Holds 4 2 n s.time.gt := by
  unfold State.spurTrip
  rw [if_pos ⟨hk, hn, List.ne_nil_of_mem hl⟩]
  exact trip_holds _ (by decide) 2 _ _ hl

theorem spurTrip_rests (step : Nat) (h : s.kindOn 4 = false ∨ mapGet 0 s.prot.spurRun step < 2) : s.spurTrip step = s := by
  unfold State.spurTrip
  exact if_neg fun ⟨hk, hn, _⟩ => not_due h ⟨hk, hn⟩

/-! ### The closures of oscillation (R166) -/

/-- The state whose closures of a domain are taken. -/
def State.takeOsc (s : State) (d : Nat) : State := { s with con := { s.con with osc := s.con.osc.filter fun p => p.1 != d } }

/-- The state whose windows name a domain as the one that oscillated. -/
def State.nameOsc (s : State) (d : Nat) : State :=
  forEach (s.windowsNaming d) s fun s w => (s.setB Fd.CON_WOSC_FIRED true w).set Fd.CON_WOSC_DOM d w

theorem closeOsc_eq (d : Nat) (growth : Int) : s.closeOsc d growth = (((s.takeOsc d).nameOsc d).trip 0 0 [d] growth).enforce := rfl

theorem nameOsc_sameHeld (d : Nat) : SameHeld s (s.nameOsc d) := .forEach _ _ (fun _ _ => .after (.set ..) (.setB ..)) s

theorem closeOsc_enforces (d : Nat) (growth : Int) : (s.closeOsc d growth).Enforces 0 0 d s.time.gt := by
  have ht : ((s.takeOsc d).nameOsc d).time = s.time := (nameOsc_sameHeld ..).time
  rw [closeOsc_eq, ← ht]
  exact enforce_enforces (trip_holds _ (by decide) 0 [d] growth (List.mem_singleton.2 rfl))

theorem closeOsc_osc (d : Nat) (growth : Int) : (s.closeOsc d growth).con.osc = s.con.osc.filter fun p => p.1 != d := by
  have h : (s.closeOsc d growth).besideHeld = (s.takeOsc d).besideHeld := by
    rw [closeOsc_eq, enforce_besideHeld, trip_besideHeld _ (by decide), (nameOsc_sameHeld ..).keeps]
  exact congrArg (fun p => p.2.1) h

/-! ### The grid tick lost (R35) -/

/-- The state in which the grid ticks seen good are counted anew. -/
def State.tickLost (s : State) : State := { s with prot := { s.prot with goodTicks := 0 } }

/-- What DATUM_TICK_TIMEOUT leaves. -/
def State.muteAll (s : State) : State := (s.tickLost.trip 7 2 (List.range 16) 0).enforce

theorem muteAll_enforces {n : Nat} (hn : n < 16) : s.muteAll.Enforces 7 2 n s.time.gt :=
  enforce_enforces (trip_holds s.tickLost (by decide) 2 _ 0 (List.mem_range.2 hn))

theorem muteAll_goodTicks : s.muteAll.prot.goodTicks = 0 := by
  have h : s.muteAll.besideHeld = s.tickLost.besideHeld := by
    rw [State.muteAll, enforce_besideHeld, trip_besideHeld _ (by decide)]
  exact congrArg (fun p => p.2.2) h

end

/-! ### The rows -/

theorem putBack_holds {u : State} (s : State) {kind cls x at_ : Nat} (h : u.Holds kind cls x at_) :
    (u.putBack s).Holds kind cls x at_ := h

theorem putBack_enforces {u : State} (s : State) {kind cls x at_ : Nat} (h : u.Enforces kind cls x at_) :
    (u.putBack s).Enforces kind cls x at_ := h

theorem putBack_con (u s : State) : (u.putBack s).con = u.con := rfl

theorem putBack_prot (u s : State) : (u.putBack s).prot = u.prot := rfl

/-- A row of a device that works lays what its effect `u` lays, and rests where that does. -/
theorem exec_lays {c : Instr} {s u : State} (hs : s.alive = true) (e : exec c s = s.whenLive (.next u)) :
    ∃ t, exec c s = .next t ∧ (∀ {kind cls x at_ : Nat}, u.Holds kind cls x at_ → t.Holds kind cls x at_) ∧
      (u = s → t = s) :=
  ⟨u.putBack s, exec_next hs e, putBack_holds s, by rintro rfl; rfl⟩

section
variable {s : State} (hs : s.alive = true)
include hs

theorem oscClosure_closes (d : Fin 256) {p : Nat × Nat × Int}
    (h : s.con.osc.find? (fun p => p.1 == d.val && decide (p.2.1 ≤ s.time.gt)) = some p) :
    ∃ t, exec (.oscClosure d) s = .next t ∧ t.Enforces 0 0 d s.time.gt ∧ t.con.osc = s.con.osc.filter fun p => p.1 != d.val := by
  have e : exec (.oscClosure d) s = s.whenLive (.next (s.closeOsc d p.2.2)) := by
    change execOscClosure d s = _
    unfold execOscClosure
    rw [h]
  refine ⟨_, exec_next hs e, putBack_enforces s (closeOsc_enforces s d _), ?_⟩
  rw [putBack_con, closeOsc_osc]

theorem oscClosure_rests (d : Fin 256)
    (h : s.con.osc.find? (fun p => p.1 == d.val && decide (p.2.1 ≤ s.time.gt)) = none) :
    exec (.oscClosure d) s = .next s := by
  have e : exec (.oscClosure d) s = s.whenLive (.next s) := by
    change execOscClosure d s = _
    unfold execOscClosure
    rw [h]
  exact exec_next hs e

theorem datumTickTimeout_mutes : ∃ t, exec .datumTickTimeout s = .next t ∧ t.prot.goodTicks = 0 ∧
    ∀ n, n < 16 → t.Enforces 7 2 n s.time.gt := by
  have e : exec .datumTickTimeout s = s.whenLive (.next s.muteAll) := rfl
  refine ⟨_, exec_next hs e, ?_, fun n hn => putBack_enforces s (muteAll_enforces s hn)⟩
  rw [putBack_prot, muteAll_goodTicks]

end

theorem exec_clrFloorTrip (d : Fin 256) (s : State) : exec (.clrFloorTrip d) s = s.whenLive (.next (s.clrFloorTrip d)) := rfl

theorem exec_nrsTrip (w : Fin 16) (s : State) : exec (.nrsTrip w) s = s.whenLive (.next (s.nrsTrip w)) := rfl

theorem exec_emsTrip (w : Fin 16) (s : State) : exec (.emsTrip w) s = s.whenLive (.next (s.emsTrip w)) := rfl

theorem exec_spurTrip (step : Nat) (s : State) : exec (.spurTrip step) s = s.whenLive (.next (s.spurTrip step)) := rfl

/-- Settles O41: every trip holds its targets (`trip_holds`), and what a row enforces at once is in force (`enforce_enforces`). -/
theorem tripsLayRestrictions : Obligations.TripsLayRestrictions := by
  refine ⟨fun d s hs => ?_, fun d s hs => ?_, fun w s hs => ?_, fun w s hs => ?_, fun step s hs => ?_,
    fun s hs => datumTickTimeout_mutes hs⟩
  · cases h : s.con.osc.find? fun p => p.1 == d.val && decide (p.2.1 ≤ s.time.gt) with
    | some p =>
      obtain ⟨t, e, ht⟩ := oscClosure_closes hs d h
      exact ⟨t, e, fun _ _ => ht, nofun⟩
    | none => exact ⟨s, oscClosure_rests hs d h, nofun, fun _ => rfl⟩
  · obtain ⟨t, e, hl, hr⟩ := exec_lays hs (exec_clrFloorTrip d s)
    exact ⟨t, e, fun hk hn => hl (clrFloorTrip_holds s d hk hn), fun h => hr (clrFloorTrip_rests s d h)⟩
  · obtain ⟨t, e, hl, hr⟩ := exec_lays hs (exec_nrsTrip w s)
    exact ⟨t, e, fun hk hn => hl (nrsTrip_holds s w hk hn), fun h => hr (nrsTrip_rests s w h)⟩
  · obtain ⟨t, e, hl, hr⟩ := exec_lays hs (exec_emsTrip w s)
    exact ⟨t, e, fun hk hn => hl (emsTrip_holds s w hk hn), fun h => hr (emsTrip_rests s w h)⟩
  · obtain ⟨t, e, hl, hr⟩ := exec_lays hs (exec_spurTrip step s)
    exact ⟨t, e, fun hk hn n hm => hl (spurTrip_holds s step hk hn hm), fun h => hr (spurTrip_rests s step h)⟩

end Sys2Proof.Machine

/-!
SUPPORT. Proofs about the window orders that wait: WIN_ENABLE and BANK_APPLY.
-/

namespace Sys2Proof.Machine

-- The option has the proofs elaborated one after another, not beside the tests above: the two together exceed the check's memory.
set_option deprecated.oldSectionVars true

/-! ### Permissive orders, and orders that meet no other -/

/-- A command that passes the checks of a permissive order passes them whether it is one or not. -/
theorem runs_of_permissive {s : State} {mb op lv : Nat} {c : Command} (h : s.runs mb op lv true c) (perm : Bool) :
    s.runs mb op lv perm c := by
  obtain ⟨hs, hv, hr, ho, hop, he, hc, hu⟩ := h
  refine ⟨hs, hv, hr, ho, hop, he, ?_, hu⟩
  cases perm with
  | true => exact hc
  | false =>
    unfold State.checkCommand at hc ⊢
    split_ifs at hc with h1 h2 h3 h4
    rw [if_neg h1, if_neg h2, if_neg h3, if_neg h4]
    rfl

/-- In a sheet without an earlier order, an order is not contested. -/
theorem asOrder_first {s : State} (h : s.fw.dones = []) (m : Nat) (c : Command) (restrictive : Bool) (targets bits : List (Nat × Nat))
    (run : State → State) :
    s.asOrder m c restrictive targets bits run = run (s.remember m c restrictive targets bits) := by
  simp only [State.asOrder, State.arbitrate, h, List.filter_nil, List.find?_nil]
  rfl

/-! ### WIN_ENABLE (R77) -/

/-- The windows that a WIN_ENABLE addresses. -/
def Command.addressed (c : Command) : List Nat := maskList (wbits (c.word 1) 15 0) 16

/-- The windows that a WIN_ENABLE enables. -/
def Command.ups (c : Command) : List Nat := c.addressed.filter fun w => bit (wbits (c.word 2) 15 0) w

/-- The windows that a WIN_ENABLE disables. -/
def Command.downs (c : Command) : List Nat := c.addressed.filter fun w => !bit (wbits (c.word 2) 15 0) w

/-- The windows of which a WIN_ENABLE changes the enable. -/
def State.enableChanges (s : State) (c : Command) : List Nat :=
  c.addressed.filter fun w => s.getB Fd.CHN_WCTL_EN w != bit (wbits (c.word 2) 15 0) w

/-- The fault of the windows that a WIN_ENABLE enables anew. -/
def State.winFault (s : State) (c : Command) : Option (Nat × List Word) :=
  s.enableFault (c.ups.filter (s.enableChanges c).contains) s.enabledWindows

/-- The state with a WIN_ENABLE that waits for its boundary. -/
def State.awaitEnable (s : State) (mb : Nat) (c : Command) (l : List Nat) : State :=
  { s with win := { s.win with enables := s.win.enables ++ [⟨mb, c, !c.ups.isEmpty, listMask l, false⟩] } }

/-- The targets of a WIN_ENABLE as an order (R265). -/
def Command.enableTargets (c : Command) (l : List Nat) : List (Nat × Nat) :=
  l.map fun w => (targetKey 0x31 w, b2n (bit (wbits (c.word 2) 15 0) w))

/-- What WIN_ENABLE does once its checks have passed, `l` being the windows of which it changes the enable. -/
def winEnableBody (mb : Nat) (l : List Nat) (s : State) (c : Command) : State :=
  if !c.ups.isEmpty && !c.downs.isEmpty then s.complete mb c 4
  else match s.enableFault (c.ups.filter l.contains) s.enabledWindows with
    | some (st, p) => s.complete mb c st p
    | none =>
      s.asOrder mb c c.ups.isEmpty (c.enableTargets l) (l.map fun w => (Reg.CHN_WCTL.off w 0, 1)) fun s => s.awaitEnable mb c l

/-- A WIN_ENABLE enables a window, which makes it a permissive order. -/
def State.enablesSome (s : State) (c : Command) : Bool := (s.enableChanges c).any fun w => bit (wbits (c.word 2) 15 0) w

/-- The body of a checked command runs on the state that was checked. -/
theorem checked_self (s : State) (mb : Nat) (c : Command) (level : Nat) (perm : Bool) (f : State → State → State) :
    s.checked mb c level perm (f s) = s.checked mb c level perm fun u => f u u := rfl

theorem exec_winEnable (mb : Fin 20) (s : State) : exec (.winEnable mb) s =
    s.whenLive (.next (s.runCommand mb 0x31 fun s c =>
      s.checked mb c 3 (s.enablesSome c) fun s => winEnableBody mb (s.enableChanges c) s c)) := by
  have e : exec (.winEnable mb) s = s.whenLive (.next (s.runCommand mb 0x31 fun s c =>
      s.checked mb c 3 (s.enablesSome c) (winEnableBody mb (s.enableChanges c) · c))) := rfl
  exact e.trans (congrArg (fun b => s.whenLive (.next (s.runCommand mb 0x31 b))) (funext fun s => funext fun c =>
    checked_self s mb c 3 _ fun s u => winEnableBody mb (s.enableChanges c) u c))

theorem enableFault_startOldest (s : State) (m : Nat) (l : List Nat) :
    ∀ others, (s.startOldest m).enableFault l others = s.enableFault l others := by
  induction l with
  | nil => exact fun _ => rfl
  | cons w l ih =>
    intro others
    have hb : (s.startOldest m).bindErr w others = s.bindErr w others := rfl
    have hl : (s.startOldest m).loBad w = s.loBad w := rfl
    have hn : (s.startOldest m).legN 0x1140 w = s.legN 0x1140 w := rfl
    have hg (f : Fld) (i j : Nat) : (s.startOldest m).get f i j = s.get f i j := rfl
    have hc : (s.startOldest m).branchesShare w 16 0 = s.branchesShare w 16 0 := rfl
    have hd : (s.startOldest m).guardShort w = s.guardShort w := rfl
    simp only [State.enableFault, hb, hl, hn, hg, hc, hd, ih]

section
variable {mb : Fin 20} {s : State} {c : Command}

/-- A WIN_ENABLE whose row ends in an answer. -/
theorem winEnable_answers (h : s.runs mb 0x31 3 true c) (st : Nat) (p : List Word)
    (hb : winEnableBody mb (s.enableChanges c) (s.startOldest mb) (s.begun c) = (s.startOldest mb).complete mb (s.begun c) st p) :
    ∃ t, exec (.winEnable mb) s = .next t ∧ s.answers t mb c st (p.take 63) ∧ OnlyAnswered mb s t := by
  rw [exec_winEnable]
  exact runs_answers (runs_of_permissive h _) (fun _ => 3) State.enablesSome (fun s c => winEnableBody mb (s.enableChanges c) s c)
    rfl rfl st p hb

theorem winEnable_mixed (h : s.runs mb 0x31 3 true c) (hu : c.ups ≠ []) (hd : c.downs ≠ []) :
    ∃ t, exec (.winEnable mb) s = .next t ∧ s.answers t mb c 4 [] ∧ OnlyAnswered mb s t := by
  refine winEnable_answers h 4 [] (if_pos ?_)
  change (!c.ups.isEmpty && !c.downs.isEmpty) = true
  simp [hu, hd]

theorem not_mixed (h : c.ups = [] ∨ c.downs = []) : ¬ (!c.ups.isEmpty && !c.downs.isEmpty) = true := by
  rcases h with h | h <;> simp [h]

theorem winEnable_faulty (h : s.runs mb 0x31 3 true c) (hn : c.ups = [] ∨ c.downs = []) {st : Nat} {p : List Word}
    (hf : s.winFault c = some (st, p)) :
    ∃ t, exec (.winEnable mb) s = .next t ∧ s.answers t mb c st (p.take 63) ∧ OnlyAnswered mb s t := by
  refine winEnable_answers h st p ((if_neg (not_mixed (c := s.begun c) hn)).trans ?_)
  have hf : (s.startOldest mb).enableFault ((s.begun c).ups.filter (s.enableChanges c).contains) (s.startOldest mb).enabledWindows =
      some (st, p) := (enableFault_startOldest ..).trans hf
  rw [hf]

theorem winEnable_waits (h : s.runs mb 0x31 3 true c) (hd : s.fw.dones = []) (hn : c.ups = [] ∨ c.downs = [])
    (hf : s.winFault c = none) :
    ∃ t, exec (.winEnable mb) s = .next t ∧
      ∃ q, t.win.enables = s.win.enables ++ [q] ∧ q.mb = mb.val ∧ q.cmd.tag = c.tag := by
  have hf : (s.startOldest mb).enableFault ((s.begun c).ups.filter (s.enableChanges c).contains) (s.startOldest mb).enabledWindows =
      none := (enableFault_startOldest ..).trans hf
  have hb : winEnableBody mb (s.enableChanges c) (s.startOldest mb) (s.begun c) =
      ((s.startOldest mb).remember mb (s.begun c) c.ups.isEmpty (c.enableTargets (s.enableChanges c))
        ((s.enableChanges c).map fun w => (Reg.CHN_WCTL.off w 0, 1))).awaitEnable mb (s.begun c) (s.enableChanges c) := by
    rw [winEnableBody, if_neg (not_mixed (c := s.begun c) hn), hf]
    exact asOrder_first (s := s.startOldest mb) hd ..
  obtain ⟨t, e, hk⟩ := runs_next (runs_of_permissive h _) (fun _ => 3) State.enablesSome
    (fun s c => winEnableBody mb (s.enableChanges c) s c) rfl rfl _ hb rfl rfl
  rw [exec_winEnable]
  exact ⟨t, e, _, congrArg Windows.enables hk.win, rfl, rfl⟩

end

/-! ### BANK_APPLY (R78) -/

/-- The windows that a BANK_APPLY names: those of word 1. -/
def Command.named (c : Command) : List Nat := maskList (wbits (c.word 1) 15 0) 16

/-- The window has a swap or an earlier BANK_APPLY under way. -/
def State.applyBusy (s : State) (w : Nat) : Bool :=
  s.getB Fd.CHN_WSTAT_SWAP_PEND w || s.win.applies.any fun a => bit a.named w

/-- The faults of the pending copies of the named windows. -/
def State.applyFaults (s : State) (l : List Nat) : List (Nat × Nat) :=
  l.filterMap fun w => (s.pendingFault l w).map fun i => (w, i)

/-- The inactive banks of the named windows built from their pending copies. -/
def State.buildBanks (s : State) (l : List Nat) : State :=
  forEach l s fun s w => s.buildBank w (s.applyRegions w).1 (s.applyRegions w).2 (s.pendWord w)

/-- The state with a BANK_APPLY that waits for the banks of the windows of a mask. -/
def State.awaitApply (s : State) (mb : Nat) (c : Command) (mask : Nat) : State :=
  { s with win := { s.win with applies := s.win.applies ++ [⟨mb, c, mask, 0, 0⟩] } }

theorem awaitApply_applies (s : State) (mb : Nat) (c : Command) (mask : Nat) :
    (s.awaitApply mb c mask).win.applies = s.win.applies ++ [⟨mb, c, mask, 0, 0⟩] := rfl

theorem accepted_tag (c : Command) : c.accepted.tag = c.tag := by
  unfold Command.accepted
  split <;> rfl

/-- What BANK_APPLY does once its checks have passed. -/
def bankApplyBody (mb : Nat) (s : State) (c : Command) : State :=
  if c.named.any s.applyBusy then s.complete mb c 6
  else match s.applyFaults c.named with
    | (w, i) :: _ => s.complete mb c 4 [wd w, wd i]
    | [] =>
      if wbits (c.word 1) 15 0 = 0 then ((s.acceptEarly mb c).buildBanks c.named).complete mb c.accepted 0 [0]
      else ((s.acceptEarly mb c).buildBanks c.named).awaitApply mb c.accepted (wbits (c.word 1) 15 0)

theorem exec_bankApply (mb : Fin 20) (s : State) : exec (.bankApply mb) s =
    s.whenLive (.next (s.runCommand mb 0x35 fun s c => s.checked mb c 3 true fun s => bankApplyBody mb s c)) := rfl

/-- What building a bank leaves alone, of what a BANK_APPLY waits on. -/
def State.besideBanks (s : State) : Time × List Instr × List BankWait := (s.time, s.pending, s.win.applies)

theorem setTbl_besideBanks (s : State) (w b k i : Nat) (v : Word) : (s.setTbl w b k i v).besideBanks = s.besideBanks := rfl

theorem buildBank_besideBanks (s : State) (w p q : Nat) (t : Nat → Nat → Word) :
    (s.buildBank w p q t).besideBanks = s.besideBanks := by
  have hs (u : State) (f : Fld) (v i j : Nat) : (u.set f v i j).besideBanks = u.besideBanks := rfl
  have hu (u : State) (x : Integrity) (l : List Nat) :
      State.besideBanks { u with integ := x, win := { u.win with preps := l } } = u.besideBanks := rfl
  unfold State.buildBank State.setB
  rw [hs, hs, hs, hu, hs]
  refine (forEach_keeps State.besideBanks _ _ (fun _ _ => ⟨setTbl_besideBanks ..⟩) _).trans ?_
  exact forEach_keeps State.besideBanks _ _ (fun s k => ⟨forEach_keeps State.besideBanks _ _ (fun _ _ => ⟨setTbl_besideBanks ..⟩) s⟩) s

theorem buildBanks_besideBanks (s : State) (l : List Nat) : (s.buildBanks l).besideBanks = s.besideBanks :=
  forEach_keeps State.besideBanks _ _ (fun _ _ => ⟨buildBank_besideBanks ..⟩) s

theorem acceptEarly_besideBanks (s : State) (m : Nat) (c : Command) : (s.acceptEarly m c).besideBanks = s.besideBanks := by
  unfold State.acceptEarly
  split <;> rfl

/-- The faults of a rising list of windows begin with the first faulty one. -/
theorem faults_first {f : Nat → Option Nat} {l : List Nat} (hl : l.Pairwise (· < ·)) {w i : Nat} (hw : w ∈ l)
    (hb : ∀ v ∈ l, v < w → f v = none) (hi : f w = some i) : (l.filterMap fun w => (f w).map (w, ·)).head? = some (w, i) := by
  induction l with
  | nil => cases hw
  | cons v l ih =>
    rw [List.pairwise_cons] at hl
    rcases List.mem_cons.1 hw with rfl | hm
    · simp only [List.filterMap_cons, hi, Option.map_some, List.head?_cons]
    · have hv := hb v (by simp) (hl.1 w hm)
      simp only [List.filterMap_cons, hv, Option.map_none]
      exact ih hl.2 hm fun x hx => hb x (by simp [hx])

theorem maskList_rising (m n : Nat) : (maskList m n).Pairwise (· < ·) := List.pairwise_lt_range.filter _

section
variable {mb : Fin 20} {s : State} {c : Command}

/-- A BANK_APPLY whose row ends in an answer. -/
theorem bankApply_answers (h : s.runs mb 0x35 3 true c) (st : Nat) (p : List Word)
    (hb : bankApplyBody mb (s.startOldest mb) (s.begun c) = (s.startOldest mb).complete mb (s.begun c) st p) :
    ∃ t, exec (.bankApply mb) s = .next t ∧ s.answers t mb c st (p.take 63) ∧ OnlyAnswered mb s t := by
  rw [exec_bankApply]
  exact runs_answers h (fun _ => 3) (fun _ _ => true) (bankApplyBody mb) rfl rfl st p hb

theorem bankApply_busy (h : s.runs mb 0x35 3 true c) (hb : ∃ w ∈ c.named, s.applyBusy w = true) :
    ∃ t, exec (.bankApply mb) s = .next t ∧ s.answers t mb c 6 [] ∧ OnlyAnswered mb s t :=
  bankApply_answers h 6 [] (if_pos (List.any_eq_true.2 hb))

theorem not_busy (hb : ∀ w ∈ c.named, s.applyBusy w = false) :
    ¬ (s.begun c).named.any (s.startOldest mb).applyBusy = true := by
  rw [List.any_eq_true]
  rintro ⟨w, hw, hc⟩
  exact absurd ((hb w hw).symm.trans hc) (by decide)

theorem applyFaults_head {w i : Nat} (hw : w ∈ c.named) (hn : ∀ v ∈ c.named, v < w → s.pendingFault c.named v = none)
    (hi : s.pendingFault c.named w = some i) : (s.applyFaults c.named).head? = some (w, i) :=
  faults_first (maskList_rising _ _) hw hn hi

theorem applyFaults_startOldest (m : Nat) (l : List Nat) : (s.startOldest m).applyFaults l = s.applyFaults l := rfl

theorem applyFaults_none {l : List Nat} (hn : ∀ w ∈ l, s.pendingFault l w = none) : s.applyFaults l = [] :=
  List.filterMap_eq_nil_iff.2 fun w hw => congrArg (Option.map _) (hn w hw)

theorem bankApply_faulty (h : s.runs mb 0x35 3 true c) (hb : ∀ w ∈ c.named, s.applyBusy w = false) {w i : Nat} {r : List (Nat × Nat)}
    (hf : s.applyFaults c.named = (w, i) :: r) :
    ∃ t, exec (.bankApply mb) s = .next t ∧ s.answers t mb c 4 [wd w, wd i] ∧ OnlyAnswered mb s t := by
  have hf : (s.startOldest mb).applyFaults (s.begun c).named = (w, i) :: r := (applyFaults_startOldest ..).trans hf
  refine bankApply_answers h 4 [wd w, wd i] ((if_neg (not_busy hb)).trans ?_)
  rw [hf]

theorem bankApply_waits (h : s.runs mb 0x35 3 true c) (h0 : wbits (c.word 1) 15 0 ≠ 0)
    (hb : ∀ w ∈ c.named, s.applyBusy w = false) (hf : s.applyFaults c.named = []) :
    ∃ t, exec (.bankApply mb) s = .next t ∧
      ∃ q, t.win.applies = s.win.applies ++ [q] ∧ q.mb = mb.val ∧ q.cmd.tag = c.tag := by
  have hf : (s.startOldest mb).applyFaults (s.begun c).named = [] := (applyFaults_startOldest ..).trans hf
  have hp : (((s.startOldest mb).acceptEarly mb (s.begun c)).buildBanks c.named).besideBanks = s.besideBanks :=
    (buildBanks_besideBanks ..).trans (acceptEarly_besideBanks ..)
  have hl : (((s.startOldest mb).acceptEarly mb (s.begun c)).buildBanks c.named).win.applies = s.win.applies :=
    congrArg (·.2.2) hp
  have hw : bankApplyBody mb (s.startOldest mb) (s.begun c) =
      (((s.startOldest mb).acceptEarly mb (s.begun c)).buildBanks c.named).awaitApply mb (s.begun c).accepted
        (wbits (c.word 1) 15 0) := by
    rw [bankApplyBody, if_neg (not_busy hb), hf]
    exact if_neg h0
  obtain ⟨t, e, hk⟩ := runs_next h (fun _ => 3) (fun _ _ => true) (bankApplyBody mb) rfl rfl _ hw (congrArg (·.1) hp)
    (congrArg (·.2.1) hp)
  rw [exec_bankApply]
  have ha : t.win.applies = s.win.applies ++ [⟨mb, (s.begun c).accepted, wbits (c.word 1) 15 0, 0, 0⟩] := by
    rw [hk.win, awaitApply_applies, hl]
  exact ⟨t, e, _, ha, rfl, accepted_tag _⟩

end

/-- Settles O19: each row runs its command (`runs_of_permissive`, `runs_next`); which outcome it has is the lemma of its name. -/
theorem windowOrdersWait : Obligations.WindowOrdersWait := by
  refine ⟨fun mb s c h hd => ?_, fun mb s c h h0 => ?_⟩
  · by_cases hm : c.ups = [] ∨ c.downs = []
    · have hx (hu : c.ups ≠ []) (hn : c.downs ≠ []) : False := hm.elim hu hn
      cases hf : s.winFault c with
      | none =>
        obtain ⟨t, e, hq⟩ := winEnable_waits h hd hm hf
        exact ⟨t, e, fun hu hn => (hx hu hn).elim, fun _ _ => hq, fun _ _ _ hs => absurd (hf.symm.trans hs) nofun⟩
      | some f =>
        obtain ⟨t, e, ha⟩ := winEnable_faulty h hm hf
        refine ⟨t, e, fun hu hn => (hx hu hn).elim, fun _ hs => absurd (hf.symm.trans hs) nofun, fun st p _ hs => ?_⟩
        cases hf.symm.trans hs
        exact ha
    · obtain ⟨hu, hn⟩ := not_or.1 hm
      obtain ⟨t, e, ha⟩ := winEnable_mixed h hu hn
      exact ⟨t, e, fun _ _ => ha, fun hx _ => absurd hx hm, fun _ _ hx _ => absurd hx hm⟩
  · by_cases hb : ∃ w ∈ c.named, s.applyBusy w = true
    · obtain ⟨t, e, ha⟩ := bankApply_busy h hb
      obtain ⟨w, hw, hy⟩ := hb
      have hx (hn : ∀ v ∈ c.named, s.applyBusy v = false) : False := absurd ((hn w hw).symm.trans hy) nofun
      exact ⟨t, e, fun _ => ha, fun hn _ => (hx hn).elim, fun _ _ hn _ _ _ => (hx hn).elim⟩
    · have hfree : ∀ w ∈ c.named, s.applyBusy w = false := fun w hw => Bool.eq_false_iff.2 fun hy => hb ⟨w, hw, hy⟩
      cases hf : s.applyFaults c.named with
      | nil =>
        obtain ⟨t, e, hq⟩ := bankApply_waits h h0 hfree hf
        refine ⟨t, e, fun hx => absurd hx hb, fun _ _ => hq, fun w i _ hw hn hi => ?_⟩
        exact absurd (applyFaults_head hw hn hi) (by rw [hf]; nofun)
      | cons p r =>
        obtain ⟨t, e, ha⟩ := bankApply_faulty h hfree hf
        refine ⟨t, e, fun hx => absurd hx hb, fun _ hn => ?_, fun w i _ hw hn hi => ?_⟩
        · exact absurd (hf.symm.trans (applyFaults_none hn)) nofun
        · have hp := applyFaults_head hw hn hi
          rw [hf] at hp
          cases hp
          exact ha

end Sys2Proof.Machine

/-!
SUPPORT. Proofs about served register writes: the state in which one takes effect, the word it stores, and the registers of the
enables.
-/

namespace Sys2Proof.Machine

-- The option has the proofs elaborated one after another, not beside the tests above: the two together exceed the check's memory.
set_option deprecated.oldSectionVars true

/-! ### A served write (R278): the state in which it takes effect, and the word that it stores -/

/-- The state in which a write takes effect: an ignored change of an RWE field noted, the running sweep pass of its seal discarded. -/
def State.readied (s : State) (m : Master) (p : RegAt) (off : Nat) (data : Word) : State :=
  let u := if rweIgnored p (s.reg off) data (s.rweEnabled p off) then s.noteIgnored m off else s
  if p.reg.swMask ≠ 0 && !sweptAsTable off then u.touchSweep (setOf off) else u

/-- The word that a write leaves. -/
def State.stored (s : State) (p : RegAt) (off : Nat) (data : Word) : Word :=
  clampWord p (mergeWord p (s.reg off) data (s.rweEnabled p off))

theorem writeWord_eq (s : State) (m : Master) (p : RegAt) (off : Nat) (data : Word) :
    s.writeWord m p off data = (s.readied m p off data).writeEffect m p off (s.reg off) (s.stored p off data) data := rfl

/-- The state in which a write of a register takes effect, its access counted. -/
def State.ready (s : State) (m : Master) (p : RegAt) (off : Nat) (data : Word) : State :=
  (s.countAccess m off 4).readied m p off data

/-- The word that a write of a register leaves in it. -/
def State.written (s : State) (m : Master) (p : RegAt) (off : Nat) (data : Word) : Word :=
  (s.countAccess m off 4).stored p off data

theorem csrWrite_served {s : State} {m : Master} {off : Nat} {p : RegAt} (hf : findReg off = some p)
    (hl : writeLevel m off ≤ s.masterLevel m) (data : Word) :
    s.csrWrite m off false data = (s.countAccess m off 4).writeWord m p off data := by
  simp only [State.csrWrite, hf, Bool.false_eq_true, if_false, if_neg (Nat.not_lt.2 hl)]

/-- A row that writes a register. -/
theorem exec_write {c : Instr} {s : State} {m : Master} {off : Nat} {p : RegAt} {data : Word} (hs : s.alive = true)
    (e : exec c s = s.whenLive (.next (s.csrWrite m off false data))) (hf : findReg off = some p)
    (hl : writeLevel m off ≤ s.masterLevel m) :
    exec c s = .next (((s.ready m p off data).writeEffect m p off ((s.countAccess m off 4).reg off) (s.written m p off data)
      data).putBack s) := by
  rw [State.ready, State.written, ← writeWord_eq, ← csrWrite_served hf hl]
  exact exec_next hs e

/-- `t` has the windows, the bank seals and the registers below the fault collector's of `s`, but for those common to register set `i`. -/
structure SameBut (i : Nat) (s t : State) : Prop where
  win : t.win = s.win
  banks : t.integ.chnBank = s.integ.chnBank
  regs : ∀ o < 0x34048, o < Reg.setBase i ∨ Reg.setBase i + 0x40 ≤ o → t.reg o = s.reg o

theorem quiet_low {o : Nat} (h : o < 0x34048) : quiet o = true := by
  simp only [quiet, Bool.not_eq_true', Bool.or_eq_false_iff, decide_eq_false_iff_not]
  omega

theorem OnlyRaised.low {s t : State} (h : OnlyRaised s t) {o : Nat} (ho : o < 0x34048) : t.reg o = s.reg o :=
  h.regs o (quiet_low ho)

theorem OnlyAnswered.low {m : Nat} {s t : State} (h : OnlyAnswered m s t) {o : Nat} (ho : o < 0x34048) : t.reg o = s.reg o :=
  h.regs o (quiet_low ho)

theorem SameBut.refl (i : Nat) (s : State) : SameBut i s s := ⟨rfl, rfl, fun _ _ _ => rfl⟩

/-- The chain taken from its end. -/
theorem SameBut.after {i : Nat} {s t u : State} (k : SameBut i t u) (h : SameBut i s t) : SameBut i s u :=
  ⟨k.win.trans h.win, k.banks.trans h.banks, fun o ho ha => (k.regs o ho ha).trans (h.regs o ho ha)⟩

theorem SameBut.ite {c : Prop} [Decidable c] {i : Nat} {s t u : State} (h : SameBut i s t) (k : SameBut i s u) :
    SameBut i s (if c then t else u) := by
  split
  · exact h
  · exact k

theorem SameBut.of_raised {s t : State} (i : Nat) (h : OnlyRaised s t) : SameBut i s t :=
  ⟨h.win, congrArg Integrity.chnBank h.integ, fun _ ho _ => h.low ho⟩

/-- A common register of the set. -/
theorem SameBut.set {i : Nat} (s : State) (f : Fld) (v j k : Nat)
    (h : Reg.setBase i ≤ f.reg.off j k ∧ f.reg.off j k < Reg.setBase i + 0x40) : SameBut i s (s.set f v j k) :=
  ⟨rfl, rfl, fun _ _ ha => reg_set_other s f v j k (by omega)⟩

theorem countAccess_raised (s : State) (m : Master) (off code : Nat) : OnlyRaised s (s.countAccess m off code) := count_raised ..

section
variable (s : State) (m : Master) {off i : Nat} (ho : setOf off = i) (hi : i < 35)

include ho hi

theorem noteIgnored_sameBut : SameBut i s (s.noteIgnored m off) := by
  subst ho
  unfold State.noteIgnored
  refine .after (.of_raised _ (pulse_raised _ (by unfold regSource; omega))) (.after (.set _ (Fd.BLK_STAT_WIGN _) _ 0 0 ?_)
    (.ite (.refl ..) (.after (.set _ (Fd.WIGN_ADDR_OFFSET _) _ 0 0 ?_) (.set _ (Fd.WIGN_ADDR_MASTER _) _ 0 0 ?_))))
  all_goals simp only [RegDesc.off, Fd.BLK_STAT_WIGN, Reg.BLK_STAT, Fd.WIGN_ADDR_OFFSET, Fd.WIGN_ADDR_MASTER, Reg.WIGN_ADDR]; omega

theorem ready_sameBut (p : RegAt) (data : Word) : SameBut i s (s.ready m p off data) := by
  refine .after (t := s.countAccess m off 4) ?_ (.of_raised i (countAccess_raised ..))
  have hu (t : State) (k : Nat) : SameBut i t (t.touchSweep k) := ⟨rfl, rfl, fun _ _ _ => rfl⟩
  have hn (t : State) : SameBut i t (if rweIgnored p (t.reg off) data (t.rweEnabled p off) then t.noteIgnored m off else t) :=
    .ite (noteIgnored_sameBut t m ho hi) (.refl ..)
  exact .ite (.after (hu ..) (hn _)) (hn _)

end

/-! ### The bits of the word stored -/

theorem testBit_wd (n : Nat) {k : Nat} (hk : k < 32) : (wd n).toNat.testBit k = n.testBit k := by
  rw [wd, BitVec.toNat_ofNat, Nat.testBit_mod_two_pow, decide_eq_true hk, Bool.true_and]

/-- A bit of a word written under the access codes: the bit of the data where its field is writable, else the old one. -/
theorem testBit_mergeWord (p : RegAt) (old data : Word) (on1 : Bool) {k : Nat} (hk : k < 32) :
    (mergeWord p old data on1).toNat.testBit k =
      if (p.reg.accMask .rw ||| if on1 then 0 else p.reg.accMask .rwe).testBit k then data.toNat.testBit k else old.toNat.testBit k := by
  unfold mergeWord
  generalize (p.reg.accMask .rw ||| if on1 then 0 else p.reg.accMask .rwe) = mask
  have hd : maskClear old.toNat mask &&& (data.toNat &&& mask) = 0 := by
    apply Nat.eq_of_testBit_eq
    intro i
    rw [Nat.testBit_and, testBit_maskClear, Nat.testBit_and]
    cases mask.testBit i <;> simp
  have hor : wd (maskClear old.toNat mask + (data.toNat &&& mask)) = wd (maskClear old.toNat mask) ||| wd (data.toNat &&& mask) := by
    unfold wd
    rw [BitVec.ofNat_add, BitVec.add_eq_or_of_and_eq_zero]
    rw [← BitVec.ofNat_and, hd]
  rw [hor, BitVec.toNat_or, Nat.testBit_or, testBit_wd _ hk, testBit_wd _ hk, testBit_maskClear, Nat.testBit_and]
  cases mask.testBit k <;> simp

theorem testBit_mapField (v : Word) (l w : Nat) (f : Nat → Nat) {k : Nat} (h : l + w ≤ 32) (hk : k < l ∨ l + w ≤ k) :
    (mapField v l w f).toNat.testBit k = v.toNat.testBit k := by
  rw [mapField, setBits_testBit v l w _ k h, if_neg (by omega)]

/-- A flag is a bit of its register. -/
theorem getB_eq_bit (s : State) (f : Fld) (i j : Nat) (hw : f.width = 1) : s.getB f i j = bit (s.reg (f.reg.off i j)).toNat f.lsb := by
  rw [State.getB, State.get, getBits, hw, bit, Nat.testBit_eq_decide_div_mod_eq]
  rcases Nat.mod_two_eq_zero_or_one ((s.reg (f.reg.off i j)).toNat / 2 ^ f.lsb) with h | h <;> simp [h]

/-- A bit of a register that is RW, and that no clamping touches. -/
structure StoresBit (r : RegDesc) (k : Nat) : Prop where
  lt : k < 32
  rw : (r.accMask .rw).testBit k = true
  kept : ∀ i j v, (clampWord ⟨r, i, j⟩ v).toNat.testBit k = v.toNat.testBit k

theorem StoresBit.written {r : RegDesc} {k : Nat} (h : StoresBit r k) (s : State) (m : Master) (i j off : Nat) (data : Word) :
    bit (s.written m ⟨r, i, j⟩ off data).toNat k = bit data.toNat k := by
  rw [bit, State.written, State.stored, h.kept, testBit_mergeWord _ _ _ _ h.lt, Nat.testBit_or, h.rw, Bool.true_or, if_pos rfl, bit]

/-- A flag takes its bit of the data. -/
theorem StoresBit.getB {f : Fld} (h : StoresBit f.reg f.lsb) (hw : f.width = 1) {s t : State} {m : Master} {i j i' j' off : Nat}
    {data : Word} (hr : t.reg (f.reg.off i j) = s.written m ⟨f.reg, i', j'⟩ off data) : t.getB f i j = bit data.toNat f.lsb := by
  rw [getB_eq_bit t f i j hw, hr, h.written]

theorem wctl_storesBit : StoresBit Reg.CHN_WCTL 0 :=
  ⟨by decide, by decide, fun _ _ v => testBit_mapField v 29 2 (instead 3 1) (by decide) (by decide)⟩
theorem pcfg0_storesBit : StoresBit Reg.CAN_PCFG0 31 := ⟨by decide, by decide, fun _ _ _ => rfl⟩
theorem rxEn_storesBit : StoresBit Reg.LANE_CTL 0 := ⟨by decide, by decide, fun _ _ _ => rfl⟩
theorem txEn_storesBit : StoresBit Reg.LANE_CTL 1 := ⟨by decide, by decide, fun _ _ _ => rfl⟩
theorem dctl_storesBit : StoresBit Reg.CON_DCTL 31 :=
  ⟨by decide, by decide, fun _ _ v => testBit_mapField v 28 2 (instead 3 0) (by decide) (by decide)⟩
theorem ccfg3_storesBit : StoresBit Reg.CON_CCFG3 31 :=
  ⟨by decide, by decide, fun _ _ v => testBit_mapField v 0 15 (atLeast 1) (by decide) (by decide)⟩
theorem conCtl_storesBit : StoresBit Reg.CON_CTL 0 := ⟨by decide, by decide, fun _ _ _ => rfl⟩
theorem alert_storesBit : StoresBit Reg.FLT_ALERT 0 := ⟨by decide, by decide, fun _ _ _ => rfl⟩
theorem tddCtl_storesBit : StoresBit Reg.TDD_CTL 0 := ⟨by decide, by decide, fun _ _ _ => rfl⟩
theorem rceCtl_storesBit : StoresBit Reg.RCE_CTL 0 :=
  ⟨by decide, by decide, fun _ _ v => testBit_mapField v 4 2 (instead 3 0) (by decide) (by decide)⟩

/-! ### The registers of the enables: their offsets, their lookup, what a write of them does -/

/-- No element of `q` lies at an element of `r`: those of `q` lie below, or `q` and `r` interleave. -/
def RegDesc.apart (q r : RegDesc) : Bool :=
  decide (q.base + q.stride * (q.count - 1) + q.stride2 * (q.count2 - 1) < r.base) ||
    (decide (q.stride = r.stride) && decide (q.stride2 = 0) && decide (q.base % r.stride ≠ r.base % r.stride))

theorem apart_off {q r : RegDesc} (h : q.apart r = true) {a b : Nat} (ha : a < q.count) (hb : b < q.count2) (i : Nat) :
    r.off i 0 ≠ q.off a b := by
  simp only [RegDesc.apart, Bool.or_eq_true, Bool.and_eq_true, decide_eq_true_eq] at h
  unfold RegDesc.off
  rcases h with h | ⟨⟨hs, h2⟩, hm⟩
  · have h1 := Nat.mul_le_mul_left q.stride (show a ≤ q.count - 1 by omega)
    have h2 := Nat.mul_le_mul_left q.stride2 (show b ≤ q.count2 - 1 by omega)
    omega
  · intro e
    apply hm
    have he := congrArg (· % r.stride) e
    simpa [hs, h2] using he.symm

/-- The lookup of an element of a register that stands in its set behind registers apart from it. -/
theorem findReg_off {r : RegDesc} {k : Nat} (n : Nat) {i : Nat} (hs : setOf (r.off i 0) = k)
    (ho : Reg.setBase k + 0x40 ≤ r.off i 0 ∧ r.off i 0 < 0x40000) (hi : i < r.count)
    (hl : regsOfSet k = (regsOfSet k).take n ++ r :: (regsOfSet k).drop (n + 1))
    (ha : ((regsOfSet k).take n).all (·.apart r) = true) (hr : r.stride2 = 0 ∧ 0 < r.count2 ∧ 0 < r.stride) :
    findReg (r.off i 0) = some ⟨r, i, 0⟩ := by
  obtain ⟨h2, hc, hp⟩ := hr
  rw [findReg, if_pos ho.2]
  simp only [hs]
  rw [if_neg (by omega), hl, findIn_append _ fun q hq a ha' b hb => apart_off (List.all_eq_true.1 ha q hq) ha' hb i, findIn,
    at?_off h2 hc hp hi]

theorem not_common {k off : Nat} (h : Reg.setBase k + 0x40 ≤ off) : ¬ off - Reg.setBase k < 0x40 :=
  Nat.not_lt.2 (Nat.le_sub_of_add_le' h)

theorem writeLevel_le {m : Master} {off : Nat} (h : off ≠ Reg.CON_OSC_CFG.base) (hb : blockWriteLevel (setOf off) ≤ 4) :
    writeLevel m off ≤ 4 := by
  unfold writeLevel
  rw [if_neg h]
  split_ifs
  · exact Nat.le_refl 4
  · cases m <;> decide
  · exact hb

section
variable (w n : Fin 16) (y : Fin 8) (p d : Fin 256) (k : Fin 1536)

theorem off_wctl : Reg.CHN_WCTL.off w 0 = 0xA100 + 64 * w.val := rfl
theorem off_pcfg0 : Reg.CAN_PCFG0.off p 0 = 0x11000 + 16 * p.val := rfl
theorem off_scfg : Reg.SYN_SCFG.off y 0 = 0x8080 + 8 * y.val := rfl
theorem off_lsrc : Reg.SYN_LSRC.off n 0 = 0x8100 + 8 * n.val := rfl
theorem off_laneCtl : Reg.LANE_CTL.off n 0 = 0x4040 + 1024 * n.val := rfl
theorem off_dctl : Reg.CON_DCTL.off d 0 = 0x21000 + 16 * d.val := rfl
theorem off_ccfg3 : Reg.CON_CCFG3.off k 0 = 0x2200C + 16 * k.val := rfl

theorem setOf_wctl : setOf (Reg.CHN_WCTL.off w 0) = 20 := by revert w; decide
theorem setOf_scfg : setOf (Reg.SYN_SCFG.off y 0) = 19 := by revert y; decide
theorem setOf_lsrc : setOf (Reg.SYN_LSRC.off n 0) = 19 := by revert n; decide
theorem setOf_laneCtl : setOf (Reg.LANE_CTL.off n 0) = n.val + 3 := by revert n; decide

theorem setOf_pcfg0 : setOf (Reg.CAN_PCFG0.off p 0) = 21 := by
  have h := off_pcfg0 p
  rw [setOf, if_neg (by omega), if_neg (by omega), if_neg (by omega), if_neg (by omega), if_neg (by omega), if_neg (by omega),
    if_pos (by omega)]

theorem setOf_con {o : Nat} (h : 0x20000 ≤ o ∧ o < 0x28000) : setOf o = 23 := by
  rw [setOf, if_neg (by omega), if_neg (by omega), if_neg (by omega), if_neg (by omega), if_neg (by omega), if_neg (by omega),
    if_neg (by omega), if_neg (by omega), if_pos (by omega)]

theorem setOf_dctl : setOf (Reg.CON_DCTL.off d 0) = 23 := setOf_con (by rw [off_dctl]; omega)
theorem setOf_ccfg3 : setOf (Reg.CON_CCFG3.off k 0) = 23 := setOf_con (by rw [off_ccfg3]; omega)

/-- Each lies beyond the common registers of its set, and within the map. -/
theorem inBlock_wctl : Reg.setBase 20 + 0x40 ≤ Reg.CHN_WCTL.off w 0 ∧ Reg.CHN_WCTL.off w 0 < 0x40000 := by
  rw [off_wctl, show Reg.setBase 20 = 0xA000 from rfl]; omega

theorem inBlock_scfg : Reg.setBase 19 + 0x40 ≤ Reg.SYN_SCFG.off y 0 ∧ Reg.SYN_SCFG.off y 0 < 0x40000 := by
  rw [off_scfg, show Reg.setBase 19 = 0x8000 from rfl]; omega

theorem inBlock_lsrc : Reg.setBase 19 + 0x40 ≤ Reg.SYN_LSRC.off n 0 ∧ Reg.SYN_LSRC.off n 0 < 0x40000 := by
  rw [off_lsrc, show Reg.setBase 19 = 0x8000 from rfl]; omega

theorem inBlock_pcfg0 : Reg.setBase 21 + 0x40 ≤ Reg.CAN_PCFG0.off p 0 ∧ Reg.CAN_PCFG0.off p 0 < 0x40000 := by
  rw [off_pcfg0, show Reg.setBase 21 = 0x10000 from rfl]; omega

theorem inBlock_dctl : Reg.setBase 23 + 0x40 ≤ Reg.CON_DCTL.off d 0 ∧ Reg.CON_DCTL.off d 0 < 0x40000 := by
  rw [off_dctl, show Reg.setBase 23 = 0x20000 from rfl]; omega

theorem inBlock_ccfg3 : Reg.setBase 23 + 0x40 ≤ Reg.CON_CCFG3.off k 0 ∧ Reg.CON_CCFG3.off k 0 < 0x40000 := by
  rw [off_ccfg3, show Reg.setBase 23 = 0x20000 from rfl]; omega

theorem inBlock_laneCtl : Reg.setBase (n.val + 3) + 0x40 ≤ Reg.LANE_CTL.off n 0 := by revert n; decide

theorem findReg_wctl : findReg (Reg.CHN_WCTL.off w 0) = some ⟨Reg.CHN_WCTL, w, 0⟩ :=
  findReg_off 3 (setOf_wctl w) (inBlock_wctl w) w.isLt rfl (by decide) (by decide)

theorem findReg_scfg : findReg (Reg.SYN_SCFG.off y 0) = some ⟨Reg.SYN_SCFG, y, 0⟩ :=
  findReg_off 3 (setOf_scfg y) (inBlock_scfg y) y.isLt rfl (by decide) (by decide)

theorem findReg_lsrc : findReg (Reg.SYN_LSRC.off n 0) = some ⟨Reg.SYN_LSRC, n, 0⟩ :=
  findReg_off 5 (setOf_lsrc n) (inBlock_lsrc n) n.isLt rfl (by decide) (by decide)

theorem findReg_laneCtl : findReg (Reg.LANE_CTL.off n 0) = some ⟨Reg.LANE_CTL, n, 0⟩ := by revert n; decide

theorem findReg_pcfg0 : findReg (Reg.CAN_PCFG0.off p 0) = some ⟨Reg.CAN_PCFG0, p, 0⟩ :=
  findReg_off 9 (setOf_pcfg0 p) (inBlock_pcfg0 p) p.isLt rfl (by decide) (by decide)

theorem findReg_dctl : findReg (Reg.CON_DCTL.off d 0) = some ⟨Reg.CON_DCTL, d, 0⟩ :=
  findReg_off 18 (setOf_dctl d) (inBlock_dctl d) d.isLt rfl (by decide) (by decide)

theorem findReg_ccfg3 : findReg (Reg.CON_CCFG3.off k 0) = some ⟨Reg.CON_CCFG3, k, 0⟩ :=
  findReg_off 25 (setOf_ccfg3 k) (inBlock_ccfg3 k) k.isLt rfl (by decide) (by decide)

variable (s : State) (m : Master) (old v data : Word)

theorem writeEffect_wctl : s.writeEffect m ⟨Reg.CHN_WCTL, w, 0⟩ (Reg.CHN_WCTL.off w 0) old v data = s.writeWctl w old v data := by
  unfold State.writeEffect
  simp only [setOf_wctl, not_common (inBlock_wctl w).1, if_false]
  rfl

theorem writeEffect_scfg : s.writeEffect m ⟨Reg.SYN_SCFG, y, 0⟩ (Reg.SYN_SCFG.off y 0) old v data = s.writeFreq y (wbits v 22 0) := by
  unfold State.writeEffect
  simp only [setOf_scfg, not_common (inBlock_scfg y).1, if_false]
  rfl

theorem writeEffect_lsrc : s.writeEffect m ⟨Reg.SYN_LSRC, n, 0⟩ (Reg.SYN_LSRC.off n 0) old v data = s.writeLsrc n v := by
  unfold State.writeEffect
  simp only [setOf_lsrc, not_common (inBlock_lsrc n).1, if_false]
  rfl

theorem writeEffect_laneCtl : s.writeEffect m ⟨Reg.LANE_CTL, n, 0⟩ (Reg.LANE_CTL.off n 0) old v data = s.writeLaneCtl n v := by
  have h1 : ¬ n.val + 3 = 1 := by omega
  have h2 : 3 ≤ n.val + 3 ∧ n.val + 3 < 19 := by omega
  unfold State.writeEffect
  simp only [setOf_laneCtl, not_common (inBlock_laneCtl n), h1, h2, and_self, if_false, if_true]
  rfl

theorem writeEffect_pcfg0 : s.writeEffect m ⟨Reg.CAN_PCFG0, p, 0⟩ (Reg.CAN_PCFG0.off p 0) old v data = s.writePcfg0 p old v := by
  unfold State.writeEffect
  simp only [setOf_pcfg0, not_common (inBlock_pcfg0 p).1, if_false]
  rfl

theorem writeEffect_dctl : s.writeEffect m ⟨Reg.CON_DCTL, d, 0⟩ (Reg.CON_DCTL.off d 0) old v data =
    (s.setReg (Reg.CON_DCTL.off d 0) v).domainEnable d (bit old.toNat 31) (bit v.toNat 31) := by
  unfold State.writeEffect
  simp only [setOf_dctl, not_common (inBlock_dctl d).1, if_false]
  rfl

theorem writeEffect_ccfg3 : s.writeEffect m ⟨Reg.CON_CCFG3, k, 0⟩ (Reg.CON_CCFG3.off k 0) old v data =
    s.setReg (Reg.CON_CCFG3.off k 0) v := by
  unfold State.writeEffect
  simp only [setOf_ccfg3, not_common (inBlock_ccfg3 k).1, if_false]
  rfl

end

section
variable (s : State) (m : Master) (old v data : Word)

theorem writeEffect_conCtl : s.writeEffect m ⟨Reg.CON_CTL, 0, 0⟩ Reg.CON_CTL.base old v data = s.setReg Reg.CON_CTL.base v := rfl

theorem writeEffect_alert : s.writeEffect m ⟨Reg.FLT_ALERT, 0, 0⟩ Reg.FLT_ALERT.base old v data = s.setReg Reg.FLT_ALERT.base v := rfl

theorem writeEffect_tddCtl : s.writeEffect m ⟨Reg.TDD_CTL, 0, 0⟩ Reg.TDD_CTL.base old v data =
    (s.setReg Reg.TDD_CTL.base v).tddControl old v := rfl

theorem writeEffect_rceCtl : s.writeEffect m ⟨Reg.RCE_CTL, 0, 0⟩ Reg.RCE_CTL.base old v data =
    (s.setReg Reg.RCE_CTL.base v).rceControl (bit old.toNat 0) (bit v.toNat 0) := rfl

end

/-! ### They need the level of Chart (Table 14.2) -/

section
variable (m : Master) (w n : Fin 16) (y : Fin 8) (p d : Fin 256) (k : Fin 1536)

theorem writeLevel_wctl : writeLevel m (Reg.CHN_WCTL.off w 0) ≤ 4 := writeLevel_le (by revert w; decide) (by rw [setOf_wctl]; decide)
theorem writeLevel_scfg : writeLevel m (Reg.SYN_SCFG.off y 0) ≤ 4 := writeLevel_le (by revert y; decide) (by rw [setOf_scfg]; decide)
theorem writeLevel_lsrc : writeLevel m (Reg.SYN_LSRC.off n 0) ≤ 4 := writeLevel_le (by revert n; decide) (by rw [setOf_lsrc]; decide)

theorem writeLevel_laneCtl : writeLevel m (Reg.LANE_CTL.off n 0) ≤ 4 :=
  writeLevel_le (by revert n; decide) (by rw [setOf_laneCtl]; revert n; decide)

theorem writeLevel_pcfg0 : writeLevel m (Reg.CAN_PCFG0.off p 0) ≤ 4 :=
  writeLevel_le (by rw [off_pcfg0, show Reg.CON_OSC_CFG.base = 0x20058 from rfl]; omega) (by rw [setOf_pcfg0]; decide)

theorem writeLevel_dctl : writeLevel m (Reg.CON_DCTL.off d 0) ≤ 4 :=
  writeLevel_le (by rw [off_dctl, show Reg.CON_OSC_CFG.base = 0x20058 from rfl]; omega) (by rw [setOf_dctl]; decide)

theorem writeLevel_ccfg3 : writeLevel m (Reg.CON_CCFG3.off k 0) ≤ 4 :=
  writeLevel_le (by rw [off_ccfg3, show Reg.CON_OSC_CFG.base = 0x20058 from rfl]; omega) (by rw [setOf_ccfg3]; decide)

theorem writeLevel_conCtl : writeLevel m Reg.CON_CTL.base ≤ 4 := writeLevel_le (by decide) (by decide)
theorem writeLevel_alert : writeLevel m Reg.FLT_ALERT.base ≤ 4 := Nat.le_of_eq rfl
theorem writeLevel_tddCtl : writeLevel m Reg.TDD_CTL.base ≤ 4 := writeLevel_le (by decide) (by decide)
theorem writeLevel_rceCtl : writeLevel m Reg.RCE_CTL.base ≤ 4 := writeLevel_le (by decide) (by decide)

end

theorem findReg_conCtl : findReg Reg.CON_CTL.base = some ⟨Reg.CON_CTL, 0, 0⟩ := by decide
theorem findReg_alert : findReg Reg.FLT_ALERT.base = some ⟨Reg.FLT_ALERT, 0, 0⟩ := by decide
theorem findReg_tddCtl : findReg Reg.TDD_CTL.base = some ⟨Reg.TDD_CTL, 0, 0⟩ := by decide
theorem findReg_rceCtl : findReg Reg.RCE_CTL.base = some ⟨Reg.RCE_CTL, 0, 0⟩ := by decide

end Sys2Proof.Machine

/-!
SUPPORT. Proofs about the enables: which are stored, which bind or stop their units, and the swap that a write of WCTL asks for.
-/

namespace Sys2Proof.Machine

-- The option has the proofs elaborated one after another, not beside the tests above: the two together exceed the check's memory.
set_option deprecated.oldSectionVars true

/-! ### Enables that are stored -/

@[simp] theorem putBack_get (u s : State) (f : Fld) (i j : Nat) : (u.putBack s).get f i j = u.get f i j := rfl
@[simp] theorem putBack_win (u s : State) : (u.putBack s).win = u.win := rfl
@[simp] theorem putBack_rce (u s : State) : (u.putBack s).rce = u.rce := rfl
@[simp] theorem putBack_tdd (u s : State) : (u.putBack s).tdd = u.tdd := rfl

theorem fits_of {f : Fld} (h : Nat.ble (f.lsb + f.width) 32 = true) : f.fits := Nat.le_of_ble_eq_true h

theorem get_of_reg {s t : State} (f : Fld) {i j : Nat} (h : t.reg (f.reg.off i j) = s.reg (f.reg.off i j)) :
    t.get f i j = s.get f i j := by unfold State.get; rw [h]

theorem getB_of_get {s t : State} {f : Fld} {i j : Nat} (h : t.get f i j = s.get f i j) : t.getB f i j = s.getB f i j := by
  unfold State.getB; rw [h]

section
variable (s : State) (f g : Fld) (i j : Nat) (hr : g.reg = f.reg) (hf : f.fits)
    (hd : f.lsb + f.width ≤ g.lsb ∨ g.lsb + g.width ≤ f.lsb)
include hr hf hd

/-- A flag after a write of another field of its register. -/
theorem getB_set_field (v : Nat) : (s.set f v i j).getB g i j = s.getB g i j := getB_of_get (get_set_field s f g v i j hr hf hd)

theorem getB_setB_field (v : Bool) : (s.setB f v i j).getB g i j = s.getB g i j := getB_set_field s f g i j hr hf hd _

end

/-- A register, outside the fault collector's, as a write of it finds it. -/
theorem old_low (s : State) (m : Master) {off : Nat} (h : off < 0x34048) : (s.countAccess m off 4).reg off = s.reg off :=
  (countAccess_raised s m off 4).low h

theorem domainEnable_reg (s : State) (d : Nat) (old new : Bool) (o : Nat) : (s.domainEnable d old new).reg o = s.reg o := by
  unfold State.domainEnable
  split <;> rfl

theorem refreshRx_reg (s : State) (n : Nat) {o : Nat} (h : o ≠ Reg.SYN_LSTATE.off n 0) : (s.refreshRx n).reg o = s.reg o :=
  reg_set_other s Fd.SYN_LSTATE_RX_STATE _ n 0 h

section
variable {s : State} (hs : s.alive = true) (m : Master) (hl : 4 ≤ s.masterLevel m) (data : Word)
include hs hl

theorem dctlEnWrite_stores (d : Fin 256) :
    ∃ t, exec (.dctlEnWrite m d data) s = .next t ∧ t.getB Fd.CON_DCTL_EN d = bit data.toNat 31 := by
  refine ⟨_, exec_write hs rfl (findReg_dctl d) ((writeLevel_dctl m d).trans hl), ?_⟩
  rw [writeEffect_dctl]
  exact dctl_storesBit.getB (f := Fd.CON_DCTL_EN) rfl ((domainEnable_reg ..).trans (reg_setReg_same ..))

theorem ccfg3EnWrite_stores (k : Fin 1536) :
    ∃ t, exec (.ccfg3EnWrite m k data) s = .next t ∧ t.getB Fd.CON_CCFG3_EN k = bit data.toNat 31 := by
  refine ⟨_, exec_write hs rfl (findReg_ccfg3 k) ((writeLevel_ccfg3 m k).trans hl), ?_⟩
  rw [writeEffect_ccfg3]
  exact ccfg3_storesBit.getB (f := Fd.CON_CCFG3_EN) rfl (reg_setReg_same ..)

theorem conEnWrite_stores : ∃ t, exec (.conEnWrite m data) s = .next t ∧ t.getB Fd.CON_CTL_EN = bit data.toNat 0 := by
  refine ⟨_, exec_write hs rfl findReg_conCtl ((writeLevel_conCtl m).trans hl), ?_⟩
  rw [writeEffect_conCtl]
  exact conCtl_storesBit.getB (f := Fd.CON_CTL_EN) rfl (reg_setReg_same ..)

theorem alertSwWrite_stores : ∃ t, exec (.alertSwWrite m data) s = .next t ∧ t.getB Fd.FLT_ALERT_SW = bit data.toNat 0 := by
  refine ⟨_, exec_write hs rfl findReg_alert ((writeLevel_alert m).trans hl), ?_⟩
  rw [writeEffect_alert]
  exact alert_storesBit.getB (f := Fd.FLT_ALERT_SW) rfl (reg_setReg_same ..)

end

/-! ### TDD.CTL and RCE.CTL (R211, R226) -/

theorem tddControl_reg (s : State) (old new : Word) {o : Nat} (h : o ≠ Reg.TDD_STAT.off 0 0) :
    (s.tddControl old new).reg o = s.reg o := by
  unfold State.tddControl
  simp only []
  split
  · rw [reg_set_other _ Fd.TDD_STAT_ERR _ 0 0 h, reg_set_other _ Fd.TDD_STAT_STATE _ 0 0 h]
    rfl
  · rfl

/-- A change of EN begins anew. -/
theorem tddControl_changed (s : State) {old new : Word} (h : bit old.toNat 0 ≠ bit new.toNat 0) :
    (s.tddControl old new).get Fd.TDD_STAT_STATE = (if bit new.toNat 0 then 1 else 0) ∧ (s.tddControl old new).tdd.last = none := by
  unfold State.tddControl
  simp only [bne_iff_ne.2 h, Bool.true_or, if_true]
  refine ⟨?_, rfl⟩
  rw [get_set_field _ Fd.TDD_STAT_ERR Fd.TDD_STAT_STATE _ 0 0 rfl (fits_of rfl) (by decide),
    get_set_same _ Fd.TDD_STAT_STATE _ 0 0 (fits_of rfl)]
  split <;> rfl

theorem rceReturn_reg (s : State) (ret : Nat) {o : Nat} (h : o ≠ Reg.RCE_STAT.off 0 0) : (s.rceReturn ret).reg o = s.reg o := by
  unfold State.rceReturn State.setB
  rw [reg_set_other _ Fd.RCE_STAT_SURVEY _ 0 0 h, reg_set_other _ Fd.RCE_STAT_JOB _ 0 0 h, reg_set_other _ Fd.RCE_STAT_STATE _ 0 0 h]
  split
  · rfl
  · exact reg_set_other _ Fd.RCE_STAT_AERIAL _ 0 0 h

theorem rceControl_reg (s : State) (old new : Bool) {o : Nat} (h : o ≠ Reg.RCE_STAT.off 0 0) :
    (s.rceControl old new).reg o = s.reg o := by
  unfold State.rceControl
  split
  · exact rceReturn_reg _ _ h
  · rfl

theorem rceControl_off (s : State) : (s.rceControl true false).rce.waiting = [] ∧ (s.rceControl true false).rce.cur = none :=
  ⟨rfl, rfl⟩

section
variable {s : State} (hs : s.alive = true) (m : Master) (hl : 4 ≤ s.masterLevel m) (data : Word)
include hs hl

theorem tddCtlWrite_stores : ∃ t, exec (.tddCtlWrite m data) s = .next t ∧ t.getB Fd.TDD_CTL_EN = bit data.toNat 0 ∧
    (s.getB Fd.TDD_CTL_EN ≠ bit data.toNat 0 → t.get Fd.TDD_STAT_STATE = (if bit data.toNat 0 then 1 else 0) ∧ t.tdd.last = none) := by
  refine ⟨_, exec_write hs rfl findReg_tddCtl ((writeLevel_tddCtl m).trans hl), ?_⟩
  rw [writeEffect_tddCtl, old_low s m (by decide)]
  refine ⟨tddCtl_storesBit.getB (f := Fd.TDD_CTL_EN) rfl ((tddControl_reg _ _ _ (by decide)).trans (reg_setReg_same ..)), fun hc => ?_⟩
  rw [getB_eq_bit _ _ _ _ rfl, ← tddCtl_storesBit.written s m 0 0 Reg.TDD_CTL.base] at hc
  rw [putBack_get, putBack_tdd, ← tddCtl_storesBit.written s m 0 0 Reg.TDD_CTL.base]
  exact tddControl_changed _ hc

theorem rceCtlWrite_stores : ∃ t, exec (.rceCtlWrite m data) s = .next t ∧ t.getB Fd.RCE_CTL_EN = bit data.toNat 0 ∧
    (s.getB Fd.RCE_CTL_EN = true → bit data.toNat 0 = false → t.rce.waiting = [] ∧ t.rce.cur = none) := by
  refine ⟨_, exec_write hs rfl findReg_rceCtl ((writeLevel_rceCtl m).trans hl), ?_⟩
  rw [writeEffect_rceCtl, old_low s m (by decide), rceCtl_storesBit.written]
  refine ⟨rceCtl_storesBit.getB (f := Fd.RCE_CTL_EN) rfl ((rceControl_reg _ _ _ (by decide)).trans (reg_setReg_same ..)),
    fun ho hn => ?_⟩
  rw [getB_eq_bit _ _ _ _ rfl] at ho
  rw [putBack_rce, hn, show bit (s.reg Reg.RCE_CTL.base).toNat 0 = true from ho]
  exact rceControl_off _

end

/-! ### SCFG.FREQ (R205) -/

theorem off_sstat (y : Nat) : Reg.SYN_SSTAT.off y 0 = 0x8084 + 8 * y := rfl
theorem off_lstate (n : Nat) : Reg.SYN_LSTATE.off n 0 = 0x8104 + 8 * n := rfl

/-- The state of a synthesiser whose lock sequence begins. -/
def State.acquiring (s : State) (y : Nat) : State :=
  ((s.set Fd.SYN_SSTAT_STATE 1 y).setB Fd.SYN_SSTAT_LOCK false y).setB Fd.SYN_SSTAT_SETTLED false y

theorem refreshRxAll_reg (s : State) {o : Nat} (h : ∀ n, o ≠ Reg.SYN_LSTATE.off n 0) : s.refreshRxAll.reg o = s.reg o :=
  forEach_keeps (fun u : State => u.reg o) _ _ (fun u n => ⟨refreshRx_reg u n (h n)⟩) s

theorem setSynX_reg (s : State) (y : Nat) (x : SynExt) (o : Nat) : (s.setSynX y x).reg o = s.reg o := rfl

theorem startLock_reg (s : State) (y : Nat) {o : Nat} (ho : o < 0x34048) (h : ∀ n, o ≠ Reg.SYN_LSTATE.off n 0) :
    (s.startLock y).reg o = (s.acquiring y).reg o := by
  have hr : (((s.acquiring y).setSynX y ⟨0, 0, true⟩).refreshRxAll).reg o = (s.acquiring y).reg o :=
    (refreshRxAll_reg _ h).trans (setSynX_reg ..)
  have hc (u : State) : OnlyRaised u (if (List.range 8).any fun q => u.get Fd.SYN_SSTAT_STATE q == 3 then u else u.clearSource 270) :=
    .ite (fun _ => .refl u) fun _ => clearSource_raised u (by decide)
  exact ((hc _).low ho).trans hr

theorem acquiring_reg (s : State) (y : Nat) {o : Nat} (h : o ≠ Reg.SYN_SSTAT.off y 0) : (s.acquiring y).reg o = s.reg o :=
  (reg_set_other _ Fd.SYN_SSTAT_SETTLED _ y 0 h).trans ((reg_set_other _ Fd.SYN_SSTAT_LOCK _ y 0 h).trans
    (reg_set_other _ Fd.SYN_SSTAT_STATE _ y 0 h))

theorem acquiring_state (s : State) (y : Nat) : (s.acquiring y).get Fd.SYN_SSTAT_STATE y = 1 := by
  unfold State.acquiring State.setB
  rw [get_set_field _ Fd.SYN_SSTAT_SETTLED Fd.SYN_SSTAT_STATE _ y 0 rfl (fits_of rfl) (by decide),
    get_set_field _ Fd.SYN_SSTAT_LOCK Fd.SYN_SSTAT_STATE _ y 0 rfl (fits_of rfl) (by decide),
    get_set_same _ Fd.SYN_SSTAT_STATE _ y 0 (fits_of rfl)]
  rfl

theorem acquiring_lock (s : State) (y : Nat) : (s.acquiring y).getB Fd.SYN_SSTAT_LOCK y = false := by
  unfold State.acquiring
  rw [getB_setB_field _ Fd.SYN_SSTAT_SETTLED Fd.SYN_SSTAT_LOCK y 0 rfl (fits_of rfl) (by decide)]
  exact getB_setB_same _ Fd.SYN_SSTAT_LOCK false y 0 (fits_of rfl) (by decide)

theorem startLock_freq (s : State) (y : Fin 8) : (s.startLock y).get Fd.SYN_SCFG_FREQ y = s.get Fd.SYN_SCFG_FREQ y := by
  have ho := off_scfg y
  refine get_of_reg Fd.SYN_SCFG_FREQ ?_
  change (s.startLock y).reg (Reg.SYN_SCFG.off y 0) = s.reg (Reg.SYN_SCFG.off y 0)
  rw [startLock_reg s y (by omega) fun n => by rw [off_lstate]; omega, acquiring_reg s y (by rw [off_sstat]; omega)]

theorem startLock_acquires (s : State) (y : Fin 8) :
    (s.startLock y).get Fd.SYN_SSTAT_STATE y = 1 ∧ (s.startLock y).getB Fd.SYN_SSTAT_LOCK y = false := by
  have hr : (s.startLock y).reg (Reg.SYN_SSTAT.off y 0) = (s.acquiring y).reg (Reg.SYN_SSTAT.off y 0) :=
    startLock_reg s y (by rw [off_sstat]; omega) fun n => by rw [off_sstat, off_lstate]; omega
  exact ⟨(get_of_reg Fd.SYN_SSTAT_STATE hr).trans (acquiring_state ..),
    (getB_of_get (get_of_reg Fd.SYN_SSTAT_LOCK hr)).trans (acquiring_lock ..)⟩

section
variable (s : State) (y : Fin 8) {f : Nat}

theorem writeFreq_refused (h : f < 380000 ∨ 7200000 < f) :
    (s.writeFreq y f).get Fd.SYN_SCFG_FREQ y = s.get Fd.SYN_SCFG_FREQ y ∧ (s.writeFreq y f).getB Fd.SYN_GSTAT_FREQ_ERR = true := by
  rw [State.writeFreq, if_pos h]
  have ho : Reg.SYN_SCFG.off y 0 ≠ Reg.SYN_GSTAT.off 0 0 := by revert y; decide
  exact ⟨get_set_other s Fd.SYN_GSTAT_FREQ_ERR Fd.SYN_SCFG_FREQ _ 0 0 y 0 ho,
    getB_setB_same s Fd.SYN_GSTAT_FREQ_ERR true 0 0 (fits_of rfl) (by decide)⟩

theorem writeFreq_stores (h1 : 380000 ≤ f) (h2 : f ≤ 7200000) : (s.writeFreq y f).get Fd.SYN_SCFG_FREQ y = f := by
  unfold State.writeFreq
  rw [if_neg (by omega)]
  split_ifs with hf
  · rw [startLock_freq, get_set_same s Fd.SYN_SCFG_FREQ f y 0 (fits_of rfl)]
    exact Nat.mod_eq_of_lt (lt_of_le_of_lt h2 (by decide))
  · rw [startLock_freq, Classical.not_not.1 hf]
  · exact (Classical.not_not.1 hf).symm

theorem writeFreq_locks (h1 : 380000 ≤ f) (h2 : f ≤ 7200000) (hf : f ≠ s.get Fd.SYN_SCFG_FREQ y) :
    (s.writeFreq y f).get Fd.SYN_SSTAT_STATE y = 1 ∧ (s.writeFreq y f).getB Fd.SYN_SSTAT_LOCK y = false := by
  unfold State.writeFreq
  rw [if_neg (by omega), if_pos hf]
  exact startLock_acquires ..

end

/-- The frequency that a write of SCFG holds. -/
theorem scfg_written (s : State) (m : Master) (y : Fin 8) (data : Word) :
    wbits (s.written m ⟨Reg.SYN_SCFG, y, 0⟩ (Reg.SYN_SCFG.off y 0) data) 22 0 = wbits data 22 0 := by
  have hm : ∀ k < 23, (Reg.SYN_SCFG.accMask .rw).testBit k = true := by decide
  change getBits (mergeWord ⟨Reg.SYN_SCFG, y, 0⟩ _ data _) 0 23 = getBits data 0 23
  apply Nat.eq_of_testBit_eq
  intro k
  rw [getBits_testBit, getBits_testBit]
  by_cases hk : k < 23
  · rw [testBit_mergeWord _ _ _ _ (by omega), Nat.testBit_or, Nat.add_zero, hm k hk, Bool.true_or, if_pos rfl]
  · simp [hk]

/-! ### LSRC and the lane enables (R204, R207, R208) -/

theorem writeLaneCtl_reg (s : State) (n : Fin 16) (v : Word) : (s.writeLaneCtl n v).reg (Reg.LANE_CTL.off n 0) = v := by
  have ho : Reg.LANE_CTL.off n 0 ≠ Reg.SYN_LSTATE.off n 0 := by rw [off_laneCtl, off_lstate]; omega
  unfold State.writeLaneCtl
  rw [refreshRx_reg _ n ho]
  split
  · exact reg_setReg_same ..
  · exact (reg_set_other _ Fd.SYN_LSTATE_TX_REQ _ n 0 ho).trans (reg_setReg_same ..)

theorem writeLaneCtl_dropsReq (s : State) (n : Fin 16) {v : Word} (h : bit v.toNat 1 = false) :
    (s.writeLaneCtl n v).getB Fd.SYN_LSTATE_TX_REQ n = false := by
  have ht : (s.setReg (Reg.LANE_CTL.off n 0) v).getB Fd.LANE_CTL_TX_EN n = false := by
    rw [getB_eq_bit _ _ _ _ rfl]
    exact (congrArg (fun v : Word => bit v.toNat 1) (reg_setReg_same s (Reg.LANE_CTL.off n 0) v)).trans h
  unfold State.writeLaneCtl
  simp only [ht, Bool.false_eq_true, if_false]
  rw [State.refreshRx, getB_set_field _ Fd.SYN_LSTATE_RX_STATE Fd.SYN_LSTATE_TX_REQ n 0 rfl (fits_of rfl) (by decide)]
  exact getB_setB_same _ Fd.SYN_LSTATE_TX_REQ false n 0 (fits_of rfl) (by decide)

theorem writeLsrc_refused (s : State) (n : Fin 16) {v : Word} (h : s.fifthLane n v.toNat = true) :
    (s.writeLsrc n v).reg (Reg.SYN_LSRC.off n 0) = s.reg (Reg.SYN_LSRC.off n 0) ∧ (s.writeLsrc n v).getB Fd.SYN_GSTAT_MAP_ERR = true := by
  rw [State.writeLsrc, if_pos h]
  have ho : Reg.SYN_LSRC.off n 0 ≠ Reg.SYN_GSTAT.off 0 0 := by clear h; revert n; decide
  exact ⟨reg_set_other s Fd.SYN_GSTAT_MAP_ERR _ 0 0 ho,
    getB_setB_same s Fd.SYN_GSTAT_MAP_ERR true 0 0 (fits_of rfl) (by decide)⟩

theorem writeLsrc_stores (s : State) (n : Fin 16) {v : Word} (h : s.fifthLane n v.toNat = false) :
    (s.writeLsrc n v).reg (Reg.SYN_LSRC.off n 0) = v := by
  rw [State.writeLsrc, if_neg (by rw [h]; decide), refreshRx_reg _ n (by rw [off_lsrc, off_lstate]; omega)]
  exact reg_setReg_same ..

/-- The sources of the lanes alone decide whether a synthesiser gets a fifth lane. -/
theorem fifthLane_congr {s t : State} (h : ∀ k < 16, t.reg (Reg.SYN_LSRC.off k 0) = s.reg (Reg.SYN_LSRC.off k 0)) (n img : Nat) :
    t.fifthLane n img = s.fifthLane n img := by
  have hl (y : Nat) : t.lanesNaming n img y = s.lanesNaming n img y := by
    unfold State.lanesNaming
    refine List.foldl_ext _ _ _ fun a k hk => ?_
    simp only [h k (List.mem_range.1 hk)]
  unfold State.fifthLane
  simp only [hl]

/-- The word that a write of the LSRC of a disabled lane leaves. -/
theorem lsrc_written {s : State} {n : Fin 16} (m : Master) (data : Word) (hr : s.getB Fd.LANE_CTL_RX_EN n = false)
    (ht : s.getB Fd.LANE_CTL_TX_EN n = false) (hv : (s.reg (Reg.SYN_LSRC.off n 0)).toNat < 256) :
    s.written m ⟨Reg.SYN_LSRC, n, 0⟩ (Reg.SYN_LSRC.off n 0) data = wd (wbits data 7 0) := by
  have hlow (o : Nat) (ho : o < 0x34048) : (s.countAccess m (Reg.SYN_LSRC.off n 0) 4).reg o = s.reg o :=
    (countAccess_raised ..).low ho
  have hoff := off_laneCtl n
  have hr : (s.countAccess m (Reg.SYN_LSRC.off n 0) 4).getB Fd.LANE_CTL_RX_EN n = false :=
    (getB_of_get (get_of_reg Fd.LANE_CTL_RX_EN (hlow (Reg.LANE_CTL.off n 0) (by omega)))).trans hr
  have ht : (s.countAccess m (Reg.SYN_LSRC.off n 0) 4).getB Fd.LANE_CTL_TX_EN n = false :=
    (getB_of_get (get_of_reg Fd.LANE_CTL_TX_EN (hlow (Reg.LANE_CTL.off n 0) (by omega)))).trans ht
  have hon : (s.countAccess m (Reg.SYN_LSRC.off n 0) 4).rweEnabled ⟨Reg.SYN_LSRC, n, 0⟩ (Reg.SYN_LSRC.off n 0) = false := by
    unfold State.rweEnabled
    rw [setOf_lsrc, if_pos (by decide), hr, ht]
    rfl
  have hm : ∀ k < 32, (Reg.SYN_LSRC.accMask .rw ||| Reg.SYN_LSRC.accMask .rwe).testBit k = decide (k < 8) := by decide
  unfold State.written State.stored
  rw [hon, hlow _ (by rw [off_lsrc]; omega)]
  refine BitVec.eq_of_getLsbD_eq fun k hk => ?_
  change (mergeWord ⟨Reg.SYN_LSRC, n, 0⟩ _ data false).toNat.testBit k = (wd (getBits data 0 8)).toNat.testBit k
  rw [testBit_mergeWord _ _ _ _ hk, testBit_wd _ hk, getBits_testBit, if_neg (by decide : ¬ false = true), hm k hk, Nat.add_zero]
  by_cases h8 : k < 8
  · simp [h8]
  · have hz : (s.reg (Reg.SYN_LSRC.off n 0)).toNat.testBit k = false :=
      Nat.testBit_lt_two_pow (lt_of_lt_of_le hv (Nat.pow_le_pow_right Nat.two_pos (Nat.not_lt.1 h8)))
    simp [h8, hz]

section
variable {s : State} (hs : s.alive = true) (m : Master) (hl : 4 ≤ s.masterLevel m) (data : Word)
include hs hl

theorem scfgFreqWrite_stores (y : Fin 8) : ∃ t, exec (.scfgFreqWrite m y data) s = .next t ∧
    (380000 ≤ wbits data 22 0 → wbits data 22 0 ≤ 7200000 → t.get Fd.SYN_SCFG_FREQ y = wbits data 22 0 ∧
      (wbits data 22 0 ≠ s.get Fd.SYN_SCFG_FREQ y → t.get Fd.SYN_SSTAT_STATE y = 1 ∧ t.getB Fd.SYN_SSTAT_LOCK y = false)) ∧
    (wbits data 22 0 < 380000 ∨ 7200000 < wbits data 22 0 →
      t.get Fd.SYN_SCFG_FREQ y = s.get Fd.SYN_SCFG_FREQ y ∧ t.getB Fd.SYN_GSTAT_FREQ_ERR = true) := by
  have hb := ready_sameBut s m (setOf_scfg y) (by decide) ⟨Reg.SYN_SCFG, y, 0⟩ data
  have hf : (s.ready m ⟨Reg.SYN_SCFG, y, 0⟩ (Reg.SYN_SCFG.off y 0) data).get Fd.SYN_SCFG_FREQ y = s.get Fd.SYN_SCFG_FREQ y :=
    get_of_reg Fd.SYN_SCFG_FREQ (hb.regs (Reg.SYN_SCFG.off y 0) (by rw [off_scfg]; omega) (.inr (inBlock_scfg y).1))
  refine ⟨_, exec_write hs rfl (findReg_scfg y) ((writeLevel_scfg m y).trans hl), ?_⟩
  rw [writeEffect_scfg, scfg_written, ← hf]
  exact ⟨fun h1 h2 => ⟨writeFreq_stores _ y h1 h2, writeFreq_locks _ y h1 h2⟩, writeFreq_refused _ y⟩

theorem lsrcWrite_stores (n : Fin 16) (hr : s.getB Fd.LANE_CTL_RX_EN n = false) (ht : s.getB Fd.LANE_CTL_TX_EN n = false)
    (hv : (s.reg (Reg.SYN_LSRC.off n 0)).toNat < 256) : ∃ t, exec (.lsrcWrite m n data) s = .next t ∧
    (s.fifthLane n (wd (wbits data 7 0)).toNat = false → t.reg (Reg.SYN_LSRC.off n 0) = wd (wbits data 7 0)) ∧
    (s.fifthLane n (wd (wbits data 7 0)).toNat = true →
      t.reg (Reg.SYN_LSRC.off n 0) = s.reg (Reg.SYN_LSRC.off n 0) ∧ t.getB Fd.SYN_GSTAT_MAP_ERR = true) := by
  have hb := ready_sameBut s m (setOf_lsrc n) (by decide) ⟨Reg.SYN_LSRC, n, 0⟩ data
  have hk : ∀ k < 16, (s.ready m ⟨Reg.SYN_LSRC, n, 0⟩ (Reg.SYN_LSRC.off n 0) data).reg (Reg.SYN_LSRC.off k 0) =
      s.reg (Reg.SYN_LSRC.off k 0) := fun k hk =>
    have ho := off_lsrc ⟨k, hk⟩
    hb.regs _ (by simp only at ho; omega) (.inr (inBlock_lsrc ⟨k, hk⟩).1)
  refine ⟨_, exec_write hs rfl (findReg_lsrc n) ((writeLevel_lsrc m n).trans hl), ?_⟩
  rw [writeEffect_lsrc, lsrc_written m data hr ht hv, ← fifthLane_congr hk, ← hk n n.isLt]
  exact ⟨writeLsrc_stores _ n, writeLsrc_refused _ n⟩

theorem txEnWrite_stores (n : Fin 16) : ∃ t, exec (.txEnWrite m n data) s = .next t ∧ t.getB Fd.LANE_CTL_TX_EN n = bit data.toNat 1 ∧
    (bit data.toNat 1 = false → t.getB Fd.SYN_LSTATE_TX_REQ n = false) := by
  refine ⟨_, exec_write hs rfl (findReg_laneCtl n) ((writeLevel_laneCtl m n).trans hl), ?_⟩
  rw [writeEffect_laneCtl]
  refine ⟨txEn_storesBit.getB (f := Fd.LANE_CTL_TX_EN) rfl (writeLaneCtl_reg ..), fun h => ?_⟩
  rw [← txEn_storesBit.written s m n 0 (Reg.LANE_CTL.off n 0)] at h
  exact writeLaneCtl_dropsReq _ n h

theorem rxEnWrite_stores (n : Fin 16) :
    ∃ t, exec (.rxEnWrite m n data) s = .next t ∧ t.getB Fd.LANE_CTL_RX_EN n = bit data.toNat 0 := by
  refine ⟨_, exec_write hs rfl (findReg_laneCtl n) ((writeLevel_laneCtl m n).trans hl), ?_⟩
  rw [writeEffect_laneCtl]
  exact rxEn_storesBit.getB (f := Fd.LANE_CTL_RX_EN) rfl (writeLaneCtl_reg ..)

end

/-! ### PCFG0.EN (R88) -/

theorem mem_addOnce (l : List Nat) (a : Nat) : a ∈ if l.contains a then l else l ++ [a] := by
  split
  · next h => exact List.contains_iff_mem.1 h
  · exact List.mem_append_right _ (List.mem_singleton.2 rfl)

/-- The state with a path that waits for its binding. -/
def State.awaitPath (s : State) (p : Nat) : State :=
  { s with can := { s.can with binding := if s.can.binding.contains p then s.can.binding else s.can.binding ++ [p] } }

/-- The state with a path that waits for its unbinding. -/
def State.awaitUnbinding (s : State) (p : Nat) : State :=
  { s with can := { s.can with
      binding := s.can.binding.filter fun q => q != p
      unbinding := if s.can.unbinding.contains p then s.can.unbinding else s.can.unbinding ++ [p] } }

theorem awaitPath_binding (s : State) (p : Nat) : p ∈ (s.awaitPath p).can.binding := mem_addOnce s.can.binding p

theorem awaitUnbinding_unbinds (s : State) (p : Nat) :
    p ∈ (s.awaitUnbinding p).can.unbinding ∧ p ∉ (s.awaitUnbinding p).can.binding :=
  ⟨mem_addOnce s.can.unbinding p, fun h => bne_iff_ne.1 (List.mem_filter.1 h).2 rfl⟩

theorem awaitPath_reg (s : State) (p o : Nat) : (s.awaitPath p).reg o = s.reg o := rfl

theorem awaitUnbinding_reg (s : State) (p o : Nat) : (s.awaitUnbinding p).reg o = s.reg o := rfl

theorem disablePath_eq (s : State) (p : Fin 256) : s.disablePath p = (s.setB Fd.CAN_PCFG0_EN false p).awaitUnbinding p := by
  unfold State.disablePath
  rw [if_pos p.isLt]
  rfl

theorem disablePath_en (s : State) (p : Fin 256) : (s.disablePath p).getB Fd.CAN_PCFG0_EN p = false := by
  rw [disablePath_eq, getB_of_get (get_of_reg Fd.CAN_PCFG0_EN (awaitUnbinding_reg ..))]
  exact getB_setB_same s Fd.CAN_PCFG0_EN false p 0 (fits_of rfl) (by decide)

theorem writePcfg0_eq (s : State) (p : Nat) (old new : Word) : s.writePcfg0 p old new =
    if bit new.toNat 31 && !bit old.toNat 31 then (s.setReg (Reg.CAN_PCFG0.off p 0) new).awaitPath p
    else if bit old.toNat 31 && !bit new.toNat 31 then (s.setReg (Reg.CAN_PCFG0.off p 0) new).disablePath p
    else s.setReg (Reg.CAN_PCFG0.off p 0) new := rfl

section
variable (s : State) (p : Fin 256) {old new : Word}

theorem writePcfg0_stores : (s.writePcfg0 p old new).getB Fd.CAN_PCFG0_EN p = bit new.toNat 31 := by
  have h : (s.setReg (Reg.CAN_PCFG0.off p 0) new).getB Fd.CAN_PCFG0_EN p = bit new.toNat 31 := by
    rw [getB_eq_bit _ _ _ _ rfl]
    exact congrArg (fun v : Word => bit v.toNat 31) (reg_setReg_same s (Reg.CAN_PCFG0.off p 0) new)
  rw [writePcfg0_eq]
  split_ifs with hon hoff
  · exact (getB_of_get (get_of_reg Fd.CAN_PCFG0_EN (awaitPath_reg ..))).trans h
  · rw [disablePath_en]
    simp only [Bool.and_eq_true, Bool.not_eq_true'] at hoff
    exact hoff.2.symm
  · exact h

theorem writePcfg0_enables (ho : bit old.toNat 31 = false) (hn : bit new.toNat 31 = true) :
    p.val ∈ (s.writePcfg0 p old new).can.binding := by
  rw [writePcfg0_eq, ho, hn]
  exact awaitPath_binding ..

theorem writePcfg0_disables (ho : bit old.toNat 31 = true) (hn : bit new.toNat 31 = false) :
    p.val ∈ (s.writePcfg0 p old new).can.unbinding ∧ p.val ∉ (s.writePcfg0 p old new).can.binding := by
  rw [writePcfg0_eq, ho, hn]
  exact disablePath_eq _ p ▸ awaitUnbinding_unbinds ..

end

theorem pcfg0EnWrite_binds {s : State} (hs : s.alive = true) (m : Master) (hl : 4 ≤ s.masterLevel m) (data : Word) (p : Fin 256) :
    ∃ t, exec (.pcfg0EnWrite m p data) s = .next t ∧ t.getB Fd.CAN_PCFG0_EN p = bit data.toNat 31 ∧
      (s.getB Fd.CAN_PCFG0_EN p = false → bit data.toNat 31 = true → p.val ∈ t.can.binding) ∧
      (s.getB Fd.CAN_PCFG0_EN p = true → bit data.toNat 31 = false → p.val ∈ t.can.unbinding ∧ p.val ∉ t.can.binding) := by
  refine ⟨_, exec_write hs rfl (findReg_pcfg0 p) ((writeLevel_pcfg0 m p).trans hl), ?_⟩
  rw [writeEffect_pcfg0, old_low s m (by rw [off_pcfg0]; omega), getB_eq_bit s Fd.CAN_PCFG0_EN _ _ rfl,
    ← pcfg0_storesBit.written s m p 0 (Reg.CAN_PCFG0.off p 0)]
  exact ⟨writePcfg0_stores .., writePcfg0_enables _ p, writePcfg0_disables _ p⟩

/-! ### Swaps at their boundary (R73): what they leave alone -/

theorem off_wstat (w : Nat) : Reg.CHN_WSTAT.off w 0 = 0xA120 + 64 * w := rfl
theorem off_wtag (w b : Nat) : Reg.POS_WTAG.off w b = 0x28108 + 16 * w + 4 * b := rfl
theorem off_gapp (d : Nat) : Reg.CON_GAPP.off d 0 = 0x2100C + 16 * d := rfl

/-- A register below POS, and the masks of the windows that have bound and that wait for it. -/
def State.bindView (o : Nat) (s : State) : Word × Nat × Nat := (s.reg o, s.win.bound, s.win.binding)

section
variable {s t : State} {o : Nat} (h : t.bindView o = s.bindView o)
include h

theorem reg_of_bindView : t.reg o = s.reg o := congrArg (·.1) h
theorem bound_of_bindView : t.win.bound = s.win.bound := congrArg (·.2.1) h
theorem binding_of_bindView : t.win.binding = s.win.binding := congrArg (·.2.2) h

end

theorem OnlyRaised.bindView {s t : State} (h : OnlyRaised s t) {o : Nat} (ho : o < 0x34048) : t.bindView o = s.bindView o := by
  unfold State.bindView; rw [h.low ho, h.win]

theorem OnlyAnswered.bindView {m : Nat} {s t : State} (h : OnlyAnswered m s t) {o : Nat} (ho : o < 0x34048) :
    t.bindView o = s.bindView o := by
  unfold State.bindView; rw [h.low ho, h.win]

/-- A BANK_APPLY of which a swap has ended. -/
theorem finishApplies_bindView (s : State) {o : Nat} (ho : o < 0x34048) : s.finishApplies.bindView o = s.bindView o := by
  have hw (u : State) (l : List BankWait) : State.bindView o { u with win := { u.win with applies := l } } = u.bindView o := rfl
  have ht (u : State) (l : List (Nat × Word)) : State.bindView o { u with win := { u.win with applTab := l } } = u.bindView o := rfl
  unfold State.finishApplies
  refine (forEach_keeps (State.bindView o) _ _ (fun u a => ⟨?_⟩) _).trans (hw s [])
  simp only []
  split
  · exact (complete_answered ..).bindView ho
  · split
    · exact ((complete_answered ..).bindView ho).trans (ht ..)
    · exact hw ..

theorem set_bindView (s : State) (f : Fld) (v i j : Nat) {o : Nat} (h : o ≠ f.reg.off i j) :
    (s.set f v i j).bindView o = s.bindView o := by
  unfold State.bindView; rw [reg_set_other s f v i j h, State.set_win]

theorem setB_bindView (s : State) (f : Fld) (v : Bool) (i j : Nat) {o : Nat} (h : o ≠ f.reg.off i j) :
    (s.setB f v i j).bindView o = s.bindView o := set_bindView s f _ i j h

section
variable (s : State) {o : Nat} (ho : o < 0x28108) (hw : ∀ v, o ≠ Reg.CHN_WSTAT.off v 0)
include hw

theorem takeBank_bindView (w : Nat) : (s.takeBank w).bindView o = s.bindView o :=
  (setB_bindView _ Fd.CHN_WSTAT_SWAP_PEND false w 0 (hw w)).trans (set_bindView s Fd.CHN_WSTAT_ACT_BANK _ w 0 (hw w))

include ho

theorem refuseBank_bindView (w cause : Nat) : (s.refuseBank w cause).bindView o = s.bindView o := by
  have hr (u : State) (r : Nat) : State.bindView o { u with win := { u.win with refused := r } } = u.bindView o := rfl
  have ht : ∀ b, o ≠ Reg.POS_WTAG.off w b := fun b => by rw [off_wtag]; omega
  unfold State.refuseBank
  rw [set_bindView _ Fd.CHN_WSTAT_ERR _ w 0 (hw w), setB_bindView _ Fd.CHN_WSTAT_SWAP_REF _ w 0 (hw w),
    setB_bindView _ Fd.CHN_WSTAT_SWAP_PEND _ w 0 (hw w), setB_bindView _ Fd.POS_WTAG_VALID _ w _ (ht _), hr]

theorem runSwap_bindView (q : SwapWait) : (s.runSwap q).bindView o = s.bindView o := by
  have hp (u : State) (d : Nat) : (u.pulseOn 240 0 d).bindView o = u.bindView o :=
    (pulseOn_raised u 0 d (by decide)).bindView (by omega)
  unfold State.runSwap
  simp only []
  split
  · split
    · exact takeBank_bindView s hw _
    · exact (hp ..).trans (refuseBank_bindView s ho hw ..)
  · split
    · exact (takeBank_bindView _ hw _).trans (takeBank_bindView s hw _)
    · exact (hp ..).trans ((refuseBank_bindView _ ho hw ..).trans (refuseBank_bindView s ho hw ..))

theorem runDue_bindView (due : SwapWait → Bool) : (s.runDue due).bindView o = s.bindView o := by
  have hq (u : State) (l : List SwapWait) : State.bindView o { u with win := { u.win with swaps := l } } = u.bindView o := rfl
  unfold State.runDue
  simp only []
  split
  · rfl
  · exact (finishApplies_bindView _ (by omega)).trans
      ((forEach_keeps (State.bindView o) _ _ (fun u q => ⟨runSwap_bindView u ho hw q⟩) _).trans (hq ..))

omit ho in
theorem requestSwap_bindView (w : Nat) : (s.requestSwap w).bindView o = s.bindView o := by
  have hq (u : State) (r : Nat) (l : List SwapWait) :
      State.bindView o { u with win := { u.win with refused := r, swaps := l } } = u.bindView o := rfl
  unfold State.requestSwap
  simp only []
  split
  · rfl
  · refine (hq ..).trans ?_
    split
    · exact (setB_bindView _ Fd.CHN_WSTAT_SWAP_PEND true _ 0 (hw _)).trans (setB_bindView s Fd.CHN_WSTAT_SWAP_PEND true w 0 (hw w))
    · exact setB_bindView s Fd.CHN_WSTAT_SWAP_PEND true w 0 (hw w)

end

/-! ### A window that begins to run or stops (R64) -/

/-- A register below GAPP, the windows and the integrity checks. -/
def State.runView (o : Nat) (s : State) : Word × Windows × Integrity := (s.reg o, s.win, s.integ)

section
variable {s t : State} {o : Nat} (h : t.runView o = s.runView o)
include h

theorem reg_of_runView : t.reg o = s.reg o := congrArg (·.1) h
theorem win_of_runView : t.win = s.win := congrArg (·.2.1) h
theorem integ_of_runView : t.integ = s.integ := congrArg (·.2.2) h

end

theorem set_runView (s : State) (f : Fld) (v i j : Nat) {o : Nat} (h : o ≠ f.reg.off i j) : (s.set f v i j).runView o = s.runView o := by
  unfold State.runView; rw [reg_set_other s f v i j h, State.set_win, State.set_integ]

theorem setB_runView (s : State) (f : Fld) (v : Bool) (i j : Nat) {o : Nat} (h : o ≠ f.reg.off i j) :
    (s.setB f v i j).runView o = s.runView o := set_runView s f _ i j h

theorem awaitInit_runView (s : State) (d : Nat) {o : Nat} (h : o < 0x2100C) : (s.awaitInit d).runView o = s.runView o := by
  have hd (u : State) (x : DomX) : (u.setDomX d x).runView o = u.runView o := rfl
  have ho : o ≠ Fd.CON_GAPP_CLOSED.reg.off d 0 := by rw [show Fd.CON_GAPP_CLOSED.reg = Reg.CON_GAPP from rfl, off_gapp]; omega
  exact (setB_runView _ Fd.CON_GAPP_CLOSED true d 0 ho).trans (hd ..)

/-- What follows a window's RUNNING flag: the paths that lose their reference, and the domains that begin anew. -/
def State.noteRunning (s : State) (w : Nat) (was now : Bool) : State :=
  let s := if now != was then { s with can := { s.can with broke := s.can.broke ||| 2 ^ w } } else s
  if now && !was then forEach (s.routeDomains w) s State.awaitInit else s

theorem noteRunning_runView (s : State) (w : Nat) (was now : Bool) {o : Nat} (h : o < 0x2100C) :
    (s.noteRunning w was now).runView o = s.runView o := by
  have hc (u : State) (c : Canceller) : State.runView o { u with can := c } = u.runView o := rfl
  have hb : (if now != was then { s with can := { s.can with broke := s.can.broke ||| 2 ^ w } } else s).runView o = s.runView o := by
    split
    · exact hc ..
    · rfl
  unfold State.noteRunning
  simp only []
  split
  · exact (forEach_keeps (State.runView o) _ _ (fun u d => ⟨awaitInit_runView u d h⟩) _).trans hb
  · exact hb

/-- The window is to run. -/
def State.runsNow (s : State) (w : Nat) : Bool :=
  bit s.win.bound w && s.getB Fd.CHN_WCTL_EN w && !s.getB Fd.CHN_WCTL_DATUM_DIS w

theorem refreshRunning_eq (s : State) (w : Nat) : s.refreshRunning w =
    (s.setB Fd.CHN_WSTAT_RUNNING (s.runsNow w) w).noteRunning w (s.getB Fd.CHN_WSTAT_RUNNING w) (s.runsNow w) := rfl

theorem refreshRunning_runView (s : State) (w : Nat) {o : Nat} (h : o < 0x2100C) (hw : o ≠ Reg.CHN_WSTAT.off w 0) :
    (s.refreshRunning w).runView o = s.runView o := by
  rw [refreshRunning_eq, noteRunning_runView _ _ _ _ h, setB_runView _ Fd.CHN_WSTAT_RUNNING _ w 0 hw]

/-- The other fields of WSTAT. -/
theorem refreshRunning_get (s : State) (w : Fin 16) (g : Fld) (hg : g.reg = Reg.CHN_WSTAT) (hl : 1 ≤ g.lsb) :
    (s.refreshRunning w).get g w = s.get g w := by
  have ho : Reg.CHN_WSTAT.off w 0 < 0x2100C := by rw [off_wstat]; omega
  have hr := reg_of_runView (noteRunning_runView (s.setB Fd.CHN_WSTAT_RUNNING (s.runsNow w) w) w (s.getB Fd.CHN_WSTAT_RUNNING w)
    (s.runsNow w) ho)
  rw [refreshRunning_eq, get_of_reg g (hg ▸ hr)]
  exact get_set_field s Fd.CHN_WSTAT_RUNNING g _ w 0 hg (fits_of rfl) (.inl hl)

/-! ### WCTL.EN (R64) -/

/-- The state with a window that waits for its binding. -/
def State.awaitBinding (s : State) (w : Nat) : State := { s with win := { s.win with binding := s.win.binding ||| 2 ^ w } }

/-- The state without a window among those that have bound and that wait for it. -/
def State.dropBinding (s : State) (w : Nat) : State :=
  { s with win := { s.win with bound := maskClear s.win.bound (2 ^ w), binding := maskClear s.win.binding (2 ^ w) } }

/-- The state with a word in WCTL, and the delay it gives. -/
def State.putWctl (s : State) (w : Nat) (new : Word) : State := (s.setReg (Reg.CHN_WCTL.off w 0) new).reportDelay w

/-- What a write of WCTL does before its SWAP. -/
def State.storeWctl (s : State) (w : Nat) (old new : Word) : State :=
  if bit new.toNat 0 && !bit old.toNat 0 then (s.putWctl w new).awaitBinding w
  else if bit old.toNat 0 && !bit new.toNat 0 then (s.putWctl w new).unbindWindow w else s.putWctl w new

theorem writeWctl_eq (s : State) (w : Nat) (old new data : Word) : s.writeWctl w old new data =
    if bit data.toNat 31 then ((s.storeWctl w old new).requestSwap w).subbandSwaps else s.storeWctl w old new := rfl

theorem awaitBinding_binding (s : State) (w : Nat) : bit (s.awaitBinding w).win.binding w = true := by
  change (s.win.binding ||| 2 ^ w).testBit w = true
  rw [Nat.testBit_or, Nat.testBit_two_pow_self, Bool.or_true]

theorem awaitBinding_reg (s : State) (w o : Nat) : (s.awaitBinding w).reg o = s.reg o := rfl

theorem bit_maskClear_self (n w : Nat) : bit (maskClear n (2 ^ w)) w = false := by
  rw [bit, testBit_maskClear, Nat.testBit_two_pow_self, Bool.not_true, Bool.and_false]

theorem dropBinding_drops (s : State) (w : Nat) : bit (s.dropBinding w).win.bound w = false ∧ bit (s.dropBinding w).win.binding w = false :=
  ⟨bit_maskClear_self s.win.bound w, bit_maskClear_self s.win.binding w⟩

theorem unbindWindow_eq (s : State) (w : Nat) :
    s.unbindWindow w = ((s.dropBinding w).setB Fd.CHN_WCTL_EN false w).refreshRunning w := rfl

section
variable (s : State) (w : Fin 16)

theorem wctl_ne_wstat (v : Nat) : Reg.CHN_WCTL.off w 0 ≠ Reg.CHN_WSTAT.off v 0 := by rw [off_wctl, off_wstat]; omega

theorem unbindWindow_runView :
    (s.unbindWindow w).runView (Reg.CHN_WCTL.off w 0) = ((s.dropBinding w).setB Fd.CHN_WCTL_EN false w).runView (Reg.CHN_WCTL.off w 0) :=
  refreshRunning_runView _ w (by rw [off_wctl]; omega) (wctl_ne_wstat w w)

theorem unbindWindow_en : (s.unbindWindow w).getB Fd.CHN_WCTL_EN w = false := by
  rw [getB_of_get (get_of_reg Fd.CHN_WCTL_EN (reg_of_runView (unbindWindow_runView s w)))]
  exact getB_setB_same _ Fd.CHN_WCTL_EN false w 0 (fits_of rfl) (by decide)

theorem unbindWindow_win : (s.unbindWindow w).win = (s.dropBinding w).win :=
  (win_of_runView (unbindWindow_runView s w)).trans (State.setB_win ..)

variable {old new : Word}

theorem putWctl_reg : (s.putWctl w new).reg (Reg.CHN_WCTL.off w 0) = new :=
  (reg_set_other _ Fd.CHN_WSTAT_DELAY _ w 0 (wctl_ne_wstat w w)).trans (reg_setReg_same s (Reg.CHN_WCTL.off w 0) new)

theorem storeWctl_en : (s.storeWctl w old new).getB Fd.CHN_WCTL_EN w = bit new.toNat 0 := by
  have h : (s.putWctl w new).getB Fd.CHN_WCTL_EN w = bit new.toNat 0 :=
    (getB_eq_bit _ Fd.CHN_WCTL_EN w 0 rfl).trans (congrArg (fun v : Word => bit v.toNat 0) (putWctl_reg s w))
  unfold State.storeWctl
  split_ifs with hon hoff
  · rw [getB_of_get (get_of_reg Fd.CHN_WCTL_EN (awaitBinding_reg ..)), h]
  · rw [unbindWindow_en]
    simp only [Bool.and_eq_true, Bool.not_eq_true'] at hoff
    exact hoff.2.symm
  · exact h

theorem storeWctl_enables (ho : bit old.toNat 0 = false) (hn : bit new.toNat 0 = true) :
    bit (s.storeWctl w old new).win.binding w = true := by
  rw [State.storeWctl, ho, hn, if_pos (by decide)]
  exact awaitBinding_binding ..

theorem storeWctl_disables (ho : bit old.toNat 0 = true) (hn : bit new.toNat 0 = false) :
    bit (s.storeWctl w old new).win.bound w = false ∧ bit (s.storeWctl w old new).win.binding w = false := by
  rw [State.storeWctl, ho, hn, if_neg (by decide), if_pos (by decide), unbindWindow_win]
  exact dropBinding_drops ..

/-- A swap that the same write asks for, or brings about, leaves the bindings alone. -/
theorem writeWctl_bindView (data : Word) : (s.writeWctl w old new data).bindView (Reg.CHN_WCTL.off w 0) =
    (s.storeWctl w old new).bindView (Reg.CHN_WCTL.off w 0) := by
  rw [writeWctl_eq]
  split
  · exact (runDue_bindView _ (by rw [off_wctl]; omega) (wctl_ne_wstat w) _).trans (requestSwap_bindView _ (wctl_ne_wstat w) w)
  · rfl

end

theorem wctlEnWrite_binds {s : State} (hs : s.alive = true) (m : Master) (hl : 4 ≤ s.masterLevel m) (data : Word) (w : Fin 16) :
    ∃ t, exec (.wctlEnWrite m w data) s = .next t ∧ t.getB Fd.CHN_WCTL_EN w = bit data.toNat 0 ∧
      (s.getB Fd.CHN_WCTL_EN w = false → bit data.toNat 0 = true → bit t.win.binding w = true) ∧
      (s.getB Fd.CHN_WCTL_EN w = true → bit data.toNat 0 = false → bit t.win.bound w = false ∧ bit t.win.binding w = false) := by
  refine ⟨_, exec_write hs rfl (findReg_wctl w) ((writeLevel_wctl m w).trans hl), ?_⟩
  rw [writeEffect_wctl, old_low s m (by rw [off_wctl]; omega), getB_eq_bit s Fd.CHN_WCTL_EN _ _ rfl,
    ← wctl_storesBit.written s m w 0 (Reg.CHN_WCTL.off w 0)]
  generalize s.written m ⟨Reg.CHN_WCTL, w, 0⟩ (Reg.CHN_WCTL.off w 0) data = new
  generalize s.ready m ⟨Reg.CHN_WCTL, w, 0⟩ (Reg.CHN_WCTL.off w 0) data = u
  have hv := writeWctl_bindView u w (old := s.reg (Reg.CHN_WCTL.off w 0)) (new := new) data
  rw [putBack_win, putBack_getB, bound_of_bindView hv, binding_of_bindView hv,
    getB_of_get (get_of_reg Fd.CHN_WCTL_EN (reg_of_bindView hv))]
  exact ⟨storeWctl_en u w, storeWctl_enables u w, storeWctl_disables u w⟩

/-! ### WCTL.SWAP (R73) -/

/-- What decides whether a window's swap succeeds for its seal reads the same in `t` as in `s`. -/
structure SameTarget (w : Nat) (s t : State) : Prop where
  banks : t.integ.chnBank = s.integ.chnBank
  act : t.actBank w = s.actBank w
  seals : ∀ b ≤ 1, t.reg (Reg.CHN_BSEAL.off w b) = s.reg (Reg.CHN_BSEAL.off w b)

/-- So do the swaps that wait, and the window's flag of one. -/
structure SameSwaps (w : Nat) (s t : State) : Prop extends SameTarget w s t where
  swaps : t.win.swaps = s.win.swaps
  pend : t.get Fd.CHN_WSTAT_SWAP_PEND w = s.get Fd.CHN_WSTAT_SWAP_PEND w

/-- The chain taken from its end. -/
theorem SameTarget.after {w : Nat} {s t u : State} (k : SameTarget w t u) (h : SameTarget w s t) : SameTarget w s u :=
  ⟨k.banks.trans h.banks, k.act.trans h.act, fun b hb => (k.seals b hb).trans (h.seals b hb)⟩

theorem SameSwaps.after {w : Nat} {s t u : State} (k : SameSwaps w t u) (h : SameSwaps w s t) : SameSwaps w s u :=
  ⟨k.toSameTarget.after h.toSameTarget, k.swaps.trans h.swaps, k.pend.trans h.pend⟩

theorem off_bseal (w b : Nat) : Reg.CHN_BSEAL.off w b = 0xA600 + 8 * w + 4 * b := rfl

theorem SameBut.sameSwaps {s t : State} (h : SameBut 20 s t) (w : Fin 16) : SameSwaps w s t := by
  have hb : Reg.setBase 20 = 0xA000 := rfl
  have hw : t.reg (Reg.CHN_WSTAT.off w 0) = s.reg (Reg.CHN_WSTAT.off w 0) := h.regs _ (by rw [off_wstat]; omega) (by rw [off_wstat]; omega)
  have hs (b : Nat) (hb : b ≤ 1) : t.reg (Reg.CHN_BSEAL.off w b) = s.reg (Reg.CHN_BSEAL.off w b) :=
    h.regs _ (by rw [off_bseal]; omega) (by rw [off_bseal]; omega)
  exact ⟨⟨h.banks, get_of_reg Fd.CHN_WSTAT_ACT_BANK hw, hs⟩, congrArg Windows.swaps h.win, get_of_reg Fd.CHN_WSTAT_SWAP_PEND hw⟩

/-- A register that holds neither the flags of swaps nor a seal. -/
theorem SameSwaps.setReg (s : State) (w : Fin 16) {o : Nat} (v : Word) (h : o < 0xA600) (hw : o ≠ Reg.CHN_WSTAT.off w 0) :
    SameSwaps w s (s.setReg o v) :=
  ⟨⟨rfl, get_of_reg Fd.CHN_WSTAT_ACT_BANK (reg_setReg_other s v hw.symm),
    fun b _ => reg_setReg_other s v (by rw [off_bseal]; omega)⟩, rfl, get_of_reg Fd.CHN_WSTAT_SWAP_PEND (reg_setReg_other s v hw.symm)⟩

theorem setDelay_sameSwaps (s : State) (w : Fin 16) (v : Nat) : SameSwaps w s (s.set Fd.CHN_WSTAT_DELAY v w) where
  swaps := congrArg Windows.swaps (State.set_win ..)
  banks := congrArg Integrity.chnBank (State.set_integ ..)
  pend := get_set_field s Fd.CHN_WSTAT_DELAY Fd.CHN_WSTAT_SWAP_PEND v w 0 rfl (fits_of rfl) (by decide)
  act := get_set_field s Fd.CHN_WSTAT_DELAY Fd.CHN_WSTAT_ACT_BANK v w 0 rfl (fits_of rfl) (by decide)
  seals b _ := reg_set_other s Fd.CHN_WSTAT_DELAY v w 0
    (by rw [show Fd.CHN_WSTAT_DELAY.reg = Reg.CHN_WSTAT from rfl, off_bseal, off_wstat]; omega)

theorem putWctl_sameSwaps (s : State) (w : Fin 16) (new : Word) : SameSwaps w s (s.putWctl w new) :=
  .after (setDelay_sameSwaps ..)
    (.setReg s w (o := Reg.CHN_WCTL.off w 0) new (by rw [off_wctl]; omega) (wctl_ne_wstat w w))

theorem unbindWindow_sameSwaps (s : State) (w : Fin 16) : SameSwaps w s (s.unbindWindow w) := by
  have hd : SameSwaps w s (s.dropBinding w) := ⟨⟨rfl, rfl, fun _ _ => rfl⟩, rfl, rfl⟩
  have he : SameSwaps w (s.dropBinding w) ((s.dropBinding w).setB Fd.CHN_WCTL_EN false w) :=
    .setReg _ w (o := Reg.CHN_WCTL.off w 0) _ (by rw [off_wctl]; omega) (wctl_ne_wstat w w)
  rw [unbindWindow_eq]
  generalize (s.dropBinding w).setB Fd.CHN_WCTL_EN false w = u at he
  have hv {o : Nat} (h : o < 0x2100C) (hw : o ≠ Reg.CHN_WSTAT.off w 0) := refreshRunning_runView u w h hw
  have h0 := hv (o := 0) (by decide) (by rw [off_wstat]; omega)
  refine .after ⟨⟨congrArg Integrity.chnBank (integ_of_runView h0), ?_, fun b hb => ?_⟩, congrArg Windows.swaps (win_of_runView h0), ?_⟩
    (he.after hd)
  · exact refreshRunning_get u w Fd.CHN_WSTAT_ACT_BANK rfl (by decide)
  · exact reg_of_runView (hv (by rw [off_bseal]; omega) (by rw [off_bseal, off_wstat]; omega))
  · exact refreshRunning_get u w Fd.CHN_WSTAT_SWAP_PEND rfl (by decide)

theorem storeWctl_sameSwaps (s : State) (w : Fin 16) (old new : Word) : SameSwaps w s (s.storeWctl w old new) := by
  have hp := putWctl_sameSwaps s w new
  have ha (u : State) : SameSwaps w u (u.awaitBinding w) := ⟨⟨rfl, rfl, fun _ _ => rfl⟩, rfl, rfl⟩
  unfold State.storeWctl
  split_ifs
  · exact .after (ha _) hp
  · exact .after (unbindWindow_sameSwaps ..) hp
  · exact hp

/-- The seal of the target bank does not answer its latest CRC: the first check of a swap, and the only one with cause 8. -/
theorem swapCause_eq_eight (s : State) (w : Nat) : s.swapCause w = 8 ↔
    mapGet none (s.integ.chnBank.map fun p => (p.1, some p.2)) (2 * w + (1 - s.actBank w)) ≠
      some (s.reg (Reg.CHN_BSEAL.off w (1 - s.actBank w))) := by
  unfold State.swapCause
  simp only []
  split_ifs with h <;> simp [h]

theorem SameTarget.swapCause {w : Nat} {s t : State} (h : SameTarget w s t) (hc : s.swapCause w = 8) : t.swapCause w = 8 := by
  rw [swapCause_eq_eight] at hc ⊢
  rwa [h.banks, h.act, h.seals _ (Nat.sub_le ..)]

/-! ### A swap requested -/

/-- The state with a swap that waits for its boundary. -/
def State.awaitSwap (s : State) (q : SwapWait) (both : Nat) : State :=
  { s with win := { s.win with refused := maskClear s.win.refused both, swaps := s.win.swaps ++ [q] } }

/-- The partner with which a window's swap is requested. -/
def State.swapPartner (s : State) (w : Nat) : Option Nat := if s.linkBad w then none else s.partner w

/-- SWAP_PEND set for a window and its partner. -/
def State.markPending (s : State) (w : Nat) (p : Option Nat) : State :=
  match p with
  | some v => (s.setB Fd.CHN_WSTAT_SWAP_PEND true w).setB Fd.CHN_WSTAT_SWAP_PEND true v
  | none => s.setB Fd.CHN_WSTAT_SWAP_PEND true w

/-- The windows of a swap, as a mask. -/
def swapMask (w : Nat) (p : Option Nat) : Nat :=
  2 ^ w ||| match p with
    | some v => 2 ^ v
    | none => 0

theorem requestSwap_eq (s : State) (w : Nat) : s.requestSwap w =
    if s.getB Fd.CHN_WSTAT_SWAP_PEND w then s
    else (s.markPending w (s.swapPartner w)).awaitSwap
      ⟨w, (s.markPending w (s.swapPartner w)).get Fd.CHN_WCTL_SWAP_ALIGN w, s.swapPartner w⟩ (swapMask w (s.swapPartner w)) := by
  rfl

theorem setPend_keeps_true (s : State) {w v : Nat} (h : s.getB Fd.CHN_WSTAT_SWAP_PEND w = true) :
    (s.setB Fd.CHN_WSTAT_SWAP_PEND true v).getB Fd.CHN_WSTAT_SWAP_PEND w = true := by
  by_cases hv : w = v
  · subst hv; exact getB_setB_same s Fd.CHN_WSTAT_SWAP_PEND true w 0 (fits_of rfl) (by decide)
  · rw [State.setB, getB_of_get (get_set_other s Fd.CHN_WSTAT_SWAP_PEND Fd.CHN_WSTAT_SWAP_PEND _ v 0 w 0 ?_), h]
    change Reg.CHN_WSTAT.off w 0 ≠ Reg.CHN_WSTAT.off v 0
    rw [off_wstat, off_wstat]
    omega

theorem setPend_pend (s : State) (w : Nat) : (s.setB Fd.CHN_WSTAT_SWAP_PEND true w).getB Fd.CHN_WSTAT_SWAP_PEND w = true :=
  getB_setB_same s Fd.CHN_WSTAT_SWAP_PEND true w 0 (fits_of rfl) (by decide)

theorem markPending_pend (s : State) (w : Nat) (p : Option Nat) : (s.markPending w p).getB Fd.CHN_WSTAT_SWAP_PEND w = true := by
  cases p with
  | none => exact setPend_pend s w
  | some v => exact setPend_keeps_true _ (setPend_pend s w)

theorem awaitSwap_reg (s : State) (q : SwapWait) (both o : Nat) : (s.awaitSwap q both).reg o = s.reg o := rfl

theorem awaitSwap_swaps (s : State) (q : SwapWait) (both : Nat) : (s.awaitSwap q both).win.swaps = s.win.swaps ++ [q] := rfl

theorem markPending_win (s : State) (w : Nat) (p : Option Nat) : (s.markPending w p).win = s.win := by
  cases p <;> rfl

theorem markPending_reg (s : State) (w : Nat) (p : Option Nat) {o : Nat} (h : ∀ v, o ≠ Reg.CHN_WSTAT.off v 0) :
    (s.markPending w p).reg o = s.reg o := by
  have hs (u : State) (v : Nat) : (u.setB Fd.CHN_WSTAT_SWAP_PEND true v).reg o = u.reg o :=
    reg_set_other u Fd.CHN_WSTAT_SWAP_PEND _ v 0 (h v)
  cases p with
  | none => exact hs s w
  | some v => exact (hs _ v).trans (hs s w)

theorem requestSwap_pend (s : State) (w : Nat) : (s.requestSwap w).getB Fd.CHN_WSTAT_SWAP_PEND w = true := by
  rw [requestSwap_eq]
  split
  · assumption
  · rw [getB_of_get (get_of_reg Fd.CHN_WSTAT_SWAP_PEND (awaitSwap_reg ..)), markPending_pend]

theorem requestSwap_wctl (s : State) (w : Fin 16) : (s.requestSwap w).reg (Reg.CHN_WCTL.off w 0) = s.reg (Reg.CHN_WCTL.off w 0) :=
  reg_of_bindView (requestSwap_bindView s (wctl_ne_wstat w) w)

/-- A swap that waits once a window's is requested: an earlier one, or the window's with its alignment. -/
theorem requestSwap_swaps (s : State) (w : Fin 16) {q : SwapWait} (hq : q ∈ (s.requestSwap w).win.swaps) :
    q ∈ s.win.swaps ∨ (q.win = w ∧ q.align = (s.requestSwap w).get Fd.CHN_WCTL_SWAP_ALIGN w) := by
  rw [get_of_reg Fd.CHN_WCTL_SWAP_ALIGN (requestSwap_wctl s w)]
  rw [requestSwap_eq] at hq
  split at hq
  · exact .inl hq
  · rw [awaitSwap_swaps, markPending_win] at hq
    rcases List.mem_append.1 hq with hq | hq
    · exact .inl hq
    · rw [List.mem_singleton.1 hq]
      exact .inr ⟨rfl, get_of_reg Fd.CHN_WCTL_SWAP_ALIGN (markPending_reg s w _ (wctl_ne_wstat w))⟩

/-! ### The swaps that are due -/

theorem runDue_none (s : State) {due : SwapWait → Bool} (h : ∀ q ∈ s.win.swaps, due q = false) : s.runDue due = s := by
  have hf : s.win.swaps.filter due = [] := List.filter_eq_nil_iff.2 fun q hq => by rw [h q hq]; decide
  unfold State.runDue
  rw [hf]
  rfl

/-- The state without the swaps that are due. -/
def State.dropDue (s : State) (due : SwapWait → Bool) : State :=
  { s with win := { s.win with swaps := s.win.swaps.filter fun q => !due q } }

theorem runDue_one (s : State) {due : SwapWait → Bool} {q : SwapWait} (h : s.win.swaps.filter due = [q]) :
    s.runDue due = ((s.dropDue due).runSwap q).finishApplies := by
  unfold State.runDue
  rw [h]
  rfl

/-- A swap due at the next subband sample (R73). -/
def State.subbandDue (s : State) (q : SwapWait) : Bool :=
  q.align == 0 && (s.get Fd.CHN_WCTL_PROFILE q.win == 1 || s.get Fd.CHN_WCTL_PROFILE q.win == 2)

theorem subbandSwaps_eq (s : State) : s.subbandSwaps = s.runDue s.subbandDue := rfl

theorem subbandSwaps_wctl (s : State) (w : Fin 16) : s.subbandSwaps.reg (Reg.CHN_WCTL.off w 0) = s.reg (Reg.CHN_WCTL.off w 0) :=
  reg_of_bindView (runDue_bindView s (by rw [off_wctl]; omega) (wctl_ne_wstat w) _)

theorem finishApplies_reg (s : State) {o : Nat} (h : o < 0x34048) : s.finishApplies.reg o = s.reg o :=
  reg_of_bindView (finishApplies_bindView s h)

section
variable (s : State) (w : Nat)

theorem takeBank_pend : (s.takeBank w).getB Fd.CHN_WSTAT_SWAP_PEND w = false :=
  getB_setB_same _ Fd.CHN_WSTAT_SWAP_PEND false w 0 (fits_of rfl) (by decide)

/-- The state with a window's swap noted as refused, and the tag of its target bank invalid. -/
def State.noteRefusal (s : State) (w : Nat) : State :=
  State.setB { s with win := { s.win with refused := s.win.refused ||| 2 ^ w } } Fd.POS_WTAG_VALID false w (1 - s.actBank w)

theorem refuseBank_eq (cause : Nat) : s.refuseBank w cause =
    (((s.noteRefusal w).setB Fd.CHN_WSTAT_SWAP_PEND false w).setB Fd.CHN_WSTAT_SWAP_REF true w).set Fd.CHN_WSTAT_ERR cause w := rfl

theorem refuseBank_pend (cause : Nat) : (s.refuseBank w cause).getB Fd.CHN_WSTAT_SWAP_PEND w = false := by
  rw [refuseBank_eq, getB_set_field _ Fd.CHN_WSTAT_ERR Fd.CHN_WSTAT_SWAP_PEND w 0 rfl (fits_of rfl) (by decide),
    getB_setB_field _ Fd.CHN_WSTAT_SWAP_REF Fd.CHN_WSTAT_SWAP_PEND w 0 rfl (fits_of rfl) (by decide)]
  exact getB_setB_same _ Fd.CHN_WSTAT_SWAP_PEND false w 0 (fits_of rfl) (by decide)

theorem refuseBank_err (cause : Nat) : (s.refuseBank w cause).get Fd.CHN_WSTAT_ERR w = cause % 16 :=
  get_set_same _ Fd.CHN_WSTAT_ERR cause w 0 (fits_of rfl)

theorem noteRefusal_wstat (w : Fin 16) : (s.noteRefusal w).reg (Reg.CHN_WSTAT.off w 0) = s.reg (Reg.CHN_WSTAT.off w 0) := by
  have hr (u : State) (r : Nat) (o : Nat) : State.reg { u with win := { u.win with refused := r } } o = u.reg o := rfl
  unfold State.noteRefusal State.setB
  rw [reg_set_other _ Fd.POS_WTAG_VALID _ w _ ?_, hr]
  rw [show Fd.POS_WTAG_VALID.reg = Reg.POS_WTAG from rfl, off_wtag, off_wstat]
  omega

theorem refuseBank_act (w : Fin 16) (cause : Nat) : (s.refuseBank w cause).actBank w = s.actBank w := by
  unfold State.actBank
  rw [refuseBank_eq, get_set_field _ Fd.CHN_WSTAT_ERR Fd.CHN_WSTAT_ACT_BANK _ w 0 rfl (fits_of rfl) (by decide), State.setB, State.setB,
    get_set_field _ Fd.CHN_WSTAT_SWAP_REF Fd.CHN_WSTAT_ACT_BANK _ w 0 rfl (fits_of rfl) (by decide),
    get_set_field _ Fd.CHN_WSTAT_SWAP_PEND Fd.CHN_WSTAT_ACT_BANK _ w 0 rfl (fits_of rfl) (by decide)]
  exact get_of_reg Fd.CHN_WSTAT_ACT_BANK (noteRefusal_wstat s w)

end

/-- A swap of a window without a partner. -/
theorem runSwap_alone (s : State) (w align : Nat) : s.runSwap ⟨w, align, none⟩ =
    if s.swapCause w = 0 then s.takeBank w else (s.refuseBank w (s.swapCause w)).pulseOn 240 0 (s.windowDomains w) := rfl

/-- A window without a partner whose swap is run: the swap has ended, and it is refused for the seal alone with cause 8. -/
def SwapEnded (w : Nat) (s t : State) : Prop :=
  t.getB Fd.CHN_WSTAT_SWAP_PEND w = false ∧ (s.swapCause w = 8 → t.actBank w = s.actBank w ∧ t.get Fd.CHN_WSTAT_ERR w = 8)

theorem SwapEnded.of_wstat {w : Nat} {s t u : State} (h : SwapEnded w s t)
    (k : u.reg (Reg.CHN_WSTAT.off w 0) = t.reg (Reg.CHN_WSTAT.off w 0)) : SwapEnded w s u := by
  obtain ⟨hp, hr⟩ := h
  refine ⟨(getB_of_get (get_of_reg Fd.CHN_WSTAT_SWAP_PEND k)).trans hp, fun hc => ?_⟩
  obtain ⟨ha, he⟩ := hr hc
  exact ⟨(get_of_reg Fd.CHN_WSTAT_ACT_BANK k).trans ha, (get_of_reg Fd.CHN_WSTAT_ERR k).trans he⟩

theorem SwapEnded.of_target {w : Nat} {s t u : State} (h : SwapEnded w t u) (k : SameTarget w s t) : SwapEnded w s u := by
  obtain ⟨hp, hr⟩ := h
  refine ⟨hp, fun hc => ?_⟩
  obtain ⟨ha, he⟩ := hr (k.swapCause hc)
  exact ⟨ha.trans k.act, he⟩

theorem runSwap_ends (s : State) (w : Fin 16) (align : Nat) : SwapEnded w s (s.runSwap ⟨w, align, none⟩) := by
  rw [runSwap_alone]
  split_ifs with h0
  · exact ⟨takeBank_pend s w, fun h8 => absurd (h8.symm.trans h0) (by decide)⟩
  · have hr : SwapEnded w s (s.refuseBank w (s.swapCause w)) :=
      ⟨refuseBank_pend .., fun h8 => ⟨refuseBank_act .., by rw [refuseBank_err, h8]⟩⟩
    exact hr.of_wstat ((pulseOn_raised _ 0 _ (by decide)).low (by rw [off_wstat]; omega))

/-! ### WCTL_SWAP (R73) -/

/-- A window without a partner that has no swap pending: the swap requested. -/
theorem requestSwap_alone (s : State) (w : Nat) (hp : s.getB Fd.CHN_WSTAT_SWAP_PEND w = false)
    (hn : s.getB Fd.CHN_WCTL_LINK_EN w = false) : s.requestSwap w = (s.markPending w none).awaitSwap
      ⟨w, (s.markPending w none).get Fd.CHN_WCTL_SWAP_ALIGN w, none⟩ (swapMask w none) := by
  have ha : s.swapPartner w = none := by
    have hl : s.partner w = none := by rw [State.partner, hn]; rfl
    rw [State.swapPartner, hl, ite_self]
  rw [requestSwap_eq, hp, ha]
  rfl

theorem setPend_sameTarget (s : State) (w : Fin 16) : SameTarget w s (s.setB Fd.CHN_WSTAT_SWAP_PEND true w) where
  banks := congrArg Integrity.chnBank (State.setB_integ ..)
  act := get_set_field s Fd.CHN_WSTAT_SWAP_PEND Fd.CHN_WSTAT_ACT_BANK _ w 0 rfl (fits_of rfl) (by decide)
  seals b _ := reg_set_other s Fd.CHN_WSTAT_SWAP_PEND _ w 0
    (by rw [show Fd.CHN_WSTAT_SWAP_PEND.reg = Reg.CHN_WSTAT from rfl, off_bseal, off_wstat]; omega)

/-- The request of a swap, and its leaving the list, touch nothing that decides it. -/
theorem swap_sameTarget (s : State) (w : Fin 16) (q : SwapWait) (both : Nat) (due : SwapWait → Bool) :
    SameTarget w s (((s.markPending w none).awaitSwap q both).dropDue due) := by
  have ha (u : State) : SameTarget w u (u.awaitSwap q both) := ⟨rfl, rfl, fun _ _ => rfl⟩
  have hd (u : State) : SameTarget w u (u.dropDue due) := ⟨rfl, rfl, fun _ _ => rfl⟩
  exact .after (hd _) (.after (ha _) (setPend_sameTarget s w))

section
variable (s : State) (w : Fin 16) (hq : ∀ q ∈ s.win.swaps, q.align ≠ 0)
include hq

/-- No swap is due where the window's may not take place within the grid tick. -/
theorem swap_waits (h : (s.requestSwap w).get Fd.CHN_WCTL_SWAP_ALIGN w ≠ 0 ∨ (s.requestSwap w).get Fd.CHN_WCTL_PROFILE w = 0 ∨
      (s.requestSwap w).get Fd.CHN_WCTL_PROFILE w = 3) : (s.requestSwap w).subbandSwaps = s.requestSwap w := by
  rw [subbandSwaps_eq]
  refine runDue_none _ fun q hm => ?_
  unfold State.subbandDue
  rcases requestSwap_swaps s w hm with hm | ⟨hw, ha⟩
  · rw [beq_false_of_ne (hq q hm), Bool.false_and]
  · rw [hw, ha]
    rcases h with h | h | h
    · rw [beq_false_of_ne h, Bool.false_and]
    · rw [h]; exact Bool.and_false _
    · rw [h]; exact Bool.and_false _

/-- The swap of a coarse or medium window without a partner, with SWAP_ALIGN 0, takes place or is refused within the grid tick. -/
theorem swap_ends (ha : (s.requestSwap w).get Fd.CHN_WCTL_SWAP_ALIGN w = 0)
    (hf : (s.requestSwap w).get Fd.CHN_WCTL_PROFILE w = 1 ∨ (s.requestSwap w).get Fd.CHN_WCTL_PROFILE w = 2)
    (hn : s.getB Fd.CHN_WCTL_LINK_EN w = false) (hp : s.getB Fd.CHN_WSTAT_SWAP_PEND w = false) :
    SwapEnded w s (s.requestSwap w).subbandSwaps := by
  have hg : (s.markPending w none).get Fd.CHN_WCTL_SWAP_ALIGN w = (s.requestSwap w).get Fd.CHN_WCTL_SWAP_ALIGN w :=
    get_of_reg Fd.CHN_WCTL_SWAP_ALIGN ((markPending_reg s w none (wctl_ne_wstat w)).trans (requestSwap_wctl s w).symm)
  have hd : (s.requestSwap w).subbandDue ⟨w, 0, none⟩ = true := by
    simp only [State.subbandDue, BEq.rfl, Bool.true_and, Bool.or_eq_true, beq_iff_eq]
    exact hf
  have he := requestSwap_alone s w hp hn
  rw [hg, ha] at he
  have hl : (s.requestSwap w).win.swaps.filter (s.requestSwap w).subbandDue = [⟨w, 0, none⟩] := by
    have ho : s.win.swaps.filter (s.requestSwap w).subbandDue = [] := List.filter_eq_nil_iff.2 fun q hm => by
      rw [State.subbandDue, beq_false_of_ne (hq q hm), Bool.false_and]; decide
    have hw : (s.requestSwap w).win.swaps = s.win.swaps ++ [⟨w, 0, none⟩] := by rw [he, awaitSwap_swaps, markPending_win]
    rw [hw, List.filter_append, ho, List.nil_append, List.filter_singleton, hd]
    rfl
  rw [subbandSwaps_eq, runDue_one _ hl]
  refine ((runSwap_ends _ w 0).of_wstat (finishApplies_reg _ (by rw [off_wstat]; omega))).of_target ?_
  generalize (s.requestSwap w).subbandDue = due
  rw [he]
  exact swap_sameTarget ..

end

theorem wctlSwap_swaps {s : State} (hs : s.alive = true) (m : Master) (hl : 4 ≤ s.masterLevel m) (data : Word) (w : Fin 16)
    (hb : bit data.toNat 31 = true) (hq : ∀ q ∈ s.win.swaps, q.align ≠ 0) :
    ∃ t, exec (.wctlSwap m w data) s = .next t ∧
      (t.get Fd.CHN_WCTL_SWAP_ALIGN w ≠ 0 ∨ t.get Fd.CHN_WCTL_PROFILE w = 0 ∨ t.get Fd.CHN_WCTL_PROFILE w = 3 →
        t.getB Fd.CHN_WSTAT_SWAP_PEND w = true) ∧
      (t.get Fd.CHN_WCTL_SWAP_ALIGN w = 0 → t.get Fd.CHN_WCTL_PROFILE w = 1 ∨ t.get Fd.CHN_WCTL_PROFILE w = 2 →
        t.getB Fd.CHN_WCTL_LINK_EN w = false → s.getB Fd.CHN_WSTAT_SWAP_PEND w = false → SwapEnded w s t) := by
  refine ⟨_, exec_write hs rfl (findReg_wctl w) ((writeLevel_wctl m w).trans hl), ?_⟩
  have hk := (ready_sameBut s m (setOf_wctl w) (by decide) ⟨Reg.CHN_WCTL, w, 0⟩ data).sameSwaps w
  rw [writeEffect_wctl, writeWctl_eq, if_pos hb]
  generalize s.written m ⟨Reg.CHN_WCTL, w, 0⟩ (Reg.CHN_WCTL.off w 0) data = new
  generalize s.ready m ⟨Reg.CHN_WCTL, w, 0⟩ (Reg.CHN_WCTL.off w 0) data = u at hk
  generalize (s.countAccess m (Reg.CHN_WCTL.off w 0) 4).reg (Reg.CHN_WCTL.off w 0) = old
  have hx : SameSwaps w s (u.storeWctl w old new) := (storeWctl_sameSwaps u w old new).after hk
  generalize u.storeWctl w old new = x at hx
  have hqx : ∀ q ∈ x.win.swaps, q.align ≠ 0 := by rw [hx.swaps]; exact hq
  have hr := subbandSwaps_wctl (x.requestSwap w) w
  have hrx := hr.trans (requestSwap_wctl x w)
  rw [putBack_get, putBack_get, putBack_getB, putBack_getB, get_of_reg Fd.CHN_WCTL_SWAP_ALIGN hr, get_of_reg Fd.CHN_WCTL_PROFILE hr,
    getB_of_get (get_of_reg Fd.CHN_WCTL_LINK_EN hrx), ← getB_of_get hx.pend]
  refine ⟨fun h => ?_, fun ha hf hn hp => ?_⟩
  · rw [swap_waits x w hqx h, requestSwap_pend]
  · exact ((swap_ends x w hqx ha hf hn hp).of_target hx.toSameTarget).of_wstat (putBack_reg ..)

/-- Settles O31: a row that writes a register runs its effect (`exec_write`); what the effect stores, binds or stops is the lemma of its
name. -/
theorem enablesStoredAndBound : Obligations.EnablesStoredAndBound :=
  ⟨⟨fun m w data _ hs hl => wctlEnWrite_binds hs m hl data w, fun m w data _ hs hl hb hq => wctlSwap_swaps hs m hl data w hb hq,
    fun m p data _ hs hl => pcfg0EnWrite_binds hs m hl data p⟩,
  ⟨fun m y data _ hs hl => scfgFreqWrite_stores hs m hl data y, fun m n data _ hs hl hr ht hv => lsrcWrite_stores hs m hl data n hr ht hv,
    fun m n data _ hs hl => txEnWrite_stores hs m hl data n, fun m n data _ hs hl => rxEnWrite_stores hs m hl data n⟩,
  fun m d data _ hs hl => dctlEnWrite_stores hs m hl data d, fun m k data _ hs hl => ccfg3EnWrite_stores hs m hl data k,
  fun m data _ hs hl => conEnWrite_stores hs m hl data, fun m data _ hs hl => alertSwWrite_stores hs m hl data,
  fun m data _ hs hl => tddCtlWrite_stores hs m hl data, fun m data _ hs hl => rceCtlWrite_stores hs m hl data⟩

end Sys2Proof.Machine

/-!
SUPPORT. Proofs about checkpoint images: the reload and reopening of a row, the ends of its cut and halved step, and the generations.
-/

namespace Sys2Proof.Machine

-- The option has the proofs elaborated one after another, not beside the tests above: the two together exceed the check's memory.
set_option deprecated.oldSectionVars true

/-! ### Rows of the store -/

/-- A key that reads other than the default is listed, with what it reads. -/
theorem mem_of_mapGet_ne {α : Type} {d : α} {m : List (Nat × α)} {x : Nat} (h : mapGet d m x ≠ d) : (x, mapGet d m x) ∈ m := by
  induction m with
  | nil => exact absurd rfl h
  | cons q m ih =>
    obtain ⟨k, v⟩ := q
    by_cases hk : k = x
    · subst hk
      rw [mapGet, if_pos rfl]
      exact List.mem_cons_self
    · rw [mapGet, if_neg hk] at h ⊢
      exact List.mem_cons_of_mem _ (ih h)

@[simp] theorem row_setRow_same (s : State) (p r : Nat) (x : RowX) : (s.setRow p r x).row p r = x := mapGet_mapSet_same ..

theorem row_setRow_other (s : State) {p r q k : Nat} (x : RowX) (h : rowKey q k ≠ rowKey p r) : (s.setRow p r x).row q k = s.row q k :=
  mapGet_mapSet_other _ _ x h

theorem row_of_can {s t : State} (h : t.can = s.can) (p r : Nat) : t.row p r = s.row p r := by rw [State.row, State.row, h]

theorem refreshPstat_can (s : State) (q : Nat) : (s.refreshPstat q).can = s.can := by
  rw [State.refreshPstat, State.setB_can, State.setB_can, State.setB_can]

theorem refreshPstat_time (s : State) (q : Nat) : (s.refreshPstat q).time = s.time := by
  rw [State.refreshPstat, State.setB_time, State.setB_time, State.setB_time]

@[simp] theorem row_refreshPstat (s : State) (q p r : Nat) : (s.refreshPstat q).row p r = s.row p r :=
  row_of_can (refreshPstat_can s q) p r

@[simp] theorem row_putBack (u s : State) (p r : Nat) : (u.putBack s).row p r = u.row p r := rfl

theorem row_refreshRestoring (s : State) (p r : Nat) : s.refreshRestoring.row p r = s.row p r :=
  row_of_can (forEach_keeps State.can _ _ (fun _ _ => ⟨State.setB_can ..⟩) s) p r

theorem rowKey_div (p : Nat) {r : Nat} (h : r < 2048) : rowKey p r / 2048 = p := by unfold rowKey; omega

theorem rowKey_mod (p : Nat) {r : Nat} (h : r < 2048) : rowKey p r % 2048 = r := by unfold rowKey; omega

theorem rowKey_split (k : Nat) : rowKey (k / 2048) (k % 2048) = k := Nat.div_add_mod k 2048

theorem mem_rows_of_reopen {s : State} {p r : Nat} (h : (s.row p r).reopen = true) : (rowKey p r, s.row p r) ∈ s.can.rows :=
  mem_of_mapGet_ne fun e => Bool.false_ne_true ((congrArg RowX.reopen e).symm.trans h)

/-! ### ROW_RELOAD_DONE (R97) -/

/-- A row with the image that its reload takes: the latest that holds it, 0 where none does. -/
def State.reloaded (s : State) (p r : Nat) : RowX :=
  { s.row p r with
    coef := ((s.latestRow p r).getD ([], 0)).1, imageDepth := ((s.latestRow p r).getD ([], 0)).2, reopen := true }

/-- The row is bound, under restore, and lies in a party. -/
def State.awaitsReload (s : State) (p r : Nat) : Prop :=
  s.pActive p = true ∧ (s.row p r).restoring = true ∧ (s.svy.partyOf p r).isSome = true

theorem exec_rowReloadDone (path : Fin 256) (row : Nat) (s : State) : exec (.rowReloadDone path row) s = s.whenLive (.next (
    if s.pActive path && (s.row path row).restoring && (s.svy.partyOf path row).isSome then s.setRow path row (s.reloaded path row)
    else s)) := rfl

theorem rowReloadDone_reloads {s : State} (hs : s.alive = true) {path : Fin 256} {row : Nat} (h : s.awaitsReload path row) :
    exec (.rowReloadDone path row) s = .next (s.setRow path row (s.reloaded path row)) := by
  obtain ⟨ha, hr, hp⟩ := h
  refine exec_next (u := s.setRow path row (s.reloaded path row)) hs ?_
  rw [exec_rowReloadDone, ha, hr, hp]
  rfl

theorem rowReloadDone_idle {s : State} (hs : s.alive = true) {path : Fin 256} {row : Nat} (h : ¬ s.awaitsReload path row) :
    exec (.rowReloadDone path row) s = .next s := by
  refine exec_next (u := s) hs ?_
  rw [exec_rowReloadDone, if_neg]
  simpa only [State.awaitsReload, Bool.and_eq_true, and_assoc] using h

/-! ### Rows reopen (R97) -/

/-- `y` is the row `x` reopened in sheet `n`: no longer under restore, with its coefficients, its cut and its halved step under way. -/
structure RowX.Reopened (n : Nat) (x y : RowX) : Prop where
  restoring : y.restoring = false
  reopen : y.reopen = false
  cutEnd : y.cutEnd = some (n + 1200)
  halfEnd : y.halfEnd = some (n + 80)
  coef : y.coef = x.coef

/-- One row of the list that reopens, by its key. -/
def State.reopenRow (s : State) (k : Nat) : State :=
  (s.setRow (k / 2048) (k % 2048) { s.row (k / 2048) (k % 2048) with
    restoring := false, reopen := false, cutEnd := some (s.sheet + 1200), halfEnd := some (s.sheet + 80)
    cutVal := s.cutValue (k / 2048) (k % 2048) }).refreshPstat (k / 2048)

theorem reopenRows_eq (s : State) : s.reopenRows =
    if (s.can.rows.filter fun k => k.2.reopen).isEmpty then s
    else (forEach (s.can.rows.filter fun k => k.2.reopen) s fun s k => s.reopenRow k.1).refreshRestoring := rfl

@[simp] theorem reopenRow_sheet (s : State) (k : Nat) : (s.reopenRow k).sheet = s.sheet := by
  rw [State.sheet, State.reopenRow, refreshPstat_time]
  rfl

theorem reopenRow_reopens (s : State) (p : Nat) {r : Nat} (hr : r < 2048) :
    RowX.Reopened s.sheet (s.row p r) ((s.reopenRow (rowKey p r)).row p r) := by
  rw [State.reopenRow, rowKey_div p hr, rowKey_mod p hr, row_refreshPstat, row_setRow_same]
  exact ⟨rfl, rfl, rfl, rfl, rfl⟩

theorem reopenRow_other (s : State) {p r k : Nat} (h : rowKey p r ≠ k) : (s.reopenRow k).row p r = s.row p r := by
  rw [State.reopenRow, row_refreshPstat, row_setRow_other _ _ (by rwa [rowKey_split])]

theorem forEach_cons {α σ : Type} (a : α) (l : List α) (s : σ) (f : σ → α → σ) :
    forEach (a :: l) s f = forEach l (f s a) f := rfl

/-- A row is reopened once the list has come to it, and stays so: reopening it again changes nothing that `Reopened` says. -/
theorem forEach_reopenRow {n p r : Nat} (hr : r < 2048) {x : RowX} (l : List (Nat × RowX)) (s : State) (hn : s.sheet = n)
    (hx : (s.row p r).coef = x.coef) (h : RowX.Reopened n x (s.row p r) ∨ ∃ y, (rowKey p r, y) ∈ l) :
    RowX.Reopened n x ((forEach l s fun s k => s.reopenRow k.1).row p r) := by
  induction l generalizing s with
  | nil => exact h.resolve_right fun ⟨_, hy⟩ => List.not_mem_nil hy
  | cons q l ih =>
    rw [forEach_cons]
    by_cases hq : rowKey p r = q.1
    · have hs := reopenRow_reopens s p hr
      rw [hq, hn] at hs
      have hc := hs.coef.trans hx
      exact ih (s.reopenRow q.1) ((reopenRow_sheet ..).trans hn) hc (.inl { hs with coef := hc })
    · have hs := reopenRow_other s hq
      refine ih (s.reopenRow q.1) ((reopenRow_sheet ..).trans hn) (by rw [hs]; exact hx)
        (h.imp (fun k => by rw [hs]; exact k) fun ⟨y, hy⟩ => ?_)
      exact ⟨y, (List.mem_cons.1 hy).resolve_left fun e => hq (congrArg Prod.fst e)⟩

theorem reopenRows_reopens {s : State} (p : Nat) {r : Nat} (hr : r < 2048) (h : (s.row p r).reopen = true) :
    RowX.Reopened s.sheet (s.row p r) (s.reopenRows.row p r) := by
  have hm : (rowKey p r, s.row p r) ∈ s.can.rows.filter fun k => k.2.reopen := List.mem_filter.2 ⟨mem_rows_of_reopen h, h⟩
  have hne : ¬ (s.can.rows.filter fun k => k.2.reopen).isEmpty = true := fun e => List.ne_nil_of_mem hm (List.isEmpty_iff.1 e)
  rw [reopenRows_eq, if_neg hne, row_refreshRestoring]
  exact forEach_reopenRow hr _ s rfl rfl (.inr ⟨_, hm⟩)

/-! ### CUT_END and SK_HALF_END (R97) -/

section
variable {s : State} (hs : s.alive = true) {path : Fin 256} {row e : Nat}
include hs

/-- CUT_END of a row whose cut runs: at its sheet, or within 3 dB (768 / 256) of the image's depth, the cut is over. -/
theorem exec_cutEnd (h : (s.row path row).cutEnd = some e) : exec (.cutEnd path row) s = .next (
    (if e ≤ s.sheet ∨ (s.row path row).imageDepth - 768 ≤ (s.row path row).depth
      then (s.setRow path row { s.row path row with cutEnd := none }).refreshPstat path else s).putBack s) := by
  refine exec_next hs (show execCutEnd path row s = _ from ?_)
  simp only [execCutEnd, h]

theorem cutEnd_ends (h : (s.row path row).cutEnd = some e) : ∃ t, exec (.cutEnd path row) s = .next t ∧
    (e ≤ s.sheet ∨ (s.row path row).imageDepth - 768 ≤ (s.row path row).depth →
      t.row path row = { s.row path row with cutEnd := none }) ∧
    (s.sheet < e → (s.row path row).depth < (s.row path row).imageDepth - 768 → t = s) := by
  refine ⟨_, exec_cutEnd hs h, fun hd => ?_, fun he hi => ?_⟩
  · rw [if_pos hd, row_putBack, row_refreshPstat, row_setRow_same]
  · rw [if_neg (by omega)]
    rfl

theorem exec_skHalfEnd (h : (s.row path row).halfEnd = some e) : exec (.skHalfEnd path row) s = .next (
    (if e ≤ s.sheet then s.setRow path row { s.row path row with halfEnd := none } else s).putBack s) := by
  refine exec_next hs (show execSkHalfEnd path row s = _ from ?_)
  simp only [execSkHalfEnd, h]

theorem skHalfEnd_ends (h : (s.row path row).halfEnd = some e) : ∃ t, exec (.skHalfEnd path row) s = .next t ∧
    (e ≤ s.sheet → t = s.setRow path row { s.row path row with halfEnd := none }) ∧ (s.sheet < e → t = s) := by
  refine ⟨_, exec_skHalfEnd hs h, fun he => ?_, fun he => ?_⟩
  · rw [if_pos he]
    rfl
  · rw [if_neg (by omega)]
    rfl

end

/-! ### CHECKPOINT_GENERATION_START (R94) -/

/-- The area that does not hold the latest image; A before there is one. -/
def State.nextArea (s : State) : Nat := if s.getB Fd.CAN_CP_STAT_VALID then 1 - s.get Fd.CAN_CP_STAT_AREA else 0

/-- The generation that starts: every row of every bound path is still to be copied. -/
def State.nextGeneration (s : State) : Generation :=
  let keys := s.activePaths.flatMap fun p => (List.range (s.pRows p)).map fun r => rowKey p r
  ⟨s.can.genCount + 1, s.nextArea, s.sheet, keys, ceilDiv keys.length 5760, []⟩

/-- A generation still incomplete is abandoned, with CAN_CP. -/
def State.abandonGeneration (s : State) : State := if s.can.writing.isSome then s.pulse 245 else s

def State.openGeneration (s : State) : State :=
  ({ s with can := { s.can with writing := some s.nextGeneration, genCount := s.can.genCount + 1 } }).setB Fd.CAN_CP_STAT_WRITING true

theorem openGeneration_can (s : State) : s.openGeneration.can =
    { s.can with writing := some s.nextGeneration, genCount := s.can.genCount + 1 } := by rw [State.openGeneration, State.setB_can]

theorem openGeneration_writing (s : State) : s.openGeneration.getB Fd.CAN_CP_STAT_WRITING = true :=
  getB_setB_same _ Fd.CAN_CP_STAT_WRITING true 0 0 (fits_of rfl) (by decide)

theorem exec_checkpointGenerationStart (s : State) : exec .checkpointGenerationStart s = s.whenLive (.next (
    if s.getB Fd.CAN_CTL_CP_EN && s.everySheets 80 then s.abandonGeneration.openGeneration else s)) := rfl

theorem abandonGeneration_raised (s : State) : OnlyRaised s s.abandonGeneration :=
  .ite (fun _ => pulse_raised s (by decide)) fun _ => .refl s

theorem OnlyRaised.nextArea {s t : State} (h : OnlyRaised s t) : t.nextArea = s.nextArea := by
  rw [State.nextArea, State.nextArea, getB_of_get (h.get Fd.CAN_CP_STAT_VALID 0 0 (by decide)), h.get Fd.CAN_CP_STAT_AREA 0 0 (by decide)]

theorem OnlyRaised.sheet {s t : State} (h : OnlyRaised s t) : t.sheet = s.sheet := by
  rw [State.sheet, State.sheet, h.time]

theorem checkpointGenerationStart_opens {s : State} (hs : s.alive = true) (he : s.getB Fd.CAN_CTL_CP_EN = true)
    (hb : s.time.gt % 80 = 0) (hn : s.sheet % 2 ^ 32 % 80 = 0) :
    ∃ t, exec .checkpointGenerationStart s = .next t ∧ t.getB Fd.CAN_CP_STAT_WRITING = true ∧ t.can.genCount = s.can.genCount + 1 ∧
      (∃ g, t.can.writing = some g ∧ g.gen = s.can.genCount + 1 ∧ g.start = s.sheet ∧ g.rows = [] ∧ g.area = s.nextArea) ∧
      t.can.imageA = s.can.imageA ∧ t.can.imageB = s.can.imageB := by
  have hr := abandonGeneration_raised s
  have hc := hr.can
  have hd : s.everySheets 80 = true := by rw [State.everySheets, hb, hn]; rfl
  have e := exec_next (u := s.abandonGeneration.openGeneration) hs (by rw [exec_checkpointGenerationStart, he, hd]; rfl)
  refine ⟨_, e, (putBack_getB ..).trans (openGeneration_writing _), ?_⟩
  rw [putBack_can, openGeneration_can, hc]
  exact ⟨rfl, ⟨_, rfl, congrArg (fun c => c.genCount + 1) hc, hr.sheet, rfl, hr.nextArea⟩, rfl, rfl⟩

/-! ### CHECKPOINT_GENERATION_DONE (R94) -/

/-- The image that a generation completes to: the rows copied in its course, then those still to copy. -/
def State.imageOf (s : State) (g : Generation) : Image :=
  let rows := g.rows ++ g.left.filterMap s.copyRow
  ⟨g.gen, rows, s.activePaths.map fun p => (p, (List.range 4).map fun i => s.reg (Reg.CAN_PCFG0.off p 0 + 4 * i)),
    rows.map fun k => (k.1, s.areaChannel (s.partyOf (k.1 / 2048) (k.1 % 2048)) (g.area == 1)),
    s.svy.runs.map fun r => (32 * r.entry + r.party, s.runCrc rows r)⟩

/-- The image put in its area, and no generation being written. -/
def State.storeImage (s : State) (g : Generation) : State :=
  { s with can := { s.can with
      writing := none
      imageA := if g.area = 0 then some (s.imageOf g) else s.can.imageA
      imageB := if g.area = 1 then some (s.imageOf g) else s.can.imageB } }

/-- CP_STAT as a complete generation leaves it. -/
def State.showGeneration (s : State) (g : Generation) : State :=
  (((s.setB Fd.CAN_CP_STAT_WRITING false).setB Fd.CAN_CP_STAT_VALID true).set Fd.CAN_CP_STAT_AREA g.area).set Fd.CAN_CP_STAT_GEN
    (g.gen % 65536)

theorem exec_checkpointGenerationDone {s : State} (hs : s.alive = true) {g : Generation} (h : s.can.writing = some g) :
    exec .checkpointGenerationDone s = .next ((if g.start + 72 < s.sheet then s else (s.storeImage g).showGeneration g).putBack s) := by
  refine exec_next hs (show execCheckpointGenerationDone s = _ from ?_)
  simp only [execCheckpointGenerationDone, h]
  rfl

section
variable (s : State) (g : Generation)

theorem showGeneration_can : (s.showGeneration g).can = s.can := by
  rw [State.showGeneration, State.set_can, State.set_can, State.setB_can, State.setB_can]

theorem showGeneration_gen : (s.showGeneration g).get Fd.CAN_CP_STAT_GEN = g.gen % 65536 := by
  rw [State.showGeneration, get_set_same _ Fd.CAN_CP_STAT_GEN _ 0 0 (fits_of rfl)]
  exact Nat.mod_mod g.gen 65536

theorem showGeneration_area (h : g.area ≤ 1) : (s.showGeneration g).get Fd.CAN_CP_STAT_AREA = g.area := by
  rw [State.showGeneration, get_set_field _ Fd.CAN_CP_STAT_GEN Fd.CAN_CP_STAT_AREA _ 0 0 rfl (fits_of rfl) (by decide),
    get_set_same _ Fd.CAN_CP_STAT_AREA _ 0 0 (fits_of rfl)]
  exact Nat.mod_eq_of_lt (Nat.lt_succ_of_le h)

theorem showGeneration_valid : (s.showGeneration g).getB Fd.CAN_CP_STAT_VALID = true := by
  rw [State.showGeneration, getB_set_field _ Fd.CAN_CP_STAT_GEN Fd.CAN_CP_STAT_VALID 0 0 rfl (fits_of rfl) (by decide),
    getB_set_field _ Fd.CAN_CP_STAT_AREA Fd.CAN_CP_STAT_VALID 0 0 rfl (fits_of rfl) (by decide)]
  exact getB_setB_same _ Fd.CAN_CP_STAT_VALID true 0 0 (fits_of rfl) (by decide)

theorem showGeneration_writing : (s.showGeneration g).getB Fd.CAN_CP_STAT_WRITING = false := by
  rw [State.showGeneration, getB_set_field _ Fd.CAN_CP_STAT_GEN Fd.CAN_CP_STAT_WRITING 0 0 rfl (fits_of rfl) (by decide),
    getB_set_field _ Fd.CAN_CP_STAT_AREA Fd.CAN_CP_STAT_WRITING 0 0 rfl (fits_of rfl) (by decide),
    getB_setB_field _ Fd.CAN_CP_STAT_VALID Fd.CAN_CP_STAT_WRITING 0 0 rfl (fits_of rfl) (by decide)]
  exact getB_setB_same _ Fd.CAN_CP_STAT_WRITING false 0 0 (fits_of rfl) (by decide)

/-- The image stands in the generation's area. -/
theorem storeImage_area (h : g.area ≤ 1) :
    (if g.area = 0 then (s.storeImage g).can.imageA else (s.storeImage g).can.imageB) = some (s.imageOf g) := by
  by_cases h0 : g.area = 0
  · rw [if_pos h0]; exact if_pos h0
  · rw [if_neg h0]; exact if_pos (by omega)

/-- The other area keeps its image. -/
theorem storeImage_other :
    if g.area = 0 then (s.storeImage g).can.imageB = s.can.imageB else (s.storeImage g).can.imageA = s.can.imageA := by
  by_cases h0 : g.area = 0
  · rw [if_pos h0]; exact if_neg (by omega)
  · rw [if_neg h0]; exact if_neg h0

end

theorem checkpointGenerationDone_completes {s : State} {g : Generation} (hs : s.alive = true) (hw : s.can.writing = some g)
    (ha : g.area ≤ 1) (hn : s.sheet ≤ g.start + 72) :
    ∃ t, exec .checkpointGenerationDone s = .next t ∧ t.can.writing = none ∧ t.getB Fd.CAN_CP_STAT_WRITING = false ∧
      t.getB Fd.CAN_CP_STAT_VALID = true ∧ t.get Fd.CAN_CP_STAT_AREA = g.area ∧ t.get Fd.CAN_CP_STAT_GEN = g.gen % 65536 ∧
      (∃ img, (if g.area = 0 then t.can.imageA else t.can.imageB) = some img ∧ img.gen = g.gen ∧
        img.rows = g.rows ++ g.left.filterMap s.copyRow) ∧
      (if g.area = 0 then t.can.imageB = s.can.imageB else t.can.imageA = s.can.imageA) := by
  have e := exec_checkpointGenerationDone hs hw
  rw [if_neg (by omega)] at e
  refine ⟨_, e, ?_⟩
  rw [putBack_can, putBack_getB, putBack_getB, putBack_get, putBack_get, showGeneration_can]
  exact ⟨rfl, showGeneration_writing .., showGeneration_valid .., showGeneration_area _ g ha, showGeneration_gen ..,
    ⟨s.imageOf g, storeImage_area s g ha, rfl, rfl⟩, storeImage_other s g⟩

theorem checkpointGenerationDone_late {s : State} {g : Generation} (hs : s.alive = true) (hw : s.can.writing = some g)
    (hn : g.start + 72 < s.sheet) : exec .checkpointGenerationDone s = .next s := by
  rw [exec_checkpointGenerationDone hs hw, if_pos hn]
  rfl

/-- Settles O26: the reload and its reopening, the ends of cut and halved step, the start and the end of a generation, each by the lemma
of its name. -/
theorem rowsRestoreFromImages : Obligations.RowsRestoreFromImages := by
  refine ⟨fun path row s hs => ?_, fun path row s hr h => ?_, fun _ _ _ _ hs h => cutEnd_ends hs h,
    fun _ _ _ _ hs h => skHalfEnd_ends hs h, fun s hs he hb hn => checkpointGenerationStart_opens hs he hb hn,
    fun s g hs hw ha hn => checkpointGenerationDone_completes hs hw ha hn, fun s g hs hw hn => checkpointGenerationDone_late hs hw hn⟩
  · by_cases h : s.awaitsReload path row
    · exact ⟨_, rowReloadDone_reloads hs h, fun _ _ _ => rfl, fun hn => absurd h hn⟩
    · exact ⟨s, rowReloadDone_idle hs h, fun ha hr hp => absurd ⟨ha, hr, hp⟩ h, fun _ => rfl⟩
  · obtain ⟨hre, hro, hc, hh, hk⟩ := reopenRows_reopens path hr h
    exact ⟨hre, hro, hc, hh, hk⟩

end Sys2Proof.Machine

/-!
SUPPORT. Proofs about the survey's losses: what writes of fields spare, rows, parties and engines lost, the errors of the parties' SRAM, and
the coverage test.
-/

namespace Sys2Proof.Machine

-- The option has the proofs elaborated one after another, not beside the tests above: the two together exceed the check's memory.
set_option deprecated.oldSectionVars true

/-! ### Fields that writes of other fields spare -/

/-- A write of field `g` leaves field `f` alone: their registers lie apart, or they are different bits of one register. -/
def Fld.clear (f g : Fld) : Bool :=
  (g.reg.apart f.reg || f.reg.apart g.reg ||
    (decide (g.reg = f.reg) && (decide (g.lsb + g.width ≤ f.lsb) || decide (f.lsb + f.width ≤ g.lsb)))) &&
  decide (0 < f.reg.count2) && decide (0 < g.reg.count2) && decide (g.lsb + g.width ≤ 32)

theorem get_set_clear (s : State) {f g : Fld} (h : f.clear g = true) (v : Nat) {i j : Nat} (hi : i < f.reg.count)
    (hj : j < g.reg.count) : (s.set g v j).get f i = s.get f i := by
  simp only [Fld.clear, Bool.and_eq_true, Bool.or_eq_true, decide_eq_true_eq] at h
  obtain ⟨⟨⟨(hg | hf) | ⟨hr, hd⟩, hf2⟩, hg2⟩, hw⟩ := h
  · exact get_set_other s g f v j 0 i 0 (apart_off hg hj hg2 i)
  · exact get_set_other s g f v j 0 i 0 (apart_off hf hi hf2 j).symm
  · by_cases ho : f.reg.off i 0 = g.reg.off j 0
    · unfold State.get State.set
      rw [ho, reg_setReg_same]
      exact getBits_setBits_other _ _ _ _ _ _ hw hd
    · exact get_set_other s g f v j 0 i 0 ho

theorem get_lt (s : State) (f : Fld) (i j : Nat) : s.get f i j < 2 ^ f.width := Nat.mod_lt _ (Nat.two_pow_pos _)

theorem get_set_of_lt (s : State) {f : Fld} {v : Nat} (i j : Nat) (h : f.fits) (hv : v < 2 ^ f.width) : (s.set f v i j).get f i j = v := by
  rw [get_set_same s f v i j h, Nat.mod_eq_of_lt hv]

theorem get_addSat_same (s : State) (f : Fld) (n i j : Nat) (h : f.fits) :
    (s.addSat f n i j).get f i j = min (s.get f i j + n) (2 ^ f.width - 1) :=
  get_set_of_lt s i j h (Nat.lt_of_le_of_lt (Nat.min_le_right ..) (Nat.sub_lt (Nat.two_pow_pos _) Nat.one_pos))

/-- The field lies below the fault collector and is clear of every field listed. -/
def Fld.sparedBy (f : Fld) (l : List Fld) : Bool :=
  decide (f.reg.base + f.reg.stride * (f.reg.count - 1) < 0x34048) && l.all f.clear

/-- `t` comes from `s` by writes of the fields listed and by what is raised by the way: it has the time of `s` and the fields that these
spare, and the rows under restore in `s` are under restore in `t`. -/
structure Spares (l : List Fld) (s t : State) : Prop where
  time : t.time = s.time
  fields : ∀ (f : Fld) (i : Nat), f.sparedBy l = true → i < f.reg.count → t.get f i = s.get f i
  restoring : ∀ p r, (s.row p r).restoring = true → (t.row p r).restoring = true

section
variable {l : List Fld} {s t u : State}

theorem Spares.refl (l : List Fld) (s : State) : Spares l s s := ⟨rfl, fun _ _ _ _ => rfl, fun _ _ h => h⟩

/-- The chain taken from its end. -/
theorem Spares.after (k : Spares l t u) (h : Spares l s t) : Spares l s u :=
  ⟨k.time.trans h.time, fun f i hf hi => (k.fields f i hf hi).trans (h.fields f i hf hi),
    fun p r hr => k.restoring p r (h.restoring p r hr)⟩

theorem Spares.ite {c : Prop} [Decidable c] (h : c → Spares l s t) (k : ¬ c → Spares l s u) : Spares l s (if c then t else u) := by
  split
  · exact h ‹_›
  · exact k ‹_›

theorem Spares.mono {l' : List Fld} (h : Spares l s t) (hl : l ⊆ l') : Spares l' s t :=
  ⟨h.time, fun f i hf hi => h.fields f i (by
    simp only [Fld.sparedBy, Bool.and_eq_true, List.all_eq_true] at hf ⊢
    exact ⟨hf.1, fun g hg => hf.2 g (hl hg)⟩) hi, h.restoring⟩

theorem Spares.getB (h : Spares l s t) (f : Fld) {i : Nat} (hf : f.sparedBy l = true) (hi : i < f.reg.count) :
    t.getB f i = s.getB f i := getB_of_get (h.fields f i hf hi)

theorem Spares.pActive (h : Spares l s t) (hl : Fd.CAN_PSTAT_ACTIVE.sparedBy l = true) {p : Nat} (hp : p < 256) :
    t.pActive p = s.pActive p := h.getB Fd.CAN_PSTAT_ACTIVE hl hp

theorem Spares.of_raised (l : List Fld) (h : OnlyRaised s t) : Spares l s t where
  time := h.time
  fields f i hf hi := by
    simp only [Fld.sparedBy, Bool.and_eq_true, decide_eq_true_eq] at hf
    have hm := Nat.mul_le_mul_left f.reg.stride (show i ≤ f.reg.count - 1 by omega)
    refine get_of_reg f (h.low ?_)
    simp only [RegDesc.off]
    omega
  restoring p r hr := by rwa [row_of_can h.can]

theorem Spares.withSvy (l : List Fld) (s : State) (v : Survey) : Spares l s { s with svy := v } :=
  ⟨rfl, fun _ _ _ _ => rfl, fun _ _ h => h⟩

theorem Spares.set (s : State) {g : Fld} (hg : g ∈ l) (v : Nat) {j : Nat} (hj : j < g.reg.count) : Spares l s (s.set g v j) where
  time := rfl
  fields f i hf hi := by
    simp only [Fld.sparedBy, Bool.and_eq_true, List.all_eq_true] at hf
    exact get_set_clear s (hf.2 g hg) v hi hj
  restoring p r hr := by rwa [row_of_can (State.set_can ..)]

theorem Spares.setB (s : State) {g : Fld} (hg : g ∈ l) (v : Bool) {j : Nat} (hj : j < g.reg.count) : Spares l s (s.setB g v j) :=
  .set s hg _ hj

theorem Spares.addSat (s : State) {g : Fld} (hg : g ∈ l) (n : Nat) {j : Nat} (hj : j < g.reg.count) : Spares l s (s.addSat g n j) :=
  .set s hg _ hj

/-- A row written anew that stays under restore where it was. -/
theorem Spares.setRow (l : List Fld) (s : State) (p r : Nat) (x : RowX) (hx : (s.row p r).restoring = true → x.restoring = true) :
    Spares l s (s.setRow p r x) where
  time := rfl
  fields _ _ _ _ := rfl
  restoring q k hr := by
    by_cases hk : rowKey q k = rowKey p r
    · unfold State.row at hx hr ⊢
      rw [hk] at hr ⊢
      exact (congrArg RowX.restoring (row_setRow_same s p r x)).trans (hx hr)
    · rwa [row_setRow_other s x hk]

theorem Spares.forEach_mem {α : Type} (as : List α) (f : State → α → State) (hf : ∀ s, ∀ a ∈ as, Spares l s (f s a)) (s : State) :
    Spares l s (forEach as s f) := by
  induction as generalizing s with
  | nil => exact .refl l s
  | cons a as ih => exact (ih (fun s b hb => hf s b (List.mem_cons_of_mem _ hb)) (f s a)).after (hf s a List.mem_cons_self)

/-- The step for an element of a list, between the steps before it and those behind it. -/
theorem Spares.forEach_at {α : Type} (as : List α) (f : State → α → State) (hf : ∀ s a, Spares l s (f s a)) {a : α} (ha : a ∈ as)
    (s : State) : ∃ u, Spares l s u ∧ Spares l (f u a) (forEach as s f) := by
  induction as generalizing s with
  | nil => exact absurd ha List.not_mem_nil
  | cons b as ih =>
    rcases List.mem_cons.1 ha with rfl | h
    · exact ⟨s, .refl l s, .forEach_mem as f (fun s b _ => hf s b) _⟩
    · obtain ⟨u, hu, hk⟩ := ih h (f s b)
      exact ⟨u, hu.after (hf s b), hk⟩

end

/-! ### Rows lost (R97, R98) -/

/-- What loss handling shows of rows: FROZEN, RESTORE and CUT of their path, RESTORING of their party. -/
def lossFields : List Fld := [Fd.CAN_PSTAT_FROZEN, Fd.CAN_PSTAT_RESTORE, Fd.CAN_PSTAT_CUT, Fd.SVY_PSTATE_RESTORING]

theorem refreshPstat_spares (s : State) {p : Nat} (hp : p < 256) : Spares lossFields s (s.refreshPstat p) :=
  .after (.setB _ (g := Fd.CAN_PSTAT_CUT) (by decide) _ hp) (.after (.setB _ (g := Fd.CAN_PSTAT_RESTORE) (by decide) _ hp)
    (.setB _ (g := Fd.CAN_PSTAT_FROZEN) (by decide) _ hp))

theorem refreshRestoring_spares (s : State) : Spares lossFields s s.refreshRestoring :=
  .forEach_mem _ _ (fun s _ hq => .setB s (g := Fd.SVY_PSTATE_RESTORING) (by decide) _ (List.mem_range.1 hq)) s

/-- One row of those lost. -/
def State.loseRow (from_ : Nat) (s : State) (r : Nat × Nat) : State :=
  if r.1 < 256 ∧ s.pActive r.1 then
    (s.setRow r.1 r.2 { s.row r.1 r.2 with
      restoring := true, shutAt := if (s.row r.1 r.2).restoring then min (s.row r.1 r.2).shutAt from_ else from_, reopen := false
      cutEnd := none, halfEnd := none, d1 := 0, d2 := 0 }).refreshPstat r.1
  else s

theorem loseRows_eq (s : State) (from_ : Nat) (rows : List (Nat × Nat)) :
    s.loseRows from_ rows = (forEach rows s (State.loseRow from_)).refreshRestoring := rfl

theorem loseRow_spares (from_ : Nat) (s : State) (r : Nat × Nat) : Spares lossFields s (s.loseRow from_ r) :=
  .ite (fun h => .after (refreshPstat_spares _ h.1) (.setRow _ s _ _ _ fun _ => rfl)) fun _ => .refl _ s

theorem loseRow_restores (from_ : Nat) {s : State} {p r : Nat} (hp : p < 256) (ha : s.pActive p = true) :
    ((s.loseRow from_ (p, r)).row p r).restoring = true := by
  rw [State.loseRow, if_pos ⟨hp, ha⟩, row_refreshPstat, row_setRow_same]

theorem loseRow_svy (from_ : Nat) (s : State) (r : Nat × Nat) : (s.loseRow from_ r).svy = s.svy := by
  unfold State.loseRow
  split
  · rw [State.refreshPstat, State.setB_svy, State.setB_svy, State.setB_svy]
    rfl
  · rfl

theorem loseRows_spares (s : State) (from_ : Nat) (rows : List (Nat × Nat)) : Spares lossFields s (s.loseRows from_ rows) :=
  .after (refreshRestoring_spares _) (.forEach_mem rows _ (fun s r _ => loseRow_spares from_ s r) s)

theorem loseRows_restores {s : State} (from_ : Nat) {rows : List (Nat × Nat)} {p r : Nat} (hr : (p, r) ∈ rows) (hp : p < 256)
    (ha : s.pActive p = true) : ((s.loseRows from_ rows).row p r).restoring = true := by
  obtain ⟨u, hu, hk⟩ := Spares.forEach_at rows _ (loseRow_spares from_) hr s
  rw [loseRows_eq, row_refreshRestoring]
  exact hk.restoring p r (loseRow_restores from_ hp ((hu.pActive (by decide) hp).trans ha))

theorem loseRows_svy (s : State) (from_ : Nat) (rows : List (Nat × Nat)) : (s.loseRows from_ rows).svy = s.svy :=
  (forEach_keeps State.svy _ _ (fun _ _ => ⟨State.setB_svy ..⟩) _).trans
    (forEach_keeps State.svy rows _ (fun s r => ⟨loseRow_svy from_ s r⟩) s)

/-! ### A party lost (R114) -/

/-- What the move of a lost party's rows shows: the rows lost, the load and memory of every party. -/
def moveFields : List Fld := lossFields ++ [Fd.SVY_PLOAD_CMAX, Fd.SVY_PMEM_RING_LOW, Fd.SVY_PMEM_COEF_HIGH]

/-- What the loss of a party shows: it, the count of parties lost, and the move of its rows. -/
def partyFields : List Fld := moveFields ++ [Fd.SVY_PSTATE_LOST, Fd.SVY_SSTAT_PARTIES_LOST]

theorem refreshParties_spares (s : State) : Spares moveFields s s.refreshParties :=
  .forEach_mem _ _ (fun s q hq => by
    have hq : q < 32 := List.mem_range.1 hq
    exact .after (.set _ (g := Fd.SVY_PMEM_COEF_HIGH) (by decide) _ hq) (.after (.set _ (g := Fd.SVY_PMEM_RING_LOW) (by decide) _ hq)
      (.set s (g := Fd.SVY_PLOAD_CMAX) (by decide) _ hq))) s

theorem clearCoefs_spares (l : List Fld) (s : State) (rows : List (Nat × Nat)) : Spares l s (s.clearCoefs rows) :=
  .forEach_mem rows _ (fun s r _ => .setRow l s r.1 r.2 { s.row r.1 r.2 with coef := [] } fun h => h) s

/-- The party is marked lost and counted. -/
def State.markParty (s : State) (q : Nat) : State := (s.setB Fd.SVY_PSTATE_LOST true q).addSat Fd.SVY_SSTAT_PARTIES_LOST 1

/-- The rows that a party held close, with the parties' registers brought in line and SVY_PARTY raised. -/
def State.closeParty (s : State) (rows : List (Nat × Nat)) (inj : Bool) : State :=
  (((s.clearCoefs rows).loseRows (s.time.gt + 1) rows).refreshParties).pulseInj 252 inj 0 0

theorem loseParty_eq (s : State) (q : Nat) (inj : Bool) : s.loseParty q inj =
    if s.getB Fd.SVY_PSTATE_LOST q then s
    else State.closeParty { s.markParty q with svy := (s.markParty q).placeEach q }
      ((s.svy.runs.filter fun r => r.party == q).flatMap Run.list) inj := rfl

theorem closeParty_spares (s : State) (rows : List (Nat × Nat)) (inj : Bool) : Spares moveFields s (s.closeParty rows inj) :=
  .after (.of_raised _ (pulseInj_raised _ inj 0 0 (by decide))) (.after (refreshParties_spares _)
    (.after ((loseRows_spares ..).mono (List.subset_append_left ..)) (clearCoefs_spares ..)))

theorem moveParty_spares (s : State) (q : Nat) (rows : List (Nat × Nat)) (inj : Bool) :
    Spares moveFields s (State.closeParty { s with svy := s.placeEach q } rows inj) :=
  .after (closeParty_spares ..) (.withSvy ..)

section
variable (s : State) {q : Nat} (hq : q < 32) (inj : Bool)
include hq

theorem markParty_spares : Spares partyFields s (s.markParty q) :=
  .after (.addSat _ (g := Fd.SVY_SSTAT_PARTIES_LOST) (by decide) _ Nat.one_pos) (.setB s (g := Fd.SVY_PSTATE_LOST) (by decide) _ hq)

theorem markParty_lost : (s.markParty q).getB Fd.SVY_PSTATE_LOST q = true :=
  (getB_of_get (get_set_clear _ (f := Fd.SVY_PSTATE_LOST) (g := Fd.SVY_SSTAT_PARTIES_LOST) (by decide) _ hq Nat.one_pos)).trans
    (getB_setB_same s Fd.SVY_PSTATE_LOST true q 0 (fits_of rfl) (by decide))

theorem loseParty_spares : Spares partyFields s (s.loseParty q inj) := by
  rw [loseParty_eq]
  exact .ite (fun _ => .refl _ s) fun _ => .after ((moveParty_spares ..).mono (List.subset_append_left ..)) (markParty_spares s hq)

theorem loseParty_lost : (s.loseParty q inj).getB Fd.SVY_PSTATE_LOST q = true := by
  rw [loseParty_eq]
  split
  · assumption
  · exact ((moveParty_spares ..).getB Fd.SVY_PSTATE_LOST (by decide) hq).trans (markParty_lost s hq)

end

/-! ### ENGINE_WATCHDOG and RESIDUE_FAILURE (R111, R112) -/

/-- The mask of the engines left to a party when engine `e` goes. -/
def State.maskWithout (s : State) (e : Nat) : Nat := maskClear (s.get Fd.SVY_PSTATE_ENG_MASK (e / 8)) (2 ^ (e % 8))

/-- The engine's bit of ENG_LOST, and the count of engines lost. -/
def State.markEngine (s : State) (e : Nat) : State :=
  (s.set Fd.SVY_ENG_LOST_LOST (s.get Fd.SVY_ENG_LOST_LOST (e / 32) + 2 ^ (e % 32)) (e / 32)).addSat Fd.SVY_SSTAT_ENG_LOST 1

/-- The engines left to a party. -/
def State.leaveEngines (s : State) (q mask : Nat) : State :=
  (s.set Fd.SVY_PSTATE_ENG_MASK mask q).set Fd.SVY_PSTATE_ENG_LIVE (maskList mask 8).length q

/-- A party of six engines or fewer is lost. -/
def State.judgeParty (s : State) (q mask : Nat) : State := if (maskList mask 8).length ≤ 6 then s.loseParty q else s

theorem fenceEngine_eq (s : State) (e : Nat) : s.fenceEngine e =
    if s.fenced e then s
    else ((((s.markEngine e).leaveEngines (e / 8) ((s.markEngine e).maskWithout e)).returnPiece e).pulse 248).judgeParty (e / 8)
      ((s.markEngine e).maskWithout e) := rfl

theorem returnPiece_spares (l : List Fld) (s : State) (e : Nat) : Spares l s (s.returnPiece e) := by
  unfold State.returnPiece
  split
  · exact .refl l s
  · exact .withSvy ..

theorem maskWithout_lt (s : State) (e : Nat) : s.maskWithout e < 2 ^ 8 :=
  Nat.lt_of_le_of_lt (Nat.sub_le ..) (get_lt s Fd.SVY_PSTATE_ENG_MASK (e / 8) 0)

theorem maskList_length_le (m n : Nat) : (maskList m n).length ≤ n :=
  (List.length_filter_le ..).trans (List.length_range ..).le

/-- A bit that is clear in a word is set by adding it. -/
theorem bit_add_two_pow {m b : Nat} (hb : b < 32) (h : bit m b = false) : bit ((m + 2 ^ b) % 2 ^ 32) b = true := by
  unfold bit at h ⊢
  rw [Nat.testBit_mod_two_pow, decide_eq_true hb, Nat.add_comm, Nat.testBit_two_pow_add_eq, h]
  rfl

section
variable (s : State) (e : Fin 256)

theorem markEngine_lost (h : s.fenced e = false) : bit ((s.markEngine e).get Fd.SVY_ENG_LOST_LOST (e / 32)) (e % 32) = true := by
  have he : e.val / 32 < 8 := by omega
  unfold State.markEngine State.addSat
  rw [get_set_clear _ (f := Fd.SVY_ENG_LOST_LOST) (g := Fd.SVY_SSTAT_ENG_LOST) (by decide) _ he Nat.one_pos,
    get_set_same _ Fd.SVY_ENG_LOST_LOST _ _ 0 (fits_of rfl)]
  exact bit_add_two_pow (Nat.mod_lt _ (by decide)) h

theorem markEngine_maskWithout : (s.markEngine e).maskWithout e = s.maskWithout e := by
  have he : e.val / 32 < 8 := by omega
  have hq : e.val / 8 < 32 := by omega
  unfold State.maskWithout State.markEngine State.addSat
  rw [get_set_clear _ (f := Fd.SVY_PSTATE_ENG_MASK) (g := Fd.SVY_SSTAT_ENG_LOST) (by decide) _ hq Nat.one_pos,
    get_set_clear _ (f := Fd.SVY_PSTATE_ENG_MASK) (g := Fd.SVY_ENG_LOST_LOST) (by decide) _ hq he]

end

/-- A party with the engines left to it. -/
structure EnginesLeft (s : State) (q mask : Nat) : Prop where
  engines : s.get Fd.SVY_PSTATE_ENG_MASK q = mask
  live : s.get Fd.SVY_PSTATE_ENG_LIVE q = (maskList mask 8).length

section
variable (s : State) {q mask : Nat} (hq : q < 32)
include hq

theorem leaveEngines_left (hm : mask < 2 ^ 8) : EnginesLeft (s.leaveEngines q mask) q mask where
  engines := (get_set_clear _ (f := Fd.SVY_PSTATE_ENG_MASK) (g := Fd.SVY_PSTATE_ENG_LIVE) (by decide) _ hq hq).trans
    (get_set_of_lt s (f := Fd.SVY_PSTATE_ENG_MASK) q 0 (fits_of rfl) hm)
  live := get_set_of_lt _ (f := Fd.SVY_PSTATE_ENG_LIVE) q 0 (fits_of rfl)
    (Nat.lt_of_le_of_lt (maskList_length_le mask 8) (by decide))

theorem leaveEngines_spares : Spares [Fd.SVY_PSTATE_ENG_MASK, Fd.SVY_PSTATE_ENG_LIVE] s (s.leaveEngines q mask) :=
  .after (.set _ (g := Fd.SVY_PSTATE_ENG_LIVE) (by decide) _ hq) (.set s (g := Fd.SVY_PSTATE_ENG_MASK) (by decide) _ hq)

theorem judgeParty_spares : Spares partyFields s (s.judgeParty q mask) := .ite (fun _ => loseParty_spares s hq false) fun _ => .refl _ s

theorem judgeParty_lost (h : (maskList mask 8).length ≤ 6) : (s.judgeParty q mask).getB Fd.SVY_PSTATE_LOST q = true := by
  rw [State.judgeParty, if_pos h]
  exact loseParty_lost s hq false

end

theorem EnginesLeft.kept {l : List Fld} {s t : State} {q mask : Nat} (h : EnginesLeft s q mask) (k : Spares l s t) (hq : q < 32)
    (hm : Fd.SVY_PSTATE_ENG_MASK.sparedBy l = true) (hv : Fd.SVY_PSTATE_ENG_LIVE.sparedBy l = true) : EnginesLeft t q mask :=
  ⟨(k.fields _ q hm hq).trans h.engines, (k.fields _ q hv hq).trans h.live⟩

/-- Engine `e` is fenced, and its party is left with `mask`. -/
structure EngineFenced (t : State) (e mask : Nat) : Prop where
  lost : bit (t.get Fd.SVY_ENG_LOST_LOST (e / 32)) (e % 32) = true
  left : EnginesLeft t (e / 8) mask
  party : (maskList mask 8).length ≤ 6 → t.getB Fd.SVY_PSTATE_LOST (e / 8) = true

theorem fenceEngine_again {s : State} {e : Nat} (h : s.fenced e = true) : s.fenceEngine e = s := by rw [fenceEngine_eq, if_pos h]

theorem fenceEngine_fences {s : State} {e : Fin 256} (h : s.fenced e = false) : EngineFenced (s.fenceEngine e) e (s.maskWithout e) := by
  have he : e.val / 32 < 8 := by omega
  have hq : e.val / 8 < 32 := by omega
  rw [fenceEngine_eq, if_neg (by simp [h]), markEngine_maskWithout]
  have hr (u : State) : Spares partyFields u ((u.returnPiece e).pulse 248) :=
    .after (.of_raised _ (pulse_raised _ (by decide))) (returnPiece_spares ..)
  have hk (u : State) : Spares partyFields u (((u.returnPiece e).pulse 248).judgeParty (e / 8) (s.maskWithout e)) :=
    .after (judgeParty_spares _ hq) (hr u)
  refine ⟨?_, (leaveEngines_left _ hq (maskWithout_lt s e)).kept (hk _) hq (by decide) (by decide), judgeParty_lost _ hq⟩
  rw [(hk _).fields Fd.SVY_ENG_LOST_LOST _ (by decide) he, (leaveEngines_spares _ hq).fields Fd.SVY_ENG_LOST_LOST _ (by decide) he]
  exact markEngine_lost s e h

theorem exec_engineWatchdog (e : Fin 256) (s : State) : exec (.engineWatchdog e) s = s.whenLive (.next (s.fenceEngine e)) := rfl

theorem exec_residueFailure (e : Fin 256) (s : State) : exec (.residueFailure e) s = s.whenLive (.next (s.fenceEngine e)) := rfl

theorem exec_fences {s : State} (hs : s.alive = true) {e : Fin 256} {i : Instr} (hi : i = .engineWatchdog e ∨ i = .residueFailure e) :
    exec i s = .next ((s.fenceEngine e).putBack s) := by
  rcases hi with rfl | rfl
  · exact exec_next hs (exec_engineWatchdog e s)
  · exact exec_next hs (exec_residueFailure e s)

/-! ### SVY_ECC_CE (R113) -/

/-- An injection is taken from those armed, and from nothing else. -/
theorem takeBits_eq (s : State) (code inst bits : Nat) :
    ∃ l, (s.takeBits code inst bits).1 = { s with flt := { s.flt with armed := l } } := by
  unfold State.takeBits
  split
  · exact ⟨_, rfl⟩
  · exact ⟨s.flt.armed, rfl⟩

theorem takeBits_get (s : State) (code inst bits : Nat) (f : Fld) (i j : Nat) :
    (s.takeBits code inst bits).1.get f i j = s.get f i j := by
  obtain ⟨l, hl⟩ := takeBits_eq s code inst bits
  rw [hl]
  rfl

/-- The state with the party's correctable error counted. -/
def State.countCe (s : State) (q : Nat) : State :=
  (s.takeBits 2 q 1).1.set Fd.SVY_PECC_CE (min (s.get Fd.SVY_PECC_CE q + 1) (2 ^ Fd.SVY_PECC_CE.width - 1)) q

theorem exec_svyEccCe (q : Fin 32) (s : State) : exec (.svyEccCe q) s = s.whenLive (.next (
    ((s.takeBits 2 q 1).1.addSat Fd.SVY_PECC_CE 1 q).pulseInj 246 (s.takeBits 2 q 1).2 0 0)) := rfl

theorem svyEccCe_counts {s : State} (hs : s.alive = true) (q : Fin 32) :
    ∃ t, exec (.svyEccCe q) s = .next t ∧ OnlyRaised (s.countCe q) t := by
  have e := exec_next hs (exec_svyEccCe q s)
  have hr := pulseInj_raised (s.countCe q) (src := 246) (s.takeBits 2 q 1).2 0 0 (by decide)
  rw [State.addSat, takeBits_get, ← State.countCe] at e
  obtain ⟨l, hl⟩ := takeBits_eq s 2 q 1
  refine ⟨_, e, ?_⟩
  rw [putBack_self (hr.time.trans ?_) (hr.pending.trans ?_)]
  · exact hr
  all_goals rw [State.countCe, hl]; rfl

/-! ### SVY_ECC_UE: the rows that a word of a party's SRAM serves (R102, R113) -/

/-- `t` has the paths, the SRAM allocation and the registers below those of the survey of `s`. -/
structure SameLayout (s t : State) : Prop where
  can : t.can = s.can
  runs : t.svy.runs = s.svy.runs
  rings : t.svy.rings = s.svy.rings
  rowUnits : t.svy.rowUnits = s.svy.rowUnits
  regs : ∀ o < 0x18000, t.reg o = s.reg o

/-- The chain taken from its end. -/
theorem SameLayout.after {s t u : State} (k : SameLayout t u) (h : SameLayout s t) : SameLayout s u :=
  ⟨k.can.trans h.can, k.runs.trans h.runs, k.rings.trans h.rings, k.rowUnits.trans h.rowUnits,
    fun o ho => (k.regs o ho).trans (h.regs o ho)⟩

theorem SameLayout.of_raised {s t : State} (h : OnlyRaised s t) : SameLayout s t :=
  ⟨h.can, by rw [h.svy], by rw [h.svy], by rw [h.svy], fun _ ho => h.low (by omega)⟩

section
variable {s t : State} (h : SameLayout s t)
include h

theorem SameLayout.pathX (p : Nat) : t.pathX p = s.pathX p := by rw [State.pathX, State.pathX, h.can]

theorem SameLayout.pActive {p : Nat} (hp : p < 256) : t.pActive p = s.pActive p :=
  getB_of_get (get_of_reg Fd.CAN_PSTAT_ACTIVE (h.regs _ (by simp only [RegDesc.off, Fd.CAN_PSTAT_ACTIVE, Reg.CAN_PSTAT]; omega)))

/-- A field of the path registers as the surveyors see it. -/
theorem SameLayout.pField (f : Fld) (i : Nat) {p : Nat} (hf : f.reg.off p 0 < 0x18000) : t.pField f i p = s.pField f i p := by
  rw [State.pField, State.pField, h.pathX, get_of_reg f (h.regs _ hf)]

variable {p : Nat} (hp : p < 256)
include hp

theorem SameLayout.pTaps : t.pTaps p = s.pTaps p :=
  h.pField Fd.CAN_PCFG1_TAPS 1 (by simp only [RegDesc.off, Fd.CAN_PCFG1_TAPS, Reg.CAN_PCFG1]; omega)

theorem SameLayout.pFirst : t.pFirst p = s.pFirst p :=
  h.pField Fd.CAN_PCFG0_FIRST 0 (by simp only [RegDesc.off, Fd.CAN_PCFG0_FIRST, Reg.CAN_PCFG0]; omega)

theorem SameLayout.pCubic : t.pCubic p = s.pCubic p :=
  congrArg (· != 0) (h.pField Fd.CAN_PCFG0_BASIS 0 (by simp only [RegDesc.off, Fd.CAN_PCFG0_BASIS, Reg.CAN_PCFG0]; omega))

theorem SameLayout.pWin : t.pWin p = s.pWin p :=
  h.pField Fd.CAN_PCFG0_WIN 0 (by simp only [RegDesc.off, Fd.CAN_PCFG0_WIN, Reg.CAN_PCFG0]; omega)

omit h hp in
theorem pWin_lt {p : Nat} (hx : s.pathX p = none) : s.pWin p < 16 := by
  rw [State.pWin, State.pField, hx]
  exact get_lt s Fd.CAN_PCFG0_WIN p 0

theorem SameLayout.pTx : t.pTx p = s.pTx p := by
  unfold State.pTx
  rw [h.pathX, h.pWin hp]
  cases hx : s.pathX p with
  | some x => rfl
  | none =>
    have hw := pWin_lt hx
    have hb : t.getB Fd.CAN_PCFG0_TXB p = s.getB Fd.CAN_PCFG0_TXB p := getB_of_get (get_of_reg Fd.CAN_PCFG0_TXB
      (h.regs _ (by simp only [RegDesc.off, Fd.CAN_PCFG0_TXB, Reg.CAN_PCFG0]; omega)))
    have hl : t.reg (Reg.CHN_WLANE.off (s.pWin p) 0) = s.reg (Reg.CHN_WLANE.off (s.pWin p) 0) :=
      h.regs _ (by simp only [RegDesc.off, Reg.CHN_WLANE]; omega)
    simp only []
    rw [hb, get_of_reg Fd.CHN_WLANE_TX_B hl, get_of_reg Fd.CHN_WLANE_TX_A hl]

end

/-- The rows of a run whose coefficients a word of the SRAM holds. -/
def State.runRowsAt (s : State) (word : Nat) (r : Run) : List (Nat × Nat) :=
  let b := 6 * s.pTaps r.path
  let off := 8 * word - 64 * r.unit
  if 64 * r.unit ≤ 8 * word ∧ off < b * r.rows then
    ((List.range 3).map fun k => off / b + k).filterMap fun i => if b * i < off + 8 ∧ i < r.rows then some (r.path, r.row + i) else none
  else []

theorem rowsAt_eq (s : State) (q word : Nat) : s.rowsAt q word =
    (s.svy.runs.filter fun r => r.party == q).flatMap (s.runRowsAt word) ++
      (s.svy.rowUnits.filter fun r => r.party == q && r.unit == word / 8 && r.half == word % 8 / 4).map fun r => (r.path, r.row) := rfl

theorem path_of_runRowsAt {s : State} {word : Nat} {r : Run} {x : Nat × Nat} (h : x ∈ s.runRowsAt word r) : x.1 = r.path := by
  simp only [State.runRowsAt] at h
  split at h
  · obtain ⟨i, -, hi⟩ := List.mem_filterMap.1 h
    split at hi
    · rw [← Option.some.inj hi]
    · exact absurd hi nofun
  · exact absurd h List.not_mem_nil

/-- The run reads the ring of a stream. -/
def State.runReads (s : State) (q lane : Nat) (cubic : Bool) (sub : Nat) (r : Run) : Bool :=
  r.party == q && s.pTx r.path == lane && s.pCubic r.path == cubic &&
    decide (s.pFirst r.path + r.row ≤ sub ∧ sub < s.pFirst r.path + r.row + r.rows)

theorem ringRows_eq (s : State) (q lane : Nat) (cubic : Bool) (sub : Nat) : s.ringRows q lane cubic sub =
    (s.svy.runs.filter (s.runReads q lane cubic sub)).map fun r => (r.path, sub - s.pFirst r.path) := rfl

section
variable {s t : State} (h : SameLayout s t)
include h

theorem SameLayout.ringAt (q word : Nat) : t.ringAt q word = s.ringAt q word := by rw [State.ringAt, State.ringAt, h.rings]

variable {x : Nat × Nat} (hx : x.1 < 256)
include hx

theorem SameLayout.mem_rowsAt {q word : Nat} (hr : x ∈ s.rowsAt q word) : x ∈ t.rowsAt q word := by
  rw [rowsAt_eq] at hr ⊢
  rw [h.runs, h.rowUnits]
  refine List.mem_append.2 ((List.mem_append.1 hr).imp (fun hc => ?_) id)
  obtain ⟨r, hr, hm⟩ := List.mem_flatMap.1 hc
  refine List.mem_flatMap.2 ⟨r, hr, ?_⟩
  unfold State.runRowsAt
  rwa [h.pTaps (path_of_runRowsAt hm ▸ hx)]

theorem SameLayout.mem_ringRows {q lane sub : Nat} {cubic : Bool} (hr : x ∈ s.ringRows q lane cubic sub) :
    x ∈ t.ringRows q lane cubic sub := by
  rw [ringRows_eq] at hr ⊢
  rw [h.runs]
  obtain ⟨r, hm, rfl⟩ := List.mem_map.1 hr
  obtain ⟨hm, hd⟩ := List.mem_filter.1 hm
  have hp : r.path < 256 := hx
  refine List.mem_map.2 ⟨r, List.mem_filter.2 ⟨hm, ?_⟩, by rw [h.pFirst hp]⟩
  unfold State.runReads at hd ⊢
  rwa [h.pTx hp, h.pCubic hp, h.pFirst hp]

end

/-! ### SVY_ECC_UE (R113, R114) -/

/-- An uncorrectable error in PECC.UE, and SVY_ECC_UE raised. -/
def State.noteUe (s : State) (q : Nat) : State :=
  ((s.takeBits 2 q 2).1.addSat Fd.SVY_PECC_UE 1 q).pulseInj 247 (s.takeBits 2 q 2).2 0 0

/-- The rows that a word serves are lost; of a word in a ring, the ring is zeroed and the rows that read it are. -/
def State.loseWord (s : State) (q word : Nat) : State :=
  match s.ringAt q word with
  | some g => (s.zeroRing q g.lane g.cubic g.sub).loseRows (s.time.gt + 1) (s.ringRows q g.lane g.cubic g.sub)
  | none => s.loseRows (s.time.gt + 1) (s.rowsAt q word)

theorem takeBits_layout (s : State) (code inst bits : Nat) : SameLayout s (s.takeBits code inst bits).1 := by
  obtain ⟨l, hl⟩ := takeBits_eq s code inst bits
  rw [hl]
  exact ⟨rfl, rfl, rfl, rfl, fun _ _ => rfl⟩

theorem addUe_layout (s : State) (q : Nat) : SameLayout s (s.addSat Fd.SVY_PECC_UE 1 q) where
  can := State.addSat_can ..
  runs := congrArg Survey.runs (State.addSat_svy ..)
  rings := congrArg Survey.rings (State.addSat_svy ..)
  rowUnits := congrArg Survey.rowUnits (State.addSat_svy ..)
  regs o ho := reg_set_other s Fd.SVY_PECC_UE _ q 0 (by simp only [RegDesc.off, Fd.SVY_PECC_UE, Reg.SVY_PECC]; omega)

theorem countUe_layout (s : State) (q : Nat) : SameLayout s (s.countUe q).1 := ⟨rfl, rfl, rfl, rfl, fun _ _ => rfl⟩

theorem countUe_spares (l : List Fld) (s : State) (q : Nat) : Spares l s (s.countUe q).1 := .withSvy ..

section
variable (s : State) (q : Nat)

theorem noteUe_raised : OnlyRaised ((s.takeBits 2 q 2).1.addSat Fd.SVY_PECC_UE 1 q) (s.noteUe q) := pulseInj_raised _ _ _ _ (by decide)

theorem noteUe_layout : SameLayout s (s.noteUe q) :=
  .after (.of_raised (noteUe_raised s q)) (.after (addUe_layout ..) (takeBits_layout ..))

theorem noteUe_svy : (s.noteUe q).svy = s.svy := by
  obtain ⟨l, hl⟩ := takeBits_eq s 2 q 2
  rw [(noteUe_raised s q).svy, State.addSat_svy, hl]

theorem noteUe_time : (s.noteUe q).time = s.time := by
  obtain ⟨l, hl⟩ := takeBits_eq s 2 q 2
  rw [(noteUe_raised s q).time, State.addSat_time, hl]

theorem noteUe_counts {q : Nat} (hq : q < 32) :
    (s.noteUe q).get Fd.SVY_PECC_UE q = min (s.get Fd.SVY_PECC_UE q + 1) (2 ^ Fd.SVY_PECC_UE.width - 1) := by
  rw [(Spares.of_raised [] (noteUe_raised s q)).fields Fd.SVY_PECC_UE q (by decide) hq,
    get_addSat_same _ Fd.SVY_PECC_UE 1 q 0 (fits_of rfl), takeBits_get]

/-- The fourth error of a party within its second. -/
theorem countUe_fourth (hn : 3 ≤ (mapGet (0, 0) s.svy.ue q).2) (ht : s.time.gt < (mapGet (0, 0) s.svy.ue q).1 + 640000) :
    ((s.noteUe q).countUe q).2 = true := by
  unfold State.countUe
  simp only []
  rw [noteUe_svy, noteUe_time, if_pos ⟨by omega, ht⟩]
  exact decide_eq_true (Nat.succ_le_succ hn)

end

theorem loseWord_spares (s : State) (q word : Nat) : Spares lossFields s (s.loseWord q word) := by
  unfold State.loseWord
  split
  · exact .after (loseRows_spares ..) (.withSvy ..)
  · exact loseRows_spares ..

section
variable {s : State} {q word : Nat} {r : Nat × Nat} (hp : r.1 < 256) (ha : s.pActive r.1 = true)
include hp ha

theorem loseWord_restores_rows (hg : s.ringAt q word = none) (hr : r ∈ s.rowsAt q word) :
    ((s.loseWord q word).row r.1 r.2).restoring = true := by
  rw [State.loseWord, hg]
  exact loseRows_restores _ hr hp ha

theorem loseWord_restores_ring {g : RefRing} (hg : s.ringAt q word = some g) (hr : r ∈ s.ringRows q g.lane g.cubic g.sub) :
    ((s.loseWord q word).row r.1 r.2).restoring = true := by
  rw [State.loseWord, hg]
  exact loseRows_restores _ hr hp ha

end

/-- The loss of the party, where the error is the fourth of its second. -/
def State.judgeUe (s : State) (q : Nat) (fourth inj : Bool) : State := if fourth then s.loseParty q inj else s

theorem judgeUe_spares (s : State) {q : Nat} (hq : q < 32) (fourth inj : Bool) : Spares partyFields s (s.judgeUe q fourth inj) :=
  .ite (fun _ => loseParty_spares s hq inj) fun _ => .refl _ s

theorem judgeUe_lost (s : State) {q : Nat} (hq : q < 32) (inj : Bool) : (s.judgeUe q true inj).getB Fd.SVY_PSTATE_LOST q = true :=
  loseParty_lost s hq inj

theorem exec_svyEccUe (q : Fin 32) (site : EccSite) (s : State) : exec (.svyEccUe q site) s = s.whenLive (.next (
    (((s.noteUe q).countUe q).1.loseWord q site).judgeUe q ((s.noteUe q).countUe q).2 (s.takeBits 2 q 2).2)) := by
  change execSvyEccUe q site s = _
  unfold execSvyEccUe State.noteUe
  obtain ⟨u, inj⟩ := s.takeBits 2 q 2
  simp only []
  obtain ⟨v, fourth⟩ := ((u.addSat Fd.SVY_PECC_UE 1 q).pulseInj 247 inj 0 0).countUe q
  rfl

theorem svyEccUe_restores {s : State} (hs : s.alive = true) (q : Fin 32) (site : EccSite) : ∃ t, exec (.svyEccUe q site) s = .next t ∧
    t.get Fd.SVY_PECC_UE q = min (s.get Fd.SVY_PECC_UE q + 1) (2 ^ Fd.SVY_PECC_UE.width - 1) ∧
    (s.ringAt q site = none → ∀ r ∈ s.rowsAt q site, r.1 < 256 → s.pActive r.1 = true → (t.row r.1 r.2).restoring = true) ∧
    (∀ g, s.ringAt q site = some g → ∀ r ∈ s.ringRows q g.lane g.cubic g.sub, r.1 < 256 → s.pActive r.1 = true →
      (t.row r.1 r.2).restoring = true) ∧
    (3 ≤ (mapGet (0, 0) s.svy.ue q).2 → s.time.gt < (mapGet (0, 0) s.svy.ue q).1 + 640000 → t.getB Fd.SVY_PSTATE_LOST q = true) := by
  have hl := (countUe_layout (s.noteUe q) q).after (noteUe_layout s q)
  have hj (u : State) := judgeUe_spares u q.isLt ((s.noteUe q).countUe q).2 (s.takeBits 2 q 2).2
  refine ⟨_, exec_next hs (exec_svyEccUe q site s), ?_, fun hg r hr hp ha => ?_, fun g hg r hr hp ha => ?_, fun hn ht => ?_⟩
  · rw [putBack_get, (hj _).fields Fd.SVY_PECC_UE q (by decide) q.isLt,
      (loseWord_spares ..).fields Fd.SVY_PECC_UE q (by decide) q.isLt, (countUe_spares [] ..).fields Fd.SVY_PECC_UE q (by decide) q.isLt]
    exact noteUe_counts s q.isLt
  · rw [row_putBack]
    exact (hj _).restoring _ _ (loseWord_restores_rows hp ((hl.pActive hp).trans ha) ((hl.ringAt ..).trans hg) (hl.mem_rowsAt hp hr))
  · rw [row_putBack]
    exact (hj _).restoring _ _ (loseWord_restores_ring hp ((hl.pActive hp).trans ha) ((hl.ringAt ..).trans hg) (hl.mem_ringRows hp hr))
  · rw [putBack_getB, countUe_fourth s q hn ht]
    exact judgeUe_lost _ q.isLt _

/-! ### CROSSBAR_PARITY (R114) -/

theorem exec_crossbarParity (q : Fin 32) (s : State) : exec (.crossbarParity q) s = s.whenLive (.next (
    (s.takeInjection 6 q).1.loseParty q (s.takeInjection 6 q).2.isSome)) := rfl

theorem crossbarParity_loses {s : State} (hs : s.alive = true) (q : Fin 32) :
    ∃ t, exec (.crossbarParity q) s = .next t ∧ t.getB Fd.SVY_PSTATE_LOST q = true :=
  ⟨_, exec_next hs (exec_crossbarParity q s), (putBack_getB ..).trans (loseParty_lost _ q.isLt _)⟩

/-! ### COVER_TEST_DONE (R115) -/

/-- The survey's allocation, and what SSTAT and COVER show. -/
def State.coverView (s : State) : Survey × Word × Word := (s.svy, s.reg (Reg.SVY_SSTAT.off 0 0), s.reg (Reg.SVY_COVER.off 0 0))

theorem OnlyRaised.coverView {s t : State} (h : OnlyRaised s t) : t.coverView = s.coverView := by
  unfold State.coverView
  rw [h.svy, h.low (by decide), h.low (by decide)]

theorem OnlyAnswered.coverView {m : Nat} {s t : State} (h : OnlyAnswered m s t) : t.coverView = s.coverView := by
  unfold State.coverView
  rw [h.svy, h.low (by decide), h.low (by decide)]

theorem setB_coverView (s : State) (f : Fld) (v : Bool) (i : Nat) (h : f.reg.off i 0 < 0x18000 ∨ 0x19000 ≤ f.reg.off i 0) :
    (s.setB f v i).coverView = s.coverView := by
  have hs : Reg.SVY_SSTAT.off 0 0 ≠ f.reg.off i 0 := by simp only [RegDesc.off, Reg.SVY_SSTAT] at h ⊢; omega
  have hc : Reg.SVY_COVER.off 0 0 ≠ f.reg.off i 0 := by simp only [RegDesc.off, Reg.SVY_COVER] at h ⊢; omega
  unfold State.coverView State.setB
  rw [State.set_svy, reg_set_other s f _ i 0 hs, reg_set_other s f _ i 0 hc]

theorem disablePath_coverView (s : State) (p : Nat) : (s.disablePath p).coverView = s.coverView := by
  have hc (u : State) (c : Canceller) : State.coverView { u with can := c } = u.coverView := rfl
  unfold State.disablePath
  refine (hc ..).trans ?_
  split
  · exact setB_coverView s Fd.CAN_PCFG0_EN false p (by simp only [RegDesc.off, Fd.CAN_PCFG0_EN, Reg.CAN_PCFG0]; omega)
  · rfl

theorem awaitInit_coverView (s : State) (d : Nat) : (s.awaitInit d).coverView = s.coverView := by
  have hd (u : State) (x : DomX) : (u.setDomX d x).coverView = u.coverView := rfl
  exact (setB_coverView _ Fd.CON_GAPP_CLOSED true d (.inr (by simp only [RegDesc.off, Fd.CON_GAPP_CLOSED, Reg.CON_GAPP]; omega))).trans
    (hd ..)

theorem noteRunning_coverView (s : State) (w : Nat) (was now : Bool) : (s.noteRunning w was now).coverView = s.coverView := by
  have hc (u : State) (c : Canceller) : State.coverView { u with can := c } = u.coverView := rfl
  have hb : (if now != was then { s with can := { s.can with broke := s.can.broke ||| 2 ^ w } } else s).coverView = s.coverView := by
    split
    · exact hc ..
    · rfl
  unfold State.noteRunning
  simp only []
  split
  · exact (forEach_keeps State.coverView _ _ (fun u d => ⟨awaitInit_coverView u d⟩) _).trans hb
  · exact hb

theorem unbindWindow_coverView (s : State) {w : Nat} (hw : w < 16) : (s.unbindWindow w).coverView = s.coverView := by
  have hd : (s.dropBinding w).coverView = s.coverView := rfl
  rw [unbindWindow_eq, refreshRunning_eq, noteRunning_coverView,
    setB_coverView _ Fd.CHN_WSTAT_RUNNING _ w (.inl (by simp only [RegDesc.off, Fd.CHN_WSTAT_RUNNING, Reg.CHN_WSTAT]; omega)),
    setB_coverView _ Fd.CHN_WCTL_EN _ w (.inl (by simp only [RegDesc.off, Fd.CHN_WCTL_EN, Reg.CHN_WCTL]; omega)), hd]

/-- The parties whose loss finds a place for every row. -/
def State.coverMask (s : State) : Nat := listMask ((List.range 32).filter fun q => (s.placeLost q).isSome)

/-- The result of the test in COVER and SSTAT. -/
def State.showCover (s : State) (cover : Nat) : State :=
  ((s.set Fd.SVY_COVER_PARTY cover).setB Fd.SVY_SSTAT_COVER_BUSY false).setB Fd.SVY_SSTAT_COVER_ALL (decide (cover = 2 ^ 32 - 1))

/-- The paths bound since the last test have been tested. -/
def State.takeFresh (s : State) : State := { s with svy := { s.svy with fresh := [] } }

/-- The paths bound since the last test: disabled where firmware refuses them, else named by SVY_COVER. -/
def State.judgeFresh (s : State) (fresh : List Nat) (refuse all : Bool) : State :=
  if refuse then forEach fresh s State.disablePath
  else if all || fresh.isEmpty then s
  else s.pulseOn 241 0 (fresh.foldl (fun a p => a ||| listMask (s.pathDomains p)) 0)

/-- A PATH_ENABLE that waited for the test. -/
def State.answerPaths (refuse : Bool) (s : State) (w : PathWait) : State :=
  if refuse then (forEach w.paths s State.disablePath).complete w.mb w.cmd 0xD else s.complete w.mb w.cmd 0

/-- A window command that waited for the test. -/
def State.answerWindows (refuse : Bool) (s : State) (w : WinWait) : State :=
  if refuse then
    (forEach (maskList w.mask 16) s State.unbindWindow).complete w.mb w.cmd 0xD [wd ((maskList w.mask 16).headD 0)]
  else s.complete w.mb w.cmd 0

/-- The commands that waited for the test are answered. -/
def State.answerCover (s : State) (refuse : Bool) : State :=
  let done := s.can.waits.filter fun w => w.enable && w.bound
  let s := { s with can := { s.can with waits := s.can.waits.filter fun w => !(w.enable && w.bound) } }
  let s := forEach done s (State.answerPaths refuse)
  let wins := s.win.enables.filter fun w => w.covering
  let s := { s with win := { s.win with enables := s.win.enables.filter fun w => !w.covering } }
  forEach wins s (State.answerWindows refuse)

/-- What follows the result of the test. -/
def State.endCover (s : State) (all : Bool) : State :=
  let fresh := s.svy.fresh
  let s := s.takeFresh
  let refuse := !all && !fresh.isEmpty && s.legN 0x2200 == 1
  (s.judgeFresh fresh refuse all).answerCover refuse

theorem exec_coverTestDone (s : State) : exec .coverTestDone s = s.whenLive (.next (
    if s.getB Fd.SVY_SSTAT_COVER_BUSY then (s.showCover s.coverMask).endCover (decide (s.coverMask = 2 ^ 32 - 1)) else s)) := rfl

theorem judgeFresh_coverView (s : State) (fresh : List Nat) (refuse all : Bool) :
    (s.judgeFresh fresh refuse all).coverView = s.coverView := by
  unfold State.judgeFresh
  split
  · exact forEach_keeps State.coverView _ _ (fun u p => ⟨disablePath_coverView u p⟩) s
  · split
    · rfl
    · exact (pulseOn_raised s 0 _ (by decide)).coverView

theorem answerPaths_coverView (refuse : Bool) (s : State) (w : PathWait) : (s.answerPaths refuse w).coverView = s.coverView := by
  unfold State.answerPaths
  split
  · exact (complete_answered ..).coverView.trans (forEach_keeps State.coverView _ _ (fun u p => ⟨disablePath_coverView u p⟩) s)
  · exact (complete_answered ..).coverView

theorem mem_maskList {m n b : Nat} : b ∈ maskList m n ↔ b < n ∧ m.testBit b = true := by rw [maskList, List.mem_filter, List.mem_range]

theorem answerWindows_coverView (refuse : Bool) (s : State) (w : WinWait) : (s.answerWindows refuse w).coverView = s.coverView := by
  unfold State.answerWindows
  split
  · refine (complete_answered ..).coverView.trans (forEach_keeps_mem State.coverView _ _ (fun u v hv => ⟨?_⟩) s)
    exact unbindWindow_coverView u (mem_maskList.1 hv).1
  · exact (complete_answered ..).coverView

theorem answerCover_coverView (s : State) (refuse : Bool) : (s.answerCover refuse).coverView = s.coverView := by
  have hc (u : State) (c : Canceller) : State.coverView { u with can := c } = u.coverView := rfl
  have hw (u : State) (x : Windows) : State.coverView { u with win := x } = u.coverView := rfl
  unfold State.answerCover
  refine (forEach_keeps State.coverView _ _ (fun u w => ⟨answerWindows_coverView refuse u w⟩) _).trans ((hw ..).trans ?_)
  exact (forEach_keeps State.coverView _ _ (fun u w => ⟨answerPaths_coverView refuse u w⟩) _).trans (hc ..)

section
variable (s : State) (all : Bool)

theorem endCover_coverView : (s.endCover all).coverView = s.takeFresh.coverView :=
  (answerCover_coverView ..).trans (judgeFresh_coverView ..)

theorem takeFresh_reg (o : Nat) : s.takeFresh.reg o = s.reg o := rfl

theorem endCover_fresh : (s.endCover all).svy.fresh = [] :=
  (congrArg (·.1.fresh) (endCover_coverView s all) : (s.endCover all).svy.fresh = s.takeFresh.svy.fresh)

theorem endCover_sstat : (s.endCover all).reg (Reg.SVY_SSTAT.off 0 0) = s.reg (Reg.SVY_SSTAT.off 0 0) :=
  (congrArg (·.2.1) (endCover_coverView s all) : _ = s.takeFresh.reg (Reg.SVY_SSTAT.off 0 0)).trans (takeFresh_reg ..)

theorem endCover_cover : (s.endCover all).reg (Reg.SVY_COVER.off 0 0) = s.reg (Reg.SVY_COVER.off 0 0) :=
  (congrArg (·.2.2) (endCover_coverView s all) : _ = s.takeFresh.reg (Reg.SVY_COVER.off 0 0)).trans (takeFresh_reg ..)

end

theorem listMask_lt {n : Nat} : ∀ {l : List Nat}, (∀ b ∈ l, b < n) → listMask l < 2 ^ n
  | [], _ => Nat.two_pow_pos n
  | _ :: _, h => Nat.or_lt_two_pow (Nat.pow_lt_pow_right Nat.one_lt_two (h _ List.mem_cons_self))
    (listMask_lt fun c hc => h c (List.mem_cons_of_mem _ hc))

theorem coverMask_lt (s : State) : s.coverMask < 2 ^ 32 := listMask_lt fun _ hb => List.mem_range.1 (List.mem_filter.1 hb).1

section
variable (s : State) (cover : Nat)

theorem showCover_busy : (s.showCover cover).getB Fd.SVY_SSTAT_COVER_BUSY = false :=
  (getB_setB_field _ Fd.SVY_SSTAT_COVER_ALL Fd.SVY_SSTAT_COVER_BUSY 0 0 rfl (fits_of rfl) (by decide) _).trans
    (getB_setB_same _ Fd.SVY_SSTAT_COVER_BUSY false 0 0 (fits_of rfl) (by decide))

theorem showCover_all : (s.showCover cover).getB Fd.SVY_SSTAT_COVER_ALL = decide (cover = 2 ^ 32 - 1) :=
  getB_setB_same _ Fd.SVY_SSTAT_COVER_ALL _ 0 0 (fits_of rfl) (by decide)

theorem showCover_party (h : cover < 2 ^ 32) : (s.showCover cover).get Fd.SVY_COVER_PARTY = cover := by
  unfold State.showCover State.setB
  rw [get_set_clear _ (f := Fd.SVY_COVER_PARTY) (g := Fd.SVY_SSTAT_COVER_ALL) (by decide) _ Nat.one_pos Nat.one_pos,
    get_set_clear _ (f := Fd.SVY_COVER_PARTY) (g := Fd.SVY_SSTAT_COVER_BUSY) (by decide) _ Nat.one_pos Nat.one_pos,
    get_set_of_lt _ (f := Fd.SVY_COVER_PARTY) 0 0 (fits_of rfl) h]

end

@[simp] theorem putBack_svy (u s : State) : (u.putBack s).svy = u.svy := rfl

theorem coverTestDone_ends {s : State} (hs : s.alive = true) (hb : s.getB Fd.SVY_SSTAT_COVER_BUSY = true) :
    ∃ t, exec .coverTestDone s = .next t ∧ t.getB Fd.SVY_SSTAT_COVER_BUSY = false ∧ t.get Fd.SVY_COVER_PARTY = s.coverMask ∧
      t.getB Fd.SVY_SSTAT_COVER_ALL = decide (s.coverMask = 2 ^ 32 - 1) ∧ t.svy.fresh = [] := by
  have e := exec_next hs (exec_coverTestDone s)
  rw [if_pos hb] at e
  refine ⟨_, e, ?_, ?_, ?_, ?_⟩
  · rw [putBack_getB, getB_of_get (get_of_reg Fd.SVY_SSTAT_COVER_BUSY (endCover_sstat ..))]
    exact showCover_busy s _
  · rw [putBack_get, get_of_reg Fd.SVY_COVER_PARTY (endCover_cover ..)]
    exact showCover_party s _ (coverMask_lt s)
  · rw [putBack_getB, getB_of_get (get_of_reg Fd.SVY_SSTAT_COVER_ALL (endCover_sstat ..))]
    exact showCover_all s _
  · rw [putBack_svy]
    exact endCover_fresh ..

theorem coverTestDone_idle {s : State} (hs : s.alive = true) (hb : s.getB Fd.SVY_SSTAT_COVER_BUSY = false) :
    exec .coverTestDone s = .next s := by
  refine exec_next (u := s) hs ?_
  rw [exec_coverTestDone, hb]
  rfl

/-- Settles O25: the fences by `fenceEngine_fences`, the errors of the SRAM, the crossbar's and the coverage test by the lemma of the row. -/
theorem surveyErrorsFenceAndRestore : Obligations.SurveyErrorsFenceAndRestore := by
  refine ⟨fun e s i hi hs => ⟨_, exec_fences hs hi, fun h => ?_, fun h => ?_⟩, fun q s hs => svyEccCe_counts hs q,
    fun q site s hs => svyEccUe_restores hs q site, fun q s hs => crossbarParity_loses hs q,
    fun s hs hb => coverTestDone_ends hs hb, fun s hs hb => coverTestDone_idle hs hb⟩
  · rw [fenceEngine_again h]
    rfl
  · obtain ⟨hl, ⟨hm, hv⟩, hp⟩ := fenceEngine_fences h
    exact ⟨hl, hm, hv, hp⟩

end Sys2Proof.Machine

/-!
SUPPORT. Proofs about the survey's scoreboard: the close of a tick, the end of the re-execution, and the completions of pieces.
-/

namespace Sys2Proof.Machine

-- The option has the proofs elaborated one after another, not beside the tests above: the two together exceed the check's memory.
set_option deprecated.oldSectionVars true

/-! ### Pieces and their rows -/

theorem mem_pieceRowsList {ps : List Piece} {p : Piece} (hp : p ∈ ps) {i : Nat} (hi : i < p.rows) :
    (p.path, p.row + i) ∈ pieceRowsList ps :=
  List.mem_eraseDups.2 (List.mem_flatMap.2 ⟨p, hp, List.mem_map.2 ⟨i, List.mem_range.2 hi, rfl⟩⟩)

/-- The pieces that a tick misses, but for those of lost parties. -/
def State.held (s : State) (missing : List Piece) : List Piece := missing.filter fun p => !s.getB Fd.SVY_PSTATE_LOST p.party

/-- The parties of which more than eight pieces are missing (R110). -/
def crowdedParties (held : List Piece) : List Nat :=
  (List.range 32).filter fun q => decide (8 < (held.filter fun p => p.party == q).length)

/-- The piece is one of more than eight that its party misses. -/
def crowded (held : List Piece) (p : Piece) : Bool :=
  decide (p.party < 32) && decide (8 < (held.filter fun q => q.party == p.party).length)

theorem crowdedParties_contains (held : List Piece) (p : Piece) : (crowdedParties held).contains p.party = crowded held p := by
  rw [Bool.eq_iff_iff]
  simp [crowdedParties, crowded]

/-! ### TICK_CLOSE (R110) -/

/-- The pieces of the tick in TICK_STAT. -/
def State.tallyPieces (s : State) : State :=
  let t := (s.set Fd.SVY_TICK_STAT_ISSUED (min s.svy.issued 65535)).set Fd.SVY_TICK_STAT_MISSING (min s.svy.todo.length 255)
  t.set Fd.SVY_TICK_STAT_REEXEC (min t.svy.reexecNow 255)

/-- The tiles of the tick in TILES. -/
def State.tallyTiles (s : State) (bad : Nat) : State :=
  (s.set Fd.SVY_TILES_ISSUED s.svy.tiles).set Fd.SVY_TILES_COMPLETED (s.svy.tiles - bad)

/-- The busiest engine of each party in PLOAD. -/
def State.tallyLoad (s : State) : State :=
  forEach (List.range 32) s fun s q =>
    s.set Fd.SVY_PLOAD_BUSY_MAX (min ((List.range 8).foldl (fun a k => max a (mapGet 0 s.svy.busy (8 * q + k))) 0) 2000) q

/-- What the closed tick reports. -/
def State.tally (s : State) : State :=
  let t := s.tallyPieces
  let bad := (s.svy.todo.map (·.entry)).eraseDups.length
  (t.tallyTiles bad).tallyLoad

/-- The list closes: what is missing is skipped, and what `kept` names is listed for re-execution with the stateless pieces missing. -/
def State.closeList (s : State) (missing kept : List Piece) : State :=
  { s with svy := { s.svy with
      closed := true, todo := [], relist := kept, skipped := missing, overdue := s.svy.overdue ++ missing, flight := [], posts := []
      repost := s.svy.posts, lostMeas := (s.svy.lostMeas ++ s.svy.posts.map Post.src).eraseDups } }

/-- A tick that missed pieces is counted. -/
def State.countClose (s : State) (missing : List Piece) : State :=
  if missing.isEmpty then s else (s.addSat Fd.SVY_CLOSE_CNT_COUNT 1).pulse 249

/-- The rows of the pieces of crowded parties are lost. -/
def State.loseCrowd (s : State) (lost : List Piece) : State :=
  if lost.isEmpty then s else (s.loseRows (s.time.gt + 1) (pieceRowsList lost)).pulse 250

/-- TICK_CLOSE behind its report. -/
def State.closeTick (s : State) (missing : List Piece) : State :=
  let held := s.held missing
  let crowd := crowdedParties held
  let lost := held.filter fun p => crowd.contains p.party
  let kept := held.filter fun p => !crowd.contains p.party
  let late := s.svy.posts
  (((s.closeList missing kept).countClose missing).addSat Fd.SVY_REEXEC_CNT_COUNT (kept.length + late.length)).loseCrowd lost

theorem exec_tickClose (s : State) : exec .tickClose s = s.whenLive (.next (if s.svy.closed then s else s.tally.closeTick s.svy.todo)) := rfl

/-- The fields that report a closed tick. -/
def tallyFields : List Fld :=
  [Fd.SVY_TICK_STAT_ISSUED, Fd.SVY_TICK_STAT_MISSING, Fd.SVY_TICK_STAT_REEXEC, Fd.SVY_TILES_ISSUED, Fd.SVY_TILES_COMPLETED,
    Fd.SVY_PLOAD_BUSY_MAX]

/-- The fields that report a closed tick, but for those of TICK_STAT. -/
def tileFields : List Fld := [Fd.SVY_TILES_ISSUED, Fd.SVY_TILES_COMPLETED, Fd.SVY_PLOAD_BUSY_MAX]

section
variable (s : State)

theorem tallyLoad_svy : s.tallyLoad.svy = s.svy := forEach_keeps State.svy _ _ (fun _ _ => ⟨State.set_svy ..⟩) s

theorem tally_svy : s.tally.svy = s.svy := by
  unfold State.tally
  simp only []
  rw [tallyLoad_svy, State.tallyTiles, State.set_svy, State.set_svy, State.tallyPieces, State.set_svy, State.set_svy, State.set_svy]

theorem tallyPieces_spares : Spares tallyFields s s.tallyPieces :=
  .after (.set _ (g := Fd.SVY_TICK_STAT_REEXEC) (by decide) _ Nat.one_pos)
    (.after (.set _ (g := Fd.SVY_TICK_STAT_MISSING) (by decide) _ Nat.one_pos)
      (.set s (g := Fd.SVY_TICK_STAT_ISSUED) (by decide) _ Nat.one_pos))

theorem tallyRest_spares (bad : Nat) : Spares tileFields s (s.tallyTiles bad).tallyLoad :=
  .after (.forEach_mem _ _ (fun t q hq => .set t (g := Fd.SVY_PLOAD_BUSY_MAX) (by decide) _ (List.mem_range.1 hq)) _)
    (.after (.set _ (g := Fd.SVY_TILES_COMPLETED) (by decide) _ Nat.one_pos)
      (.set s (g := Fd.SVY_TILES_ISSUED) (by decide) _ Nat.one_pos))

theorem tally_spares : Spares tallyFields s s.tally :=
  .after ((tallyRest_spares ..).mono (by decide)) (tallyPieces_spares s)

/-- PSTATE of any party, whatever number a piece gives it. -/
theorem tally_pstate (q : Nat) : s.tally.reg (Reg.SVY_PSTATE.off q 0) = s.reg (Reg.SVY_PSTATE.off q 0) := by
  have hl (t : State) : t.tallyLoad.reg (Reg.SVY_PSTATE.off q 0) = t.reg (Reg.SVY_PSTATE.off q 0) :=
    forEach_keeps_mem (fun t => t.reg (Reg.SVY_PSTATE.off q 0)) _ _ (fun t k hk => ⟨reg_set_other t Fd.SVY_PLOAD_BUSY_MAX _ k 0
      (apart_off (q := Reg.SVY_PLOAD) (r := Reg.SVY_PSTATE) (by decide) (List.mem_range.1 hk) Nat.one_pos q)⟩) t
  have ht : Reg.SVY_PSTATE.off q 0 ≠ Reg.SVY_TICK_STAT.off 0 0 :=
    apart_off (q := Reg.SVY_TICK_STAT) (by decide) Nat.one_pos Nat.one_pos q
  have hi : Reg.SVY_PSTATE.off q 0 ≠ Reg.SVY_TILES.off 0 0 := apart_off (q := Reg.SVY_TILES) (by decide) Nat.one_pos Nat.one_pos q
  unfold State.tally State.tallyTiles State.tallyPieces
  simp only []
  rw [hl, reg_set_other _ Fd.SVY_TILES_COMPLETED _ 0 0 hi, reg_set_other _ Fd.SVY_TILES_ISSUED _ 0 0 hi,
    reg_set_other _ Fd.SVY_TICK_STAT_REEXEC _ 0 0 ht, reg_set_other _ Fd.SVY_TICK_STAT_MISSING _ 0 0 ht,
    reg_set_other _ Fd.SVY_TICK_STAT_ISSUED _ 0 0 ht]

theorem tally_held (missing : List Piece) : s.tally.held missing = s.held missing := by
  have hp (q : Nat) : s.tally.getB Fd.SVY_PSTATE_LOST q = s.getB Fd.SVY_PSTATE_LOST q :=
    getB_of_get (get_of_reg Fd.SVY_PSTATE_LOST (tally_pstate s q))
  simp only [State.held, hp]

theorem tally_missing : s.tally.get Fd.SVY_TICK_STAT_MISSING = min s.svy.todo.length 255 := by
  rw [State.tally, (tallyRest_spares ..).fields Fd.SVY_TICK_STAT_MISSING 0 (by decide) Nat.one_pos, State.tallyPieces,
    get_set_clear _ (f := Fd.SVY_TICK_STAT_MISSING) (g := Fd.SVY_TICK_STAT_REEXEC) (by decide) _ Nat.one_pos Nat.one_pos]
  exact get_set_of_lt _ (f := Fd.SVY_TICK_STAT_MISSING) 0 0 (fits_of rfl) (Nat.lt_of_le_of_lt (Nat.min_le_right ..) (by decide))

theorem tally_issued : s.tally.get Fd.SVY_TICK_STAT_ISSUED = min s.svy.issued 65535 := by
  rw [State.tally, (tallyRest_spares ..).fields Fd.SVY_TICK_STAT_ISSUED 0 (by decide) Nat.one_pos, State.tallyPieces,
    get_set_clear _ (f := Fd.SVY_TICK_STAT_ISSUED) (g := Fd.SVY_TICK_STAT_REEXEC) (by decide) _ Nat.one_pos Nat.one_pos,
    get_set_clear _ (f := Fd.SVY_TICK_STAT_ISSUED) (g := Fd.SVY_TICK_STAT_MISSING) (by decide) _ Nat.one_pos Nat.one_pos]
  exact get_set_of_lt _ (f := Fd.SVY_TICK_STAT_ISSUED) 0 0 (fits_of rfl) (Nat.lt_of_le_of_lt (Nat.min_le_right ..) (by decide))

end

/-- The fields that the close of the list shows. -/
def closeFields : List Fld := Fd.SVY_CLOSE_CNT_COUNT :: Fd.SVY_REEXEC_CNT_COUNT :: lossFields

section
variable (s : State) (missing kept lost : List Piece)

theorem countClose_svy : (s.countClose missing).svy = s.svy := by
  unfold State.countClose
  split
  · rfl
  · rw [(pulse_raised _ (by decide)).svy, State.addSat_svy]

theorem loseCrowd_svy : (s.loseCrowd lost).svy = s.svy := by
  unfold State.loseCrowd
  split
  · rfl
  · rw [(pulse_raised _ (by decide)).svy, loseRows_svy]

theorem countClose_spares : Spares closeFields s (s.countClose missing) :=
  .ite (fun _ => .refl _ s) fun _ => .after (.of_raised _ (pulse_raised _ (by decide)))
    (.addSat s (g := Fd.SVY_CLOSE_CNT_COUNT) (by decide) 1 Nat.one_pos)

theorem loseCrowd_spares : Spares lossFields s (s.loseCrowd lost) :=
  .ite (fun _ => .refl _ s) fun _ => .after (.of_raised _ (pulse_raised _ (by decide))) (loseRows_spares ..)

theorem closeTick_svy : (s.closeTick missing).svy = (s.closeList missing ((s.held missing).filter fun p =>
    !(crowdedParties (s.held missing)).contains p.party)).svy := by
  rw [State.closeTick, loseCrowd_svy, State.addSat_svy, countClose_svy]

theorem closeTick_spares : Spares closeFields s (s.closeTick missing) :=
  .after ((loseCrowd_spares ..).mono (by decide)) (.after (.addSat _ (g := Fd.SVY_REEXEC_CNT_COUNT) (by decide) _ Nat.one_pos)
    (.after (countClose_spares ..) (.withSvy ..)))

theorem countClose_count : (s.countClose missing).get Fd.SVY_CLOSE_CNT_COUNT =
    if missing = [] then s.get Fd.SVY_CLOSE_CNT_COUNT
    else min (s.get Fd.SVY_CLOSE_CNT_COUNT + 1) (2 ^ Fd.SVY_CLOSE_CNT_COUNT.width - 1) := by
  unfold State.countClose
  simp only [List.isEmpty_iff]
  split
  · rfl
  · rw [(Spares.of_raised [] (pulse_raised _ (by decide))).fields Fd.SVY_CLOSE_CNT_COUNT 0 (by decide) Nat.one_pos]
    exact get_addSat_same s Fd.SVY_CLOSE_CNT_COUNT 1 0 0 (fits_of rfl)

theorem closeTick_count : (s.closeTick missing).get Fd.SVY_CLOSE_CNT_COUNT =
    if missing = [] then s.get Fd.SVY_CLOSE_CNT_COUNT
    else min (s.get Fd.SVY_CLOSE_CNT_COUNT + 1) (2 ^ Fd.SVY_CLOSE_CNT_COUNT.width - 1) := by
  rw [State.closeTick, (loseCrowd_spares ..).fields Fd.SVY_CLOSE_CNT_COUNT 0 (by decide) Nat.one_pos, State.addSat,
    get_set_clear _ (f := Fd.SVY_CLOSE_CNT_COUNT) (g := Fd.SVY_REEXEC_CNT_COUNT) (by decide) _ Nat.one_pos Nat.one_pos,
    countClose_count]
  rfl

end

section
variable {s : State} {p : Piece} {i : Nat} (hp : p.path < 256) (ha : s.pActive p.path = true) (hi : i < p.rows)
include hp ha hi

theorem loseCrowd_restores {lost : List Piece} (h : p ∈ lost) : ((s.loseCrowd lost).row p.path (p.row + i)).restoring = true := by
  have hne : ¬ lost.isEmpty = true := fun e => List.ne_nil_of_mem h (List.isEmpty_iff.1 e)
  rw [State.loseCrowd, if_neg hne]
  exact (Spares.of_raised [] (pulse_raised _ (by decide))).restoring _ _ (loseRows_restores _ (mem_pieceRowsList h hi) hp ha)

theorem closeTick_restores {missing : List Piece} (h : p ∈ s.held missing) (hc : crowded (s.held missing) p = true) :
    ((s.closeTick missing).row p.path (p.row + i)).restoring = true := by
  refine loseCrowd_restores hp ?_ hi (List.mem_filter.2 ⟨h, (crowdedParties_contains ..).trans hc⟩)
  exact (Spares.pActive (.after (.addSat _ (g := Fd.SVY_REEXEC_CNT_COUNT) (by decide) _ Nat.one_pos)
    (.after (countClose_spares ..) (.withSvy ..))) (by decide) hp).trans ha

end

theorem tickClose_again {s : State} (hs : s.alive = true) (hc : s.svy.closed = true) : exec .tickClose s = .next s := by
  refine exec_next (u := s) hs ?_
  rw [exec_tickClose, if_pos hc]

theorem tickClose_closes {s : State} (hs : s.alive = true) (hc : s.svy.closed = false) : ∃ t, exec .tickClose s = .next t ∧
    t.svy.closed = true ∧ t.svy.todo = [] ∧ t.svy.skipped = s.svy.todo ∧
    t.svy.relist = (s.held s.svy.todo).filter (fun p => !crowded (s.held s.svy.todo) p) ∧ t.svy.posts = [] ∧ t.svy.repost = s.svy.posts ∧
    (∀ p ∈ s.held s.svy.todo, crowded (s.held s.svy.todo) p = true → p.path < 256 → s.pActive p.path = true → ∀ i, i < p.rows →
      (t.row p.path (p.row + i)).restoring = true) ∧
    t.get Fd.SVY_TICK_STAT_MISSING = min s.svy.todo.length 255 ∧ t.get Fd.SVY_TICK_STAT_ISSUED = min s.svy.issued 65535 ∧
    t.get Fd.SVY_CLOSE_CNT_COUNT = if s.svy.todo = [] then s.get Fd.SVY_CLOSE_CNT_COUNT
      else min (s.get Fd.SVY_CLOSE_CNT_COUNT + 1) (2 ^ Fd.SVY_CLOSE_CNT_COUNT.width - 1) := by
  have e := exec_next hs (exec_tickClose s)
  rw [if_neg (by simp [hc])] at e
  have hv := closeTick_svy s.tally s.svy.todo
  simp only [tally_held, crowdedParties_contains] at hv
  have hk := closeTick_spares s.tally s.svy.todo
  refine ⟨_, e, ?_⟩
  simp only [putBack_svy, putBack_get, row_putBack, hv]
  refine ⟨rfl, rfl, rfl, rfl, rfl, congrArg Survey.posts (tally_svy s), fun p hp hcr hpath ha i hi => ?_, ?_, ?_, ?_⟩
  · rw [← tally_held] at hp hcr
    exact closeTick_restores hpath (((tally_spares s).pActive (by decide) hpath).trans ha) hi hp hcr
  · rw [hk.fields Fd.SVY_TICK_STAT_MISSING 0 (by decide) Nat.one_pos, tally_missing]
  · rw [hk.fields Fd.SVY_TICK_STAT_ISSUED 0 (by decide) Nat.one_pos, tally_issued]
  · rw [closeTick_count, (tally_spares s).fields Fd.SVY_CLOSE_CNT_COUNT 0 (by decide) Nat.one_pos]

/-! ### REEXEC_DEADLINE (R110) -/

/-- No stateless piece is listed any more. -/
def State.dropReposts (s : State) : State := { s with svy := { s.svy with repost := [] } }

/-- The resident pieces listed are overdue. -/
def State.endRelist (s : State) : State := { s with svy := { s.svy with relist := [], overdue := s.svy.overdue ++ s.svy.relist } }

theorem exec_reexecDeadline (s : State) : exec .reexecDeadline s = s.whenLive (.next (
    if s.svy.relist.isEmpty then s.dropReposts
    else (s.dropReposts.endRelist.loseRows s.time.gt (pieceRowsList s.svy.relist)).pulse 250)) := rfl

theorem Survey.ended_of_relist_nil {v : Survey} (h : v.relist = []) :
    { v with repost := [] } = { v with relist := [], repost := [], overdue := v.overdue ++ v.relist } := by
  cases v
  simp only at h
  simp [h]

theorem reexecDeadline_ends {s : State} (hs : s.alive = true) : ∃ t, exec .reexecDeadline s = .next t ∧
    t.svy = { s.svy with relist := [], repost := [], overdue := s.svy.overdue ++ s.svy.relist } ∧
    (s.svy.relist = [] → t = { s with svy := { s.svy with repost := [] } }) ∧
    ∀ p ∈ s.svy.relist, p.path < 256 → s.pActive p.path = true → ∀ i, i < p.rows → (t.row p.path (p.row + i)).restoring = true := by
  have e := exec_next hs (exec_reexecDeadline s)
  by_cases hl : s.svy.relist = []
  · rw [if_pos (List.isEmpty_iff.2 hl)] at e
    exact ⟨s.dropReposts, e, Survey.ended_of_relist_nil hl, fun _ => rfl, fun p hp => absurd (hl ▸ hp) List.not_mem_nil⟩
  · rw [if_neg (mt List.isEmpty_iff.1 hl)] at e
    refine ⟨_, e, ?_, fun h => absurd h hl, fun p hp hpath ha i hi => ?_⟩
    · rw [putBack_svy, (pulse_raised _ (by decide)).svy, loseRows_svy]
      rfl
    · rw [row_putBack]
      exact (Spares.of_raised [] (pulse_raised _ (by decide))).restoring _ _ (loseRows_restores _ (mem_pieceRowsList hp hi) hpath ha)

/-! ### PIECE_COMPLETION (R106, R107, R109) -/

/-- `t` is `s` with the survey of `t`, but for what is raised by the way. -/
def OnlySurveyed (s t : State) : Prop := OnlyRaised { s with svy := t.svy } t

theorem OnlyRaised.withSvy {s t : State} (h : OnlyRaised s t) (v : Survey) : OnlyRaised { s with svy := v } { t with svy := v } :=
  ⟨congrArg (fun u : State => { u with svy := v }) h.part, h.regs⟩

/-- What is raised, then a change of the survey alone. -/
theorem OnlyRaised.surveyed {s t : State} (h : OnlyRaised s t) (v : Survey) : OnlySurveyed s { t with svy := v } := h.withSvy v

theorem OnlyRaised.unsurveyed {s t : State} (h : OnlyRaised s t) : OnlySurveyed s t := by
  have e : { s with svy := t.svy } = s := by rw [h.svy]
  rw [OnlySurveyed, e]
  exact h

theorem OnlySurveyed.putBack_self {s t : State} (h : OnlySurveyed s t) : t.putBack s = t := by
  have h : OnlyRaised { s with svy := t.svy } t := h
  exact Machine.putBack_self h.time h.pending

/-- A dispatch puts pieces in flight, and does nothing else. -/
theorem dispatch_flight (s : State) (q cycle : Nat) : ∃ l, s.dispatch q cycle = { s with svy := { s.svy with flight := l } } := by
  unfold State.dispatch
  generalize (List.range 8).map (fun k => 8 * q + k) = es
  induction es generalizing s with
  | nil => exact ⟨s.svy.flight, rfl⟩
  | cons e es ih =>
    rw [forEach_cons]
    split
    · exact ih s
    · split
      · obtain ⟨l, hl⟩ := ih { s with svy := { s.svy with flight := s.svy.flight ++ [(e, _, _)] } }
        exact ⟨l, hl⟩
      · exact ih s

/-- The piece that a completion names, in the list of the tick or of the re-execution. -/
def State.listed (s : State) (eng path row block : Nat) (again : Bool) : Option Piece :=
  (if again then s.svy.relist else s.svy.todo).find? fun p => p.named path row block && p.party == eng / 8

/-- The cycles that a piece is busy (R104, R110). -/
def State.pieceCost (s : State) (p : Piece) (again : Bool) : Nat :=
  if again then s.filterCycles p else s.pieceCycles p (s.time.gt % 80)

/-- The completion comes behind its time, or of a late piece before its dispatch allows. -/
abbrev State.outOfTime (s : State) (p : Piece) (again : Bool) (cycle : Nat) : Prop :=
  (if again then 500 else 1992) < cycle ∨ (p.late ∧ again = false ∧ cycle < 640 + s.pieceCost p again)

/-- An accepted piece in the counters of its party. -/
def State.countPiece (s : State) (p : Piece) (again stolen : Bool) : State :=
  ((s.count 8 p.party 0x10 1).count 8 p.party 0x13 (b2n again)).count 8 p.party 0x11 (b2n stolen)

/-- The list that names a piece without it. -/
def Survey.strike (v : Survey) (p : Piece) (again : Bool) : Survey :=
  if again then { v with relist := v.relist.erase p } else { v with todo := v.todo.erase p }

/-- The piece is accepted, and the engine takes the next one. -/
def State.takePiece (s : State) (eng : Nat) (p : Piece) (again : Bool) (cycle : Nat) : State :=
  let stolen := s.svy.flight.any fun f => f.2 == (p, again) && f.1 != eng
  let flight := s.svy.flight.filter fun f => f.2 != (p, again) && f.1 != eng
  let v := s.svy.strike p again
  let s' := s.countPiece p again stolen
  { s' with svy := { v with flight := flight, busy := mapSet 16 v.busy eng (mapGet 16 v.busy eng + s.pieceCost p again) } }.dispatch
    p.party cycle

theorem acceptPiece_eq (s : State) (eng path row block : Nat) (again : Bool) (cycle : Nat) :
    s.acceptPiece eng path row block again cycle = match s.listed eng path row block again with
      | none => if (s.svy.overdue.any fun p => p.named path row block && p.party == eng / 8) && !s.fenced eng then s else s.pulse 251
      | some p =>
        if s.fenced eng then s.pulse 251
        else if s.outOfTime p again cycle then s else s.takePiece eng p again cycle := rfl

theorem countPiece_raised (s : State) (p : Piece) (again stolen : Bool) : OnlyRaised s (s.countPiece p again stolen) :=
  .after (count_raised ..) (.after (count_raised ..) (count_raised ..))

/-- What an accepted piece leaves of the survey: its list is without it, the other list and the allocation stand. -/
structure PieceTaken (v w : Survey) (p : Piece) (again : Bool) : Prop where
  todo : w.todo = if again then v.todo else v.todo.erase p
  relist : w.relist = if again then v.relist.erase p else v.relist
  runs : w.runs = v.runs

theorem strike_taken (v : Survey) (p : Piece) (again : Bool) : PieceTaken v (v.strike p again) p again := by
  cases again <;> exact ⟨rfl, rfl, rfl⟩

theorem PieceTaken.busy {v w : Survey} {p : Piece} {again : Bool} (h : PieceTaken v w p again) (f : List (Nat × Piece × Bool))
    (b : List (Nat × Nat)) : PieceTaken v { w with flight := f, busy := b } p again := ⟨h.todo, h.relist, h.runs⟩

section
variable (s : State) (eng : Nat) (p : Piece) (again : Bool) (cycle : Nat)

theorem takePiece_eq : ∃ f b, s.takePiece eng p again cycle =
    { s.countPiece p again (s.svy.flight.any fun f => f.2 == (p, again) && f.1 != eng) with
      svy := { s.svy.strike p again with flight := f, busy := b } } := by
  unfold State.takePiece
  obtain ⟨l, hl⟩ := dispatch_flight _ p.party cycle
  exact ⟨l, _, hl⟩

theorem takePiece_surveyed : OnlySurveyed s (s.takePiece eng p again cycle) := by
  obtain ⟨f, b, h⟩ := takePiece_eq s eng p again cycle
  rw [h]
  exact (countPiece_raised ..).surveyed _

theorem takePiece_taken : PieceTaken s.svy (s.takePiece eng p again cycle).svy p again := by
  obtain ⟨f, b, h⟩ := takePiece_eq s eng p again cycle
  rw [h]
  exact (strike_taken ..).busy f b

end

theorem pulse_surveyed (s : State) : OnlySurveyed s (s.pulse 251) := (pulse_raised s (by decide)).unsurveyed

theorem acceptPiece_surveyed (s : State) (eng path row block : Nat) (again : Bool) (cycle : Nat) :
    OnlySurveyed s (s.acceptPiece eng path row block again cycle) := by
  rw [acceptPiece_eq]
  split
  · split
    · exact (OnlyRaised.refl s).unsurveyed
    · exact pulse_surveyed s
  · split
    · exact pulse_surveyed s
    · split
      · exact (OnlyRaised.refl s).unsurveyed
      · exact takePiece_surveyed ..

theorem acceptPiece_takes {s : State} {eng path row block : Nat} {again : Bool} {p : Piece} (h : s.listed eng path row block again = some p)
    (hf : s.fenced eng = false) {cycle : Nat} (ht : ¬ s.outOfTime p again cycle) :
    s.acceptPiece eng path row block again cycle = s.takePiece eng p again cycle := by
  rw [acceptPiece_eq, h]
  simp only [hf, if_neg ht, Bool.false_eq_true, if_false]

theorem acceptPiece_unlisted {s : State} {eng path row block : Nat} {again : Bool} (h : s.listed eng path row block again = none)
    (cycle : Nat) : (s.acceptPiece eng path row block again cycle).svy = s.svy := by
  rw [acceptPiece_eq, h]
  simp only []
  split
  · rfl
  · exact (pulse_raised s (by decide)).svy

theorem exec_pieceCompletion (eng path : Fin 256) (row block cycle : Nat) (again : Bool) (s : State) :
    exec (.pieceCompletion eng (.path path) row block again cycle) s = s.whenLive (.next (s.acceptPiece eng path row block again cycle)) :=
  rfl

theorem exec_postCompletion (eng : Fin 256) (src : PostSrc) (row block cycle : Nat) (again : Bool) (s : State) :
    exec (.pieceCompletion eng (.posted src) row block again cycle) s = s.whenLive (.next (s.acceptPost eng src again cycle)) := rfl

/-- A row whose effect is one on the survey, and what it raises. -/
theorem exec_surveys {c : Instr} {s u : State} (hs : s.alive = true) (e : exec c s = s.whenLive (.next u)) (h : OnlySurveyed s u) :
    exec c s = .next u := by
  rw [exec_next hs e, h.putBack_self]

/-! ### Completions of stateless pieces (R107, R109) -/

/-- The list of stateless pieces without one. -/
def Survey.strikePost (v : Survey) (p : Post) (again : Bool) : Survey :=
  if again then { v with repost := v.repost.erase p } else { v with posts := v.posts.erase p }

/-- The stateless piece is accepted. -/
def State.takePost (s : State) (eng : Nat) (p : Post) (again : Bool) : State :=
  let v := s.svy.strikePost p again
  let s := (s.count 8 (eng / 8) 0x12 1).count 8 (eng / 8) 0x13 (b2n again)
  { s with svy := { v with busy := mapSet 16 v.busy eng (mapGet 16 v.busy eng + p.cycles) } }

theorem acceptPost_eq (s : State) (eng : Nat) (src : PostSrc) (again : Bool) (cycle : Nat) : s.acceptPost eng src again cycle =
    match (if again then s.svy.repost else s.svy.posts).find? fun p => p.src == src with
      | none => s.pulse 251
      | some p =>
        if s.fenced eng then s.pulse 251
        else if (if again then 500 else 1992) < cycle ∨ !(s.waiting (eng / 8) (cycle - p.cycles)).isEmpty then s
        else s.takePost eng p again := rfl

/-- `t` differs from `s` in what stateless pieces change, and has the resident lists of `s`. -/
structure PostSurveyed (s t : State) : Prop where
  surveyed : OnlySurveyed s t
  todo : t.svy.todo = s.svy.todo
  relist : t.svy.relist = s.svy.relist

theorem PostSurveyed.of_raised {s t : State} (h : OnlyRaised s t) : PostSurveyed s t :=
  ⟨h.unsurveyed, by rw [h.svy], by rw [h.svy]⟩

theorem PostSurveyed.ite {c : Prop} [Decidable c] {s t u : State} (h : PostSurveyed s t) (k : PostSurveyed s u) :
    PostSurveyed s (if c then t else u) := by
  split
  · exact h
  · exact k

theorem strikePost_lists (v : Survey) (p : Post) (again : Bool) :
    (v.strikePost p again).todo = v.todo ∧ (v.strikePost p again).relist = v.relist := by
  cases again <;> exact ⟨rfl, rfl⟩

theorem takePost_surveyed (s : State) (eng : Nat) (p : Post) (again : Bool) : PostSurveyed s (s.takePost eng p again) where
  surveyed := (OnlyRaised.after (count_raised ..) (count_raised ..)).surveyed _
  todo := (strikePost_lists s.svy p again).1
  relist := (strikePost_lists s.svy p again).2

theorem acceptPost_surveyed (s : State) (eng : Nat) (src : PostSrc) (again : Bool) (cycle : Nat) :
    PostSurveyed s (s.acceptPost eng src again cycle) := by
  have hp : PostSurveyed s (s.pulse 251) := .of_raised (pulse_raised s (by decide))
  rw [acceptPost_eq]
  split
  · exact hp
  · exact .ite hp (.ite (.of_raised (.refl s)) (takePost_surveyed ..))

theorem acceptPost_unlisted {s : State} {src : PostSrc} {again : Bool}
    (h : (if again then s.svy.repost else s.svy.posts).find? (fun p => p.src == src) = none) (eng cycle : Nat) :
    (s.acceptPost eng src again cycle).svy = s.svy := by
  rw [acceptPost_eq, h]
  exact (pulse_raised s (by decide)).svy

/-- Settles O24: the close of the list, the end of the re-execution, and what a completion of a resident or a stateless piece takes. -/
theorem showerAccountsForPieces : Obligations.ShowerAccountsForPieces := by
  refine ⟨fun s hs hc => ?_, fun s hs hc => tickClose_again hs hc, fun s hs => reexecDeadline_ends hs,
    fun eng path row block cycle again s hs => ?_, fun eng src row block cycle again s hs => ?_⟩
  · obtain ⟨t, e, hcl, htd, hsk, hrl, hpo, hrp, hrest, hm, hi, hn⟩ := tickClose_closes hs hc
    exact ⟨t, e, hcl, htd, hsk, hrl, hpo, hrp, hrest, hm, hi, fun h => hn.trans (if_pos h), fun h => hn.trans (if_neg h)⟩
  · have ha := acceptPiece_surveyed s eng path row block again cycle
    refine ⟨_, exec_surveys hs (exec_pieceCompletion ..) ha, ha, fun p hp hf ht hl => ?_, fun hn => acceptPiece_unlisted hn cycle⟩
    have htime : ¬ s.outOfTime p again cycle := by
      rintro (h | ⟨hlate, rfl, h⟩)
      · omega
      · exact hl ⟨hlate, rfl, h⟩
    rw [acceptPiece_takes hp hf htime]
    obtain ⟨htd, hrl, hr⟩ := takePiece_taken s eng p again cycle
    exact ⟨htd, hrl, hr⟩
  · obtain ⟨ha, htd, hrl⟩ := acceptPost_surveyed s eng src again cycle
    exact ⟨_, exec_surveys hs (exec_postCompletion ..) ha, ha, htd, hrl, fun hn => acceptPost_unlisted hn eng cycle⟩

end Sys2Proof.Machine

/-!
SUPPORT. Proofs about the atlas and position commands, and about the presence events of trackside mode.
-/

namespace Sys2Proof.Machine

-- The option has the proofs elaborated one after another, not beside the tests above: the two together exceed the check's memory.
set_option deprecated.oldSectionVars true

/-! ### Slots -/

theorem acceptEarly_answered (s : State) (m : Nat) (c : Command) : OnlyAnswered m s (s.acceptEarly m c) := by
  unfold State.acceptEarly
  split
  · exact .setMb s m _ rfl ⟨_, rfl⟩
  · exact .refl m s

theorem OnlyAnswered.slotValid {m : Nat} {s t : State} (h : OnlyAnswered m s t) (k : Nat) : t.slotValid k = s.slotValid k := by
  unfold State.slotValid
  rw [getB_of_get (h.get Fd.POS_ATLAS_S0_VALID 0 0 (by decide)), getB_of_get (h.get Fd.POS_ATLAS_S1_VALID 0 0 (by decide))]

section
variable (s : State) (k : Nat) (v : Bool)

theorem slotValid_setSlotValid : (s.setSlotValid k v).slotValid k = v := by
  unfold State.setSlotValid State.slotValid
  split
  · exact getB_setB_same s Fd.POS_ATLAS_S0_VALID v 0 0 (fits_of rfl) (by decide)
  · exact getB_setB_same s Fd.POS_ATLAS_S1_VALID v 0 0 (fits_of rfl) (by decide)

theorem loading_setSlotValid : (s.setSlotValid k v).getB Fd.POS_ATLAS_LOADING = s.getB Fd.POS_ATLAS_LOADING := by
  unfold State.setSlotValid
  split
  · exact getB_setB_field s Fd.POS_ATLAS_S0_VALID Fd.POS_ATLAS_LOADING 0 0 rfl (fits_of rfl) (by decide) v
  · exact getB_setB_field s Fd.POS_ATLAS_S1_VALID Fd.POS_ATLAS_LOADING 0 0 rfl (fits_of rfl) (by decide) v

@[simp] theorem setSlotValid_pos : (s.setSlotValid k v).pos = s.pos := by unfold State.setSlotValid; split <;> rfl
@[simp] theorem setSlotValid_time : (s.setSlotValid k v).time = s.time := by unfold State.setSlotValid; split <;> rfl
@[simp] theorem setSlotValid_pending : (s.setSlotValid k v).pending = s.pending := by unfold State.setSlotValid; split <;> rfl
@[simp] theorem setSlotValid_mb (m : Nat) : (s.setSlotValid k v).mb m = s.mb m := by unfold State.setSlotValid; split <;> rfl

end

/-- The slot that is not the active one. -/
def State.spareSlot (s : State) : Nat := 1 - s.get Fd.POS_ATLAS_ACT_SLOT

/-! ### ATLAS_LOAD (R118, R120) -/

/-- The state in which the load `q` fills slot `k`. -/
def State.beginLoad (s : State) (q : PosWait) (k : Nat) : State :=
  ({ s with pos := { s.pos with load := some q } }.setB Fd.POS_ATLAS_LOADING true).setSlotValid k false

section
variable (s : State) (q : PosWait) (k : Nat)

theorem beginLoad_load : (s.beginLoad q k).pos.load = some q := by rw [State.beginLoad, setSlotValid_pos]; rfl

theorem beginLoad_loading : (s.beginLoad q k).getB Fd.POS_ATLAS_LOADING = true :=
  (loading_setSlotValid ..).trans (getB_setB_same _ Fd.POS_ATLAS_LOADING true 0 0 (fits_of rfl) (by decide))

theorem beginLoad_invalid : (s.beginLoad q k).slotValid k = false := slotValid_setSlotValid ..

theorem beginLoad_time : (s.beginLoad q k).time = s.time := setSlotValid_time ..

theorem beginLoad_pending : (s.beginLoad q k).pending = s.pending := setSlotValid_pending ..

end

/-- What ATLAS_LOAD does once its checks have passed. -/
def atlasLoadBody (mb : Nat) (s : State) (c : Command) : State :=
  if s.posOff then s.complete mb c 7
  else if s.pos.load.isSome then s.complete mb c 6
  else if s.getB Fd.POS_ATLAS_SW_PEND then s.completeRecorded mb c 6
  else (s.acceptEarly mb c).beginLoad ⟨mb, c.accepted⟩ (s.acceptEarly mb c).spareSlot

theorem exec_atlasLoad (mb : Fin 20) (s : State) : exec (.atlasLoad mb) s =
    s.whenLive (.next (s.runCommand mb 0x20 fun s c => s.checked mb c 3 true fun s => atlasLoadBody mb s c)) := rfl

theorem atlasLoadBody_begins {s : State} (mb : Nat) (c : Command) (hp : s.posOff = false) (hl : s.pos.load = none)
    (hw : s.getB Fd.POS_ATLAS_SW_PEND = false) :
    atlasLoadBody mb s c = (s.acceptEarly mb c).beginLoad ⟨mb, c.accepted⟩ (s.acceptEarly mb c).spareSlot := by
  simp only [atlasLoadBody, hp, hl, hw, Option.isSome_none, Bool.false_eq_true, if_false]

theorem OnlyAnswered.spareSlot {m : Nat} {s t : State} (h : OnlyAnswered m s t) : t.spareSlot = s.spareSlot :=
  congrArg (1 - ·) (h.get Fd.POS_ATLAS_ACT_SLOT 0 0 (by decide))

section
variable {mb : Fin 20} {s : State} {c : Command}

theorem atlasLoad_begins (h : s.runs mb 0x20 3 true c) (hp : s.posOff = false) (hl : s.pos.load = none)
    (hw : s.getB Fd.POS_ATLAS_SW_PEND = false) :
    ∃ t, exec (.atlasLoad mb) s = .next t ∧ (∃ q, t.pos.load = some q ∧ q.mb = mb.val ∧ q.cmd.tag = c.tag) ∧
      t.getB Fd.POS_ATLAS_LOADING = true ∧ t.slotValid s.spareSlot = false := by
  have ha := (startOldest_answered s mb).trans (acceptEarly_answered (s.startOldest mb) mb (s.begun c))
  obtain ⟨t, e, hk⟩ := runs_next h (fun _ => 3) (fun _ _ => true) (atlasLoadBody mb) rfl rfl _
    (atlasLoadBody_begins (s := s.startOldest mb) mb (s.begun c) hp hl hw)
    ((beginLoad_time ..).trans ha.time) ((beginLoad_pending ..).trans ha.pending)
  rw [exec_atlasLoad]
  refine ⟨t, e, ⟨_, (congrArg Position.load hk.pos).trans (beginLoad_load ..), rfl, accepted_tag _⟩, ?_, ?_⟩
  · rw [getB_of_get (hk.get Fd.POS_ATLAS_LOADING 0 0 (by decide))]
    exact beginLoad_loading ..
  · rw [← ha.spareSlot, hk.slotValid]
    exact beginLoad_invalid ..

end

/-! ### ATLAS_LOAD_DONE (R118, R119) -/

/-- The state in which the load into slot `k` ends with the image `a`, which is valid as `v` says. -/
def State.endLoad (s : State) (k : Nat) (a : Slot) (v : Bool) : State :=
  (({ s with pos := { s.pos with load := none } }.setSlot k a).setB Fd.POS_ATLAS_LOADING false).setSlotValid k v

/-- No load runs; slot `k` holds the image `a`, and is valid as `v` says. -/
structure LoadEnded (t : State) (k : Nat) (a : Slot) (v : Bool) : Prop where
  load : t.pos.load = none
  loading : t.getB Fd.POS_ATLAS_LOADING = false
  slot : t.slot k = a
  valid : t.slotValid k = v

section
variable (s : State) (k : Nat) (a : Slot) (v : Bool)

theorem endLoad_ended : LoadEnded (s.endLoad k a v) k a v where
  load := by
    rw [State.endLoad, setSlotValid_pos, State.setB_pos, State.setSlot]
    split <;> rfl
  loading := (loading_setSlotValid ..).trans (getB_setB_same _ Fd.POS_ATLAS_LOADING false 0 0 (fits_of rfl) (by decide))
  slot := by
    rw [State.slot, State.endLoad, setSlotValid_pos, State.setB_pos, State.setSlot]
    split <;> rfl
  valid := slotValid_setSlotValid ..

theorem endLoad_time : (s.endLoad k a v).time = s.time := setSlotValid_time ..

theorem endLoad_pending : (s.endLoad k a v).pending = s.pending := setSlotValid_pending ..

theorem endLoad_mb (m : Nat) : (s.endLoad k a v).mb m = s.mb m := setSlotValid_mb ..

end

/-- What the row does at the end of the load `q` into slot `k`: the image `a` is verified, and the load answered. -/
def State.judgeLoad (s : State) (q : PosWait) (k : Nat) (a : Slot) : State :=
  (a.verify (q.cmd.word 3).toNat).elim ((s.endLoad k a true).complete q.mb q.cmd 0)
    fun i => (s.endLoad k a false).complete q.mb q.cmd 8 [wd i]

section
variable (s : State) (q : PosWait) (k : Nat) {a : Slot}

theorem judgeLoad_verified (hv : a.verify (q.cmd.word 3).toNat = none) :
    s.judgeLoad q k a = (s.endLoad k a true).complete q.mb q.cmd 0 :=
  congrArg (Option.elim · _ _) hv

theorem judgeLoad_refused {i : Nat} (hv : a.verify (q.cmd.word 3).toNat = some i) :
    s.judgeLoad q k a = (s.endLoad k a false).complete q.mb q.cmd 8 [wd i] :=
  congrArg (Option.elim · _ _) hv

end

theorem exec_atlasLoadDone (bytes : List (Nat × Byte)) {s : State} {q : PosWait} (h : s.pos.load = some q) :
    exec (.atlasLoadDone bytes) s =
      s.whenLive (.next (s.judgeLoad q s.spareSlot (s.placeSlot s.spareSlot (imageOf bytes)))) := by
  change execAtlasLoadDone bytes s = _
  unfold execAtlasLoadDone State.judgeLoad State.spareSlot
  rw [h]
  dsimp only
  cases (s.placeSlot (1 - s.get Fd.POS_ATLAS_ACT_SLOT) (imageOf bytes)).verify (q.cmd.word 3).toNat <;> rfl

theorem LoadEnded.after {m : Nat} {t u : State} {k : Nat} {a : Slot} {v : Bool} (h : LoadEnded t k a v) (g : OnlyAnswered m t u) :
    LoadEnded u k a v where
  load := by rw [g.pos, h.load]
  loading := by rw [getB_of_get (g.get Fd.POS_ATLAS_LOADING 0 0 (by decide)), h.loading]
  slot := by rw [State.slot, g.pos]; exact h.slot
  valid := by rw [g.slotValid, h.valid]

/-- A load that ends with the answer `st` and the words `p`. -/
theorem endLoad_answers {s : State} {i : Instr} (hs : s.alive = true) (m : Nat) {d : Command} (hd : d.early = false) (k : Nat) (a : Slot)
    (v : Bool) (st : Nat) (p : List Word) (e : exec i s = s.whenLive (.next ((s.endLoad k a v).complete m d st p))) :
    ∃ t, exec i s = .next t ∧ LoadEnded t k a v ∧ s.answers t m d st (p.take 63) := by
  have hc := complete_answered (s.endLoad k a v) m d st p
  have e := exec_next hs e
  rw [putBack_self (hc.time.trans (endLoad_time ..)) (hc.pending.trans (endLoad_pending ..))] at e
  exact ⟨_, e, (endLoad_ended ..).after hc,
    answers_from (complete_answers _ m d st p hd) (congrArg Mailbox.waiting (endLoad_mb s k a v m))⟩

section
variable (bytes : List (Nat × Byte)) {s : State} {q : PosWait} (hs : s.alive = true) (hl : s.pos.load = some q)
  (hq : q.cmd.early = false)
include hs hl hq

theorem atlasLoadDone_verified
    (hv : (s.placeSlot s.spareSlot (imageOf bytes)).verify (q.cmd.word 3).toNat = none) :
    ∃ t, exec (.atlasLoadDone bytes) s = .next t ∧ LoadEnded t s.spareSlot (s.placeSlot s.spareSlot (imageOf bytes)) true ∧
      s.answers t q.mb q.cmd 0 [] :=
  endLoad_answers hs q.mb hq _ _ true 0 [] ((exec_atlasLoadDone bytes hl).trans (by rw [judgeLoad_verified s q _ hv]))

theorem atlasLoadDone_refused {i : Nat}
    (hv : (s.placeSlot s.spareSlot (imageOf bytes)).verify (q.cmd.word 3).toNat = some i) :
    ∃ t, exec (.atlasLoadDone bytes) s = .next t ∧ LoadEnded t s.spareSlot (s.placeSlot s.spareSlot (imageOf bytes)) false ∧
      s.answers t q.mb q.cmd 8 [wd i] :=
  endLoad_answers hs q.mb hq _ _ false 8 [wd i] ((exec_atlasLoadDone bytes hl).trans (by rw [judgeLoad_refused s q _ hv]))

end

/-! ### ATLAS_SWITCH and ATLAS_STATUS (R120, R121) -/

/-- The state with an ATLAS_SWITCH that waits for the sheet boundary. -/
def State.awaitSwitch (s : State) (q : PosWait) : State :=
  { s with pos := { s.pos with switches := s.pos.switches ++ [q] } }.setB Fd.POS_ATLAS_SW_PEND true

theorem awaitSwitch_pend (s : State) (q : PosWait) : (s.awaitSwitch q).getB Fd.POS_ATLAS_SW_PEND = true :=
  getB_setB_same _ Fd.POS_ATLAS_SW_PEND true 0 0 (fits_of rfl) (by decide)

theorem awaitSwitch_switches (s : State) (q : PosWait) : (s.awaitSwitch q).pos.switches = s.pos.switches ++ [q] := rfl

/-- What ATLAS_SWITCH does once its checks have passed. -/
def atlasSwitchBody (mb : Nat) (s : State) (c : Command) : State :=
  if s.posOff then s.complete mb c 7
  else if s.pos.load.isSome then s.completeRecorded mb c 7
  else if !s.slotValid s.spareSlot then s.complete mb c 7
  else s.awaitSwitch ⟨mb, c⟩

theorem exec_atlasSwitch (mb : Fin 20) (s : State) : exec (.atlasSwitch mb) s =
    s.whenLive (.next (s.runCommand mb 0x21 fun s c => s.checked mb c 3 true fun s => atlasSwitchBody mb s c)) := rfl

theorem atlasSwitchBody_waits {s : State} (mb : Nat) (c : Command) (hp : s.posOff = false) (hl : s.pos.load = none)
    (hv : s.slotValid s.spareSlot = true) : atlasSwitchBody mb s c = s.awaitSwitch ⟨mb, c⟩ := by
  simp only [atlasSwitchBody, hp, hl, hv, Option.isSome_none, Bool.not_true, Bool.false_eq_true, if_false]

/-- The payload of ATLAS_STATUS (Table 6.6). -/
def State.atlasStatus (s : State) : List Word :=
  [s.reg (Reg.POS_ATLAS.off 0 0), wd s.pos.slot0.atlasId, wd s.pos.slot0.crcEnt, wd s.pos.slot1.atlasId, wd s.pos.slot1.crcEnt]

section
variable {mb : Fin 20} {s : State} {c : Command}

theorem atlasSwitch_waits (h : s.runs mb 0x21 3 true c) (hp : s.posOff = false) (hl : s.pos.load = none)
    (hv : s.slotValid s.spareSlot = true) :
    ∃ t, exec (.atlasSwitch mb) s = .next t ∧ t.getB Fd.POS_ATLAS_SW_PEND = true ∧
      ∃ q, t.pos.switches = s.pos.switches ++ [q] ∧ q.mb = mb.val ∧ q.cmd.tag = c.tag := by
  obtain ⟨t, e, hk⟩ := runs_next h (fun _ => 3) (fun _ _ => true) (atlasSwitchBody mb) rfl rfl _
    (atlasSwitchBody_waits (s := s.startOldest mb) mb (s.begun c) hp hl hv) rfl rfl
  rw [exec_atlasSwitch]
  refine ⟨t, e, ?_, _, (congrArg Position.switches hk.pos).trans (awaitSwitch_switches ..), rfl, rfl⟩
  rw [getB_of_get (hk.get Fd.POS_ATLAS_SW_PEND 0 0 (by decide))]
  exact awaitSwitch_pend ..

theorem atlasStatus_answers (h : s.runs mb 0x22 2 false c) :
    ∃ t, exec (.atlasStatus mb) s = .next t ∧ s.answers t mb c 0 s.atlasStatus ∧ OnlyAnswered mb s t :=
  runs_answers h (fun _ => 2) (fun _ _ => false) (fun s c => s.complete mb c 0 s.atlasStatus) rfl rfl 0 s.atlasStatus rfl

end

/-! ### POS_FIX and PASSAGE (R125, R136) -/

/-- The state with a fix that waits for the sheet boundary. -/
def State.awaitFix (s : State) (q : PosWait) : State := { s with pos := { s.pos with fixes := s.pos.fixes ++ [q] } }

/-- What a fix for POS.CTL.MODE `mode`, whose bits [27:26] of word `k` hold its kind, does once its checks have passed. -/
def fixBody (mode k mb : Nat) (s : State) (c : Command) : State :=
  if !sigmaOk (c.word 3) || wbits (c.word k) 27 26 == 3 then s.complete mb c 4
  else if s.get Fd.POS_CTL_MODE ≠ mode then s.complete mb c 7
  else s.awaitFix ⟨mb, c⟩

section
variable {mode k : Nat} {s : State} {c : Command}

theorem fixBody_refused (mb : Nat) (hb : sigmaOk (c.word 3) = false ∨ wbits (c.word k) 27 26 = 3) :
    fixBody mode k mb s c = s.complete mb c 4 := if_pos (by simpa using hb)

theorem fixBody_accepted (mb : Nat) (hg : sigmaOk (c.word 3) = true) (hn : wbits (c.word k) 27 26 ≠ 3) :
    fixBody mode k mb s c = if s.get Fd.POS_CTL_MODE ≠ mode then s.complete mb c 7 else s.awaitFix ⟨mb, c⟩ :=
  if_neg (by simp [hg, hn])

end

/-- A row whose command is a fix for `mode`. -/
theorem exec_fix {i : Instr} {mode k op : Nat} {mb : Fin 20} {s : State} {c : Command} (h : s.runs mb op 3 false c)
    (e : exec i s = s.whenLive (.next (s.runCommand mb op fun s c => s.checked mb c 3 false fun s => fixBody mode k mb s c))) :
    ∃ t, exec i s = .next t ∧
      (sigmaOk (c.word 3) = false ∨ wbits (c.word k) 27 26 = 3 → s.answers t mb c 4 [] ∧ OnlyAnswered mb s t) ∧
      (sigmaOk (c.word 3) = true → wbits (c.word k) 27 26 ≠ 3 →
        (s.get Fd.POS_CTL_MODE = mode → ∃ q, t.pos.fixes = s.pos.fixes ++ [q] ∧ q.mb = mb.val ∧ q.cmd.payload = c.payload) ∧
        (s.get Fd.POS_CTL_MODE ≠ mode → s.answers t mb c 7 [] ∧ OnlyAnswered mb s t)) := by
  rw [e]
  by_cases hb : sigmaOk (c.word 3) = false ∨ wbits (c.word k) 27 26 = 3
  · obtain ⟨t, e, ha⟩ := runs_answers h (fun _ => 3) (fun _ _ => false) (fixBody mode k mb) rfl rfl 4 []
      (fixBody_refused (c := s.begun c) mb hb)
    exact ⟨t, e, fun _ => ha, fun hg hn => absurd hb (by simp [hg, hn])⟩
  · obtain ⟨hg, hn⟩ := not_or.1 hb
    have hf := fixBody_accepted (mode := mode) (s := s.startOldest mb) (c := s.begun c) mb (Bool.eq_true_of_not_eq_false hg) hn
    by_cases hm : s.get Fd.POS_CTL_MODE = mode
    · obtain ⟨t, e, hk⟩ := runs_next h (fun _ => 3) (fun _ _ => false) (fixBody mode k mb) rfl rfl _
        (hf.trans (if_neg (not_not_intro hm))) rfl rfl
      exact ⟨t, e, fun hx => absurd hx hb, fun _ _ =>
        ⟨fun _ => ⟨_, congrArg Position.fixes hk.pos, rfl, rfl⟩, fun hx => absurd hm hx⟩⟩
    · obtain ⟨t, e, ha⟩ := runs_answers h (fun _ => 3) (fun _ _ => false) (fixBody mode k mb) rfl rfl 7 [] (hf.trans (if_pos hm))
      exact ⟨t, e, fun hx => absurd hx hb, fun _ _ => ⟨fun hx => absurd hx hm, fun _ => ha⟩⟩

/-! ### POS_ROUTE (R127) -/

/-- The routes that a POS_ROUTE names. -/
def Command.routes (c : Command) : List Nat := (List.range (c.word 1).toNat).map fun i => wbits (c.word (i + 2)) 15 0

/-- The state with a list of routes in force. -/
def State.withRoutes (s : State) (l : List Nat) : State := { s with pos := { s.pos with routes := l } }

/-- What POS_ROUTE does once its checks have passed. -/
def posRouteBody (mb : Nat) (s : State) (c : Command) : State :=
  if (c.word 1).toNat < 1 ∨ 8 < (c.word 1).toNat then s.complete mb c 4
  else if s.posOff then s.complete mb c 7
  else (s.withRoutes c.routes).complete mb c 0

theorem exec_posRoute (mb : Fin 20) (s : State) : exec (.posRoute mb) s =
    s.whenLive (.next (s.runCommand mb 0x24 fun s c => s.checked mb c 3 false fun s => posRouteBody mb s c)) := rfl

section
variable {mb : Fin 20} {s : State} {c : Command} (h : s.runs mb 0x24 3 false c)
include h

/-- A POS_ROUTE whose row ends in an answer. -/
theorem posRoute_answers (st : Nat)
    (hb : posRouteBody mb (s.startOldest mb) (s.begun c) = (s.startOldest mb).complete mb (s.begun c) st) :
    ∃ t, exec (.posRoute mb) s = .next t ∧ s.answers t mb c st [] ∧ OnlyAnswered mb s t := by
  rw [exec_posRoute]
  exact runs_answers h (fun _ => 3) (fun _ _ => false) (posRouteBody mb) rfl rfl st [] hb

theorem posRoute_takes (hn : ¬ ((c.word 1).toNat < 1 ∨ 8 < (c.word 1).toNat)) (hp : s.posOff = false) :
    ∃ t, exec (.posRoute mb) s = .next t ∧ s.answers t mb c 0 [] ∧ t.pos.routes = c.routes := by
  have hb : posRouteBody mb (s.startOldest mb) (s.begun c) =
      ((s.startOldest mb).withRoutes c.routes).complete mb (s.begun c) 0 :=
    (if_neg hn).trans (if_neg (Bool.eq_false_iff.1 hp))
  obtain ⟨t, e, ha, hk⟩ := runs_complete h (fun _ => 3) (fun _ _ => false) (posRouteBody mb) rfl rfl _ 0 [] hb rfl rfl
    (startOldest_waiting s mb)
  rw [exec_posRoute]
  exact ⟨t, e, ha, congrArg Position.routes hk.pos⟩

end

/-! ### Presence (R136) -/

/-- The state in which input `i` has asserted: its fix waits for the sheet boundary, its filter starts anew. -/
def State.assertPresence (s : State) (i : Nat) : State :=
  { s with pos := { s.pos with asserted := s.pos.asserted ++ [i], presHold := mapSet 0 s.pos.presHold i 0 } }.setB
    Fd.POS_PRES_STATE true i

/-- An input that is enabled and not asserted, and whose pin has stood against that for its filter's sheets. -/
abbrev State.presenceDue (s : State) (i : Nat) : Prop :=
  s.get Fd.POS_CTL_MODE = 2 ∧ s.getB Fd.POS_PRES_EN i = true ∧ s.getB Fd.POS_PRES_STATE i = false ∧ 1 ≤ mapGet 0 s.pos.presHold i ∧
    s.get Fd.POS_PRES_FILT i ≤ mapGet 0 s.pos.presHold i

theorem exec_presenceAssert (i : Fin 8) (s : State) : exec (.presenceAssert i) s =
    s.whenLive (if s.presenceDue i then .next (s.assertPresence i) else .next s) := rfl

/-- A track whose inputs have been quiet for 8,000 sheets. -/
abbrev State.trackDue (s : State) (k : Nat) : Prop :=
  s.get Fd.POS_CTL_MODE = 2 ∧ (s.track k).occupied = true ∧ (!s.presenceOn k) = true ∧ (s.track k).quietFrom + 8000 ≤ s.sheet

theorem exec_trackEmpty (k : Fin 2) (s : State) : exec (.trackEmpty k) s =
    s.whenLive (if s.trackDue k then .next (s.setTrack k Track.reset) else .next s) := rfl

section
variable {i : Instr} {s u : State} {due : Prop} [Decidable due] (hs : s.alive = true)
  (e : exec i s = s.whenLive (if due then .next u else .next s))
include hs e

/-- An event that is due has its effect, where that keeps the timebase and the queue. -/
theorem exec_due (hd : due) (ht : u.time = s.time) (hq : u.pending = s.pending) : exec i s = .next u := by
  rw [if_pos hd] at e
  rw [exec_next hs e, putBack_self ht hq]

/-- An event that is not due has no effect. -/
theorem exec_undue (hd : ¬ due) : exec i s = .next s := by
  rw [if_neg hd] at e
  rw [exec_next hs e, putBack_self rfl rfl]

end

theorem assertPresence_state (s : State) (i : Nat) : (s.assertPresence i).getB Fd.POS_PRES_STATE i = true :=
  getB_setB_same _ Fd.POS_PRES_STATE true i 0 (fits_of rfl) (by decide)

theorem assertPresence_time (s : State) (i : Nat) : (s.assertPresence i).time = s.time := State.setB_time ..

theorem assertPresence_pending (s : State) (i : Nat) : (s.assertPresence i).pending = s.pending := State.setB_pending ..

section
variable {s : State} (hs : s.alive = true) (hm : s.get Fd.POS_CTL_MODE = 2)
include hs hm

theorem presenceAssert_acts (i : Fin 8) (hen : s.getB Fd.POS_PRES_EN i = true) (hst : s.getB Fd.POS_PRES_STATE i = false)
    (hh : 1 ≤ mapGet 0 s.pos.presHold i) :
    ∃ t, exec (.presenceAssert i) s = .next t ∧
      (s.get Fd.POS_PRES_FILT i ≤ mapGet 0 s.pos.presHold i → t.getB Fd.POS_PRES_STATE i = true ∧
        t.pos.asserted = s.pos.asserted ++ [i.val] ∧ t.pos.track0 = s.pos.track0 ∧ t.pos.track1 = s.pos.track1) ∧
      (mapGet 0 s.pos.presHold i < s.get Fd.POS_PRES_FILT i → t = s) := by
  rcases Nat.lt_or_ge (mapGet 0 s.pos.presHold i.val) (s.get Fd.POS_PRES_FILT i.val) with hf | hf
  · refine ⟨s, exec_undue hs (exec_presenceAssert i s) ?_, fun hn => absurd hn (Nat.not_le.2 hf), fun _ => rfl⟩
    rintro ⟨_, _, _, _, hn⟩
    exact Nat.not_le.2 hf hn
  · exact ⟨_, exec_due hs (exec_presenceAssert i s) ⟨hm, hen, hst, hh, hf⟩ (assertPresence_time ..)
      (assertPresence_pending ..), fun _ => ⟨assertPresence_state s i, rfl, rfl, rfl⟩, fun hn => absurd hf (Nat.not_le.2 hn)⟩

theorem trackEmpty_acts (k : Fin 2) (ho : (s.track k).occupied = true) (hp : s.presenceOn k = false) :
    ∃ t, exec (.trackEmpty k) s = .next t ∧
      ((s.track k).quietFrom + 8000 ≤ s.sheet → t = s.setTrack k Track.reset) ∧
      (s.sheet < (s.track k).quietFrom + 8000 → t = s) := by
  by_cases hq : (s.track k).quietFrom + 8000 ≤ s.sheet
  · exact ⟨_, exec_due hs (exec_trackEmpty k s) ⟨hm, ho, by rw [hp]; rfl, hq⟩ rfl rfl, fun _ => rfl,
      fun hn => absurd hq (Nat.not_le.2 hn)⟩
  · refine ⟨s, exec_undue hs (exec_trackEmpty k s) ?_, fun hn => absurd hn hq, fun _ => rfl⟩
    rintro ⟨_, _, _, hn⟩
    exact hq hn

end

/-- Settles O17: each row runs its command (`runs_next`, `exec_fix`) or its event (`exec_due`, `exec_undue`); what it leaves is the lemma
of its name. -/
theorem positionBlockActs : Obligations.PositionBlockActs := by
  refine ⟨⟨fun mb s c h hp hl hw => atlasLoad_begins h hp hl hw, fun bytes s q hs hl hq => ?_,
      fun mb s c h hp hl hv => atlasSwitch_waits h hp hl hv, fun mb s c h => ?_⟩,
    ⟨fun mb s c h => exec_fix h rfl, fun mb s c h => ?_, fun mb s c h => exec_fix h rfl⟩,
    fun i s hs hm hen hst hh => presenceAssert_acts hs hm i hen hst hh, fun k s hs hm ho hp => trackEmpty_acts hs hm k ho hp⟩
  · cases hv : (s.placeSlot s.spareSlot (imageOf bytes)).verify (q.cmd.word 3).toNat with
    | none =>
      obtain ⟨t, e, ⟨hload, hloading, hslot, hvalid⟩, ha⟩ := atlasLoadDone_verified bytes hs hl hq hv
      exact ⟨t, e, hload, hloading, hslot, fun _ => ⟨hvalid, ha⟩, fun i hi => absurd (hv.symm.trans hi) nofun⟩
    | some j =>
      obtain ⟨t, e, ⟨hload, hloading, hslot, hvalid⟩, ha⟩ := atlasLoadDone_refused bytes hs hl hq hv
      refine ⟨t, e, hload, hloading, hslot, fun hn => absurd (hv.symm.trans hn) nofun, fun i hi => ?_⟩
      cases hv.symm.trans hi
      exact ⟨hvalid, ha⟩
  · obtain ⟨t, e, ha, hk⟩ := atlasStatus_answers h
    exact ⟨t, e, hk, ha⟩
  · by_cases hn : (c.word 1).toNat < 1 ∨ 8 < (c.word 1).toNat
    · obtain ⟨t, e, ha⟩ := posRoute_answers h 4 (if_pos hn)
      exact ⟨t, e, fun _ => ha, fun h1 h8 => by omega⟩
    · cases hp : s.posOff with
      | false =>
        obtain ⟨t, e, ha, hr⟩ := posRoute_takes h hn hp
        exact ⟨t, e, fun hx => absurd hx hn, fun _ _ _ => ⟨ha, hr⟩⟩
      | true =>
        obtain ⟨t, e, _⟩ := posRoute_answers h 7 ((if_neg hn).trans (if_pos hp))
        exact ⟨t, e, fun hx => absurd hx hn, fun _ _ => nofun⟩

end Sys2Proof.Machine

/-!
SUPPORT. Proofs about the supervision of the domains: the machines of Table 8.5, their events, and DOMAIN_MODE.
-/

namespace Sys2Proof.Machine

-- The option has the proofs elaborated one after another, not beside the tests above: the two together exceed the check's memory.
set_option deprecated.oldSectionVars true

/-! ### Events that have an effect where they are due -/

/-- An event that has its effect where it is due, and none otherwise. -/
theorem exec_event {i : Instr} {s u : State} {due : Prop} [Decidable due] (hs : s.alive = true)
    (e : exec i s = s.whenLive (.next (if due then u else s))) (ht : u.time = s.time) (hq : u.pending = s.pending) :
    ∃ t, exec i s = .next t ∧ (due → t = u) ∧ (¬ due → t = s) := by
  have e : exec i s = s.whenLive (if due then .next u else .next s) := e.trans (congrArg s.whenLive (apply_ite ..))
  by_cases hd : due
  · exact ⟨u, exec_due hs e hd ht hq, fun _ => rfl, fun hn => absurd hd hn⟩
  · exact ⟨s, exec_undue hs e hd, fun h => absurd h hd, fun _ => rfl⟩

/-! ### The machines of Table 8.5 -/

@[simp] theorem domX_setDomX_same (s : State) (d : Nat) (x : DomX) : (s.setDomX d x).domX d = x := mapGet_mapSet_same ..

@[simp] theorem ctX_setCtX_same (s : State) (k : Nat) (x : ContourX) : (s.setCtX k x).ctX k = x := mapGet_mapSet_same ..

theorem domX_of_con {s t : State} (h : t.con = s.con) (d : Nat) : t.domX d = s.domX d := by rw [State.domX, State.domX, h]

theorem ctX_of_con {s t : State} (h : t.con = s.con) (k : Nat) : t.ctX k = s.ctX k := by rw [State.ctX, State.ctX, h]

section
variable (s : State) (d : Nat) (m : SupState)

theorem setSupState_own : s.setSupState d false m =
    ((s.setDomX d { s.domX d with h := m.h, good := m.good, seen := m.seen }).set Fd.CON_DSUPST_STATE m.state d).set
      Fd.CON_DSUPST_CNT (min m.cnt 255) d := rfl

theorem setSupState_ino : s.setSupState d true m =
    s.setDomX d { s.domX d with inoState := m.state, inoCnt := m.cnt, inoH := m.h, inoGood := m.good } := rfl

theorem setSupState_state (h : m.state < 4) : (s.setSupState d false m).get Fd.CON_DSUPST_STATE d = m.state := by
  rw [setSupState_own, get_set_field _ Fd.CON_DSUPST_CNT Fd.CON_DSUPST_STATE _ d 0 rfl (fits_of rfl) (by decide)]
  exact get_set_of_lt _ d 0 (fits_of rfl) h

theorem setSupState_cnt : (s.setSupState d false m).get Fd.CON_DSUPST_CNT d = min m.cnt 255 :=
  get_set_of_lt _ d 0 (fits_of rfl) (Nat.lt_succ_of_le (Nat.min_le_right ..))

theorem setSupState_good : ((s.setSupState d false m).domX d).good = m.good := by
  rw [setSupState_own, domX_of_con (State.set_con ..), domX_of_con (State.set_con ..), domX_setDomX_same]

/-- The INO contour's machine counts its good sheets apart from the domain's (R174). -/
theorem setSupState_ino_good : ((s.setSupState d true m).domX d).good = (s.domX d).good := by
  rw [setSupState_ino, domX_setDomX_same]

/-- Either machine leaves the contours, the timebase and the queue alone. -/
theorem setSupState_ctX (ino : Bool) (k : Nat) : (s.setSupState d ino m).ctX k = s.ctX k := by
  cases ino with
  | true => rfl
  | false => rw [setSupState_own, ctX_of_con (State.set_con ..), ctX_of_con (State.set_con ..)]; rfl

theorem setSupState_time (ino : Bool) : (s.setSupState d ino m).time = s.time := by
  cases ino with
  | true => rfl
  | false => exact (State.set_time ..).trans (State.set_time ..)

theorem setSupState_pending (ino : Bool) : (s.setSupState d ino m).pending = s.pending := by
  cases ino with
  | true => rfl
  | false => exact (State.set_pending ..).trans (State.set_pending ..)

/-- Either machine leaves the flags of DSUPST alone, which lie above STATE and CNT. -/
theorem setSupState_flags (ino : Bool) {f : Fld} (hr : f.reg = Reg.CON_DSUPST) (hl : 16 ≤ f.lsb) :
    (s.setSupState d ino m).get f d = s.get f d := by
  cases ino with
  | true => rfl
  | false =>
    rw [setSupState_own, get_set_field _ Fd.CON_DSUPST_CNT f _ d 0 hr (fits_of rfl) (.inl (Nat.le_trans (by decide) hl)),
      get_set_field _ Fd.CON_DSUPST_STATE f _ d 0 hr (fits_of rfl) (.inl hl)]
    rfl

end

/-! ### CONTOUR_LOST and CONTOUR_FROZEN (R172) -/

/-- A kind of a domain becomes LOST or FROZEN: its flag in field `f` of DSUPST, the source `src`, and HOLD. -/
def State.becomeBad (s : State) (f : Fld) (src d k : Nat) : State :=
  ((s.set f (s.get f d ||| 2 ^ k) d).pulseOn src 0 (2 ^ d)).enterHold d k

theorem exec_contourLost (d : Fin 256) (k : Fin 6) (s : State) : exec (.contourLost d k) s =
    s.whenLive (.next (if s.lostDue d k then s.becomeBad Fd.CON_DSUPST_LOST 262 d k else s)) := rfl

theorem exec_contourFrozen (d : Fin 256) (k : Fin 6) (s : State) : exec (.contourFrozen d k) s =
    s.whenLive (.next (if s.frozenDue d k then s.becomeBad Fd.CON_DSUPST_FROZEN 263 d k else s)) := rfl

theorem dsupst_low {d : Nat} (h : d < 256) : Reg.CON_DSUPST.off d 0 < 0x34048 := by
  simp only [RegDesc.off, Reg.CON_DSUPST]
  omega

/-- A field of DSUPST with a flag per kind, above STATE and CNT. -/
structure Fld.KindFlags (f : Fld) : Prop where
  reg : f.reg = Reg.CON_DSUPST
  above : 16 ≤ f.lsb
  width : f.width = 6
  fits : f.fits

theorem lost_kindFlags : Fd.CON_DSUPST_LOST.KindFlags := ⟨rfl, by decide, rfl, fits_of rfl⟩

theorem frozen_kindFlags : Fd.CON_DSUPST_FROZEN.KindFlags := ⟨rfl, by decide, rfl, fits_of rfl⟩

section
variable (s : State) {f : Fld} {src : Nat} (hsrc : src < 512)
include hsrc

theorem becomeBad_time (d k : Nat) : (s.becomeBad f src d k).time = s.time :=
  (setSupState_time ..).trans (pulseOn_raised _ _ _ hsrc).time

theorem becomeBad_pending (d k : Nat) : (s.becomeBad f src d k).pending = s.pending :=
  (setSupState_pending ..).trans (pulseOn_raised _ _ _ hsrc).pending

/-- The flag of the kind is set: neither the source raised nor HOLD touches it. -/
theorem becomeBad_flag (hf : f.KindFlags) {d : Nat} (hd : d < 256) {k : Nat} (hk : k < 6) :
    bit ((s.becomeBad f src d k).get f d) k = true := by
  have hv : s.get f d ||| 2 ^ k < 2 ^ f.width :=
    Nat.or_lt_two_pow (get_lt ..) (Nat.pow_lt_pow_right Nat.one_lt_two (hf.width ▸ hk))
  have hp := (pulseOn_raised (s.set f (s.get f d ||| 2 ^ k) d) 0 (2 ^ d) hsrc).low (hf.reg ▸ dsupst_low hd)
  have e : (s.becomeBad f src d k).get f d = s.get f d ||| 2 ^ k := calc
    _ = ((s.set f (s.get f d ||| 2 ^ k) d).pulseOn src 0 (2 ^ d)).get f d := setSupState_flags _ d _ _ hf.reg hf.above
    _ = (s.set f (s.get f d ||| 2 ^ k) d).get f d := get_of_reg f hp
    _ = s.get f d ||| 2 ^ k := get_set_of_lt s d 0 hf.fits hv
  simp [e, bit, Nat.testBit_two_pow_self]

end

/-- A row that has a kind become LOST or FROZEN where that is due. -/
theorem exec_becomeBad {i : Instr} {s : State} {f : Fld} {src : Nat} {d : Fin 256} {k : Fin 6} {due : Bool} (hs : s.alive = true)
    (e : exec i s = s.whenLive (.next (if due then s.becomeBad f src d k else s))) (hsrc : src < 512) (hf : f.KindFlags) :
    ∃ t, exec i s = .next t ∧ (due = true → bit (t.get f d) k = true) ∧ (due = false → t = s) := by
  obtain ⟨t, e, hd, hn⟩ := exec_event hs e (becomeBad_time s hsrc d k) (becomeBad_pending s hsrc d k)
  exact ⟨t, e, fun h => hd h ▸ becomeBad_flag s hsrc hf d.isLt k.isLt, fun h => hn (Bool.eq_false_iff.1 h)⟩

/-! ### SUP_HOLD_EXPIRY and GUARD_EXPIRY (R173) -/

/-- The domain's machine enters a state, its counts from 0. -/
def State.enterSup (s : State) (d st : Nat) : State := s.setSupState d false ((s.supState d false).enter st)

theorem exec_supHoldExpiry (d : Fin 256) (s : State) : exec (.supHoldExpiry d) s =
    s.whenLive (.next (if s.holdOver d false then s.enterSup d 2 else s)) := rfl

theorem exec_guardExpiry (d : Fin 256) (s : State) : exec (.guardExpiry d) s =
    s.whenLive (.next (if s.guardOver d false then s.enterSup d 0 else s)) := rfl

theorem holdOver_iff (s : State) (d : Nat) :
    s.holdOver d false = true ↔ s.get Fd.CON_DSUPST_STATE d = 1 ∧ s.legN 0x30A3 ≤ s.get Fd.CON_DSUPST_CNT d := by
  simp [State.holdOver, State.supState]

theorem guardOver_iff (s : State) (d : Nat) :
    s.guardOver d false = true ↔ s.get Fd.CON_DSUPST_STATE d = 3 ∧ s.legN 0x30A5 ≤ (s.domX d).good := by
  simp [State.guardOver, State.supState]

/-- The domain's machine is in state `st`, its counts at 0. -/
structure SupEntered (t : State) (d st : Nat) : Prop where
  state : t.get Fd.CON_DSUPST_STATE d = st
  cnt : t.get Fd.CON_DSUPST_CNT d = 0
  good : (t.domX d).good = 0

theorem enterSup_entered (s : State) (d : Nat) {st : Nat} (h : st < 4) : SupEntered (s.enterSup d st) d st where
  state := setSupState_state s d _ h
  cnt := setSupState_cnt ..
  good := setSupState_good ..

/-- A row by which the domain's machine enters a state where that is due. -/
theorem exec_enterSup {i : Instr} {s : State} {d : Fin 256} {st : Nat} {due : Bool} (hs : s.alive = true)
    (e : exec i s = s.whenLive (.next (if due then s.enterSup d st else s))) (hst : st < 4) :
    ∃ t, exec i s = .next t ∧ (due = true → SupEntered t d st) ∧ (¬ due = true → t = s) := by
  obtain ⟨t, e, hd, hn⟩ := exec_event hs e (setSupState_time ..) (setSupState_pending ..)
  exact ⟨t, e, fun h => hd h ▸ enterSup_entered s d hst, hn⟩

/-! ### PLAUS_MAX_REACHED (R171) -/

/-- The state of a machine that enters GUARD, or begins its good sheets anew where it is in GUARD. -/
def SupState.guardAnew (m : SupState) : SupState := if m.state = 3 then { m with good := 0 } else m.enter 3

/-- A machine of a domain enters GUARD, or begins its good sheets anew. -/
def State.guardAnew (s : State) (d : Nat) (ino : Bool) : State := s.setSupState d ino (s.supState d ino).guardAnew

theorem guardAnew_state (m : SupState) : m.guardAnew.state = 3 := by
  unfold SupState.guardAnew
  split
  · assumption
  · rfl

theorem guardAnew_good (m : SupState) : m.guardAnew.good = 0 := by
  unfold SupState.guardAnew
  split <;> rfl

/-- The run of implausible measurements of contour `k` ends. -/
def State.endImpl (s : State) (k : Nat) : State := s.setCtX k { s.ctX k with impl := 0 }

theorem plausReached_eq (s : State) (d k : Nat) : s.plausReached d k =
    forEach (if k = 2 then [false, true] else [false]) (s.endImpl (6 * d + k)) fun s ino => s.guardAnew d ino := rfl

theorem exec_plausMaxReached (d : Fin 256) (k : Fin 6) (s : State) : exec (.plausMaxReached d k) s =
    s.whenLive (.next (if s.getB Fd.CON_SUP_CTL_PLAUS_EN ∧ s.legN 0x30A7 ≤ (s.ctX (6 * d + k)).impl then s.plausReached d k
      else s)) := rfl

/-- What the machines of a domain keep, where all of them do. -/
theorem plausReached_keeps {β : Type} (p : State → β) (d : Nat)
    (hp : ∀ (s : State) (ino : Bool) (m : SupState), p (s.setSupState d ino m) = p s) (s : State) (k : Nat) :
    p (s.plausReached d k) = p (s.endImpl (6 * d + k)) :=
  (congrArg p (plausReached_eq s d k)).trans (forEach_keeps p _ _ (fun s ino => ⟨hp s ino _⟩) _)

/-- The domain is in GUARD, its good sheets counted from 0. -/
def InGuard (t : State) (d : Nat) : Prop := t.get Fd.CON_DSUPST_STATE d = 3 ∧ (t.domX d).good = 0

theorem guardAnew_inGuard (s : State) (d : Nat) : InGuard (s.guardAnew d false) d :=
  ⟨(setSupState_state s d _ (by rw [guardAnew_state]; decide)).trans (guardAnew_state _),
    (setSupState_good ..).trans (guardAnew_good _)⟩

/-- The INO contour's machine leaves the domain's in GUARD (R174). -/
theorem InGuard.ino {t : State} {d : Nat} (h : InGuard t d) : InGuard (t.guardAnew d true) d :=
  ⟨h.1, (setSupState_ino_good ..).trans h.2⟩

theorem plausReached_inGuard (s : State) (d k : Nat) : InGuard (s.plausReached d k) d := by
  rw [plausReached_eq]
  split
  · exact (guardAnew_inGuard (s.endImpl (6 * d + k)) d).ino
  · exact guardAnew_inGuard ..

theorem plausReached_impl (s : State) (d k : Nat) : ((s.plausReached d k).ctX (6 * d + k)).impl = 0 := by
  rw [plausReached_keeps (·.ctX (6 * d + k)) d (fun s ino m => setSupState_ctX s d m ino _), State.endImpl, ctX_setCtX_same]

theorem plausMaxReached_acts (d : Fin 256) (k : Fin 6) {s : State} (hs : s.alive = true)
    (hen : s.getB Fd.CON_SUP_CTL_PLAUS_EN = true) (hi : s.legN 0x30A7 ≤ (s.ctX (6 * d.val + k.val)).impl) :
    ∃ t, exec (.plausMaxReached d k) s = .next t ∧ t.get Fd.CON_DSUPST_STATE d = 3 ∧ (t.domX d).good = 0 ∧
      (t.ctX (6 * d.val + k.val)).impl = 0 := by
  obtain ⟨t, e, hd, _⟩ := exec_event hs (exec_plausMaxReached d k s)
    (plausReached_keeps State.time d (fun s ino m => setSupState_time s d m ino) s k)
    (plausReached_keeps State.pending d (fun s ino m => setSupState_pending s d m ino) s k)
  cases hd ⟨hen, hi⟩
  obtain ⟨hst, hg⟩ := plausReached_inGuard s d k
  exact ⟨_, e, hst, hg, plausReached_impl s d k⟩

/-! ### DOMAIN_MODE (R169) -/

theorem wbits_lt (v : Word) (hi lo : Nat) : wbits v hi lo < 2 ^ (hi + 1 - lo) := Nat.mod_lt _ (Nat.two_pow_pos _)

/-- The bits of a number that a field spells are the field's. -/
theorem bitsOf_signed (w v : Nat) : bitsOf w (signed w v) = v % 2 ^ w := by
  have h : signed w v % 2 ^ w = ((v % 2 ^ w : Nat) : Int) := by
    dsimp only [signed]
    split <;> simp
  rw [bitsOf, h, Int.toNat_natCast]

theorem signed_mod (w v : Nat) : signed w (v % 2 ^ w) = signed w v := by
  unfold signed
  rw [Nat.mod_mod]

/-- A signed field after a write of a number of its width. -/
theorem getI_setI_signed (s : State) (f : Fld) {w : Nat} (v i j : Nat) (h : f.fits) (hw : f.width = w) :
    (s.setI f (signed w v) i j).getI f i j = signed w v := by
  subst hw
  rw [State.getI, State.setI, get_set_same _ _ _ _ _ h, bitsOf_signed, Nat.mod_mod, signed_mod]

/-- The domain that a DOMAIN_MODE names. -/
def Command.domain (c : Command) : Nat := wbits (c.word 1) 7 0

/-- The mode that a DOMAIN_MODE sets (Table 8.4). -/
def Command.mode (c : Command) : Nat := wbits (c.word 1) 9 8

/-- The fixed gain of a DOMAIN_MODE, Q1.15. -/
def Command.gfix (c : Command) : Int := signed 16 (wbits (c.word 2) 15 0)

/-- A DOMAIN_MODE that is a restrictive order: the mode stays, and GFIX falls. -/
def State.modeFalls (s : State) (c : Command) : Bool :=
  c.mode == s.get Fd.CON_DCTL_MODE c.domain && decide (c.gfix < s.getI Fd.CON_DCTL_GFIX c.domain)

/-- The state with the mode and the fixed gain of a domain written. -/
def State.writeMode (s : State) (d mode : Nat) (g : Int) : State := (s.set Fd.CON_DCTL_MODE mode d).setI Fd.CON_DCTL_GFIX g d

/-- The state with a DOMAIN_MODE that waits for the sheet boundary. -/
def State.awaitMode (s : State) (q : ModeWait) : State := { s with con := { s.con with modes := s.con.modes ++ [q] } }

/-- What DOMAIN_MODE does once its checks have passed. -/
def domainModeBody (mb : Nat) (falls : Bool) (s : State) (c : Command) : State :=
  if c.mode = 3 ∨ wdI c.gfix ≠ c.word 2 then s.complete mb c 4
  else
    s.asOrder mb c falls [(targetKey 0x3B c.domain, c.mode * 65536 + wbits (c.word 2) 15 0)]
      [(Reg.CON_DCTL.off c.domain 0, 0x3000FFFF)] fun s =>
      (s.writeMode c.domain c.mode c.gfix).awaitMode ⟨mb, c⟩

theorem exec_domainMode (mb : Fin 20) (s : State) : exec (.domainMode mb) s =
    s.whenLive (.next (s.runCommand mb 0x3B fun s c =>
      s.checked mb c 3 (!s.modeFalls c) fun s => domainModeBody mb (s.modeFalls c) s c)) := by
  have e : exec (.domainMode mb) s = s.whenLive (.next (s.runCommand mb 0x3B fun s c =>
      s.checked mb c 3 (!s.modeFalls c) (domainModeBody mb (s.modeFalls c) · c))) := rfl
  exact e.trans (congrArg (fun b => s.whenLive (.next (s.runCommand mb 0x3B b))) (funext fun s => funext fun c =>
    checked_self s mb c 3 _ fun s u => domainModeBody mb (s.modeFalls c) u c))

theorem dctl_low {d : Nat} (h : d < 256) : Reg.CON_DCTL.off d 0 < 0x34048 := by
  simp only [RegDesc.off, Reg.CON_DCTL]
  omega

@[simp] theorem awaitMode_modes (s : State) (q : ModeWait) : (s.awaitMode q).con.modes = s.con.modes ++ [q] := rfl
@[simp] theorem awaitMode_time (s : State) (q : ModeWait) : (s.awaitMode q).time = s.time := rfl
@[simp] theorem awaitMode_pending (s : State) (q : ModeWait) : (s.awaitMode q).pending = s.pending := rfl
@[simp] theorem awaitMode_reg (s : State) (q : ModeWait) (o : Nat) : (s.awaitMode q).reg o = s.reg o := rfl

section
variable (s : State) (d mode : Nat)

theorem writeMode_mode (g : Int) (h : mode < 4) : (s.writeMode d mode g).get Fd.CON_DCTL_MODE d = mode :=
  (get_set_field _ Fd.CON_DCTL_GFIX Fd.CON_DCTL_MODE _ d 0 rfl (fits_of rfl) (by decide)).trans
    (get_set_of_lt s d 0 (fits_of rfl) h)

theorem writeMode_gfix (v : Nat) : (s.writeMode d mode (signed 16 v)).getI Fd.CON_DCTL_GFIX d = signed 16 v :=
  getI_setI_signed _ Fd.CON_DCTL_GFIX v d 0 (fits_of rfl) rfl

theorem writeMode_con (g : Int) : (s.writeMode d mode g).con = s.con := (State.setI_con ..).trans (State.set_con ..)

theorem writeMode_time (g : Int) : (s.writeMode d mode g).time = s.time := (State.setI_time ..).trans (State.set_time ..)

theorem writeMode_pending (g : Int) : (s.writeMode d mode g).pending = s.pending :=
  (State.setI_pending ..).trans (State.set_pending ..)

end

/-- A DOMAIN_MODE that is not refused, in a sheet without an earlier order. -/
theorem domainModeBody_waits {s : State} (mb : Nat) (falls : Bool) {c : Command} (hd : s.fw.dones = []) (hm : c.mode ≠ 3)
    (hg : wdI c.gfix = c.word 2) :
    domainModeBody mb falls s c =
      ((s.remember mb c falls [(targetKey 0x3B c.domain, c.mode * 65536 + wbits (c.word 2) 15 0)]
        [(Reg.CON_DCTL.off c.domain 0, 0x3000FFFF)]).writeMode c.domain c.mode c.gfix).awaitMode ⟨mb, c⟩ :=
  (if_neg (not_or.2 ⟨hm, not_not_intro hg⟩)).trans (asOrder_first hd ..)

section
variable {mb : Fin 20} {s : State} {c : Command} (h : s.runs mb 0x3B 3 true c)
include h

theorem domainMode_refused (hb : c.mode = 3 ∨ wdI c.gfix ≠ c.word 2) :
    ∃ t, exec (.domainMode mb) s = .next t ∧ s.answers t mb c 4 [] ∧ OnlyAnswered mb s t := by
  rw [exec_domainMode]
  exact runs_answers (runs_of_permissive h _) (fun _ => 3) (fun s c => !s.modeFalls c)
    (fun s c => domainModeBody mb (s.modeFalls c) s c) rfl rfl 4 [] (if_pos hb)

theorem domainMode_waits (hd : s.fw.dones = []) (hm : c.mode ≠ 3) (hg : wdI c.gfix = c.word 2) :
    ∃ t, exec (.domainMode mb) s = .next t ∧ t.get Fd.CON_DCTL_MODE c.domain = c.mode ∧
      t.getI Fd.CON_DCTL_GFIX c.domain = c.gfix ∧
      ∃ q, t.con.modes = s.con.modes ++ [q] ∧ q.mb = mb.val ∧ q.cmd.tag = c.tag := by
  obtain ⟨t, e, hk⟩ := runs_next (runs_of_permissive h _) (fun _ => 3) (fun s c => !s.modeFalls c)
    (fun s c => domainModeBody mb (s.modeFalls c) s c) rfl rfl _
    (domainModeBody_waits (s := s.startOldest mb) (c := s.begun c) mb _ hd hm hg)
    ((awaitMode_time ..).trans (writeMode_time ..)) ((awaitMode_pending ..).trans (writeMode_pending ..))
  have hl : t.reg (Reg.CON_DCTL.off c.domain 0) = _ := (hk.low (dctl_low (wbits_lt ..))).trans (awaitMode_reg ..)
  rw [exec_domainMode]
  refine ⟨t, e, ?_, ?_, ⟨mb, s.begun c⟩, ?_, rfl, rfl⟩
  · rw [get_of_reg Fd.CON_DCTL_MODE hl]
    exact writeMode_mode _ c.domain c.mode c.gfix (wbits_lt (c.word 1) 9 8)
  · rw [State.getI, get_of_reg Fd.CON_DCTL_GFIX hl]
    exact writeMode_gfix _ c.domain c.mode (wbits (c.word 2) 15 0)
  · rw [hk.con, awaitMode_modes, writeMode_con]
    rfl

end

/-- Settles O23: DOMAIN_MODE by its two cases, refused or waiting; each event by `exec_event`, what it leaves by the lemmas about the
machine of Table 8.5 that it moves. -/
theorem domainsSupervised : Obligations.DomainsSupervised := by
  refine ⟨fun mb s c h hd => ?_, fun d k s hs => exec_becomeBad hs (exec_contourLost d k s) (by decide) lost_kindFlags,
    fun d k s hs => exec_becomeBad hs (exec_contourFrozen d k s) (by decide) frozen_kindFlags, fun d s hs => ?_, fun d s hs => ?_,
    fun d k s hs hen hi => plausMaxReached_acts d k hs hen hi⟩
  · by_cases hb : c.mode = 3 ∨ wdI c.gfix ≠ c.word 2
    · obtain ⟨t, e, ha⟩ := domainMode_refused h hb
      exact ⟨t, e, fun _ => ha, fun hm hg => absurd hb (not_or.2 ⟨hm, not_not_intro hg⟩)⟩
    · obtain ⟨hm, hg⟩ := not_or.1 hb
      obtain ⟨t, e, ht⟩ := domainMode_waits h hd hm (not_not.1 hg)
      exact ⟨t, e, fun hx => absurd hx hb, fun _ _ => ht⟩
  · obtain ⟨t, e, hd, hn⟩ := exec_enterSup hs (exec_supHoldExpiry d s) (by decide)
    rw [holdOver_iff] at hd hn
    refine ⟨t, e, fun h1 hc => ?_, hn⟩
    obtain ⟨hst, hcnt, _⟩ := hd ⟨h1, hc⟩
    exact ⟨hst, hcnt⟩
  · obtain ⟨t, e, hd, hn⟩ := exec_enterSup hs (exec_guardExpiry d s) (by decide)
    rw [guardOver_iff] at hd hn
    refine ⟨t, e, fun h3 hg => ?_, hn⟩
    obtain ⟨hst, hcnt, hgood⟩ := hd ⟨h3, hg⟩
    exact ⟨hst, hcnt, hgood⟩

end Sys2Proof.Machine

/-!
SUPPORT. Proofs about the ends of protection: restrictions released, gates closed, the Datum core's restart.
-/

namespace Sys2Proof.Machine

-- The option has the proofs elaborated one after another, not beside the tests above: the two together exceed the check's memory.
set_option deprecated.oldSectionVars true

/-- A row that has its effect where it is due, and none otherwise. -/
theorem exec_whereDue {i : Instr} {s u : State} {due : Prop} [Decidable due] (hs : s.alive = true)
    (e : exec i s = s.whenLive (.next (if due then u else s))) :
    ∃ t, exec i s = .next t ∧ (due → t = u.putBack s) ∧ (¬ due → t = s) := by
  refine ⟨_, exec_next hs e, fun h => by rw [if_pos h], fun h => ?_⟩
  rw [if_neg h, putBack_self rfl rfl]

/-! ### A restriction released (R182, R184) -/

section
variable (s : State) (r : Restriction)

/-- The restrictions without one. -/
def State.lift : State := { s with prot := { s.prot with held := s.prot.held.filter fun q => q != r } }

theorem syncFltMute_sameHeld : SameHeld s s.syncFltMute :=
  .forEach _ _ (fun _ _ => .after (updateMuted_sameHeld ..) (.setB ..)) s

theorem releaseReactions_sameHeld (src : Nat) : SameHeld s (s.releaseReactions src) :=
  .after (syncFltMute_sameHeld _) (.after (.setB ..) ⟨rfl, rfl, rfl⟩)

theorem releaseTripReaction_sameHeld : SameHeld s (s.releaseTripReaction r) := by
  unfold State.releaseTripReaction
  exact .ite (.refl s) (.ite (releaseReactions_sameHeld ..) (.after (syncFltMute_sameHeld _) ⟨rfl, rfl, rfl⟩))

theorem releaseOne_sameHeld : SameHeld (s.lift r) (s.releaseOne r) := by
  unfold State.releaseOne
  exact .after (refreshPstatProt_sameHeld _) (.after (noteProt_sameHeld ..) (.after (releaseTripReaction_sameHeld ..)
    (.after (.ite (awaitInit_sameHeld ..) (.refl _)) (refreshTarget_sameHeld ..))))

theorem releaseOne_held : (s.releaseOne r).prot.held = s.prot.held.filter fun q => q != r :=
  congrArg Prot.held (releaseOne_sameHeld s r).prot

/-! ### The two steps of a lane held by reflected power (R190) -/

/-- The restriction told when its lane unmutes. -/
def State.unmuteNext : State :=
  { s with prot := { s.prot with held := s.prot.held.map fun q =>
      if q = r then { q with unmuteAt := some (s.sheet + 1), latched := false } else q } }

variable {r}

theorem release_other (h : r.kind ≠ 5) : s.release r = s.releaseOne r := by
  unfold State.release
  split
  · exact absurd ‹r.kind = 5› h
  · exact absurd ‹r.kind = 5› h
  · rfl

theorem release_first (h : r.kind = 5) (hu : r.unmuteAt = none) : s.release r = s.unmuteNext r := by
  unfold State.release
  rw [h, hu]
  rfl

theorem release_second {u : Nat} (h : r.kind = 5) (hu : r.unmuteAt = some u) :
    s.release r = if u ≤ s.sheet then s.releaseOne r else s := by
  unfold State.release
  rw [h, hu]
  rfl

/-- A restriction not yet told when its lane unmutes is due only where it is not latched. -/
theorem releaseDue_unlatched (hd : s.releaseDue r = true) (hu : r.unmuteAt = none) : r.latched = false := by
  unfold State.releaseDue at hd
  simp only [hu, Option.isSome_none, Bool.false_or, Bool.and_eq_true, Bool.not_eq_true'] at hd
  obtain ⟨⟨_, ⟨hl, _⟩, _⟩, _⟩ := hd
  exact hl

theorem unmuteNext_held (hl : r.latched = false) : (s.unmuteNext r).prot.held =
    s.prot.held.map fun q => if q = r then { q with unmuteAt := some (s.sheet + 1) } else q := by
  refine List.map_congr_left fun q _ => ?_
  by_cases hq : q = r
  · subst hq
    rw [if_pos rfl, if_pos rfl, hl]
  · rw [if_neg hq, if_neg hq]

/-! ### PROT_HOLD_RELEASE (R184) -/

theorem exec_protHoldRelease (k : Fin 8) (c : Fin 3) (target : Fin 256)
    (hf : s.prot.held.find? (fun r => r.kind == k.val && r.cls == c.val && r.target == target.val) = some r) :
    exec (.protHoldRelease k c target) s = s.whenLive (.next (if s.releaseDue r then s.release r else s)) := by
  change execProtHoldRelease k c target s = _
  unfold execProtHoldRelease
  rw [hf]

theorem protHoldRelease_acts (k : Fin 8) (c : Fin 3) (target : Fin 256) (hs : s.alive = true)
    (hf : s.prot.held.find? (fun r => r.kind == k.val && r.cls == c.val && r.target == target.val) = some r) :
    ∃ t, exec (.protHoldRelease k c target) s = .next t ∧
      (s.releaseDue r = true → r.kind ≠ 5 → t.prot.held = s.prot.held.filter fun q => q != r) ∧
      (s.releaseDue r = true → r.kind = 5 → r.unmuteAt = none →
        t.prot.held = s.prot.held.map fun q => if q = r then { q with unmuteAt := some (s.sheet + 1) } else q) ∧
      (∀ u, s.releaseDue r = true → r.kind = 5 → r.unmuteAt = some u →
        (u ≤ s.sheet → t.prot.held = s.prot.held.filter fun q => q != r) ∧ (s.sheet < u → t = s)) ∧
      (s.releaseDue r = false → t = s) := by
  obtain ⟨t, e, hd, hn⟩ := exec_whereDue hs (exec_protHoldRelease s k c target hf)
  refine ⟨t, e, fun h hk => ?_, fun h hk hu => ?_, fun u h hk hu => ⟨fun hr => ?_, fun hw => ?_⟩,
    fun h => hn (by rw [h]; decide)⟩
  · rw [hd h, putBack_prot, release_other s hk, releaseOne_held]
  · rw [hd h, putBack_prot, release_first s hk hu, unmuteNext_held s (releaseDue_unlatched s h hu)]
  · rw [hd h, putBack_prot, release_second s hk hu, if_pos hr, releaseOne_held]
  · rw [hd h, release_second s hk hu, if_neg (Nat.not_le.2 hw), putBack_self rfl rfl]

end

/-! ### GATE_CLOSE (R194) -/

section
variable (s : State) (w i : Nat)

theorem gate_refreshGates (v x j : Nat) : (s.refreshGates v).gate x j = s.gate x j := rfl

theorem gate_setGate_same (g : Gate) : (s.setGate w i g).gate w i = g := mapGet_mapSet_same ..

theorem gate_setGate_other (g : Gate) {v j : Nat} (h : 2048 * v + j ≠ 2048 * w + i) : (s.setGate w i g).gate v j = s.gate v j :=
  mapGet_mapSet_other _ _ _ h

theorem closeGate_same : (s.closeGate w i).gate w i = { s.gate w i with isOpen := false, since := 0 } :=
  (gate_refreshGates ..).trans (gate_setGate_same ..)

theorem closeGate_other {v j : Nat} (h : 2048 * v + j ≠ 2048 * w + i) : (s.closeGate w i).gate v j = s.gate v j :=
  (gate_refreshGates ..).trans (gate_setGate_other _ _ _ _ h)

theorem gate_putBack (u : State) : (u.putBack s).gate w i = u.gate w i := rfl

end

theorem exec_gateClose (w : Fin 16) (i : Nat) (s : State) : exec (.gateClose w i) s =
    s.whenLive (.next (if (s.gate w i).isOpen = true ∧ s.gateHold w ≤ (s.gate w i).since then s.closeGate w i else s)) := rfl

theorem gateClose_acts (w : Fin 16) (i : Nat) {s : State} (hs : s.alive = true) : ∃ t, exec (.gateClose w i) s = .next t ∧
    ((s.gate w i).isOpen = true → s.gateHold w ≤ (s.gate w i).since → (t.gate w i).isOpen = false ∧ (t.gate w i).since = 0 ∧
      ∀ v j, 2048 * v + j ≠ 2048 * w.val + i → t.gate v j = s.gate v j) ∧
    ((s.gate w i).isOpen = false ∨ (s.gate w i).since < s.gateHold w → t = s) := by
  obtain ⟨t, e, hd, hn⟩ := exec_whereDue hs (exec_gateClose w i s)
  refine ⟨t, e, fun ho hh => ?_, fun h => hn (not_due h)⟩
  rw [hd ⟨ho, hh⟩, gate_putBack, closeGate_same]
  exact ⟨rfl, rfl, fun v j hv => (gate_putBack ..).trans (closeGate_other s w i hv)⟩

/-! ### DATUM_RESTART (R180) -/

/-- The Datum core restarting. -/
def State.beginRestart (s : State) : State :=
  { s with prot := { s.prot with datumDown := true } }.setB Fd.FLT_PSTAT_RESTART true

theorem exec_datumRestart (s : State) : exec .datumRestart s = s.whenLive (.next (s.beginRestart.raise 488)) := rfl

theorem datumRestart_acts {s : State} (hs : s.alive = true) : ∃ t, exec .datumRestart s = .next t ∧ t.prot.datumDown = true ∧
    t.getB Fd.FLT_PSTAT_RESTART = true ∧ t.prot.held = s.prot.held := by
  have hr := raise_raised s.beginRestart (show 488 < 512 by decide)
  refine ⟨_, exec_next hs (exec_datumRestart s), ?_, ?_, ?_⟩
  · rw [putBack_prot, hr.prot]
    rfl
  · rw [putBack_getB, getB_of_get (hr.get Fd.FLT_PSTAT_RESTART 0 0 (by decide))]
    exact getB_setB_same _ Fd.FLT_PSTAT_RESTART true 0 0 (fits_of rfl) (by decide)
  · rw [putBack_prot, hr.prot]
    rfl

/-! ### What the evaluation of the Datum core leaves alone -/

/-- The Datum core restarts in `t` where it does in `s`, with the same left waiting. -/
structure SameRestart (s t : State) : Prop where
  datumDown : t.prot.datumDown = s.prot.datumDown
  backlog : t.prot.backlog = s.prot.backlog
  standIn : t.prot.standIn = s.prot.standIn

theorem SameRestart.refl (s : State) : SameRestart s s := ⟨rfl, rfl, rfl⟩

/-- The chain taken from its end. -/
theorem SameRestart.after {s t u : State} (k : SameRestart t u) (h : SameRestart s t) : SameRestart s u :=
  ⟨k.datumDown.trans h.datumDown, k.backlog.trans h.backlog, k.standIn.trans h.standIn⟩

theorem SameRestart.ite {c : Prop} [Decidable c] {s t u : State} (h : SameRestart s t) (k : SameRestart s u) :
    SameRestart s (if c then t else u) := by
  split
  · exact h
  · exact k

theorem SameRestart.forEach {α : Type} (l : List α) (f : State → α → State) (hf : ∀ s a, SameRestart s (f s a)) (s : State) :
    SameRestart s (forEach l s f) := by
  induction l generalizing s with
  | nil => exact .refl s
  | cons a l ih => exact .after (ih (f s a)) (hf s a)

theorem SameHeld.restart {s t : State} (h : SameHeld s t) : SameRestart s t :=
  ⟨congrArg Prot.datumDown h.prot, congrArg Prot.backlog h.prot, congrArg Prot.standIn h.prot⟩

section
variable (s : State)

theorem holdTarget_sameRestart (kind cls group : Nat) (value : Int) (t : Nat) :
    SameRestart s (s.holdTarget kind cls group value t) :=
  .after (holdTarget_sameHeld ..).restart ⟨rfl, rfl, rfl⟩

theorem trip_sameRestart (kind cls : Nat) (targets : List Nat) (value : Int) : SameRestart s (s.trip kind cls targets value) := by
  have hold (group : Nat) : SameRestart s (forEach targets s fun s t => s.holdTarget kind cls group value t) :=
    .forEach _ _ (fun _ _ => holdTarget_sameRestart ..) s
  by_cases hk : kind < 8
  · exact .after (trip_sameHeld s hk cls targets value).restart (hold _)
  · unfold State.trip
    simp only [hk, if_false]
    exact hold _

theorem enforce_sameRestart : SameRestart s s.enforce := by
  by_cases h : (s.prot.held.filter fun r => !r.inForce).isEmpty = true
  · rw [enforce_idle s h]
    exact .refl s
  · exact .after (enforce_sameHeld s h).restart ⟨rfl, rfl, rfl⟩

theorem emsTrip_sameRestart (w : Nat) : SameRestart s (s.emsTrip w) := by
  unfold State.emsTrip
  exact .ite (.after (trip_sameRestart ..) ⟨rfl, rfl, rfl⟩) (.refl s)

theorem spurTrip_sameRestart (step : Nat) : SameRestart s (s.spurTrip step) := by
  unfold State.spurTrip
  exact .ite (.after (trip_sameRestart ..) ⟨rfl, rfl, rfl⟩) (.refl s)

theorem donorResult_sameRestart (j : Nat) (rsrp : Option Int) : SameRestart s (s.donorResult j rsrp) := by
  have missed (s : State) (n w : Nat) : SameHeld s ((s.addSat Fd.FLT_WDONOR_MISSES n w).set Fd.FLT_WDONOR_GOOD 0 w) :=
    .after (.set ..) (.addSat ..)
  have good (s : State) (n w : Nat) : SameHeld s ((s.set Fd.FLT_WDONOR_MISSES 0 w).addSat Fd.FLT_WDONOR_GOOD n w) :=
    .after (.addSat ..) (.set ..)
  unfold State.donorResult
  refine .after (.ite (trip_sameRestart ..) (.refl _)) (SameHeld.forEach _ _ (fun s w => ?_) s).restart
  cases rsrp with
  | none => exact .after (.ite (missed ..) (good ..)) (.set ..)
  | some v => exact .after (.ite (missed ..) (good ..)) (.after (.set ..) (.set ..))

theorem setDomX_sameHeld (d : Nat) (x : DomX) : SameHeld s (s.setDomX d x) := ⟨rfl, rfl, rfl⟩

theorem spanResult_sameRestart (span : Nat) (level : Int) : SameRestart s (s.spanResult span level) := by
  unfold State.spanResult
  refine .after (emsTrip_sameRestart ..) (.after (SameHeld.forEach _ _ (fun _ _ => setDomX_sameHeld ..) _).restart ?_)
  exact ⟨rfl, rfl, rfl⟩

theorem stepResult_sameRestart (step : Nat) (level : Int) : SameRestart s (s.stepResult step level) :=
  .after (spurTrip_sameRestart ..) ⟨rfl, rfl, rfl⟩

variable {s}

/-- A result that comes while the Datum core serves is evaluated, not kept. -/
theorem datumResult_sameRestart (hd : s.prot.datumDown = false) (kind key : Nat) (v : Option Int) :
    SameRestart s (s.datumResult kind key v) := by
  unfold State.datumResult
  rw [if_neg (by rw [hd]; decide)]
  refine .ite (donorResult_sameRestart ..) ?_
  cases v with
  | none => exact .refl s
  | some l => exact .ite (spanResult_sameRestart ..) (stepResult_sameRestart ..)

end

/-! ### DATUM_RESTART_DONE (R180, Table 13.15) -/

/-- The Datum core serving again, nothing waiting. -/
def State.endRestart (s : State) : State :=
  ({ s with prot := { s.prot with datumDown := false, backlog := [], standIn := [] } }.setB Fd.FLT_PSTAT_RESTART false).clearSource 488

/-- The results that waited, evaluated in order. -/
def State.evaluate (s : State) (l : List (Nat × Nat × Option Int)) : State := forEach l s fun s r => s.datumResult r.1 r.2.1 r.2.2

/-- The targets that Chart stopped, held with reason HOST. -/
def State.holdStopped (s : State) (l : List (Nat × Nat × Bool)) : State := forEach l s fun s p => s.trip 8 p.1 [p.2.1] 0

/-- What Chart set to stop a target, restored. -/
def State.restoreStopped (s : State) (p : Nat × Nat × Bool) : State :=
  if p.1 = 1 then (if p.2.2 then { s with win := { s.win with binding := s.win.binding ||| 2 ^ p.2.1 } }.setB Fd.CHN_WCTL_EN true p.2.1 else s)
  else (s.setB Fd.LANE_TX_MUTE_SRC_FW p.2.2 p.2.1).updateMuted p.2.1

/-- What DATUM_RESTART_DONE leaves. -/
def State.resume (s : State) : State :=
  forEach s.prot.standIn ((s.endRestart.evaluate s.prot.backlog).holdStopped s.prot.standIn).enforce State.restoreStopped

theorem exec_datumRestartDone (s : State) :
    exec .datumRestartDone s = s.whenLive (.next (if s.prot.datumDown then s.resume else s)) := rfl

theorem endRestart_prot (s : State) :
    s.endRestart.prot = { s.prot with datumDown := false, backlog := [], standIn := [] } :=
  (clearSource_raised _ (by decide)).prot

theorem evaluate_sameRestart (l : List (Nat × Nat × Option Int)) :
    ∀ s : State, s.prot.datumDown = false → SameRestart s (s.evaluate l) := by
  induction l with
  | nil => exact fun s _ => .refl s
  | cons r l ih =>
    intro s hd
    have hr := datumResult_sameRestart hd r.1 r.2.1 r.2.2
    exact .after (ih _ (hr.datumDown.trans hd)) hr

theorem holdStopped_sameRestart (s : State) (l : List (Nat × Nat × Bool)) : SameRestart s (s.holdStopped l) :=
  .forEach _ _ (fun _ _ => trip_sameRestart ..) s

theorem restoreStopped_sameHeld (s : State) (p : Nat × Nat × Bool) : SameHeld s (s.restoreStopped p) := by
  unfold State.restoreStopped
  exact .ite (.ite (.after (.setB ..) ⟨rfl, rfl, rfl⟩) (.refl s)) (.after (updateMuted_sameHeld ..) (.setB ..))

theorem resume_sameRestart (s : State) : SameRestart s.endRestart s.resume :=
  .after (.forEach _ _ (fun _ _ => (restoreStopped_sameHeld ..).restart) _) (.after (enforce_sameRestart _)
    (.after (holdStopped_sameRestart ..) (evaluate_sameRestart _ _ (congrArg Prot.datumDown (endRestart_prot s)))))

theorem datumRestartDone_acts {s : State} (hs : s.alive = true) : ∃ t, exec .datumRestartDone s = .next t ∧
    (s.prot.datumDown = true → t.prot.datumDown = false ∧ t.prot.backlog = [] ∧ t.prot.standIn = []) ∧
    (s.prot.datumDown = false → t = s) := by
  obtain ⟨t, e, hd, hn⟩ := exec_whereDue hs (exec_datumRestartDone s)
  refine ⟨t, e, fun h => ?_, fun h => hn (by rw [h]; decide)⟩
  have hr := resume_sameRestart s
  rw [hd h, putBack_prot, hr.datumDown, hr.backlog, hr.standIn, endRestart_prot]
  exact ⟨rfl, rfl, rfl⟩

/-- Settles O42: a restriction lifted by `releaseOne_held`, one of kind 5 in the two steps of `release_first` and `release_second`; a gate
closed by `closeGate_same`; a restart ended by `resume_sameRestart`. -/
theorem restrictionsRelease : Obligations.RestrictionsRelease :=
  ⟨fun k c target s _ hs hf => protHoldRelease_acts s k c target hs hf, fun w i _ hs => gateClose_acts w i hs,
    fun _ hs => datumRestart_acts hs, fun _ hs => datumRestartDone_acts hs⟩

end Sys2Proof.Machine

/-!
SUPPORT. Proofs about the synthesisers: what the TX lanes' transitions leave alone, and locks won, settled and lost.
-/

namespace Sys2Proof.Machine

-- The option has the proofs elaborated one after another, not beside the tests above: the two together exceed the check's memory.
set_option deprecated.oldSectionVars true

/-! ### Fields that the TX lanes' transitions spare -/

section
variable {l : List Fld} {s t : State}

theorem Spares.of_answered {m : Nat} (l : List Fld) (h : OnlyAnswered m s t) : Spares l s t where
  time := h.time
  fields f i hf hi := by
    simp only [Fld.sparedBy, Bool.and_eq_true, decide_eq_true_eq] at hf
    have hm := Nat.mul_le_mul_left f.reg.stride (show i ≤ f.reg.count - 1 by omega)
    refine get_of_reg f (h.low ?_)
    simp only [RegDesc.off]
    omega
  restoring p r hr := by rwa [row_of_can h.can]

theorem Spares.withLane (l : List Fld) (s : State) (x : Lanes) : Spares l s { s with lane := x } :=
  ⟨rfl, fun _ _ _ _ => rfl, fun _ _ h => h⟩

theorem Spares.withTdd (l : List Fld) (s : State) (x : Tdd) : Spares l s { s with tdd := x } :=
  ⟨rfl, fun _ _ _ _ => rfl, fun _ _ h => h⟩

theorem Spares.complete_each {α : Type} (l : List Fld) (as : List α) (mb : α → Nat) (c : α → Command) (st : State → α → Nat)
    (p : State → α → List Word) (s : State) : Spares l s (forEach as s fun s a => s.complete (mb a) (c a) (st s a) (p s a)) :=
  .forEach_mem as _ (fun _ _ _ => .of_answered l (complete_answered ..)) s

end

/-- The fields that say whether a TX lane is muted, beside its sources. -/
def muteFields : List Fld := [Fd.LANE_TX_MUTE_MUTED, Fd.LANE_TX_MUTE_RAMPING]

/-- The fields that follow the state that a TX lane enters. -/
def followFields : List Fld := Fd.SYN_LSTATE_PEND_T :: Fd.SYN_LSTATE_CAUSE :: Fd.LANE_TX_MUTE_SRC_STATE :: muteFields

/-- The fields that a TX lane's entry into a state writes. -/
def enterFields : List Fld := Fd.SYN_LSTATE_TX_STATE :: Fd.TDD_FCFG_GUARD_HIT :: followFields

/-- The fields that the transitions of the lanes write. -/
def laneFields : List Fld := Fd.SYN_LSTATE_TX_REQ :: Fd.SYN_LSTATE_RX_STATE :: enterFields

/-- The state with what follows the state `st` that TX lane `n` has entered: its times, its cause, its mute. -/
def State.followTx (s : State) (n st : Nat) : State :=
  let s := s.set Fd.SYN_LSTATE_PEND_T 0 n
  let s := (s.setB Fd.LANE_TX_MUTE_SRC_STATE (decide (st ≠ 4)) n).updateMuted n
  let s := s.set Fd.SYN_LSTATE_CAUSE (if st = 2 then s.txCause n else 0) n
  if st = 3 then
    { s with lane := { s.lane with waits := s.lane.waits.map fun w => if bit w.asked n then { w with waited := w.waited ||| 2 ^ n } else w } }
  else s

theorem enterTx_eq (s : State) (n st : Nat) : s.enterTx n st =
    if s.get Fd.SYN_LSTATE_TX_STATE n = st then s
    else ((s.noteActive n (s.get Fd.SYN_LSTATE_TX_STATE n) st).set Fd.SYN_LSTATE_TX_STATE st n).followTx n st := rfl

section
variable (s : State)

theorem updateMuted_spares {n : Nat} (hn : n < 16) : Spares muteFields s (s.updateMuted n) := by
  have hm (u : State) (v : Bool) : Spares muteFields u (u.setB Fd.LANE_TX_MUTE_MUTED v n) := .setB u (by decide) v hn
  have hr (u : State) (v : Bool) : Spares muteFields u (u.setB Fd.LANE_TX_MUTE_RAMPING v n) := .setB u (by decide) v hn
  unfold State.updateMuted
  refine .ite (fun _ => .ite (fun _ => .ite (fun _ => ?_) fun _ => .after (hr ..) ?_) fun _ => .after (hr ..) ?_) fun _ =>
    .ite (fun _ => ?_) fun _ => hm ..
  all_goals exact .after (.withLane ..) (hm ..)

theorem noteActive_spares (n was st : Nat) : Spares enterFields s (s.noteActive n was st) := by
  unfold State.noteActive
  refine .ite (fun _ => .ite (fun _ => ?_) fun _ => .withTdd ..) fun _ => .ite (fun _ => ?_) fun _ => .refl _ s
  · refine .after (.forEach_mem _ _ (fun u f hf => ?_) _) (.withTdd ..)
    exact .setB u (by decide) true (List.mem_range.1 (List.mem_filter.1 hf).1)
  · exact .after (.withLane ..) (.withTdd ..)

theorem followTx_spares {n : Nat} (hn : n < 16) (st : Nat) : Spares followFields s (s.followTx n st) := by
  have hset (u : State) {f : Fld} (hf : f ∈ followFields) (hc : f.reg.count = 16) (v : Nat) : Spares followFields u (u.set f v n) :=
    .set u hf v (by omega)
  unfold State.followTx
  refine .after (.ite (fun _ => .withLane ..) fun _ => .refl ..) (.after (hset _ (by decide) rfl _) ?_)
  exact .after ((updateMuted_spares _ hn).mono (by decide)) (.after (hset _ (by decide) rfl _) (hset _ (by decide) rfl _))

theorem enterTx_spares {n : Nat} (hn : n < 16) (st : Nat) : Spares enterFields s (s.enterTx n st) := by
  rw [enterTx_eq]
  refine .ite (fun _ => .refl _ s) fun _ => .after ((followTx_spares _ hn st).mono (by decide)) ?_
  exact .after (.set _ (by decide) st hn) (noteActive_spares ..)

theorem enterTx_state {n : Nat} (hn : n < 16) {st : Nat} (hst : st < 8) : (s.enterTx n st).get Fd.SYN_LSTATE_TX_STATE n = st := by
  rw [enterTx_eq]
  split
  · assumption
  · exact ((followTx_spares _ hn st).fields Fd.SYN_LSTATE_TX_STATE n (by decide) hn).trans
      (get_set_of_lt _ n 0 (fits_of rfl) hst)

theorem laneStep_spares {n : Nat} (hn : n < 16) (start : Bool) : Spares laneFields s (s.laneStep n start) := by
  unfold State.laneStep
  refine .after ((enterTx_spares _ hn _).mono (by decide)) (.after (.ite (fun _ => .setB _ (by decide) false hn) fun _ => .refl ..) ?_)
  exact .ite (fun _ => .withLane ..) fun _ => .refl ..

theorem finishLaneTx_spares (l : List Fld) : Spares l s s.finishLaneTx :=
  .after (.complete_each l _ LaneWait.mb LaneWait.cmd _ _ _) (.withLane ..)

theorem refreshRxAll_spares : Spares laneFields s s.refreshRxAll :=
  .forEach_mem _ _ (fun u _ hn => .set u (by decide) _ (List.mem_range.1 hn)) s

theorem laneTransitions_spares (start : Nat → Bool) : Spares laneFields s (s.laneTransitions start) := by
  unfold State.laneTransitions
  refine .after (finishLaneTx_spares ..) (.after (refreshRxAll_spares _) (.after (.withLane ..) ?_))
  refine .after (.forEach_mem _ _ (fun u n hn => ?_) _) (.forEach_mem _ _ (fun u n hn => ?_) s)
  · exact .ite (fun _ => .set u (by decide) _ (List.mem_range.1 hn)) fun _ => .refl ..
  · exact laneStep_spares u (List.mem_range.1 hn) _

theorem beginRamps_spares : Spares laneFields s s.beginRamps :=
  .after (.forEach_mem _ _ (fun u _ hn => .setB u (by decide) true (List.mem_range.1 (List.mem_filter.1 hn).1)) _) (.withLane ..)

theorem finishTunes_spares (l : List Fld) (y st : Nat) (p : List Word) : Spares l s (s.finishTunes y st p) :=
  .after (.complete_each l _ TuneWait.mb TuneWait.cmd _ _ _) (.withLane ..)

end

/-! ### SYN_LOCK and SYN_SETTLED (R205, R207) -/

@[simp] theorem putBack_synX (u s : State) (y : Nat) : (u.putBack s).synX y = u.synX y := rfl

@[simp] theorem synX_setSynX_same (s : State) (y : Nat) (x : SynExt) : (s.setSynX y x).synX y = x := mapGet_mapSet_same ..

/-- The state in which a synthesiser has locked. -/
def State.lockSyn (s : State) (y : Nat) : State :=
  let s := (s.set Fd.SYN_SSTAT_STATE 2 y).setB Fd.SYN_SSTAT_LOCK true y
  s.setSynX y { s.synX y with lockAt := s.time.gt }

theorem exec_synLock (y : Fin 8) (s : State) : exec (.synLock y) s =
    s.whenLive (.next (if s.get Fd.SYN_SSTAT_STATE y = 1 then s.lockSyn y else s)) := rfl

section
variable (s : State) (y : Nat)

theorem lockSyn_reg {o : Nat} (h : o ≠ Reg.SYN_SSTAT.off y 0) : (s.lockSyn y).reg o = s.reg o :=
  (setSynX_reg ..).trans ((reg_set_other _ Fd.SYN_SSTAT_LOCK _ y 0 h).trans (reg_set_other s Fd.SYN_SSTAT_STATE _ y 0 h))

theorem lockSyn_state : (s.lockSyn y).get Fd.SYN_SSTAT_STATE y = 2 :=
  (get_of_reg Fd.SYN_SSTAT_STATE (setSynX_reg ..)).trans
    ((get_set_field _ Fd.SYN_SSTAT_LOCK Fd.SYN_SSTAT_STATE _ y 0 rfl (fits_of rfl) (by decide)).trans
      (get_set_of_lt s y 0 (fits_of rfl) (by decide)))

theorem lockSyn_lock : (s.lockSyn y).getB Fd.SYN_SSTAT_LOCK y = true :=
  (getB_of_get (get_of_reg Fd.SYN_SSTAT_LOCK (setSynX_reg ..))).trans
    (getB_setB_same _ Fd.SYN_SSTAT_LOCK true y 0 (fits_of rfl) (by decide))

theorem lockSyn_lockAt : ((s.lockSyn y).synX y).lockAt = s.time.gt :=
  congrArg SynExt.lockAt (synX_setSynX_same ..)

end

/-- The state in which a synthesiser has settled: the lanes that it feeds go on, and the LANE_TUNE that waits for it is answered. -/
def State.settleSyn (s : State) (y : Nat) : State :=
  (((s.setB Fd.SYN_SSTAT_SETTLED true y).laneTransitions fun _ => false).beginRamps).finishTunes y 0 []

theorem exec_synSettled (y : Fin 8) (s : State) : exec (.synSettled y) s =
    s.whenLive (.next (if s.getB Fd.SYN_SSTAT_LOCK y && !s.getB Fd.SYN_SSTAT_SETTLED y &&
      decide ((s.synX y).lockAt + s.legN 0x1040 < s.time.gt) then s.settleSyn y else s)) := rfl

theorem settleSyn_settled (s : State) (y : Fin 8) : (s.settleSyn y).getB Fd.SYN_SSTAT_SETTLED y = true := by
  have h : Spares laneFields (s.setB Fd.SYN_SSTAT_SETTLED true y) (s.settleSyn y) :=
    .after (finishTunes_spares ..) (.after (beginRamps_spares _) (laneTransitions_spares ..))
  exact (h.getB Fd.SYN_SSTAT_SETTLED (by decide) y.isLt).trans (getB_setB_same _ _ _ _ _ (fits_of rfl) (by decide))

theorem synSettled_settles (y : Fin 8) {s : State} (hs : s.alive = true) : ∃ t, exec (.synSettled y) s = .next t ∧
    (s.getB Fd.SYN_SSTAT_LOCK y = true → (s.synX y).lockAt + s.legN 0x1040 < s.time.gt → t.getB Fd.SYN_SSTAT_SETTLED y = true) ∧
    (s.time.gt ≤ (s.synX y).lockAt + s.legN 0x1040 → t = s) := by
  obtain ⟨t, e, hdue, hrest⟩ := exec_whereDue hs (exec_synSettled y s)
  simp only [Bool.and_eq_true, Bool.not_eq_true', decide_eq_true_eq] at hdue hrest
  refine ⟨t, e, fun hl ht => ?_, fun ht => hrest fun h => absurd h.2 (Nat.not_lt.2 ht)⟩
  cases hset : s.getB Fd.SYN_SSTAT_SETTLED y with
  | true => rw [hrest fun h => absurd (h.1.2.symm.trans hset) (by decide)]; exact hset
  | false => rw [hdue ⟨⟨hl, hset⟩, ht⟩]; exact settleSyn_settled s y

/-! ### SYN_UNLOCK (R206) -/

/-- The calibrations that run on the lanes of two masks have lost their lock (Table 10.11). -/
def State.loseCals (s : State) (rx tx : Nat) : State :=
  forEach (List.range 16) s fun s n =>
    let m := b2n (bit rx n && s.getB Fd.LANE_CAL_STAT_RX_BUSY n) + 2 * b2n (bit tx n && s.getB Fd.LANE_CAL_STAT_TX_BUSY n)
    if m = 0 then s else s.setLaneX n { s.laneX n with calLost := (s.laneX n).calLost ||| m }

/-- A synthesiser begins to lock again after a loss, which is counted. -/
def State.relock (s : State) (y : Nat) : State := ((s.acquiring y).addSat Fd.SYN_SSTAT_RELOCKS 1 y).setSynX y ⟨0, 0, false⟩

/-- The state in which a synthesiser has lost lock. -/
def State.unlockSyn (s : State) (y : Nat) : State :=
  let s := s.relock y
  let tx := s.txOfSyn y
  let s := s.loseCals (s.rxOfSyn y) tx
  s.refreshRxAll.pulseOn 269 tx (s.synDomains y)

theorem exec_synUnlock (y : Fin 8) (s : State) : exec (.synUnlock y) s =
    s.whenLive (.next (if s.getB Fd.SYN_SSTAT_LOCK y then s.unlockSyn y else s)) := rfl

theorem loseCals_reg (s : State) (rx tx o : Nat) : (s.loseCals rx tx).reg o = s.reg o := by
  refine forEach_keeps (fun u : State => u.reg o) _ _ (fun u n => ⟨?_⟩) s
  simp only []
  split <;> rfl

theorem sstat_apart {y : Nat} (hy : y < 8) (n : Nat) : Reg.SYN_SSTAT.off y 0 ≠ Reg.SYN_LSTATE.off n 0 := by
  rw [off_sstat, off_lstate]
  omega

theorem sstat_low {y : Nat} (hy : y < 8) : Reg.SYN_SSTAT.off y 0 < 0x34048 := by rw [off_sstat]; omega

section
variable (s : State) (y : Fin 8)

theorem unlockSyn_sstat : (s.unlockSyn y).reg (Reg.SYN_SSTAT.off y 0) = (s.relock y).reg (Reg.SYN_SSTAT.off y 0) :=
  ((pulseOn_raised _ _ _ (by decide)).low (sstat_low y.isLt)).trans
    ((refreshRxAll_reg _ (sstat_apart y.isLt)).trans (loseCals_reg ..))

theorem relock_get (g : Fld) (hr : g.reg = Reg.SYN_SSTAT) (hl : g.lsb + g.width ≤ 24) :
    (s.relock y).get g y = (s.acquiring y).get g y := by
  unfold State.relock State.addSat
  exact (get_of_reg g (setSynX_reg ..)).trans (get_set_field (s.acquiring y) Fd.SYN_SSTAT_RELOCKS g _ y 0 hr (fits_of rfl) (.inr hl))

theorem unlockSyn_lock : (s.unlockSyn y).getB Fd.SYN_SSTAT_LOCK y = false :=
  (getB_of_get ((get_of_reg Fd.SYN_SSTAT_LOCK (unlockSyn_sstat s y)).trans
    (relock_get s y Fd.SYN_SSTAT_LOCK rfl (by decide)))).trans (acquiring_lock ..)

theorem unlockSyn_state : (s.unlockSyn y).get Fd.SYN_SSTAT_STATE y = 1 :=
  ((get_of_reg Fd.SYN_SSTAT_STATE (unlockSyn_sstat s y)).trans
    (relock_get s y Fd.SYN_SSTAT_STATE rfl (by decide))).trans (acquiring_state ..)

theorem acquiring_settled (y : Nat) : (s.acquiring y).getB Fd.SYN_SSTAT_SETTLED y = false :=
  getB_setB_same _ Fd.SYN_SSTAT_SETTLED false y 0 (fits_of rfl) (by decide)

theorem unlockSyn_settled : (s.unlockSyn y).getB Fd.SYN_SSTAT_SETTLED y = false :=
  (getB_of_get ((get_of_reg Fd.SYN_SSTAT_SETTLED (unlockSyn_sstat s y)).trans
    (relock_get s y Fd.SYN_SSTAT_SETTLED rfl (by decide)))).trans (acquiring_settled ..)

/-- A lock sequence that begins leaves the count of relocks. -/
theorem acquiring_relocks (y : Nat) : (s.acquiring y).get Fd.SYN_SSTAT_RELOCKS y = s.get Fd.SYN_SSTAT_RELOCKS y := by
  unfold State.acquiring State.setB
  rw [get_set_field _ Fd.SYN_SSTAT_SETTLED Fd.SYN_SSTAT_RELOCKS _ y 0 rfl (fits_of rfl) (by decide),
    get_set_field _ Fd.SYN_SSTAT_LOCK Fd.SYN_SSTAT_RELOCKS _ y 0 rfl (fits_of rfl) (by decide),
    get_set_field _ Fd.SYN_SSTAT_STATE Fd.SYN_SSTAT_RELOCKS _ y 0 rfl (fits_of rfl) (by decide)]

theorem unlockSyn_relocks : (s.unlockSyn y).get Fd.SYN_SSTAT_RELOCKS y =
    min (s.get Fd.SYN_SSTAT_RELOCKS y + 1) (2 ^ Fd.SYN_SSTAT_RELOCKS.width - 1) := by
  rw [← acquiring_relocks s y, get_of_reg Fd.SYN_SSTAT_RELOCKS (unlockSyn_sstat s y), State.relock,
    get_of_reg Fd.SYN_SSTAT_RELOCKS (setSynX_reg ..)]
  exact get_addSat_same (s.acquiring y) Fd.SYN_SSTAT_RELOCKS 1 y 0 (fits_of rfl)

end

/-! ### LOCK_ATTEMPT_TIMEOUT (R206) -/

/-- A failed attempt of a lock sequence is counted. -/
def State.countFail (s : State) (y : Nat) : State := s.setSynX y { s.synX y with fails := (s.synX y).fails + 1 }

/-- The state in which a synthesiser is DEAD and the LANE_TUNE that waits for it is answered. -/
def State.killSyn (s : State) (y : Nat) : State :=
  let s := (s.set Fd.SYN_SSTAT_STATE 3 y).refreshRxAll
  let s := s.raiseOn 270 (s.txOfSyn y) (s.synDomains y)
  s.finishTunes y 9 [s.reg (Reg.SYN_SSTAT.off y 0)]

/-- The attempts of a lock sequence (R206). -/
def State.attempts (s : State) (y : Nat) : Nat := s.legN 0x1041 + b2n (s.synX y).cold

theorem exec_lockAttemptTimeout (y : Fin 8) (s : State) : exec (.lockAttemptTimeout y) s =
    s.whenLive (.next (if s.get Fd.SYN_SSTAT_STATE y = 1 then
      if (s.synX y).fails + 1 < s.attempts y then s.countFail y else (s.countFail y).killSyn y else s)) := rfl

theorem finishTunes_tunes (s : State) (y st : Nat) (p : List Word) :
    (s.finishTunes y st p).lane.tunes = s.lane.tunes.filter fun w => w.syn != y :=
  forEach_keeps (fun u : State => u.lane.tunes) _ _ (fun _ _ => ⟨congrArg Lanes.tunes (complete_answered ..).lane⟩) _

theorem killSyn_state (s : State) (y : Fin 8) : (s.killSyn y).get Fd.SYN_SSTAT_STATE y = 3 := by
  have h : Spares laneFields (s.set Fd.SYN_SSTAT_STATE 3 y) (s.killSyn y) :=
    .after (finishTunes_spares ..) (.after (.of_raised _ (raiseOn_raised _ _ _ (by decide))) (refreshRxAll_spares _))
  exact (h.fields Fd.SYN_SSTAT_STATE y (by decide) y.isLt).trans (get_set_of_lt s y 0 (fits_of rfl) (by decide))

theorem killSyn_tunes (s : State) (y : Nat) : ∀ w ∈ (s.killSyn y).lane.tunes, w.syn ≠ y := by
  intro w hw
  rw [State.killSyn, finishTunes_tunes] at hw
  exact bne_iff_ne.1 (List.mem_filter.1 hw).2

@[simp] theorem putBack_lane (u s : State) : (u.putBack s).lane = u.lane := rfl

theorem lockAttemptTimeout_counts (y : Fin 8) {s : State} (hs : s.alive = true) : ∃ t, exec (.lockAttemptTimeout y) s = .next t ∧
    (s.get Fd.SYN_SSTAT_STATE y = 1 → (s.synX y).fails + 1 < s.attempts y → t = s.countFail y) ∧
    (s.get Fd.SYN_SSTAT_STATE y = 1 → s.attempts y ≤ (s.synX y).fails + 1 → t.get Fd.SYN_SSTAT_STATE y = 3 ∧
      ∀ w ∈ t.lane.tunes, w.syn ≠ y.val) ∧
    (s.get Fd.SYN_SSTAT_STATE y ≠ 1 → t = s) := by
  obtain ⟨t, e, hdue, hrest⟩ := exec_whereDue hs (exec_lockAttemptTimeout y s)
  refine ⟨t, e, fun h1 hf => ?_, fun h1 hf => ?_, hrest⟩
  · rw [hdue h1, if_pos hf]
    exact putBack_self rfl rfl
  · rw [hdue h1, if_neg (Nat.not_lt.2 hf), putBack_get, putBack_lane]
    exact ⟨killSyn_state _ y, killSyn_tunes _ y⟩

/-- Settles O33: each row acts where its condition holds (`exec_whereDue`); what SSTAT then shows is the lemmas about `State.lockSyn`,
`State.settleSyn`, `State.unlockSyn` and `State.killSyn`. -/
theorem synthesiserLocksAndLoses : Obligations.SynthesiserLocksAndLoses := by
  refine ⟨fun y s hs => ?_, fun y s hs => synSettled_settles y hs, fun y s hs => ?_, fun y s hs => lockAttemptTimeout_counts y hs⟩
  · obtain ⟨t, e, hdue, hrest⟩ := exec_whereDue hs (exec_synLock y s)
    refine ⟨t, e, fun h => ?_, hrest⟩
    rw [hdue h, putBack_get, putBack_getB, putBack_synX]
    exact ⟨lockSyn_state s y, lockSyn_lock s y, lockSyn_lockAt s y, fun _ ho => lockSyn_reg s y ho⟩
  · obtain ⟨t, e, hdue, hrest⟩ := exec_whereDue hs (exec_synUnlock y s)
    refine ⟨t, e, fun h => ?_, fun h => hrest (by rw [h]; decide)⟩
    rw [hdue h, putBack_getB, putBack_getB, putBack_get, putBack_get]
    exact ⟨unlockSyn_lock s y, unlockSyn_settled s y, unlockSyn_state s y, unlockSyn_relocks s y⟩

end Sys2Proof.Machine

/-!
SUPPORT. Proofs about the timers of a lane: requests that time out, and calibrations that fall due.
-/

namespace Sys2Proof.Machine

-- The option has the proofs elaborated one after another, not beside the tests above: the two together exceed the check's memory.
set_option deprecated.oldSectionVars true

/-! ### TX_PENDING_TIMEOUT (R207) -/

/-- The state in which the request of a TX lane has timed out: it is dropped, and the lane returns to IDLE. -/
def State.timeOutTx (s : State) (n : Nat) : State :=
  let s := s.setB Fd.SYN_LSTATE_TX_REQ false n
  let mark := fun w : LaneWait => if bit w.asked n then { w with timedOut := w.timedOut ||| 2 ^ n } else w
  let s := { s with lane := { s.lane with waits := s.lane.waits.map mark } }
  (s.enterTx n 1).finishLaneTx

theorem exec_txPendingTimeout (n : Fin 16) (s : State) : exec (.txPendingTimeout n) s =
    s.whenLive (.next (if s.get Fd.SYN_LSTATE_TX_STATE n = 2 ∧ !(s.laneX n).pendLoss ∧ (s.laneX n).pendFrom + 1280 ≤ s.time.gt ∧
      !s.txReady n then s.timeOutTx n else s)) := rfl

theorem timeOutTx_req (s : State) {n : Nat} (hn : n < 16) : (s.timeOutTx n).getB Fd.SYN_LSTATE_TX_REQ n = false := by
  have h : Spares enterFields (s.setB Fd.SYN_LSTATE_TX_REQ false n) (s.timeOutTx n) :=
    .after (finishLaneTx_spares ..) (.after (enterTx_spares _ hn 1) (.withLane ..))
  exact (h.getB Fd.SYN_LSTATE_TX_REQ (by decide) hn).trans (getB_setB_same _ _ _ _ _ (fits_of rfl) (by decide))

theorem timeOutTx_state (s : State) {n : Nat} (hn : n < 16) : (s.timeOutTx n).get Fd.SYN_LSTATE_TX_STATE n = 1 :=
  ((finishLaneTx_spares _ []).fields Fd.SYN_LSTATE_TX_STATE n (by decide) hn).trans (enterTx_state _ hn (by decide))

theorem txPendingTimeout_drops (n : Fin 16) {s : State} (hs : s.alive = true) (hst : s.get Fd.SYN_LSTATE_TX_STATE n = 2)
    (hl : (s.laneX n).pendLoss = false) : ∃ t, exec (.txPendingTimeout n) s = .next t ∧
      ((s.laneX n).pendFrom + 1280 ≤ s.time.gt → s.txReady n = false →
        t.getB Fd.SYN_LSTATE_TX_REQ n = false ∧ t.get Fd.SYN_LSTATE_TX_STATE n = 1) ∧
      (s.time.gt < (s.laneX n).pendFrom + 1280 ∨ s.txReady n = true → t = s) := by
  obtain ⟨t, e, hdue, hrest⟩ := exec_whereDue hs (exec_txPendingTimeout n s)
  refine ⟨t, e, fun ht hr => ?_, fun h => hrest ?_⟩
  · rw [hdue ⟨hst, by rw [hl]; rfl, ht, by rw [hr]; rfl⟩]
    exact ⟨timeOutTx_req s n.isLt, timeOutTx_state s n.isLt⟩
  · rintro ⟨_, _, ht, hr⟩
    rcases h with h | h
    · exact absurd ht (Nat.not_le.2 h)
    · rw [h] at hr
      exact absurd hr (by decide)

/-! ### A calibration begins (R55) -/

/-- The BUSY flag of a side of a lane. -/
def busyField (tx : Bool) : Fld := if tx then Fd.LANE_CAL_STAT_TX_BUSY else Fd.LANE_CAL_STAT_RX_BUSY

/-- The side of a lane is enabled. -/
def State.sideOn (s : State) (n : Nat) (tx : Bool) : Bool := if tx then s.getB Fd.LANE_CTL_TX_EN n else s.getB Fd.LANE_CTL_RX_EN n

/-- The fields that a calibration changes beside its own of CAL_STAT. -/
def besideCal : List Fld := Fd.LANE_TX_MUTE_SRC_CAL :: Fd.SYN_LSTATE_RX_STATE :: muteFields

/-- The fields that the start of a calibration writes. -/
def calFields : List Fld :=
  [Fd.LANE_CAL_STAT_TX_BUSY, Fd.LANE_CAL_STAT_RX_BUSY, Fd.LANE_CAL_STAT_TX_RESULT, Fd.LANE_CAL_STAT_RX_RESULT] ++ besideCal

/-- The state in which the calibration of a side runs. -/
def State.beginCal (s : State) (n : Nat) (tx : Bool) : State :=
  if tx then
    let s := (s.setB Fd.LANE_CAL_STAT_TX_BUSY true n).setB Fd.LANE_TX_MUTE_SRC_CAL true n
    let lost := if s.synReady (s.synOfTx n) then 0 else 2
    (s.updateMuted n).setLaneX n { s.laneX n with calLost := ((s.laneX n).calLost &&& 1) ||| lost }
  else
    let s := s.setB Fd.LANE_CAL_STAT_RX_BUSY true n
    let lost := if s.synReady (s.synOfRx n) then 0 else 1
    (s.refreshRx n).setLaneX n { s.laneX n with calLost := ((s.laneX n).calLost &&& 2) ||| lost }

/-- The state in which the calibration of a side is REFUSED. -/
def State.refuseCal (s : State) (n : Nat) (tx : Bool) : State :=
  if tx then s.set Fd.LANE_CAL_STAT_TX_RESULT 5 n else s.set Fd.LANE_CAL_STAT_RX_RESULT 5 n

theorem startCal_eq (s : State) (n : Nat) (tx : Bool) : s.startCal n tx =
    if s.getB (busyField tx) n then s
    else if s.sideOn n tx && s.calPermitted n tx then s.beginCal n tx else s.refuseCal n tx := by
  unfold State.startCal State.sideOn State.beginCal State.refuseCal busyField
  cases tx <;> simp only [if_true, Bool.false_eq_true, if_false]

section
variable (s : State) {n : Nat} (hn : n < 16) (tx : Bool)

theorem updateMuted_calDue (n : Nat) : (s.updateMuted n).lane.calDue = s.lane.calDue := by
  unfold State.updateMuted
  simp only []
  split_ifs <;> simp only [State.setB_lane]

theorem setLaneX_calDue (n : Nat) (x : LaneExt) : (s.setLaneX n x).lane.calDue = s.lane.calDue := rfl

theorem beginCal_calDue (n : Nat) : (s.beginCal n tx).lane.calDue = s.lane.calDue := by
  unfold State.beginCal State.refreshRx
  simp only []
  split <;> simp only [setLaneX_calDue, updateMuted_calDue, State.setB_lane, State.set_lane]

theorem refuseCal_lane (n : Nat) : (s.refuseCal n tx).lane = s.lane := by
  unfold State.refuseCal
  split <;> exact State.set_lane ..

theorem startCal_calDue (n : Nat) : (s.startCal n tx).lane.calDue = s.lane.calDue := by
  rw [startCal_eq]
  split_ifs
  · rfl
  · exact beginCal_calDue s tx n
  · rw [refuseCal_lane]

include hn

theorem beginCal_spares : Spares besideCal (s.setB (busyField tx) true n) (s.beginCal n tx) := by
  cases tx with
  | true => exact .after (.withLane ..) (.after ((updateMuted_spares _ hn).mono (by decide)) (.setB _ (by decide) true hn))
  | false => exact .after (.withLane ..) (.set _ (by decide) _ hn)

theorem beginCal_busy : (s.beginCal n tx).getB (busyField tx) n = true :=
  ((beginCal_spares s hn tx).getB (busyField tx) (by cases tx <;> decide) (by cases tx <;> exact hn)).trans
    (getB_setB_same _ _ _ _ _ (fits_of (by cases tx <;> rfl)) (by cases tx <;> decide))

theorem refuseCal_spares (l : List Fld) (hl : Fd.LANE_CAL_STAT_TX_RESULT ∈ l ∧ Fd.LANE_CAL_STAT_RX_RESULT ∈ l) :
    Spares l s (s.refuseCal n tx) := by
  cases tx with
  | true => exact .set s hl.1 5 hn
  | false => exact .set s hl.2 5 hn

theorem startCal_spares : Spares calFields s (s.startCal n tx) := by
  rw [startCal_eq]
  refine .ite (fun _ => .refl _ s) fun _ => .ite (fun _ => ?_) fun _ => refuseCal_spares s hn tx _ ⟨by decide, by decide⟩
  refine .after ((beginCal_spares s hn tx).mono (by decide)) (.setB s ?_ true (by cases tx <;> exact hn))
  cases tx <;> decide

/-- A calibration that is permitted runs from its start on. -/
theorem startCal_busy (ho : s.sideOn n tx = true) (hp : s.calPermitted n tx = true) : (s.startCal n tx).getB (busyField tx) n = true := by
  rw [startCal_eq]
  split
  · assumption
  · rw [ho, hp]
    exact beginCal_busy s hn tx

/-- A BUSY flag that is set leaves those that are set. -/
theorem setBusy_keeps {m : Nat} (hm : m < 16) {rx : Bool} (h : s.getB (busyField rx) m = true) :
    (s.setB (busyField tx) true n).getB (busyField rx) m = true := by
  by_cases ht : rx = tx
  · subst ht
    by_cases hmn : m = n
    · subst hmn
      exact getB_setB_same _ _ _ _ _ (fits_of (by cases rx <;> rfl)) (by cases rx <;> decide)
    · have ho : (busyField rx).reg.off m 0 ≠ (busyField rx).reg.off n 0 := by
        cases rx <;> simp only [busyField, if_true, Bool.false_eq_true, if_false, RegDesc.off, Fd.LANE_CAL_STAT_TX_BUSY,
          Fd.LANE_CAL_STAT_RX_BUSY, Reg.LANE_CAL_STAT] <;> omega
      exact (getB_of_get (get_set_other s _ _ _ n 0 m 0 ho)).trans h
  · refine (getB_of_get (get_set_clear s (f := busyField rx) (g := busyField tx) ?_ _ ?_ ?_)).trans h
    · revert ht; cases rx <;> cases tx <;> decide
    · cases rx <;> exact hm
    · cases tx <;> exact hn

/-- The start of a calibration leaves those that run. -/
theorem startCal_keeps_busy {m : Nat} (hm : m < 16) {rx : Bool} (h : s.getB (busyField rx) m = true) :
    (s.startCal n tx).getB (busyField rx) m = true := by
  have hc : m < (busyField rx).reg.count := by cases rx <;> exact hm
  rw [startCal_eq]
  split_ifs
  · exact h
  · exact ((beginCal_spares s hn tx).getB (busyField rx) (by cases rx <;> decide) hc).trans (setBusy_keeps s hn tx hm h)
  · refine ((refuseCal_spares s hn tx [Fd.LANE_CAL_STAT_TX_RESULT, Fd.LANE_CAL_STAT_RX_RESULT] ⟨by decide, by decide⟩).getB
      (busyField rx) (by cases rx <;> decide) hc).trans h

end

/-! ### The calibrations that are scheduled -/

/-- A calibration scheduled is taken off the schedule; `b` is its bit. -/
def State.unschedule (s : State) (b : Nat) : State := { s with lane := { s.lane with calDue := maskClear s.lane.calDue (2 ^ b) } }

/-- The calibration of a bit of the schedule starts, where R55 permits it. -/
def State.startDue (s : State) (b : Nat) : State :=
  if s.sideOn (b % 16) (decide (16 ≤ b)) && s.calPermitted (b % 16) (decide (16 ≤ b)) then
    (s.unschedule b).startCal (b % 16) (decide (16 ≤ b))
  else s

theorem runCalDue_eq (s : State) : s.runCalDue =
    if s.getB Fd.MBX_CSTAT_READY then forEach (maskList s.lane.calDue 32) s State.startDue else s := rfl

/-- The bit of the schedule of a side of a lane. -/
def calBit (n : Nat) (tx : Bool) : Nat := n + 16 * b2n tx

section
variable {n : Nat} (hn : n < 16) (tx : Bool)
include hn

theorem calBit_lt : calBit n tx < 32 := by cases tx <;> simp only [calBit, b2n, if_true, Bool.false_eq_true, if_false] <;> omega

theorem calBit_lane : calBit n tx % 16 = n := by
  cases tx <;> simp only [calBit, b2n, if_true, Bool.false_eq_true, if_false] <;> omega

theorem calBit_side : decide (16 ≤ calBit n tx) = tx := by
  cases tx <;> simp only [calBit, b2n, if_true, Bool.false_eq_true, if_false, decide_eq_true_eq, decide_eq_false_iff_not] <;> omega

end

theorem startDue_spares (s : State) (b : Nat) : Spares calFields s (s.startDue b) :=
  .ite (fun _ => .after (startCal_spares _ (Nat.mod_lt _ (by decide)) _) (.withLane ..)) fun _ => .refl _ s

theorem runCalDue_spares (s : State) : Spares calFields s s.runCalDue :=
  .ite (fun _ => .forEach_mem _ _ (fun u b _ => startDue_spares u b) s) fun _ => .refl _ s

/-- The calibration of a side of a lane is scheduled, or runs. -/
def State.calSeen (s : State) (n : Nat) (tx : Bool) : Prop :=
  bit s.lane.calDue (calBit n tx) = true ∨ s.getB (busyField tx) n = true

/-- What a start does not run stays scheduled. -/
theorem startDue_calSeen {s : State} {n : Nat} (hn : n < 16) {tx : Bool} (h : s.calSeen n tx) (b : Nat) :
    (s.startDue b).calSeen n tx := by
  have hb : b % 16 < 16 := Nat.mod_lt _ (by decide)
  unfold State.startDue
  split
  · next hon =>
    obtain ⟨ho, hp⟩ := Bool.and_eq_true_iff.1 hon
    rcases h with h | h
    · by_cases hk : b = calBit n tx
      · rw [hk, calBit_lane hn, calBit_side hn] at ho hp ⊢
        exact .inr (startCal_busy (s.unschedule _) hn tx ho hp)
      · refine .inl ?_
        rw [startCal_calDue, State.unschedule, bit, testBit_maskClear, Nat.testBit_two_pow_of_ne hk]
        exact (Bool.and_true _).trans h
    · exact .inr (startCal_keeps_busy (s.unschedule b) hb _ hn h)
  · exact h

theorem runCalDue_calSeen {s : State} {n : Nat} (hn : n < 16) {tx : Bool} (h : s.calSeen n tx) : s.runCalDue.calSeen n tx := by
  rw [runCalDue_eq]
  split
  · exact List.foldlRecOn (motive := fun u : State => u.calSeen n tx) _ _ h fun u hu b _ => startDue_calSeen hn hu b
  · exact h

theorem maskList_two_pow {k n : Nat} (h : k < n) : maskList (2 ^ k) n = [k] := by
  have hf : (fun b => (2 ^ k).testBit b) = fun b => b == k := by
    funext b
    rw [Nat.testBit_two_pow, Bool.beq_comm, beq_eq_decide]
  rw [maskList, hf, List.filter_beq, List.count_eq_one_of_mem List.nodup_range (List.mem_range.2 h)]
  rfl

/-- The only calibration scheduled starts, where R55 permits it. -/
theorem runCalDue_only {s : State} (hr : s.getB Fd.MBX_CSTAT_READY = true) (hd : s.lane.calDue = 0) {n : Nat} (hn : n < 16) (tx : Bool) :
    (s.scheduleCal n tx).runCalDue = (s.scheduleCal n tx).startDue (calBit n tx) := by
  have hc : (s.scheduleCal n tx).lane.calDue = 2 ^ calBit n tx := by
    change s.lane.calDue ||| 2 ^ calBit n tx = _
    rw [hd, Nat.zero_or]
  have hr : (s.scheduleCal n tx).getB Fd.MBX_CSTAT_READY = true := hr
  rw [runCalDue_eq, hr, if_pos rfl, hc, maskList_two_pow (calBit_lt hn tx)]
  rfl

/-! ### RECAL_DUE (R55) -/

theorem exec_recalDue (n : Fin 16) (tx : Bool) (s : State) : exec (.recalDue n tx) s =
    s.whenLive (.next (if s.sideOn n tx && s.recalElapsed n tx then (s.scheduleCal n tx).runCalDue else s)) := rfl

section
variable {s : State} (hs : s.alive = true) (n : Fin 16) (tx : Bool)
include hs

theorem recalDue_early (h : s.sideOn n tx = false ∨ s.recalElapsed n tx = false) : exec (.recalDue n tx) s = .next s := by
  obtain ⟨t, e, _, hrest⟩ := exec_whereDue hs (exec_recalDue n tx s)
  rw [e, hrest]
  rcases h with h | h <;> simp [h]

variable (hr : s.getB Fd.MBX_CSTAT_READY = true) (hd : s.lane.calDue = 0) (ho : s.sideOn n tx = true) (he : s.recalElapsed n tx = true)
include hr hd ho he

theorem exec_recalDue_due : exec (.recalDue n tx) s = .next (((s.scheduleCal n tx).startDue (calBit n tx)).putBack s) := by
  obtain ⟨t, e, hdue, _⟩ := exec_whereDue hs (exec_recalDue n tx s)
  rw [e, hdue (by rw [ho, he]; rfl), runCalDue_only hr hd n.isLt]

theorem recalDue_starts (hp : s.calPermitted n tx = true) :
    ∃ t, exec (.recalDue n tx) s = .next t ∧ t.getB (busyField tx) n = true := by
  refine ⟨_, exec_recalDue_due hs n tx hr hd ho he, ?_⟩
  have hon : (s.scheduleCal n tx).sideOn n tx && (s.scheduleCal n tx).calPermitted n tx := by
    change s.sideOn n tx && s.calPermitted n tx
    rw [ho, hp]
    rfl
  rw [putBack_getB, State.startDue, calBit_lane n.isLt, calBit_side n.isLt, if_pos hon]
  exact startCal_busy ((s.scheduleCal n tx).unschedule _) n.isLt tx ho hp

theorem recalDue_waits (hp : s.calPermitted n tx = false) : exec (.recalDue n tx) s = .next (s.scheduleCal n tx) := by
  have hoff : ¬ ((s.scheduleCal n tx).sideOn n tx && (s.scheduleCal n tx).calPermitted n tx) = true := by
    change ¬ (s.sideOn n tx && s.calPermitted n tx) = true
    rw [ho, hp]
    decide
  rw [exec_recalDue_due hs n tx hr hd ho he, State.startDue, calBit_lane n.isLt, calBit_side n.isLt, if_neg hoff,
    putBack_self (u := s.scheduleCal n tx) (s := s) rfl rfl]

end

/-! ### CORR_STALE (R46) -/

/-- A lane is flagged stale, and the calibrations of its stale sides are scheduled. -/
def State.flagStale (s : State) (n : Nat) (temp : Int) : State :=
  let t := (s.setB Fd.LANE_RX_STAT_CORR_STALE true n).pulseOn (4 * n + 2) 0 (s.laneDomains n)
  let t := if s.staleSide n false temp then t.scheduleCal n false else t
  if s.staleSide n true temp then t.scheduleCal n true else t

theorem exec_corrStale (n : Fin 16) (temp : Int) (s : State) : exec (.corrStale n temp) s =
    s.whenLive (.next (if s.staleSide n false temp || s.staleSide n true temp then (s.flagStale n temp).runCalDue else s)) := rfl

theorem scheduleCal_bit (s : State) (n : Nat) (tx : Bool) (k : Nat) :
    bit (s.scheduleCal n tx).lane.calDue k = (bit s.lane.calDue k || decide (calBit n tx = k)) := by
  change (s.lane.calDue ||| 2 ^ calBit n tx).testBit k = _
  rw [Nat.testBit_or, Nat.testBit_two_pow]
  rfl

section
variable (s : State) (n : Fin 16) (temp : Int)

theorem flagStale_spares : Spares [] (s.setB Fd.LANE_RX_STAT_CORR_STALE true n) (s.flagStale n temp) := by
  refine .after (.ite (fun _ => .withLane ..) fun _ => .refl ..) (.after (.ite (fun _ => .withLane ..) fun _ => .refl ..) ?_)
  exact .of_raised _ (pulseOn_raised _ _ _ (by omega))

theorem flagStale_scheduled {tx : Bool} (h : s.staleSide n tx temp = true) : bit (s.flagStale n temp).lane.calDue (calBit n tx) = true := by
  unfold State.flagStale
  cases tx with
  | true =>
    simp only [h, if_true, scheduleCal_bit, decide_true, Bool.or_true]
  | false =>
    simp only [h, if_true]
    split <;> simp [scheduleCal_bit]

theorem corrStale_flagged : (s.flagStale n temp).runCalDue.getB Fd.LANE_RX_STAT_CORR_STALE n = true := by
  have h : Spares calFields (s.setB Fd.LANE_RX_STAT_CORR_STALE true n) (s.flagStale n temp).runCalDue :=
    .after (runCalDue_spares _) ((flagStale_spares s n temp).mono (List.nil_subset _))
  exact (h.getB Fd.LANE_RX_STAT_CORR_STALE (by decide) n.isLt).trans (getB_setB_same _ _ _ _ _ (fits_of rfl) (by decide))

theorem corrStale_calibrates {tx : Bool} (h : s.staleSide n tx temp = true) : (s.flagStale n temp).runCalDue.calSeen n tx :=
  runCalDue_calSeen n.isLt (.inl (flagStale_scheduled s n temp h))

end

theorem corrStale_acts (n : Fin 16) (temp : Int) {s : State} (hs : s.alive = true) : ∃ t, exec (.corrStale n temp) s = .next t ∧
    (s.staleSide n false temp = true ∨ s.staleSide n true temp = true → t.getB Fd.LANE_RX_STAT_CORR_STALE n = true) ∧
    (∀ tx, s.staleSide n tx temp = true → bit t.lane.calDue (n.val + 16 * b2n tx) = true ∨
      (if tx then t.getB Fd.LANE_CAL_STAT_TX_BUSY n else t.getB Fd.LANE_CAL_STAT_RX_BUSY n) = true) ∧
    (s.staleSide n false temp = false → s.staleSide n true temp = false → t = s) := by
  obtain ⟨t, e, hdue, hrest⟩ := exec_whereDue hs (exec_corrStale n temp s)
  have hd (h : s.staleSide n false temp = true ∨ s.staleSide n true temp = true) := hdue (by simpa using h)
  refine ⟨t, e, fun h => ?_, fun tx h => ?_, fun h0 h1 => hrest (by simp [h0, h1])⟩
  · rw [hd h]
    exact corrStale_flagged s n temp
  · rw [hd (by cases tx; exacts [.inl h, .inr h]), putBack_lane]
    have hc := corrStale_calibrates s n temp h
    cases tx <;> exact hc

/-- Settles O34: a request times out by `State.timeOutTx`; a calibration scheduled stays scheduled or runs (`runCalDue_calSeen`). -/
theorem laneTimersAct : Obligations.LaneTimersAct := by
  refine ⟨fun n s hs hst hl => txPendingTimeout_drops n hs hst hl, fun n s hs hr hd => ⟨fun ho he hp => ?_, fun ho he hp => ?_,
    fun tx ho he hp => recalDue_waits hs n tx hr hd ho he hp⟩, fun n tx s hs h => recalDue_early hs n tx h,
    fun n temp s hs => corrStale_acts n temp hs⟩
  · exact recalDue_starts hs n true hr hd ho he hp
  · exact recalDue_starts hs n false hr hd ho he hp

end Sys2Proof.Machine

/-!
SUPPORT. Proofs about the front-end bus: the sequences that wait on its masters, begin and end.
-/

namespace Sys2Proof.Machine

-- The option has the proofs elaborated one after another, not beside the tests above: the two together exceed the check's memory.
set_option deprecated.oldSectionVars true

/-! ### The queue of a master (R220) -/

theorem rffeQueue_of_tdd {s t : State} (h : t.tdd.rffe = s.tdd.rffe) (m : Nat) : t.rffeQueue m = s.rffeQueue m := by
  rw [State.rffeQueue, State.rffeQueue, h]

@[simp] theorem rffeQueue_setRffeQueue (s : State) (m : Nat) (l : List RffeJob) : (s.setRffeQueue m l).rffeQueue m = l :=
  mapGet_mapSet_same ..

section
variable {s : State} {m : Nat}

theorem rffeBegin_queue_nil (h : s.rffeQueue m = []) (t : Nat) : (s.rffeBegin m t).rffeQueue m = [] := by
  rw [State.rffeBegin, h]
  exact (rffeQueue_of_tdd (congrArg Tdd.rffe (State.setB_tdd ..)) m).trans h

theorem rffeBegin_queue_cons {j : RffeJob} {js : List RffeJob} (h : s.rffeQueue m = j :: js) (t : Nat) :
    (s.rffeBegin m t).rffeQueue m = { j with begun := some t } :: js := by
  rw [State.rffeBegin, h]
  exact (rffeQueue_of_tdd (congrArg Tdd.rffe ((State.setB_tdd ..).trans (State.set_tdd ..))) m).trans (rffeQueue_setRffeQueue ..)

theorem rffeBegin_busy (t : Nat) : (s.rffeBegin m t).getB Fd.TDD_RSTAT_BUSY m = !(s.rffeQueue m).isEmpty := by
  unfold State.rffeBegin
  split <;> rename_i h <;> rw [h]
  · exact getB_setB_same _ Fd.TDD_RSTAT_BUSY true m 0 (fits_of rfl) (by decide)
  · exact getB_setB_same _ Fd.TDD_RSTAT_BUSY false m 0 (fits_of rfl) (by decide)

theorem rffeBegin_late (hm : m < 4) (t : Nat) : (s.rffeBegin m t).get Fd.TDD_RSTAT_LATE m = s.get Fd.TDD_RSTAT_LATE m := by
  unfold State.rffeBegin
  split
  · exact (get_set_clear _ (f := Fd.TDD_RSTAT_LATE) (g := Fd.TDD_RSTAT_BUSY) (by decide) _ hm hm).trans
      (get_set_clear _ (f := Fd.TDD_RSTAT_LATE) (g := Fd.TDD_RSTAT_SEQ) (by decide) _ hm hm)
  · exact get_set_clear s (f := Fd.TDD_RSTAT_LATE) (g := Fd.TDD_RSTAT_BUSY) (by decide) _ hm hm

end

section
variable (s : State) (m q instant t : Nat) (beam : Option (Nat × Command))

theorem rffePush_queue : (s.rffePush m q instant t beam).rffeQueue m =
    if s.rffeQueue m = [] then [⟨q, instant, some t, beam⟩] else s.rffeQueue m ++ [⟨q, instant, none, beam⟩] := by
  have hq := rffeQueue_setRffeQueue s m (s.rffeQueue m ++ [⟨q, instant, none, beam⟩])
  simp only [State.rffePush, List.isEmpty_iff]
  split
  · next h =>
    rw [h] at hq ⊢
    exact rffeBegin_queue_cons hq t
  · exact hq

theorem rffePush_busy (h : s.rffeQueue m = []) : (s.rffePush m q instant t beam).getB Fd.TDD_RSTAT_BUSY m = true := by
  simp only [State.rffePush, h, List.isEmpty_nil, if_true, List.nil_append]
  rw [rffeBegin_busy, rffeQueue_setRffeQueue]
  rfl

end

/-! ### RFFE_SEQUENCE_START (R220) -/

/-- A BEAM_SET waits for this sequence at this instant. -/
def BeamWait.isFor (m q instant : Nat) (b : BeamWait) : Bool := b.master == m && b.seq == q && b.instant == instant

/-- The BEAM_SET that a sequence carries out (R221). -/
def State.beamOf (s : State) (m q instant : Nat) : Option (Nat × Command) :=
  if wbits (s.rffeWord m q) 31 28 = 5 then (s.tdd.beams.find? (BeamWait.isFor m q instant)).map fun b => (b.mb, b.cmd) else none

/-- The state in which the BEAM_SET of a sequence waits no longer. -/
def State.takeBeam (s : State) (m q instant : Nat) : State :=
  if (s.beamOf m q instant).isSome then
    { s with tdd := { s.tdd with beams := changeFirst (BeamWait.isFor m q instant) (fun _ => []) s.tdd.beams } }
  else s

theorem takeBeam_queue (s : State) (m q instant : Nat) : (s.takeBeam m q instant).rffeQueue m = s.rffeQueue m := by
  unfold State.takeBeam
  split <;> rfl

theorem exec_rffeSequenceStart (m : Fin 4) (q : Fin 16) (instant : Nat) (off : Fin 1536) (s : State) :
    exec (.rffeSequenceStart m q instant off) s = s.whenLive (
      if s.getB Fd.TDD_RCTL_EN m ∧ s.rffeEvent m q instant ∧ instant ≤ s.now + off.val + s.rffeAdv m q then
        .next ((s.takeBeam m q instant).rffePush m q instant (s.now + off.val) (s.beamOf m q instant))
      else .next s) := rfl

theorem rffeSequenceStart_queues (m : Fin 4) (q : Fin 16) (instant : Nat) (off : Fin 1536) {s : State} (hs : s.alive = true) :
    ∃ t, exec (.rffeSequenceStart m q instant off) s = .next t ∧
      (s.getB Fd.TDD_RCTL_EN m = true → s.rffeEvent m q instant = true → instant ≤ s.now + off.val + s.rffeAdv m q →
        ∃ beam, t.rffeQueue m = (if s.rffeQueue m = [] then [⟨q.val, instant, some (s.now + off.val), beam⟩]
          else s.rffeQueue m ++ [⟨q.val, instant, none, beam⟩]) ∧
          (s.rffeQueue m = [] → t.getB Fd.TDD_RSTAT_BUSY m = true)) ∧
      (s.getB Fd.TDD_RCTL_EN m = false ∨ s.rffeEvent m q instant = false → t = s) := by
  obtain ⟨t, e, hdue, hrest⟩ := exec_whereDue hs ((exec_rffeSequenceStart m q instant off s).trans
    (congrArg s.whenLive (apply_ite ..).symm))
  refine ⟨t, e, fun hen hev hin => ⟨s.beamOf m q instant, ?_⟩, fun h => hrest ?_⟩
  · have hq := takeBeam_queue s m q instant
    rw [hdue ⟨hen, hev, hin⟩, ← hq]
    exact ⟨rffePush_queue .., rffePush_busy _ _ _ _ _ _⟩
  · rintro ⟨hen, hev, _⟩
    rcases h with h | h
    · exact absurd (hen.symm.trans h) (by decide)
    · exact absurd (hev.symm.trans h) (by decide)

/-! ### RFFE_SEQUENCE_END (R219, R220) -/

/-- What the slaves returned to the reads of a sequence. -/
def State.takeReads (s : State) (m : Nat) (j : RffeJob) (data : Word) (parity : Bool) : State :=
  let reads := s.rffeReads m 256 (s.rffeStart m j.seq)
  let s := if reads then s.set Fd.TDD_RDATA_DATA data.toNat m else s
  if reads && parity then (s.setB Fd.TDD_RSTAT_PARITY true m).pulse 274 else s

/-- A sequence that ended after its instant is counted (R220). -/
def State.countLate (s : State) (m : Nat) (late : Bool) : State :=
  if late then (s.addSat Fd.TDD_RSTAT_LATE 1 m).pulse 273 else s

/-- The answer of the BEAM_SET that a sequence carried out. -/
def State.answerBeam (s : State) : Option (Nat × Command) → State
  | some (mb, c) => s.complete mb c 0
  | none => s

/-- The sequence `j` of a master ends, and the first of `js` behind it begins. -/
def State.endSequence (s : State) (m : Nat) (j : RffeJob) (js : List RffeJob) (data : Word) (parity : Bool) (ends : Nat) : State :=
  ((((s.takeReads m j data parity).countLate m (decide (j.instant < ends))).setRffeQueue m js).rffeBegin m ends).answerBeam j.beam

theorem exec_rffeSequenceEnd (m : Fin 4) (data : Word) (parity : Bool) {s : State} {j : RffeJob} {js : List RffeJob} {b : Nat}
    (hq : s.rffeQueue m = j :: js) (hb : j.begun = some b) : exec (.rffeSequenceEnd m data parity) s = s.whenLive (
      if s.now + 1536 < b + s.rffeTime m j.seq then .next s
      else .next (s.endSequence m j js data parity (b + s.rffeTime m j.seq))) := by
  rw [show exec (.rffeSequenceEnd m data parity) s = execRffeSequenceEnd m data parity s from rfl, execRffeSequenceEnd]
  simp only [hq, hb, State.endSequence, State.takeReads, State.countLate, decide_eq_true_eq]
  congr 2
  cases j.beam <;> rfl

theorem rstat_low {m : Nat} (h : m < 4) : Reg.TDD_RSTAT.off m 0 < 0x34048 := by
  simp only [RegDesc.off, Reg.TDD_RSTAT]
  omega

theorem takeReads_late (s : State) {m : Nat} (hm : m < 4) (j : RffeJob) (data : Word) (parity : Bool) :
    (s.takeReads m j data parity).get Fd.TDD_RSTAT_LATE m = s.get Fd.TDD_RSTAT_LATE m := by
  have hd : ∀ u : State, (u.set Fd.TDD_RDATA_DATA data.toNat m).get Fd.TDD_RSTAT_LATE m = u.get Fd.TDD_RSTAT_LATE m :=
    fun u => get_set_clear u (f := Fd.TDD_RSTAT_LATE) (g := Fd.TDD_RDATA_DATA) (by decide) _ hm hm
  have hp : ∀ u : State, ((u.setB Fd.TDD_RSTAT_PARITY true m).pulse 274).get Fd.TDD_RSTAT_LATE m = u.get Fd.TDD_RSTAT_LATE m :=
    fun u => (get_of_reg Fd.TDD_RSTAT_LATE ((pulse_raised _ (by decide)).low (rstat_low hm))).trans
      (get_set_clear u (f := Fd.TDD_RSTAT_LATE) (g := Fd.TDD_RSTAT_PARITY) (by decide) _ hm hm)
  unfold State.takeReads
  simp only []
  split_ifs
  · rw [hp, hd]
  · rw [hp]
  · rw [hd]
  · rfl

theorem countLate_late (s : State) {m : Nat} (hm : m < 4) : (s.countLate m true).get Fd.TDD_RSTAT_LATE m =
    min (s.get Fd.TDD_RSTAT_LATE m + 1) (2 ^ Fd.TDD_RSTAT_LATE.width - 1) :=
  (get_of_reg Fd.TDD_RSTAT_LATE ((pulse_raised _ (by decide)).low (rstat_low hm))).trans
    (get_addSat_same s Fd.TDD_RSTAT_LATE 1 m 0 (fits_of rfl))

theorem answerBeam_answered (s : State) (beam : Option (Nat × Command)) : ∃ k, OnlyAnswered k s (s.answerBeam beam) := by
  match beam with
  | some (mb, c) => exact ⟨mb, complete_answered ..⟩
  | none => exact ⟨0, .refl 0 s⟩

/-- The queue of a master once the sequence before `js` has ended. -/
def begunQueue (ends : Nat) : List RffeJob → List RffeJob
  | [] => []
  | k :: ks => { k with begun := some ends } :: ks

section
variable (s : State) {m : Nat} (hm : m < 4) (j : RffeJob) (js : List RffeJob) (data : Word) (parity : Bool) (ends : Nat)

theorem endSequence_queue : (s.endSequence m j js data parity ends).rffeQueue m = begunQueue ends js := by
  obtain ⟨k, h⟩ := answerBeam_answered
    ((((s.takeReads m j data parity).countLate m (decide (j.instant < ends))).setRffeQueue m js).rffeBegin m ends) j.beam
  refine (rffeQueue_of_tdd (congrArg Tdd.rffe h.tdd) m).trans ?_
  cases js with
  | nil => exact rffeBegin_queue_nil (rffeQueue_setRffeQueue ..) ends
  | cons k ks => exact rffeBegin_queue_cons (rffeQueue_setRffeQueue ..) ends

include hm

theorem endSequence_busy : (s.endSequence m j js data parity ends).getB Fd.TDD_RSTAT_BUSY m = !js.isEmpty := by
  obtain ⟨k, h⟩ := answerBeam_answered
    ((((s.takeReads m j data parity).countLate m (decide (j.instant < ends))).setRffeQueue m js).rffeBegin m ends) j.beam
  refine (getB_of_get (get_of_reg Fd.TDD_RSTAT_BUSY (h.low (rstat_low hm)))).trans ((rffeBegin_busy ends).trans ?_)
  rw [rffeQueue_setRffeQueue]

theorem endSequence_late (hl : j.instant < ends) : (s.endSequence m j js data parity ends).get Fd.TDD_RSTAT_LATE m =
    min (s.get Fd.TDD_RSTAT_LATE m + 1) (2 ^ Fd.TDD_RSTAT_LATE.width - 1) := by
  obtain ⟨k, h⟩ := answerBeam_answered
    ((((s.takeReads m j data parity).countLate m (decide (j.instant < ends))).setRffeQueue m js).rffeBegin m ends) j.beam
  have hq (u : State) : (u.setRffeQueue m js).get Fd.TDD_RSTAT_LATE m = u.get Fd.TDD_RSTAT_LATE m := rfl
  refine (get_of_reg Fd.TDD_RSTAT_LATE (h.low (rstat_low hm))).trans ((rffeBegin_late hm ends).trans ?_)
  rw [hq, decide_eq_true hl, countLate_late _ hm, takeReads_late s hm]

end

/-- Settles O51: a start pushes its sequence on the master's queue (`rffePush_queue`), an end begins the next (`endSequence_queue`). -/
theorem frontEndSequencesRun : Obligations.FrontEndSequencesRun := by
  refine ⟨fun m q instant off s hs => rffeSequenceStart_queues m q instant off hs, fun m data parity j js b s hs hq hb => ?_⟩
  have e := exec_rffeSequenceEnd m data parity hq hb
  by_cases hl : s.now + 1536 < b + s.rffeTime m j.seq
  · rw [if_pos hl] at e
    refine ⟨_, exec_next hs e, fun h => absurd h (Nat.not_le.2 hl), fun _ => putBack_self rfl rfl⟩
  · rw [if_neg hl] at e
    refine ⟨_, exec_next hs e, fun _ => ⟨?_, ?_, fun h => ?_⟩, fun h => absurd h hl⟩
    · exact (endSequence_queue ..).trans (by cases js <;> rfl)
    · exact endSequence_busy s m.isLt j js data parity _
    · exact endSequence_late s m.isLt j js data parity _ h

end Sys2Proof.Machine

/-!
SUPPORT. Proofs about the references and the frame timing: holdover and its end, results, steps, patterns, roles and their guard.
-/

namespace Sys2Proof.Machine

-- The option has the proofs elaborated one after another, not beside the tests above: the two together exceed the check's memory.
set_option deprecated.oldSectionVars true

/-! ### References (R202) -/

theorem Spares.withRef (l : List Fld) (s : State) (x : Ref) : Spares l s { s with ref := x } :=
  ⟨rfl, fun _ _ _ _ => rfl, fun _ _ h => h⟩

/-- The fields of REF_STAT that a change of reference writes. -/
def selFields : List Fld := [Fd.SYN_REF_STAT_SEL, Fd.SYN_REF_STAT_HOLD_SEC]

/-- REFIN is no longer valid. -/
def State.dropRef (s : State) : State :=
  let s := s.setB Fd.SYN_REF_STAT_REF_OK false
  { s with ref := { s.ref with validSheets := 0 } }

/-- CKPLL leaves REFIN, for REFIN2 or for holdover. -/
def State.leaveRef (s : State) : State :=
  let s := s.raise 266
  if s.getB Fd.SYN_REF_CTL_REF2_EN && s.getB Fd.SYN_REF_STAT_REF2_OK then s.set Fd.SYN_REF_STAT_SEL 1 else s.enterHoldover

theorem refLost_first (s : State) : s.refLost false = if s.get Fd.SYN_REF_STAT_SEL = 0 then s.dropRef.leaveRef else s.dropRef := by
  unfold State.refLost
  simp only [Bool.false_eq_true, if_false]
  rfl

theorem refLost_second (s : State) : s.refLost true = if s.get Fd.SYN_REF_STAT_SEL = 1 then
    (s.setB Fd.SYN_REF_STAT_REF2_OK false).enterHoldover else s.setB Fd.SYN_REF_STAT_REF2_OK false := by
  unfold State.refLost
  simp only [if_true]

section
variable (s : State)

theorem enterHoldover_sel : s.enterHoldover.get Fd.SYN_REF_STAT_SEL = 2 := by
  have h (u : State) : Spares [Fd.SYN_REF_STAT_HOLD_SEC] u ((u.set Fd.SYN_REF_STAT_HOLD_SEC 0).raise 267) :=
    .after (.of_raised _ (raise_raised _ (by decide))) (.set u (by decide) 0 Nat.one_pos)
  unfold State.enterHoldover
  exact ((h _).fields Fd.SYN_REF_STAT_SEL 0 (by decide) Nat.one_pos).trans (get_set_of_lt _ 0 0 (fits_of rfl) (by decide))

theorem enterHoldover_spares : Spares selFields s s.enterHoldover :=
  .after (.of_raised _ (raise_raised _ (by decide))) (.after (.set _ (g := Fd.SYN_REF_STAT_HOLD_SEC) (by decide) 0 Nat.one_pos)
    (.after (.set _ (g := Fd.SYN_REF_STAT_SEL) (by decide) 2 Nat.one_pos) (.withRef ..)))

theorem enterHoldover_validSheets : s.enterHoldover.ref.validSheets = s.ref.validSheets := by
  rw [State.enterHoldover, (raise_raised _ (by decide)).ref, State.set_ref, State.set_ref]

theorem leaveRef_spares : Spares selFields s s.leaveRef := by
  have hr : Spares selFields s (s.raise 266) := .of_raised _ (raise_raised _ (by decide))
  unfold State.leaveRef
  refine .ite (fun _ => ?_) fun _ => .after (enterHoldover_spares _) hr
  exact .after (.set _ (g := Fd.SYN_REF_STAT_SEL) (by decide) 1 Nat.one_pos) hr

theorem leaveRef_sel : s.leaveRef.get Fd.SYN_REF_STAT_SEL =
    if s.getB Fd.SYN_REF_CTL_REF2_EN && s.getB Fd.SYN_REF_STAT_REF2_OK then 1 else 2 := by
  have hr : Spares [] s (s.raise 266) := .of_raised _ (raise_raised _ (by decide))
  unfold State.leaveRef
  simp only [hr.getB Fd.SYN_REF_CTL_REF2_EN (i := 0) (by decide) Nat.one_pos, hr.getB Fd.SYN_REF_STAT_REF2_OK (i := 0) (by decide) Nat.one_pos]
  split
  · exact get_set_of_lt _ 0 0 (fits_of rfl) (by decide)
  · exact enterHoldover_sel _

theorem leaveRef_validSheets : s.leaveRef.ref.validSheets = s.ref.validSheets := by
  have hr : (s.raise 266).ref = s.ref := (raise_raised _ (by decide)).ref
  unfold State.leaveRef
  simp only []
  split
  · rw [State.set_ref, hr]
  · rw [enterHoldover_validSheets, hr]

theorem dropRef_spares : Spares [Fd.SYN_REF_STAT_REF_OK] s s.dropRef :=
  .after (.withRef ..) (.setB s (by decide) false Nat.one_pos)

theorem dropRef_ok : s.dropRef.getB Fd.SYN_REF_STAT_REF_OK = false :=
  getB_setB_same s Fd.SYN_REF_STAT_REF_OK false 0 0 (fits_of rfl) (by decide)

/-- REFIN lost is not valid, and its count of sheets begins anew. -/
theorem refLost_first_ok : (s.refLost false).getB Fd.SYN_REF_STAT_REF_OK = false ∧ (s.refLost false).ref.validSheets = 0 := by
  rw [refLost_first]
  split
  · exact ⟨((leaveRef_spares _).getB Fd.SYN_REF_STAT_REF_OK (by decide) Nat.one_pos).trans (dropRef_ok s), leaveRef_validSheets _⟩
  · exact ⟨dropRef_ok s, rfl⟩

theorem refLost_first_used (h : s.get Fd.SYN_REF_STAT_SEL = 0) : (s.refLost false).get Fd.SYN_REF_STAT_SEL =
    if s.getB Fd.SYN_REF_CTL_REF2_EN && s.getB Fd.SYN_REF_STAT_REF2_OK then 1 else 2 := by
  have hd := dropRef_spares s
  rw [refLost_first, if_pos h, leaveRef_sel, hd.getB Fd.SYN_REF_CTL_REF2_EN (by decide) Nat.one_pos,
    hd.getB Fd.SYN_REF_STAT_REF2_OK (by decide) Nat.one_pos]

theorem refLost_first_unused (h : s.get Fd.SYN_REF_STAT_SEL ≠ 0) :
    (s.refLost false).get Fd.SYN_REF_STAT_SEL = s.get Fd.SYN_REF_STAT_SEL := by
  rw [refLost_first, if_neg h]
  exact (dropRef_spares s).fields Fd.SYN_REF_STAT_SEL 0 (by decide) Nat.one_pos

theorem refLost_second_ok : (s.refLost true).getB Fd.SYN_REF_STAT_REF2_OK = false := by
  have hb := getB_setB_same s Fd.SYN_REF_STAT_REF2_OK false 0 0 (fits_of rfl) (by decide)
  rw [refLost_second]
  split
  · exact ((enterHoldover_spares _).getB Fd.SYN_REF_STAT_REF2_OK (by decide) Nat.one_pos).trans hb
  · exact hb

theorem refLost_second_sel : (s.refLost true).get Fd.SYN_REF_STAT_SEL =
    if s.get Fd.SYN_REF_STAT_SEL = 1 then 2 else s.get Fd.SYN_REF_STAT_SEL := by
  rw [refLost_second]
  split
  · exact enterHoldover_sel _
  · exact get_set_clear s (f := Fd.SYN_REF_STAT_SEL) (g := Fd.SYN_REF_STAT_REF2_OK) (by decide) _ Nat.one_pos Nat.one_pos

end

theorem exec_refInvalid (second : Bool) (s : State) : exec (.refInvalid second) s = s.whenLive (.next (s.refLost second)) := rfl

/-- The state in which CKPLL has returned to REFIN. -/
def State.revertRef (s : State) : State := (((s.set Fd.SYN_REF_STAT_SEL 0).clearSource 266).clearSource 267).clearSource 268

theorem revertRef_raised (s : State) : OnlyRaised (s.set Fd.SYN_REF_STAT_SEL 0) s.revertRef :=
  .after (clearSource_raised _ (by decide)) (.after (clearSource_raised _ (by decide)) (clearSource_raised _ (by decide)))

/-- An event that is an outcome where it is due: it leaves the timebase and the queue of `v`, which are those of `s`. -/
theorem exec_raises {i : Instr} {s u v : State} {due : Prop} [Decidable due] (hs : s.alive = true)
    (e : exec i s = s.whenLive (if due then .next u else .next s)) (h : OnlyRaised v u) (ht : v.time = s.time)
    (hq : v.pending = s.pending) : ∃ t, exec i s = .next t ∧ (due → t = u) ∧ (¬ due → t = s) :=
  exec_event hs (e.trans (congrArg s.whenLive (apply_ite ..).symm)) (h.time.trans ht) (h.pending.trans hq)

theorem exec_refRevert (s : State) : exec .refRevert s = s.whenLive (
    if s.getB Fd.SYN_REF_CTL_REVERT ∧ s.get Fd.SYN_REF_STAT_SEL ≠ 0 ∧ s.getB Fd.SYN_REF_STAT_REF_OK ∧
      s.legN 0x1043 ≤ s.ref.validSheets then .next s.revertRef else .next s) := rfl

theorem exec_holdoverLong (s : State) : exec .holdoverLong s = s.whenLive (
    if s.get Fd.SYN_REF_STAT_SEL = 2 ∧ s.ref.holdAt + 38400000 < s.time.gt then .next (s.raise 268) else .next s) := rfl

section
variable {s : State} (hs : s.alive = true)
include hs

theorem refInvalid_first : ∃ t, exec (.refInvalid false) s = .next t ∧ t.getB Fd.SYN_REF_STAT_REF_OK = false ∧
    t.ref.validSheets = 0 ∧
    (s.get Fd.SYN_REF_STAT_SEL = 0 → t.get Fd.SYN_REF_STAT_SEL =
      if s.getB Fd.SYN_REF_CTL_REF2_EN && s.getB Fd.SYN_REF_STAT_REF2_OK then 1 else 2) ∧
    (s.get Fd.SYN_REF_STAT_SEL ≠ 0 → t.get Fd.SYN_REF_STAT_SEL = s.get Fd.SYN_REF_STAT_SEL) := by
  obtain ⟨hok, hv⟩ := refLost_first_ok s
  exact ⟨_, exec_next hs (exec_refInvalid false s), hok, hv, refLost_first_used s, refLost_first_unused s⟩

theorem refRevert_returns (hr : s.getB Fd.SYN_REF_CTL_REVERT = true) (hn : s.get Fd.SYN_REF_STAT_SEL ≠ 0)
    (hk : s.getB Fd.SYN_REF_STAT_REF_OK = true) : ∃ t, exec .refRevert s = .next t ∧
      (s.legN 0x1043 ≤ s.ref.validSheets → OnlyRaised (s.set Fd.SYN_REF_STAT_SEL 0) t) ∧
      (s.ref.validSheets < s.legN 0x1043 → t = s) := by
  obtain ⟨t, e, hdue, hrest⟩ := exec_raises hs (exec_refRevert s) (revertRef_raised s) (State.set_time ..) (State.set_pending ..)
  refine ⟨t, e, fun h => ?_, fun h => hrest fun ⟨_, _, _, hv⟩ => absurd hv (Nat.not_le.2 h)⟩
  rw [hdue ⟨hr, hn, hk, h⟩]
  exact revertRef_raised s

theorem holdoverLong_raises (h2 : s.get Fd.SYN_REF_STAT_SEL = 2) : ∃ t, exec .holdoverLong s = .next t ∧
    (s.ref.holdAt + 38400000 < s.time.gt → OnlyRaised s t ∧ t.getB Fd.FLT_SSTAT_ACTIVE 268 = true) ∧
    (s.time.gt ≤ s.ref.holdAt + 38400000 → t = s) := by
  have hr : OnlyRaised s (s.raise 268) := raise_raised s (by decide)
  obtain ⟨t, e, hdue, hrest⟩ := exec_raises hs (exec_holdoverLong s) hr rfl rfl
  refine ⟨t, e, fun h => ?_, fun h => hrest fun ⟨_, hv⟩ => absurd hv (Nat.not_lt.2 h)⟩
  rw [hdue ⟨h2, h⟩]
  exact ⟨hr, raise_active s (by decide)⟩

end

/-! ### Results and steps (R211, R212) -/

theorem judgeActive_ppsLast (s : State) : s.judgeActive.tdd.ppsLast = s.tdd.ppsLast :=
  forEach_keeps (fun u : State => u.tdd.ppsLast) _ _ (fun u w => ⟨by split <;> rfl⟩) s

theorem planStep_ppsLast (s : State) (p : Nat) : (s.planStep p).tdd.ppsLast = s.tdd.ppsLast := rfl

theorem clearSource_tdd (s : State) {src : Nat} (h : src < 512) : (s.clearSource src).tdd = s.tdd := (clearSource_raised s h).tdd

theorem tddResult_ppsLast (s : State) (start : Int) : (s.tddResult start).tdd.ppsLast = s.tdd.ppsLast := by
  have hc (u : State) : (u.clearSource 272).tdd = u.tdd := clearSource_tdd u (by decide)
  unfold State.tddResult
  simp only []
  split_ifs
  · rw [hc, judgeActive_ppsLast, State.set_tdd, State.set_tdd]
  · rfl
  · rw [State.setI_tdd]
  · rw [planStep_ppsLast, State.setI_tdd]
  · rw [State.setI_tdd]
  · rw [State.set_tdd, State.setI_tdd]
  · rw [State.setI_tdd]
  · rfl

/-- The edge of the pulse noted at a stream sample. -/
def State.notePps (s : State) (t : Nat) : State := { s with tdd := { s.tdd with ppsLast := some t } }

/-- An edge lies a second behind the one before it, to within a microsecond (R211). -/
def State.ppsValid (s : State) (t : Nat) : Bool :=
  match s.tdd.ppsLast with
  | some p => decide (((t : Int) - (p : Int) - 983040000).natAbs ≤ 983)
  | none => false

/-- The edge of the pulse taken: noted, and a result where it is valid. -/
def State.takePps (s : State) (t : Nat) : State :=
  if s.ppsValid t then
    (s.notePps t).tddResult ((t : Int) + nsToSamples (((s.notePps t).get Fd.TDD_PPS_OFF_OFFSET : Int) + (s.notePps t).getI Fd.TDD_TOFF_OFFSET))
  else s.notePps t

theorem takePps_ppsLast (s : State) (t : Nat) : (s.takePps t).tdd.ppsLast = some t := by
  unfold State.takePps
  split
  · exact (tddResult_ppsLast ..).trans rfl
  · rfl

theorem exec_ppsEdge (off : Fin 1536) (s : State) : exec (.ppsEdge off) s = s.whenLive (.next (
    if s.getB Fd.TDD_CTL_EN ∧ s.get Fd.TDD_CTL_SRC = 1 then s.takePps (s.now + off.val) else s)) := by
  have e : exec (.ppsEdge off) s = s.whenLive (if s.getB Fd.TDD_CTL_EN ∧ s.get Fd.TDD_CTL_SRC = 1 then
      if s.ppsValid (s.now + off.val) then
        .next ((s.notePps (s.now + off.val)).tddResult (((s.now + off.val : Nat) : Int) + nsToSamples
          (((s.notePps (s.now + off.val)).get Fd.TDD_PPS_OFF_OFFSET : Int) + (s.notePps (s.now + off.val)).getI Fd.TDD_TOFF_OFFSET)))
      else .next (s.notePps (s.now + off.val)) else .next s) := rfl
  rw [e, apply_ite Host.Outcome.next, State.takePps, apply_ite Host.Outcome.next]

/-- The frame timing in holdover: no result came (Table 10.6). -/
def State.holdTiming (s : State) : State :=
  { s with tdd := { s.tdd with holdAt := s.time.gt, last := none, step := none } }.set Fd.TDD_STAT_STATE 3

/-- The frame timing lost: it is acquired anew (Table 10.6). -/
def State.loseTiming (s : State) : State := { s with tdd := { s.tdd with last := none, slew := 0 } }.set Fd.TDD_STAT_STATE 1

/-- The planned step of the phase taken (R212). -/
def State.stepPhase (s : State) (p : Nat) : State := { s with tdd := { s.tdd with phase0 := p, slew := 0, step := none } }

theorem exec_tddResultTimeout (s : State) : exec .tddResultTimeout s = s.whenLive (
    if s.get Fd.TDD_STAT_STATE = 2 ∧ s.tdd.lastAt + s.resultInterval + 1280 ≤ s.time.gt then .next s.holdTiming else .next s) := rfl

theorem exec_tddHoldoverExpiry (s : State) : exec .tddHoldoverExpiry s = s.whenLive (
    if s.get Fd.TDD_STAT_STATE = 3 ∧ s.tdd.holdAt + 80 * s.legN 0x6045 ≤ s.time.gt then .next (s.loseTiming.raise 272)
    else .next s) := rfl

theorem exec_tddStep {s : State} {p at_ q : Nat} (h : s.tdd.step = some (p, at_, q)) : exec .tddStep s = s.whenLive (
    if at_ < s.now + 1536 then .next ((s.stepPhase p).pulse 271) else .next s) := by
  rw [show exec .tddStep s = execTddStep s from rfl, execTddStep]
  simp only [h]
  rfl

section
variable {s : State} (hs : s.alive = true)
include hs

theorem ppsEdge_notes (off : Fin 1536) : ∃ t, exec (.ppsEdge off) s = .next t ∧
    (s.getB Fd.TDD_CTL_EN = true → s.get Fd.TDD_CTL_SRC = 1 → t.tdd.ppsLast = some (s.now + off.val)) ∧
    (s.getB Fd.TDD_CTL_EN = false ∨ s.get Fd.TDD_CTL_SRC ≠ 1 → t = s) := by
  obtain ⟨t, e, hdue, hrest⟩ := exec_whereDue hs (exec_ppsEdge off s)
  refine ⟨t, e, fun h1 h2 => ?_, fun h => hrest ?_⟩
  · rw [hdue ⟨h1, h2⟩, putBack_tdd]
    exact takePps_ppsLast ..
  · rintro ⟨h1, h2⟩
    rcases h with h | h
    · exact absurd (h1.symm.trans h) (by decide)
    · exact h h2

theorem tddResultTimeout_holds (h2 : s.get Fd.TDD_STAT_STATE = 2) : ∃ t, exec .tddResultTimeout s = .next t ∧
    (s.tdd.lastAt + s.resultInterval + 1280 ≤ s.time.gt → t.get Fd.TDD_STAT_STATE = 3 ∧ t.tdd.holdAt = s.time.gt ∧
      t.tdd.step = none ∧ ∀ off, off ≠ Reg.TDD_STAT.off 0 0 → t.reg off = s.reg off) ∧
    (s.time.gt < s.tdd.lastAt + s.resultInterval + 1280 → t = s) := by
  obtain ⟨t, e, hdue, hrest⟩ := exec_raises hs (exec_tddResultTimeout s) (.refl _) (State.set_time ..) (State.set_pending ..)
  refine ⟨t, e, fun h => ?_, fun h => hrest fun ⟨_, hv⟩ => absurd hv (Nat.not_le.2 h)⟩
  rw [hdue ⟨h2, h⟩]
  exact ⟨get_set_of_lt _ 0 0 (fits_of rfl) (by decide), rfl, rfl, fun _ ho => reg_set_other _ Fd.TDD_STAT_STATE 3 0 0 ho⟩

theorem tddHoldoverExpiry_loses (h3 : s.get Fd.TDD_STAT_STATE = 3) : ∃ t, exec .tddHoldoverExpiry s = .next t ∧
    (s.tdd.holdAt + 80 * s.legN 0x6045 ≤ s.time.gt → t.get Fd.TDD_STAT_STATE = 1 ∧ t.tdd.slew = 0 ∧
      t.getB Fd.FLT_SSTAT_ACTIVE 272 = true) ∧
    (s.time.gt < s.tdd.holdAt + 80 * s.legN 0x6045 → t = s) := by
  have hr : OnlyRaised s.loseTiming (s.loseTiming.raise 272) := raise_raised _ (by decide)
  obtain ⟨t, e, hdue, hrest⟩ := exec_raises hs (exec_tddHoldoverExpiry s) hr (State.set_time ..) (State.set_pending ..)
  refine ⟨t, e, fun h => ?_, fun h => hrest fun ⟨_, hv⟩ => absurd hv (Nat.not_le.2 h)⟩
  rw [hdue ⟨h3, h⟩]
  refine ⟨(hr.get Fd.TDD_STAT_STATE 0 0 (by decide)).trans (get_set_of_lt _ 0 0 (fits_of rfl) (by decide)), ?_, raise_active _ (by decide)⟩
  rw [hr.tdd, State.loseTiming, State.set_tdd]

theorem tddStep_steps {p at_ q : Nat} (h : s.tdd.step = some (p, at_, q)) : ∃ t, exec .tddStep s = .next t ∧
    (at_ < s.now + 1536 → OnlyRaised (s.stepPhase p) t) ∧ (s.now + 1536 ≤ at_ → t = s) := by
  have hr : OnlyRaised (s.stepPhase p) ((s.stepPhase p).pulse 271) := pulse_raised _ (by decide)
  obtain ⟨t, e, hdue, hrest⟩ := exec_raises hs (exec_tddStep h) hr rfl rfl
  refine ⟨t, e, fun h => ?_, fun h => hrest (Nat.not_lt.2 h)⟩
  rw [hdue h]
  exact hr

end

/-! ### Members of a pair (R215) -/

@[simp] theorem pair_setPair_same (s : State) (w : Nat) (e : PairExt) : (s.setPair w e).pair w = e := mapGet_mapSet_same ..

theorem pair_setPair_other (s : State) {w x : Nat} (e : PairExt) (h : x ≠ w) : (s.setPair w e).pair x = s.pair x :=
  mapGet_mapSet_other _ _ e h

theorem pair_of_tdd {s t : State} (h : t.tdd = s.tdd) (w : Nat) : t.pair w = s.pair w := by rw [State.pair, State.pair, h]

@[simp] theorem putBack_pair (u s : State) (w : Nat) : (u.putBack s).pair w = u.pair w := rfl

/-- `t` has the frame timing, the links and the patterns of `s`: the members of its pairs are judged alike. -/
structure SameTiming (s t : State) : Prop where
  phase : t.tdd.phase0 = s.tdd.phase0
  held : t.get Fd.TDD_STAT_STATE = s.get Fd.TDD_STAT_STATE
  uplink : ∀ w < 16, t.getB Fd.CHN_WCTL_TDD_UL w = s.getB Fd.CHN_WCTL_TDD_UL w
  pattern : ∀ w, (t.pair w).pattern = (s.pair w).pattern

theorem SameTiming.after {s t u : State} (k : SameTiming t u) (h : SameTiming s t) : SameTiming s u :=
  ⟨k.phase.trans h.phase, k.held.trans h.held, fun w hw => (k.uplink w hw).trans (h.uplink w hw),
    fun w => (k.pattern w).trans (h.pattern w)⟩

theorem SameTiming.activeAt {s t : State} (h : SameTiming s t) {w : Nat} (hw : w < 16) (i : Nat) : t.activeAt w i = s.activeAt w i := by
  have hp (p : Pattern) : t.segmentAt p i = s.segmentAt p i := by
    simp only [State.segmentAt, State.patternTime, State.phaseAt, h.phase]
  unfold State.activeAt State.patternInForce State.timingHeld
  rw [h.held, h.uplink w hw, h.pattern, hp]

/-- A member of a pair judged at a stream sample; the gates of the uplink member close where its segment begins or ends (R195). -/
def State.judgeMember (s : State) (i x : Nat) : State :=
  let on1 := s.activeAt x i
  let moved := on1 != (s.pair x).active
  let s := s.setPair x { s.pair x with active := on1 }
  if moved && s.getB Fd.CHN_WCTL_TDD_UL x then s.closeGates x else s

section
variable (s : State) (i : Nat) {x : Nat}

theorem closeGates_sameTiming (hx : x < 16) : SameTiming s (s.closeGates x) where
  phase := rfl
  held := get_set_clear _ (f := Fd.TDD_STAT_STATE) (g := Fd.FLT_GSTAT_OPEN) (by decide) _ Nat.one_pos hx
  uplink w hw := getB_of_get (get_set_clear _ (f := Fd.CHN_WCTL_TDD_UL) (g := Fd.FLT_GSTAT_OPEN) (by decide) _ hw hx)
  pattern _ := rfl

theorem setActive_sameTiming (on1 : Bool) : SameTiming s (s.setPair x { s.pair x with active := on1 }) where
  phase := rfl
  held := rfl
  uplink _ _ := rfl
  pattern w := by
    by_cases h : w = x
    · rw [h, pair_setPair_same]
    · rw [pair_setPair_other s _ h]

theorem judgeMember_sameTiming (hx : x < 16) : SameTiming s (s.judgeMember i x) := by
  unfold State.judgeMember
  simp only []
  split
  · exact (closeGates_sameTiming _ hx).after (setActive_sameTiming ..)
  · exact setActive_sameTiming ..

theorem closeGates_pair (x y : Nat) : (s.closeGates x).pair y = s.pair y := rfl

theorem judgeMember_pair (y : Nat) : (s.judgeMember i x).pair y = (s.setPair x { s.pair x with active := s.activeAt x i }).pair y := by
  unfold State.judgeMember
  simp only []
  split
  · rw [closeGates_pair]
  · rfl

theorem judgeMember_active : ((s.judgeMember i x).pair x).active = s.activeAt x i := by
  rw [judgeMember_pair, pair_setPair_same]

theorem judgeMember_other {y : Nat} (h : y ≠ x) : (s.judgeMember i x).pair y = s.pair y := by
  rw [judgeMember_pair, pair_setPair_other s _ h]

/-- Both members of a pair judged. -/
theorem judgeBoth_active {w v y : Nat} (hw : w < 16) (hv : v < 16) (hy : y = w ∨ y = v) :
    (((s.judgeMember i w).judgeMember i v).pair y).active = s.activeAt y i := by
  have hs := judgeMember_sameTiming s i hw
  by_cases hyv : y = v
  · rw [hyv, judgeMember_active, hs.activeAt hv]
  · rw [judgeMember_other _ i hyv, hy.resolve_right hyv, judgeMember_active]

end

/-! ### SEGMENT_START (R215, R217) -/

/-- The role of a pair turned with its segment: held, with the PA_EN outputs after it, for the guard (R217). -/
def State.turnedRole (s : State) (d t : Nat) : State :=
  let e := s.pair d
  let dl := s.activeAt d t
  let fs := s.pairPa d
  let due := t + s.memberDelay d
  let off1 := due + maxOf (fs.map fun f => s.get Fd.TDD_FTIM_HOLD f)
  let free := off1 + s.guardSamples
  let advs := match s.fecsOf 2 [d] with
    | [] => [0]
    | l => l.map fun f => s.get Fd.TDD_FCFG_ADV f
  let pend := advs.any fun a => decide (due - a < free)
  let last := maxOf (advs.map fun a => max (due - a) free)
  let u := if dl then d else (s.partner d).getD d
  let news := s.fecsOf 1 (s.lanesOf u false)
  let late := news.filter fun f => decide (t + s.memberDelay u - s.get Fd.TDD_FCFG_ADV f < last + s.guardSamples)
  let s := s.setPair d { e with
    active := dl, dlRole := if pend then e.dlRole else dl, rolePend := pend, paHeld := listMask late
    paOffAt := off1, roleDue := due, roleMin := free, roleAt := last }
  forEach late s fun s f => s.setB Fd.TDD_FCFG_GUARD_HIT true f

/-- SEGMENT_START where the active member is not the one the role, or the role that waits, stands for. -/
def State.turnRole (s : State) (d t : Nat) : State :=
  if s.patternInForce d ∧ s.activeAt d t ≠ ((s.pair d).dlRole != (s.pair d).rolePend) then s.turnedRole d t else s

theorem exec_segmentStart {w : Fin 16} {v : Nat} (off : Fin 1536) {s : State} (h : s.partner w = some v) :
    exec (.segmentStart w off) s = s.whenLive (.next (
      ((s.judgeMember (s.now + off.val) w).judgeMember (s.now + off.val) v).turnRole (s.downMember w) (s.now + off.val))) := by
  rw [State.turnRole, apply_ite Host.Outcome.next]
  have e : exec (.segmentStart w off) s = s.whenLive (match s.partner w with
    | none => .next s
    | some v =>
      let u := (s.judgeMember (s.now + off.val) w).judgeMember (s.now + off.val) v
      if u.patternInForce (s.downMember w) ∧ u.activeAt (s.downMember w) (s.now + off.val) ≠
          ((u.pair (s.downMember w)).dlRole != (u.pair (s.downMember w)).rolePend) then
        .next (u.turnedRole (s.downMember w) (s.now + off.val)) else .next u) := rfl
  rw [e, h]

/-- A pair whose downlink member is judged already keeps its active members over the change of its role. -/
theorem turnRole_active {s : State} {d t : Nat} (hd : (s.pair d).active = s.activeAt d t) (y : Nat) :
    ((s.turnRole d t).pair y).active = (s.pair y).active := by
  have hf (l : List Nat) (u : State) : (forEach l u fun u f => u.setB Fd.TDD_FCFG_GUARD_HIT true f).tdd = u.tdd :=
    forEach_keeps State.tdd l _ (fun u f => ⟨State.setB_tdd ..⟩) u
  unfold State.turnRole State.turnedRole
  simp only []
  split
  · rw [pair_of_tdd (hf _ _)]
    by_cases hy : y = d
    · rw [hy, pair_setPair_same, hd]
    · rw [pair_setPair_other s _ hy]
  · rfl

theorem segmentStart_judges {w v : Fin 16} (off : Fin 1536) {s : State} (hs : s.alive = true) (h : s.partner w = some v.val) :
    ∃ t, exec (.segmentStart w off) s = .next t ∧
      (t.pair w).active = s.activeAt w (s.now + off.val) ∧ (t.pair v).active = s.activeAt v (s.now + off.val) := by
  have hd : s.downMember w = w.val ∨ s.downMember w = v.val := by
    unfold State.partner at h
    unfold State.downMember
    split_ifs at h with hl
    split
    · exact .inr (Option.some.inj h)
    · exact .inl rfl
  have hlt : s.downMember w < 16 := by rcases hd with hd | hd <;> rw [hd] <;> omega
  have ht : SameTiming s ((s.judgeMember (s.now + off.val) w).judgeMember (s.now + off.val) v) :=
    (judgeMember_sameTiming _ _ v.isLt).after (judgeMember_sameTiming _ _ w.isLt)
  have ha (y : Nat) := turnRole_active ((judgeBoth_active s (s.now + off.val) w.isLt v.isLt hd).trans (ht.activeAt hlt _).symm) y
  refine ⟨_, exec_next hs (exec_segmentStart off h), ?_, ?_⟩
  · rw [putBack_pair, ha]
    exact judgeBoth_active s _ w.isLt v.isLt (.inl rfl)
  · rw [putBack_pair, ha]
    exact judgeBoth_active s _ w.isLt v.isLt (.inr rfl)

/-! ### PATTERN_CHANGE (R214) -/

theorem judgeActive_reg (s : State) (o : Nat) : s.judgeActive.reg o = s.reg o :=
  forEach_keeps (fun u : State => u.reg o) _ _ (fun u w => ⟨by split <;> rfl⟩) s

/-- What waits for a pair, and what is in force, stays when its members are judged. -/
theorem judgeActive_pair (s : State) (x : Nat) :
    ((s.judgeActive.pair x).pattern, (s.judgeActive.pair x).next) = ((s.pair x).pattern, (s.pair x).next) := by
  refine forEach_keeps (fun u : State => ((u.pair x).pattern, (u.pair x).next)) _ _ (fun u w => ⟨?_⟩) s
  split
  · by_cases h : x = w
    · rw [h, pair_setPair_same]
    · rw [pair_setPair_other u _ h]
  · rfl

theorem takePattern_pair (s : State) (w : Nat) (p : Pattern) (r : Nat) :
    (s.takePattern w p r).pair w = { s.pair w with pattern := p, next := none } :=
  (pair_of_tdd ((State.setB_tdd ..).trans (State.set_tdd ..)) w).trans (pair_setPair_same ..)

theorem takePattern_valid (s : State) (w : Nat) (p : Pattern) (r : Nat) :
    (s.takePattern w p r).getB Fd.TDD_WTDD_PAT_VALID w = p.valid :=
  getB_setB_same _ Fd.TDD_WTDD_PAT_VALID p.valid w 0 (fits_of rfl) (by decide)

/-- The pattern taken stands once the members are judged by it. -/
theorem takePattern_judged (s : State) (w : Nat) (p : Pattern) (r : Nat) :
    ((s.takePattern w p r).judgeActive.pair w).pattern = p ∧ ((s.takePattern w p r).judgeActive.pair w).next = none ∧
      (s.takePattern w p r).judgeActive.getB Fd.TDD_WTDD_PAT_VALID w = p.valid := by
  have hj := judgeActive_pair (s.takePattern w p r) w
  rw [takePattern_pair] at hj
  obtain ⟨hp, hn⟩ := Prod.mk.inj hj
  refine ⟨hp, hn, ?_⟩
  rw [getB_of_get (get_of_reg Fd.TDD_WTDD_PAT_VALID (judgeActive_reg (s.takePattern w p r) _)), takePattern_valid]

theorem exec_patternChange {w : Fin 16} {p : Pattern} {r q : Nat} {s : State} (h : (s.pair w).next = some (p, r, q)) :
    exec (.patternChange w) s = s.whenLive (.next (
      if !p.valid || !s.timingHeld || s.periodStarts p s.now then (s.takePattern w p r).judgeActive else s)) := by
  rw [show exec (.patternChange w) s = execPatternChange w s from rfl, execPatternChange]
  simp only [h]
  rw [apply_ite Host.Outcome.next]

theorem patternChange_takes {w : Fin 16} {p : Pattern} {r q : Nat} {s : State} (hs : s.alive = true)
    (h : (s.pair w).next = some (p, r, q)) : ∃ t, exec (.patternChange w) s = .next t ∧
      (p.valid = false ∨ s.timingHeld = false ∨ s.periodStarts p s.now = true →
        (t.pair w).pattern = p ∧ (t.pair w).next = none ∧ t.getB Fd.TDD_WTDD_PAT_VALID w = p.valid) ∧
      (p.valid = true → s.timingHeld = true → s.periodStarts p s.now = false → t = s) := by
  obtain ⟨t, e, hdue, hrest⟩ := exec_whereDue hs (exec_patternChange h)
  refine ⟨t, e, fun hc => ?_, fun h1 h2 h3 => hrest (by simp [h1, h2, h3])⟩
  have hc : (!p.valid || !s.timingHeld || s.periodStarts p s.now) = true := by rcases hc with hc | hc | hc <;> simp [hc]
  rw [hdue hc, putBack_pair, putBack_getB]
  exact takePattern_judged s w p r

/-! ### GUARD_WAIT_END (R217) -/

/-- What waits for the guard proceeds at a stream sample: the change of role first, then the PA_EN outputs, `guard` samples after it. -/
def PairExt.endWait (e : PairExt) (t guard : Nat) : PairExt :=
  let e := if e.rolePend ∧ e.roleAt ≤ t then { e with dlRole := !e.dlRole, rolePend := false } else e
  if !e.rolePend ∧ e.roleAt + guard ≤ t then { e with paHeld := 0 } else e

theorem exec_guardWaitEnd (w : Fin 16) (off : Fin 1536) (s : State) : exec (.guardWaitEnd w off) s = s.whenLive (.next (
    s.setPair (s.downMember w) ((s.pair (s.downMember w)).endWait (s.now + off.val) s.guardSamples))) := rfl

section
variable {e : PairExt} {t : Nat} (guard : Nat)

theorem endWait_turns (hp : e.rolePend = true) (ht : e.roleAt ≤ t) :
    (e.endWait t guard).dlRole = (!e.dlRole) ∧ (e.endWait t guard).rolePend = false := by
  simp only [PairExt.endWait, if_pos (And.intro hp ht)]
  split <;> exact ⟨rfl, rfl⟩

theorem endWait_waits (hp : e.rolePend = true) (ht : t < e.roleAt) : e.endWait t guard = e := by
  simp only [PairExt.endWait, hp, Nat.not_le.2 ht, and_false, if_false, Bool.not_true, Bool.false_eq_true, false_and]

theorem endWait_releases (hp : e.rolePend = false) {guard : Nat} (ht : e.roleAt + guard ≤ t) : (e.endWait t guard).paHeld = 0 := by
  simp only [PairExt.endWait, hp, Bool.false_eq_true, false_and, if_false, Bool.not_false, true_and, if_pos ht]

end

theorem guardWaitEnd_proceeds (w : Fin 16) (off : Fin 1536) {s : State} (hs : s.alive = true) :
    ∃ t, exec (.guardWaitEnd w off) s = .next t ∧
      t.pair (s.downMember w) = (s.pair (s.downMember w)).endWait (s.now + off.val) s.guardSamples ∧
      ∀ x, x ≠ s.downMember w → t.pair x = s.pair x :=
  ⟨_, exec_next hs (exec_guardWaitEnd w off s), pair_setPair_same .., fun _ hx => pair_setPair_other s _ hx⟩

/-- Settles O50: each row has the effect named where it is due (`exec_raises`, `exec_whereDue`); what it leaves is the lemma of its name. -/
theorem referencesAndTddAct : Obligations.ReferencesAndTddAct := by
  refine ⟨⟨fun s hs => refInvalid_first hs, fun s hs => ⟨_, exec_next hs (exec_refInvalid true s), refLost_second_ok s, refLost_second_sel s⟩,
    fun s hs hr hn hk => refRevert_returns hs hr hn hk, fun s hs h => holdoverLong_raises hs h⟩,
    fun off s hs => ppsEdge_notes hs off, fun s hs h => tddResultTimeout_holds hs h, fun s hs h => tddHoldoverExpiry_loses hs h,
    fun p a q s hs h => tddStep_steps hs h, fun w v off s hs h => segmentStart_judges off hs h,
    fun w p r q s hs h => patternChange_takes hs h, fun w off s hs => ?_⟩
  obtain ⟨t, e, hd, ho⟩ := guardWaitEnd_proceeds w off hs
  refine ⟨t, e, fun hp ht => ?_, fun hp ht => ?_, fun hp ht => ?_, ho⟩
  · rw [hd]
    exact endWait_turns _ hp ht
  · rw [hd, endWait_waits _ hp ht]
  · rw [hd]
    exact endWait_releases hp ht

end Sys2Proof.Machine

/-!
SUPPORT. Proofs about LANE_TX: the requests it changes, the maintenance lock of another mailbox and a contradiction in its sheet.
-/

namespace Sys2Proof.Machine

-- The option has the proofs elaborated one after another, not beside the tests above: the two together exceed the check's memory.
set_option deprecated.oldSectionVars true

/-! ### Orders refused for another mailbox (R265, R266) -/

/-- A command that passes the checks of an order that is not permissive fails those of a permissive one under the lock of another. -/
theorem checkCommand_locked {s : State} {mb lv : Nat} {c : Command} (hc : s.checkCommand mb c lv false = none)
    (hl : s.lockedFor mb = true) : s.checkCommand mb c lv true = some 0x0B := by
  unfold State.checkCommand at hc ⊢
  split_ifs at hc with h1 h2 h3 h4
  rw [if_neg h1, if_neg h2, if_neg h3, if_neg h4, hl]
  rfl

theorem locked_row {s : State} {mb lv : Nat} {c : Command} (hv : s.serves c.opcode = true) (hr : s.romServes mb = true)
    (ho : s.oldest mb = some c) (hc : s.checkCommand mb c lv false = none) (hl : s.lockedFor mb = true)
    (perm : State → Command → Bool) (hp : perm (s.startOldest mb) (s.begun c) = true) (body : State → Command → State) :
    s.runCommand mb c.opcode (fun s c => s.checked mb c lv (perm s c) fun s => body s c) =
      ((s.startOldest mb).complete mb (s.begun c) 0x0B).drainUndefined 4 mb := by
  have hk : (s.startOldest mb).checkCommand mb (s.begun c) lv (perm (s.startOldest mb) (s.begun c)) = some 0x0B := by
    rw [hp]
    exact checkCommand_locked hc hl
  unfold State.runCommand
  simp only [hv, hr, ho, Bool.and_self, if_true]
  change State.drainUndefined 4 ((s.startOldest mb).checked mb (s.begun c) lv (perm (s.startOldest mb) (s.begun c))
    fun u => body u (s.begun c)) mb = _
  unfold State.checked
  simp only [hk]

/-- A mailbox whose oldest command is answered, and undefined ones behind it. -/
theorem drained_answers {i : Instr} {s : State} {mb : Nat} {c : Command} (hs : s.alive = true) (he : c.early = false) (st : Nat)
    (e : exec i s = s.whenLive (.next (((s.startOldest mb).complete mb (s.begun c) st).drainUndefined 4 mb))) :
    ∃ t, exec i s = .next t ∧ s.answers t mb c st [] ∧ OnlyAnswered mb s t := by
  have hd := drainUndefined_answered 4 ((s.startOldest mb).complete mb (s.begun c) st) mb
  have ha := ((startOldest_answered s mb).trans (complete_answered ..)).trans hd
  have e := exec_next hs e
  rw [putBack_self ha.time ha.pending] at e
  exact ⟨_, e, answers_after (answers_from (complete_answers (s.startOldest mb) mb (s.begun c) st [] he) (startOldest_waiting s mb)) hd, ha⟩

theorem noteConflict_raised (s : State) (wMb wTag wOp lMb lTag lOp key : Nat) :
    OnlyRaised s (s.noteConflict wMb wTag wOp lMb lTag lOp key) :=
  .after (notifyChart_raised ..) (.after (commandRecord_raised ..) (commandRecord_raised ..))

/-- A permissive order that contradicts a restrictive one of another mailbox in its sheet. -/
theorem asOrder_lost {s : State} {d : Done} {m : Nat} {targets : List (Nat × Nat)} (hd : d ∈ s.fw.dones) (hm : d.mb ≠ m)
    (hr : d.restrictive = true) (ht : contradict d.targets targets = true) (c : Command) (bits : List (Nat × Nat)) (run : State → State) :
    ∃ u, OnlyRaised s u ∧ s.asOrder m c false targets bits run = u.complete m c 0x0C := by
  have hf : ((s.fw.dones.filter fun d => d.mb != m && contradict d.targets targets).find?
      fun d => !false && (d.restrictive || !s.winsPermissive m d.mb)).isSome = true :=
    List.find?_isSome.2 ⟨d, List.mem_filter.2 ⟨hd, by simp [hm, ht]⟩, by simp [hr]⟩
  obtain ⟨w, e⟩ := Option.isSome_iff_exists.1 hf
  refine ⟨s.noteConflict w.mb w.tag w.opcode m c.tag c.opcode (contested targets w.targets), noteConflict_raised .., ?_⟩
  unfold State.asOrder State.arbitrate
  simp only [e, if_true]

/-! ### The row (R209) -/

/-- The lanes that a LANE_TX addresses. -/
def Command.txLanes (c : Command) : List Nat := maskList (wbits (c.word 1) 15 0) 16

/-- What a LANE_TX asks of a lane. -/
def Command.txReq (c : Command) (n : Nat) : Bool := bit (wbits (c.word 2) 15 0) n

/-- The lanes of which a LANE_TX changes the request. -/
def State.txChanges (s : State) (c : Command) : List Nat := c.txLanes.filter fun n => s.getB Fd.SYN_LSTATE_TX_REQ n != c.txReq n

/-- A LANE_TX requests a lane that was not, which makes it a permissive order. -/
def State.txPermissive (s : State) (c : Command) : Bool := (s.txChanges c).any c.txReq

/-- A LANE_TX requests a lane whose transmit side is not enabled. -/
def State.txDisabled (s : State) (c : Command) : Bool := c.txLanes.any fun n => c.txReq n && !s.getB Fd.LANE_CTL_TX_EN n

/-- The request of a lane written, and when it was. -/
def State.requestLane (s : State) (c : Command) (n : Nat) : State :=
  (s.setB Fd.SYN_LSTATE_TX_REQ (c.txReq n) n).setLaneX n { s.laneX n with pendFrom := c.acceptedAt }

/-- The targets of a LANE_TX as an order (R265). -/
def Command.txTargets (c : Command) (l : List Nat) : List (Nat × Nat) := l.map fun n => (targetKey 0x3C n, b2n (c.txReq n))

/-- A LANE_TX that waits for the lanes it requests. -/
def State.awaitTx (s : State) (mb : Nat) (c : Command) : State :=
  { s with lane := { s.lane with waits := s.lane.waits ++ [⟨mb, c.accepted, listMask (c.txLanes.filter c.txReq), 0, 0, false⟩] } }

/-- What LANE_TX does once its checks have passed, `l` being the lanes of which it changes the request. -/
def laneTxBody (mb : Nat) (l : List Nat) (s : State) (c : Command) : State :=
  if s.txDisabled c then s.complete mb c 7
  else s.asOrder mb c (!l.any c.txReq) (c.txTargets l) (l.map fun n => (Reg.SYN_LSTATE.off n 0, 0x80)) fun s =>
    (forEach l (s.acceptEarly mb c) fun s n => s.requestLane c n).awaitTx mb c

theorem exec_laneTx (mb : Fin 20) (s : State) : exec (.laneTx mb) s =
    s.whenLive (.next (s.runCommand mb 0x3C fun s c =>
      s.checked mb c 3 (s.txPermissive c) fun s => laneTxBody mb (s.txChanges c) s c)) := by
  have e : exec (.laneTx mb) s = s.whenLive (.next (s.runCommand mb 0x3C fun s c =>
      s.checked mb c 3 (s.txPermissive c) (laneTxBody mb (s.txChanges c) · c))) := rfl
  exact e.trans (congrArg (fun b => s.whenLive (.next (s.runCommand mb 0x3C b))) (funext fun s => funext fun c =>
    checked_self s mb c 3 _ fun s u => laneTxBody mb (s.txChanges c) u c))

section
variable {s : State} {c : Command} {n : Nat}

theorem lstate_low (hn : n < 16) : Reg.SYN_LSTATE.off n 0 < 0x34048 := by
  rw [off_lstate]
  omega

theorem mem_txLanes : n ∈ c.txLanes ↔ n < 16 ∧ bit (wbits (c.word 1) 15 0) n = true := mem_maskList

theorem mem_txChanges : n ∈ s.txChanges c ↔ n ∈ c.txLanes ∧ s.getB Fd.SYN_LSTATE_TX_REQ n ≠ c.txReq n := by
  rw [State.txChanges, List.mem_filter, bne_iff_ne]

theorem txDisabled_iff : s.txDisabled c = true ↔
    ∃ n, n < 16 ∧ bit (wbits (c.word 1) 15 0) n = true ∧ c.txReq n = true ∧ s.getB Fd.LANE_CTL_TX_EN n = false := by
  simp only [State.txDisabled, List.any_eq_true, mem_txLanes, Bool.and_eq_true, Bool.not_eq_true', and_assoc]

theorem txPermissive_iff : s.txPermissive c = true ↔
    ∃ n, n < 16 ∧ bit (wbits (c.word 1) 15 0) n = true ∧ c.txReq n = true ∧ s.getB Fd.SYN_LSTATE_TX_REQ n = false := by
  simp only [State.txPermissive, List.any_eq_true, mem_txChanges, mem_txLanes]
  refine exists_congr fun n =>
    ⟨fun ⟨⟨⟨h1, h2⟩, h3⟩, h4⟩ => ⟨h1, h2, h4, ?_⟩, fun ⟨h1, h2, h3, h4⟩ => ⟨⟨⟨h1, h2⟩, ?_⟩, h3⟩⟩
  · rw [h4] at h3
    exact Bool.eq_false_iff.2 h3
  · rw [h3, h4]
    decide

theorem requestLane_same (u : State) (k : Nat) : (u.requestLane c k).getB Fd.SYN_LSTATE_TX_REQ k = c.txReq k :=
  getB_setB_same u Fd.SYN_LSTATE_TX_REQ (c.txReq k) k 0 (fits_of rfl) (by decide)

theorem requestLane_other (u : State) {k : Nat} (h : n ≠ k) :
    (u.requestLane c k).getB Fd.SYN_LSTATE_TX_REQ n = u.getB Fd.SYN_LSTATE_TX_REQ n := by
  refine getB_of_get (get_set_other u Fd.SYN_LSTATE_TX_REQ Fd.SYN_LSTATE_TX_REQ _ k 0 n 0 ?_)
  change Reg.SYN_LSTATE.off n 0 ≠ Reg.SYN_LSTATE.off k 0
  rw [off_lstate, off_lstate]
  omega

/-- Each lane of the list has its request written, and no other. -/
theorem requestLanes_getB (l : List Nat) (u : State) :
    (forEach l u fun u k => u.requestLane c k).getB Fd.SYN_LSTATE_TX_REQ n =
      if n ∈ l then c.txReq n else u.getB Fd.SYN_LSTATE_TX_REQ n := by
  induction l generalizing u with
  | nil => rfl
  | cons k l ih =>
    refine (ih (u.requestLane c k)).trans ?_
    by_cases hl : n ∈ l
    · rw [if_pos hl, if_pos (List.mem_cons_of_mem k hl)]
    · rw [if_neg hl]
      by_cases hk : n = k
      · rw [hk, requestLane_same, if_pos List.mem_cons_self]
      · rw [requestLane_other u hk, if_neg (by simp [hk, hl])]

end

section
variable {mb : Fin 20} {s : State} {c : Command}

/-- The state with the requests of a LANE_TX written, before its wait. -/
def State.requested (s : State) (mb : Nat) (c : Command) : State :=
  forEach (s.txChanges c) (((s.startOldest mb).remember mb (s.begun c) (!s.txPermissive c) (c.txTargets (s.txChanges c))
    ((s.txChanges c).map fun n => (Reg.SYN_LSTATE.off n 0, 0x80))).acceptEarly mb (s.begun c)) fun u n => u.requestLane (s.begun c) n

theorem laneTxBody_runs (hd : s.fw.dones = []) (hx : s.txDisabled c = false) :
    laneTxBody mb (s.txChanges c) (s.startOldest mb) (s.begun c) = (s.requested mb c).awaitTx mb (s.begun c) := by
  have hx : ¬ (s.startOldest mb).txDisabled (s.begun c) = true := Bool.eq_false_iff.1 hx
  rw [laneTxBody, if_neg hx]
  exact asOrder_first (s := s.startOldest mb) hd ..

theorem requested_view (mb : Nat) (c : Command) :
    ((s.requested mb c).time, (s.requested mb c).pending, (s.requested mb c).lane.waits) = (s.time, s.pending, s.lane.waits) := by
  have ha (u : State) := acceptEarly_answered u mb (s.begun c)
  refine (forEach_keeps (fun u : State => (u.time, u.pending, u.lane.waits)) _
    (fun u n => u.requestLane (s.begun c) n) (fun _ _ => ⟨rfl⟩) _).trans ?_
  rw [(ha _).time, (ha _).pending, (ha _).lane]
  rfl

theorem requested_getB (mb : Nat) (c : Command) {n : Nat} (hn : n < 16) : (s.requested mb c).getB Fd.SYN_LSTATE_TX_REQ n =
    if n ∈ c.txLanes then c.txReq n else s.getB Fd.SYN_LSTATE_TX_REQ n := by
  refine (requestLanes_getB ..).trans ?_
  rw [getB_of_get (get_of_reg Fd.SYN_LSTATE_TX_REQ ((acceptEarly_answered ..).low (lstate_low hn)))]
  change (if n ∈ s.txChanges c then c.txReq n else s.getB Fd.SYN_LSTATE_TX_REQ n) = _
  by_cases hm : n ∈ c.txLanes
  · rw [if_pos hm]
    split
    · rfl
    · exact Classical.not_not.1 fun h => absurd (mem_txChanges.2 ⟨hm, h⟩) ‹_›
  · rw [if_neg hm, if_neg fun h => hm (mem_txChanges.1 h).1]

section
variable (h : s.runs mb 0x3C 3 (s.txPermissive c) c)
include h

theorem laneTx_disabled (hx : s.txDisabled c = true) :
    ∃ t, exec (.laneTx mb) s = .next t ∧ s.answers t mb c 7 [] ∧ OnlyAnswered mb s t := by
  rw [exec_laneTx]
  exact runs_answers h (fun _ => 3) State.txPermissive (fun s c => laneTxBody mb (s.txChanges c) s c) rfl rfl 7 [] (if_pos hx)

theorem laneTx_requests (hd : s.fw.dones = []) (hx : s.txDisabled c = false) : ∃ t, exec (.laneTx mb) s = .next t ∧
    (∀ n, n < 16 → t.getB Fd.SYN_LSTATE_TX_REQ n =
      if bit (wbits (c.word 1) 15 0) n then c.txReq n else s.getB Fd.SYN_LSTATE_TX_REQ n) ∧
    ∃ q, t.lane.waits = s.lane.waits ++ [q] ∧ q.mb = mb.val ∧ q.cmd.tag = c.tag := by
  obtain ⟨ht, hv⟩ := Prod.mk.inj (requested_view (s := s) mb c)
  obtain ⟨hq, hw⟩ := Prod.mk.inj hv
  obtain ⟨t, e, hk⟩ := runs_next h (fun _ => 3) State.txPermissive (fun s c => laneTxBody mb (s.txChanges c) s c) rfl rfl _
    (laneTxBody_runs hd hx) ht hq
  rw [exec_laneTx]
  refine ⟨t, e, fun n hn => ?_, _, (congrArg Lanes.waits hk.lane).trans (congrArg (· ++ [_]) hw), rfl, accepted_tag (s.begun c)⟩
  rw [getB_of_get (get_of_reg Fd.SYN_LSTATE_TX_REQ (hk.low (lstate_low hn)))]
  refine (requested_getB mb c hn).trans (if_congr ?_ rfl rfl)
  rw [mem_txLanes, and_iff_right hn]

end

theorem laneTx_locked (hs : s.alive = true) (hv : s.serves 0x3C = true) (hr : s.romServes mb = true) (ho : s.oldest mb = some c)
    (hop : c.opcode = 0x3C) (he : c.early = false) (hc : s.checkCommand mb c 3 false = none) (hl : s.lockedFor mb = true)
    (hp : s.txPermissive c = true) : ∃ t, exec (.laneTx mb) s = .next t ∧ s.answers t mb c 0x0B [] ∧ OnlyAnswered mb s t := by
  refine drained_answers hs he 0x0B ((exec_laneTx mb s).trans ?_)
  rw [← hop, locked_row (hop ▸ hv) hr ho hc hl State.txPermissive hp fun s c => laneTxBody mb (s.txChanges c) s c]

theorem laneTx_loses (h : s.runs mb 0x3C 3 true c) (hp : s.txPermissive c = true) (hx : s.txDisabled c = false) {d : Done}
    (hd : d ∈ s.fw.dones) (hm : d.mb ≠ mb.val) (hr : d.restrictive = true)
    (ht : contradict d.targets (c.txTargets (s.txChanges c)) = true) :
    ∃ t, exec (.laneTx mb) s = .next t ∧ s.answers t mb c 0x0C [] ∧ OnlyAnswered mb s t := by
  have hx : ¬ (s.startOldest mb).txDisabled (s.begun c) = true := Bool.eq_false_iff.1 hx
  have hn : (!(s.txChanges c).any (s.begun c).txReq) = false := by
    rw [Bool.not_eq_false']
    exact hp
  obtain ⟨u, hu, e⟩ := asOrder_lost (s := s.startOldest mb) hd hm hr ht (s.begun c)
    ((s.txChanges c).map fun n => (Reg.SYN_LSTATE.off n 0, 0x80)) fun v =>
      (forEach (s.txChanges c) (v.acceptEarly mb (s.begun c)) fun v n => v.requestLane (s.begun c) n).awaitTx mb (s.begun c)
  have hb : laneTxBody mb (s.txChanges c) (s.startOldest mb) (s.begun c) = u.complete mb (s.begun c) 0x0C := by
    rw [laneTxBody, if_neg hx, hn]
    exact e
  have hs := startOldest_answered s mb
  obtain ⟨t, e, ha, hk⟩ := runs_complete h (fun _ => 3) State.txPermissive (fun s c => laneTxBody mb (s.txChanges c) s c) rfl hp u 0x0C []
    hb (hu.time.trans hs.time) (hu.pending.trans hs.pending) (by rw [hu.mb, startOldest_waiting])
  rw [exec_laneTx]
  exact ⟨t, e, ha, (hs.trans (hu.answered mb)).trans hk⟩

end

/-- Settles O22: the lock by `laneTx_locked`; a contradiction by `laneTx_loses`, the contested lane being a target of both orders; a
LANE_TX that requests no lane is not permissive, so `laneTx_requests` has it run under the lock. -/
theorem laneTxArbitrated : Obligations.LaneTxArbitrated := by
  refine ⟨fun mb s c hs hv hr ho hop he hc hl ⟨n, hn, h1, h2, h3⟩ => ?_,
    fun mb s c d n h hd hm hr hn h1 h2 h3 ht hen => ?_, fun mb s c h _ hd hz => ?_⟩
  · exact laneTx_locked hs hv hr ho hop he hc hl (txPermissive_iff.2 ⟨n, hn, h1, h2, h3⟩)
  · have hx : s.txDisabled c = false := Bool.eq_false_iff.2 fun hx => by
      obtain ⟨k, hk, hk1, hk2, hk3⟩ := txDisabled_iff.1 hx
      exact absurd ((hen k hk hk1 hk2).symm.trans hk3) (by decide)
    have hc : n ∈ s.txChanges c := mem_txChanges.2 ⟨mem_txLanes.2 ⟨hn, h1⟩, by rw [h3, Command.txReq, h2]; decide⟩
    refine laneTx_loses h (txPermissive_iff.2 ⟨n, hn, h1, h2, h3⟩) hx hd hm hr ?_
    have hq : (targetKey 0x3C n, 1) ∈ c.txTargets (s.txChanges c) :=
      List.mem_map.2 ⟨n, hc, by rw [Command.txReq, h2]; rfl⟩
    simp only [contradict, List.any_eq_true]
    exact ⟨_, ht, _, hq, by simp⟩
  · have hr (n : Nat) : c.txReq n = false := by rw [Command.txReq, hz]; exact Nat.zero_testBit n
    have hp : s.txPermissive c = false := Bool.eq_false_iff.2 fun hp => by
      obtain ⟨n, _, _, h2, _⟩ := txPermissive_iff.1 hp
      exact absurd (h2.symm.trans (hr n)) (by decide)
    have hx : s.txDisabled c = false := Bool.eq_false_iff.2 fun hx => by
      obtain ⟨n, _, _, h2, _⟩ := txDisabled_iff.1 hx
      exact absurd (h2.symm.trans (hr n)) (by decide)
    rw [← hp] at h
    obtain ⟨t, e, ht, _⟩ := laneTx_requests h hd hx
    exact ⟨t, e, fun n hn hm => by rw [ht n hn, if_pos hm, hr]⟩

end Sys2Proof.Machine

/-!
SUPPORT. Proofs about LANE_TUNE, BEAM_SET and LANE_CONFIG: what each refuses, and what it waits for.
-/

namespace Sys2Proof.Machine

-- The option has the proofs elaborated one after another, not beside the tests above: the two together exceed the check's memory.
set_option deprecated.oldSectionVars true

/-! ### A write of SCFG.FREQ by a firmware order (R205) -/

/-- What the orders of lanes need a write of SCFG.FREQ to leave alone. -/
def State.tuneView (s : State) : Time × List Instr × List TuneWait × List (Nat × Mailbox) := (s.time, s.pending, s.lane.tunes, s.mbox)

theorem OnlyRaised.tuneView {s t : State} (h : OnlyRaised s t) : t.tuneView = s.tuneView := by
  unfold State.tuneView
  rw [h.time, h.pending, h.lane, h.mbox]

theorem startLock_tuneView (s : State) (y : Nat) : (s.startLock y).tuneView = s.tuneView := by
  have hr (u : State) : u.refreshRxAll.tuneView = u.tuneView := forEach_keeps State.tuneView _ State.refreshRx (fun _ _ => ⟨rfl⟩) u
  unfold State.startLock
  simp only []
  split
  · exact (hr _).trans rfl
  · exact ((clearSource_raised _ (by decide)).tuneView.trans (hr _)).trans rfl

theorem writeFreq_tuneView (s : State) (y f : Nat) : (s.writeFreq y f).tuneView = s.tuneView := by
  unfold State.writeFreq
  split_ifs
  · rfl
  · exact startLock_tuneView ..
  · exact startLock_tuneView ..
  · rfl

theorem scfg_low {y : Nat} (hy : y < 8) : Reg.SYN_SCFG.off y 0 < 0x34048 := by
  rw [show Reg.SYN_SCFG.off y 0 = 0x8080 + 8 * y from rfl]
  omega

theorem startLock_settled (s : State) {y : Nat} (hy : y < 8) : (s.startLock y).getB Fd.SYN_SSTAT_SETTLED y = false :=
  (getB_of_get (get_of_reg Fd.SYN_SSTAT_SETTLED (startLock_reg s y (sstat_low hy) (sstat_apart hy)))).trans (acquiring_settled s y)

/-- A write of SCFG.FREQ leaves a synthesiser settled where it holds that frequency already and has no lock sequence to begin. -/
theorem writeFreq_settled (s : State) {y f : Nat} (hy : y < 8) (h1 : 380000 ≤ f) (h2 : f ≤ 7200000) :
    (s.writeFreq y f).getB Fd.SYN_SSTAT_SETTLED y =
      (decide (f = s.get Fd.SYN_SCFG_FREQ y ∧ s.get Fd.SYN_SSTAT_STATE y ≠ 0 ∧ s.get Fd.SYN_SSTAT_STATE y ≠ 3) &&
        s.getB Fd.SYN_SSTAT_SETTLED y) := by
  unfold State.writeFreq
  rw [if_neg (by omega)]
  split_ifs with hf hz
  · simp [startLock_settled _ hy, hf]
  · rcases hz with hz | hz <;> simp [startLock_settled _ hy, hz]
  · obtain ⟨h0, h3⟩ := not_or.1 hz
    simp [Classical.not_not.1 hf, h0, h3]

/-! ### LANE_TUNE (R209) -/

/-- The synthesiser and the frequency that a LANE_TUNE names. -/
def Command.tuneSyn (c : Command) : Nat := wbits (c.word 1) 2 0

def Command.tuneFreq (c : Command) : Nat := (c.word 2).toNat

/-- A LANE_TUNE names the frequency that stands, so is not permissive. -/
def State.tuneSame (s : State) (c : Command) : Bool := c.tuneFreq == s.get Fd.SYN_SCFG_FREQ c.tuneSyn

/-- A LANE_TUNE answered, or put behind those that wait, once its frequency is written. -/
def State.awaitTune (s : State) (mb : Nat) (c : Command) : State :=
  if s.getB Fd.SYN_SSTAT_SETTLED c.tuneSyn then s.complete mb c.accepted 0
  else { s with lane := { s.lane with tunes := s.lane.tunes ++ [⟨mb, c.accepted, c.tuneSyn⟩] } }

/-- What LANE_TUNE does once its checks have passed, `same` saying that its frequency stood before. -/
def laneTuneBody (mb : Nat) (same : Bool) (s : State) (c : Command) : State :=
  if c.tuneFreq < 380000 ∨ 7200000 < c.tuneFreq then s.complete mb c 4
  else if s.lane.tunes.any fun w => w.syn == c.tuneSyn then s.complete mb c 6
  else if !same && s.retuneForbidden c.tuneSyn then s.complete mb c 7
  else s.asOrder mb c false (if same then [] else [(targetKey 0x3D c.tuneSyn, c.tuneFreq)])
    (if same then [] else [(Reg.SYN_SCFG.off c.tuneSyn 0, 0xFFFFFFFF)]) fun s =>
    ((s.acceptEarly mb c).writeFreq c.tuneSyn c.tuneFreq).awaitTune mb c

theorem exec_laneTune (mb : Fin 20) (s : State) : exec (.laneTune mb) s =
    s.whenLive (.next (s.runCommand mb 0x3D fun s c =>
      s.checked mb c 3 (!s.tuneSame c) fun s => laneTuneBody mb (s.tuneSame c) s c)) := by
  have e : exec (.laneTune mb) s = s.whenLive (.next (s.runCommand mb 0x3D fun s c =>
      s.checked mb c 3 (!s.tuneSame c) (laneTuneBody mb (s.tuneSame c) · c))) := rfl
  exact e.trans (congrArg (fun b => s.whenLive (.next (s.runCommand mb 0x3D b))) (funext fun s => funext fun c =>
    checked_self s mb c 3 _ fun s u => laneTuneBody mb (s.tuneSame c) u c))

/-- The state in which a LANE_TUNE is remembered as an order, and accepted. -/
def State.tuneAccepted (s : State) (mb : Nat) (c : Command) : State :=
  ((s.startOldest mb).remember mb (s.begun c) false (if s.tuneSame c then [] else [(targetKey 0x3D c.tuneSyn, c.tuneFreq)])
    (if s.tuneSame c then [] else [(Reg.SYN_SCFG.off c.tuneSyn 0, 0xFFFFFFFF)])).acceptEarly mb (s.begun c)

/-- The state in which its frequency is written. -/
def State.tuned (s : State) (mb : Nat) (c : Command) : State := (s.tuneAccepted mb c).writeFreq c.tuneSyn c.tuneFreq

theorem answers_tag {s t : State} {mb st : Nat} {c d : Command} {p : List Word} (h : s.answers t mb c st p) (ht : c.tag = d.tag) :
    s.answers t mb d st p := by
  obtain ⟨r, more, hw, hr, hs⟩ := h
  exact ⟨r, more, hw, hr.trans ht, hs⟩

theorem accepted_early {c : Command} (hf : bit c.flags 0 = false) (he : c.early = false) : c.accepted.early = false := by
  rw [Command.accepted, hf]
  exact he

theorem acceptEarly_unasked {s : State} {m : Nat} {c : Command} (hf : bit c.flags 0 = false) : s.acceptEarly m c = s := by
  rw [State.acceptEarly, hf]
  rfl

section
variable (s : State) (mb : Nat) (c : Command)

theorem tuneAccepted_reg {o : Nat} (ho : o < 0x34048) : (s.tuneAccepted mb c).reg o = s.reg o := (acceptEarly_answered ..).low ho

theorem tuned_time : (s.tuned mb c).time = s.time :=
  (congrArg (·.1) (writeFreq_tuneView ..)).trans (acceptEarly_answered ..).time

theorem tuned_pending : (s.tuned mb c).pending = s.pending :=
  (congrArg (·.2.1) (writeFreq_tuneView ..)).trans (acceptEarly_answered ..).pending

theorem tuned_tunes : (s.tuned mb c).lane.tunes = s.lane.tunes :=
  (congrArg (·.2.2.1) (writeFreq_tuneView ..)).trans (congrArg Lanes.tunes (acceptEarly_answered ..).lane)

theorem tuned_mbox : (s.tuned mb c).mbox = (s.tuneAccepted mb c).mbox := congrArg (·.2.2.2) (writeFreq_tuneView ..)

theorem tuned_waiting (hf : bit c.flags 0 = false) : ((s.tuned mb c).mb mb).waiting = (s.mb mb).waiting := by
  have h : (s.tuned mb c).mb mb = (s.tuneAccepted mb c).mb mb := by rw [State.mb, State.mb, tuned_mbox]
  rw [h, State.tuneAccepted, acceptEarly_unasked (c := s.begun c) hf]
  exact startOldest_waiting s mb

variable {c} (h1 : 380000 ≤ c.tuneFreq) (h2 : c.tuneFreq ≤ 7200000)
include h1 h2

theorem tuned_freq : (s.tuned mb c).get Fd.SYN_SCFG_FREQ c.tuneSyn = c.tuneFreq :=
  writeFreq_stores (s.tuneAccepted mb c) ⟨c.tuneSyn, wbits_lt (c.word 1) 2 0⟩ h1 h2

theorem tuned_settled : (s.tuned mb c).getB Fd.SYN_SSTAT_SETTLED c.tuneSyn =
    (s.writeFreq c.tuneSyn c.tuneFreq).getB Fd.SYN_SSTAT_SETTLED c.tuneSyn := by
  have hy : c.tuneSyn < 8 := wbits_lt (c.word 1) 2 0
  have hc := tuneAccepted_reg s mb c (scfg_low hy)
  have ht := tuneAccepted_reg s mb c (sstat_low hy)
  rw [State.tuned, writeFreq_settled _ hy h1 h2, writeFreq_settled _ hy h1 h2, get_of_reg Fd.SYN_SCFG_FREQ hc,
    get_of_reg Fd.SYN_SSTAT_STATE ht, getB_of_get (get_of_reg Fd.SYN_SSTAT_SETTLED ht)]

theorem tuned_locks (hn : c.tuneFreq ≠ s.get Fd.SYN_SCFG_FREQ c.tuneSyn) :
    (s.tuned mb c).get Fd.SYN_SSTAT_STATE c.tuneSyn = 1 ∧ (s.tuned mb c).getB Fd.SYN_SSTAT_SETTLED c.tuneSyn = false := by
  have hy : c.tuneSyn < 8 := wbits_lt (c.word 1) 2 0
  have hc := tuneAccepted_reg s mb c (scfg_low hy)
  have hn' : c.tuneFreq ≠ (s.tuneAccepted mb c).get Fd.SYN_SCFG_FREQ c.tuneSyn := by rwa [get_of_reg Fd.SYN_SCFG_FREQ hc]
  refine ⟨(writeFreq_locks (s.tuneAccepted mb c) ⟨c.tuneSyn, hy⟩ h1 h2 hn').1, ?_⟩
  rw [tuned_settled s mb h1 h2, writeFreq_settled _ hy h1 h2, decide_eq_false (fun h => hn h.1), Bool.false_and]

end

theorem awaitTune_time (s : State) (mb : Nat) (c : Command) : (s.awaitTune mb c).time = s.time := by
  unfold State.awaitTune
  split
  · exact (complete_answered ..).time
  · rfl

theorem awaitTune_pending (s : State) (mb : Nat) (c : Command) : (s.awaitTune mb c).pending = s.pending := by
  unfold State.awaitTune
  split
  · exact (complete_answered ..).pending
  · rfl

theorem awaitTune_reg (s : State) (mb : Nat) (c : Command) {o : Nat} (ho : o < 0x34048) : (s.awaitTune mb c).reg o = s.reg o := by
  unfold State.awaitTune
  split
  · exact (complete_answered ..).low ho
  · rfl

section
variable {mb : Fin 20} {s : State} {c : Command}

theorem laneTuneBody_runs (hd : s.fw.dones = []) (h1 : 380000 ≤ c.tuneFreq) (h2 : c.tuneFreq ≤ 7200000)
    (hw : ∀ w ∈ s.lane.tunes, w.syn ≠ c.tuneSyn)
    (hr : c.tuneFreq = s.get Fd.SYN_SCFG_FREQ c.tuneSyn ∨ s.retuneForbidden c.tuneSyn = false) :
    laneTuneBody mb (s.tuneSame c) (s.startOldest mb) (s.begun c) = (s.tuned mb c).awaitTune mb (s.begun c) := by
  have hb : ¬ ((s.begun c).tuneFreq < 380000 ∨ 7200000 < (s.begun c).tuneFreq) := by
    rintro (h | h)
    · exact Nat.not_le.2 h h1
    · exact Nat.not_le.2 h h2
  have ht : ¬ ((s.startOldest mb).lane.tunes.any fun w => w.syn == (s.begun c).tuneSyn) = true := by
    rw [List.any_eq_true]
    exact fun ⟨w, hm, he⟩ => hw w hm (beq_iff_eq.1 he)
  have hf : ¬ (!s.tuneSame c && (s.startOldest mb).retuneForbidden (s.begun c).tuneSyn) = true := by
    rw [Bool.and_eq_true]
    rintro ⟨hn, hx⟩
    rcases hr with hr | hr
    · rw [State.tuneSame, beq_iff_eq.2 hr] at hn
      exact Bool.false_ne_true hn
    · exact Bool.eq_false_iff.1 hr hx
  rw [laneTuneBody, if_neg hb, if_neg ht, if_neg hf]
  exact asOrder_first (s := s.startOldest mb) hd ..

section
variable (h : s.runs mb 0x3D 3 true c)
include h

theorem laneTune_refused (hb : c.tuneFreq < 380000 ∨ 7200000 < c.tuneFreq) :
    ∃ t, exec (.laneTune mb) s = .next t ∧ s.answers t mb c 4 [] ∧ OnlyAnswered mb s t := by
  rw [exec_laneTune]
  exact runs_answers (runs_of_permissive h _) (fun _ => 3) (fun s c => !s.tuneSame c) (fun s c => laneTuneBody mb (s.tuneSame c) s c)
    rfl rfl 4 [] (if_pos hb)

theorem laneTune_tunes (hd : s.fw.dones = []) (h1 : 380000 ≤ c.tuneFreq) (h2 : c.tuneFreq ≤ 7200000)
    (hw : ∀ w ∈ s.lane.tunes, w.syn ≠ c.tuneSyn)
    (hr : c.tuneFreq = s.get Fd.SYN_SCFG_FREQ c.tuneSyn ∨ s.retuneForbidden c.tuneSyn = false) :
    ∃ t, exec (.laneTune mb) s = .next t ∧ OnlyAnswered mb ((s.tuned mb c).awaitTune mb (s.begun c)) t := by
  rw [exec_laneTune]
  exact runs_next (runs_of_permissive h _) (fun _ => 3) (fun s c => !s.tuneSame c) (fun s c => laneTuneBody mb (s.tuneSame c) s c)
    rfl rfl _ (laneTuneBody_runs hd h1 h2 hw hr) ((awaitTune_time ..).trans (tuned_time ..)) ((awaitTune_pending ..).trans (tuned_pending ..))

end

theorem tuned_answers (he : (s.begun c).early = false) (hs : (s.tuned mb c).getB Fd.SYN_SSTAT_SETTLED c.tuneSyn = true) {t : State}
    (hk : OnlyAnswered mb ((s.tuned mb c).awaitTune mb (s.begun c)) t) :
    t.lane.tunes = s.lane.tunes ∧ (bit c.flags 0 = false → s.answers t mb c 0 []) := by
  rw [State.awaitTune, if_pos (show (s.tuned mb c).getB Fd.SYN_SSTAT_SETTLED (s.begun c).tuneSyn = true from hs)] at hk
  refine ⟨?_, fun hf => ?_⟩
  · rw [hk.lane, (complete_answered ..).lane, tuned_tunes]
  · have ha := complete_answers (s.tuned mb c) mb (s.begun c).accepted 0 [] (accepted_early hf he)
    exact answers_tag (answers_after (answers_from ha (tuned_waiting s mb c hf)) hk) (accepted_tag (s.begun c))

theorem tuned_waits (hs : (s.tuned mb c).getB Fd.SYN_SSTAT_SETTLED c.tuneSyn = false) {t : State}
    (hk : OnlyAnswered mb ((s.tuned mb c).awaitTune mb (s.begun c)) t) :
    ∃ q, t.lane.tunes = s.lane.tunes ++ [q] ∧ q.mb = mb.val ∧ q.cmd.tag = c.tag ∧ q.syn = c.tuneSyn := by
  rw [State.awaitTune, if_neg (show ¬ (s.tuned mb c).getB Fd.SYN_SSTAT_SETTLED (s.begun c).tuneSyn = true from Bool.eq_false_iff.1 hs)] at hk
  exact ⟨_, (congrArg Lanes.tunes hk.lane).trans (congrArg (· ++ [_]) (tuned_tunes s mb c)), rfl, accepted_tag (s.begun c), rfl⟩

end

/-! ### BEAM_SET (R221) -/

theorem rffeWord_of_tdd {s t : State} (h : t.tdd = s.tdd) (m i : Nat) : t.rffeWord m i = s.rffeWord m i := by
  rw [State.rffeWord, State.rffeWord, h]

theorem rffeCycles_of_tdd {s t : State} (h : t.tdd = s.tdd) (m f : Nat) :
    ∀ i first, t.rffeCycles m f i first = s.rffeCycles m f i first := by
  induction f with
  | zero => exact fun _ _ => rfl
  | succ f ih =>
    intro i first
    simp only [State.rffeCycles, rffeWord_of_tdd h, ih]

/-- The master and the sequence that a BEAM_SET names. -/
def Command.beamMaster (c : Command) : Nat := wbits (c.word 1) 1 0

def Command.beamSeq (c : Command) : Nat := wbits (c.word 1) 7 4

/-- The instant of a BEAM_SET in stream samples. -/
def State.beamAt (s : State) (c : Command) : Int := s.stampTick (c.word 2).toNat (c.word 3).toNat * 1536

/-- The bus time of a BEAM_SET, and 2 µs. -/
def State.beamLead (s : State) (c : Command) : Int := ((s.rffeTime c.beamMaster c.beamSeq + 1967 : Nat) : Int)

/-- Taking a command leaves the bus time of a sequence. -/
theorem startOldest_beamLead (s : State) (mb : Nat) (c : Command) : (s.startOldest mb).beamLead (s.begun c) = s.beamLead c := by
  unfold State.beamLead State.rffeTime
  rw [rffeCycles_of_tdd (startOldest_answered s mb).tdd]
  rfl

/-- A BEAM_SET that waits for its instant. -/
def State.awaitBeam (s : State) (mb : Nat) (c : Command) (at_ : Nat) : State :=
  { s with tdd := { s.tdd with beams := s.tdd.beams ++ [⟨mb, c.accepted, c.beamMaster, c.beamSeq, at_⟩] } }

/-- What BEAM_SET does once its checks have passed, `at_` being its instant. -/
def beamSetBody (mb : Nat) (at_ : Int) (s : State) (c : Command) : State :=
  if wbits (s.rffeWord c.beamMaster c.beamSeq) 31 28 ≠ 5 ∨ 639999 < (c.word 3).toNat then s.complete mb c 4
  else if at_ - ((c.acceptedAt * 1536 : Nat) : Int) < s.beamLead c then s.complete mb c 0xD
  else s.asOrder mb c false [(targetKey 0x3E (16 * c.beamMaster + c.beamSeq), at_.toNat)] [] fun s =>
    (s.acceptEarly mb c).awaitBeam mb c at_.toNat

theorem exec_beamSet (mb : Fin 20) (s : State) : exec (.beamSet mb) s =
    s.whenLive (.next (s.runCommand mb 0x3E fun s c => s.checked mb c 3 true fun s => beamSetBody mb (s.beamAt c) s c)) := by
  have e : exec (.beamSet mb) s = s.whenLive (.next (s.runCommand mb 0x3E fun s c =>
      s.checked mb c 3 true (beamSetBody mb (s.beamAt c) · c))) := rfl
  exact e.trans (congrArg (fun b => s.whenLive (.next (s.runCommand mb 0x3E b))) (funext fun s => funext fun c =>
    checked_self s mb c 3 _ fun s u => beamSetBody mb (s.beamAt c) u c))

section
variable {s : State} {c : Command} (h5 : wbits (s.rffeWord c.beamMaster c.beamSeq) 31 28 = 5) (hg : (c.word 3).toNat ≤ 639999) (mb : Nat)
  {at_ : Int}
include h5 hg

theorem beam_passes : ¬ (wbits (s.rffeWord c.beamMaster c.beamSeq) 31 28 ≠ 5 ∨ 639999 < (c.word 3).toNat) := by
  rw [not_or, not_not, Nat.not_lt]
  exact ⟨h5, hg⟩

theorem beamSetBody_late (hl : at_ - ((c.acceptedAt * 1536 : Nat) : Int) < s.beamLead c) :
    beamSetBody mb at_ s c = s.complete mb c 0xD := by
  rw [beamSetBody, if_neg (beam_passes h5 hg), if_pos hl]

theorem beamSetBody_waits (hd : s.fw.dones = []) (hl : s.beamLead c ≤ at_ - ((c.acceptedAt * 1536 : Nat) : Int)) :
    beamSetBody mb at_ s c = ((s.remember mb c false [(targetKey 0x3E (16 * c.beamMaster + c.beamSeq), at_.toNat)] []).acceptEarly mb
      c).awaitBeam mb c at_.toNat := by
  rw [beamSetBody, if_neg (beam_passes h5 hg), if_neg (Int.not_lt.2 hl), asOrder_first hd]

end

section
variable {mb : Fin 20} {s : State} {c : Command} (h : s.runs mb 0x3E 3 true c)
  (h5 : wbits (s.rffeWord c.beamMaster c.beamSeq) 31 28 = 5) (hg : (c.word 3).toNat ≤ 639999)
include h h5 hg

theorem beamSet_late (hl : s.beamAt c - ((c.acceptedAt * 1536 : Nat) : Int) < s.beamLead c) :
    ∃ t, exec (.beamSet mb) s = .next t ∧ s.answers t mb c 0xD [] ∧ OnlyAnswered mb s t := by
  rw [exec_beamSet]
  exact runs_answers h (fun _ => 3) (fun _ _ => true) (fun s c => beamSetBody mb (s.beamAt c) s c) rfl rfl 0xD []
    (beamSetBody_late (s := s.startOldest mb) (c := s.begun c) h5 hg mb (by rwa [startOldest_beamLead]))

theorem beamSet_waits (hd : s.fw.dones = []) (hl : s.beamLead c ≤ s.beamAt c - ((c.acceptedAt * 1536 : Nat) : Int)) :
    ∃ t, exec (.beamSet mb) s = .next t ∧ ∃ b, t.tdd.beams = s.tdd.beams ++ [b] ∧ b.mb = mb.val ∧ b.cmd.tag = c.tag := by
  have ha (u : State) := acceptEarly_answered u mb (s.begun c)
  obtain ⟨t, e, hk⟩ := runs_next h (fun _ => 3) (fun _ _ => true) (fun s c => beamSetBody mb (s.beamAt c) s c) rfl rfl _
    (beamSetBody_waits (s := s.startOldest mb) (c := s.begun c) h5 hg mb hd (by rwa [startOldest_beamLead])) (ha _).time (ha _).pending
  rw [exec_beamSet]
  exact ⟨t, e, _, (congrArg Tdd.beams hk.tdd).trans (congrArg (fun x => Tdd.beams x ++ [_]) (ha _).tdd), rfl, accepted_tag (s.begun c)⟩

end

/-! ### LANE_CONFIG (R210) -/

/-- What a LANE_CONFIG names: the lane, LSRC, the bits of CTL, the limit of the gain and the attenuation. -/
def Command.cfgLane (c : Command) : Nat := wbits (c.word 1) 3 0

def Command.cfgLsrc (c : Command) : Nat := wbits (c.word 2) 7 0

def Command.cfgCtl (c : Command) : Nat := wbits (c.word 3) 7 0 &&& 0xF3

def Command.cfgLimit (c : Command) : Nat := min (wbits (c.word 4) 5 0) 39

def Command.cfgAtten (c : Command) : Nat := wbits (c.word 5) 5 0

/-- LSRC and CTL of the lane of a LANE_CONFIG. -/
def State.oldLsrc (s : State) (c : Command) : Nat := (s.reg (Reg.SYN_LSRC.off c.cfgLane 0)).toNat

def State.oldCtl (s : State) (c : Command) : Nat := (s.reg (Reg.LANE_CTL.off c.cfgLane 0)).toNat

/-- A LANE_CONFIG changes the sources or the inversions of its lane. -/
def State.cfgMoves (s : State) (c : Command) : Bool := c.cfgLsrc != s.oldLsrc c || c.cfgCtl / 16 != s.oldCtl c / 16

/-- A LANE_CONFIG is a permissive order. -/
def State.cfgPermissive (s : State) (c : Command) : Bool :=
  s.cfgMoves c || decide (maskClear (c.cfgCtl % 4) (s.oldCtl c % 4) ≠ 0) ||
    decide (s.get Fd.LANE_RX_GAIN_LIMIT c.cfgLane < c.cfgLimit) || decide (c.cfgAtten < s.get Fd.LANE_TX_ATTEN_ATTEN c.cfgLane)

/-- The targets of a LANE_CONFIG as an order (R265). -/
def State.cfgTargets (s : State) (c : Command) : List (Nat × Nat) :=
  (if c.cfgLsrc != s.oldLsrc c then [(targetKey 0x3F c.cfgLane, c.cfgLsrc)] else []) ++
    (if c.cfgCtl != s.oldCtl c then [(targetKey 0x3F (c.cfgLane + 16), c.cfgCtl)] else []) ++
    (if c.cfgLimit != s.get Fd.LANE_RX_GAIN_LIMIT c.cfgLane then [(targetKey 0x3F (c.cfgLane + 32), c.cfgLimit)] else []) ++
    (if c.cfgAtten != s.get Fd.LANE_TX_ATTEN_ATTEN c.cfgLane then [(targetKey 0x3F (c.cfgLane + 48), c.cfgAtten)] else [])

/-- The sources that a LANE_CONFIG names break R204. -/
def State.cfgBad (s : State) (c : Command) : Bool :=
  s.fifthLane c.cfgLane c.cfgLsrc || (List.range 16).any fun w => s.getB Fd.CHN_WCTL_EN w && s.branchesShare w c.cfgLane c.cfgLsrc

/-- A LANE_CONFIG that waits for its boundary. -/
def State.awaitConfig (s : State) (mb : Nat) (c : Command) : State :=
  { s with lane := { s.lane with configs := s.lane.configs ++ [⟨mb, c, c.cfgLane⟩] } }

/-- What LANE_CONFIG does once its checks have passed, `v` being the state that was checked. -/
def laneConfigBody (mb : Nat) (v s : State) (c : Command) : State :=
  if s.cfgBad c then s.complete mb c 4
  else if v.cfgMoves c && decide (v.oldCtl c % 4 ≠ 0) then s.complete mb c 7
  else s.asOrder mb c (!v.cfgPermissive c) (v.cfgTargets c)
    [(Reg.SYN_LSRC.off c.cfgLane 0, 0xFF), (Reg.LANE_CTL.off c.cfgLane 0, 0xF3), (Reg.LANE_RX_GAIN.off c.cfgLane 0, 0x3F00),
      (Reg.LANE_TX_ATTEN.off c.cfgLane 0, 0x3F)] fun s => s.awaitConfig mb c

theorem exec_laneConfig (mb : Fin 20) (s : State) : exec (.laneConfig mb) s =
    s.whenLive (.next (s.runCommand mb 0x3F fun s c => s.checked mb c 3 (s.cfgPermissive c) fun s => laneConfigBody mb s s c)) := by
  have e : exec (.laneConfig mb) s = s.whenLive (.next (s.runCommand mb 0x3F fun s c =>
      s.checked mb c 3 (s.cfgPermissive c) (laneConfigBody mb s · c))) := rfl
  exact e.trans (congrArg (fun b => s.whenLive (.next (s.runCommand mb 0x3F b))) (funext fun s => funext fun c =>
    checked_self s mb c 3 _ fun s u => laneConfigBody mb s u c))

/-- The inversions are bits 7 to 4 of the word that LANE_CONFIG gives for CTL. -/
theorem cfgCtl_div (c : Command) : c.cfgCtl / 16 = wbits (c.word 3) 7 4 := by
  have h := Nat.and_div_two_pow (a := wbits (c.word 3) 7 0) (b := 0xF3) (n := 4)
  have h15 : wbits (c.word 3) 7 0 / 2 ^ 4 &&& 2 ^ 4 - 1 = wbits (c.word 3) 7 0 / 2 ^ 4 % 2 ^ 4 := Nat.and_two_pow_sub_one_eq_mod ..
  calc c.cfgCtl / 16 = wbits (c.word 3) 7 0 / 2 ^ 4 % 2 ^ 4 := h.trans h15
    _ = wbits (c.word 3) 7 4 := by
      simp only [wbits, bitsAt]
      omega

theorem laneConfig_waits {mb : Fin 20} {s : State} {c : Command} (h : s.runs mb 0x3F 3 true c) (hd : s.fw.dones = [])
    (hb : s.cfgBad c = false) (hm : (s.cfgMoves c && decide (s.oldCtl c % 4 ≠ 0)) = false) :
    ∃ t, exec (.laneConfig mb) s = .next t ∧
      ∃ q, t.lane.configs = s.lane.configs ++ [q] ∧ q.mb = mb.val ∧ q.cmd.tag = c.tag ∧ q.lane = c.cfgLane := by
  have hb : ¬ (s.startOldest mb).cfgBad (s.begun c) = true := Bool.eq_false_iff.1 hb
  have hm : ¬ ((s.startOldest mb).cfgMoves (s.begun c) && decide ((s.startOldest mb).oldCtl (s.begun c) % 4 ≠ 0)) = true :=
    Bool.eq_false_iff.1 hm
  obtain ⟨t, e, hk⟩ := runs_next (runs_of_permissive h _) (fun _ => 3) State.cfgPermissive (fun s c => laneConfigBody mb s s c) rfl rfl _
    (((if_neg hb).trans (if_neg hm)).trans (asOrder_first (s := s.startOldest mb) hd ..)) rfl rfl
  rw [exec_laneConfig]
  exact ⟨t, e, _, congrArg Lanes.configs hk.lane, rfl, rfl, rfl⟩

/-- Settles O20: each order by its cases, refused, answered or waiting; LANE_TUNE by what `State.tuned` holds. -/
theorem laneOrdersAct : Obligations.LaneOrdersAct := by
  refine ⟨fun mb s c h hd => ?_, ⟨fun mb s c h hb => laneTune_refused h hb, fun mb s c h hd h1 h2 hw hr => ?_⟩,
    ⟨fun mb s c h hd h5 hg hl => beamSet_waits h h5 hg hd hl, fun mb s c h h5 hg hl => beamSet_late h h5 hg hl⟩,
    fun mb s c h hd hf hw hm => ?_⟩
  · have hp := runs_of_permissive h (s.txPermissive c)
    cases hx : s.txDisabled c with
    | true =>
      obtain ⟨t, e, ha⟩ := laneTx_disabled hp hx
      obtain ⟨n, hn, h1, h2, h3⟩ := txDisabled_iff.1 hx
      exact ⟨t, e, fun _ => ha, fun hen => absurd ((hen n hn h1 h2).symm.trans h3) (by decide)⟩
    | false =>
      obtain ⟨t, e, ht⟩ := laneTx_requests hp hd hx
      exact ⟨t, e, fun hn => absurd ((txDisabled_iff.2 hn).symm.trans hx) (by decide), fun _ => ht⟩
  · obtain ⟨t, e, hk⟩ := laneTune_tunes h hd h1 h2 hw hr
    have hy : wbits (c.word 1) 2 0 < 8 := wbits_lt ..
    have hreg {o : Nat} (ho : o < 0x34048) : t.reg o = (s.tuned mb c).reg o := (hk.low ho).trans (awaitTune_reg _ _ _ ho)
    have hst := hreg (sstat_low hy)
    have hcf : t.reg (Reg.SYN_SCFG.off (wbits (c.word 1) 2 0) 0) = _ := hreg (scfg_low hy)
    refine ⟨t, e, (get_of_reg Fd.SYN_SCFG_FREQ hcf).trans (tuned_freq s mb h1 h2), fun hn => ?_, fun hs => ?_, fun hs => ?_⟩
    · obtain ⟨hl, hn⟩ := tuned_locks s mb h1 h2 hn
      exact ⟨(get_of_reg Fd.SYN_SSTAT_STATE hst).trans hl, (getB_of_get (get_of_reg Fd.SYN_SSTAT_SETTLED hst)).trans hn⟩
    · exact tuned_answers (begun_not_early h) ((tuned_settled s mb h1 h2).trans hs) hk
    · exact tuned_waits ((tuned_settled s mb h1 h2).trans hs) hk
  · have hb : s.cfgBad c = false := by
      rw [State.cfgBad, Bool.or_eq_false_iff, List.any_eq_false]
      refine ⟨hf, fun w hr he => ?_⟩
      obtain ⟨h1, h2⟩ := Bool.and_eq_true_iff.1 he
      exact absurd ((hw w (List.mem_range.1 hr) h1).symm.trans h2) (by decide)
    refine laneConfig_waits h hd hb ?_
    rcases hm with ⟨h1, h2⟩ | h0
    · have h2 : c.cfgCtl / 16 = s.oldCtl c / 16 := (cfgCtl_div c).trans h2
      have h1 : c.cfgLsrc = s.oldLsrc c := h1
      simp [State.cfgMoves, h1, h2]
    · have h0 : s.oldCtl c % 4 = 0 := h0
      simp [h0]

end Sys2Proof.Machine

/-!
SUPPORT. Proofs about the Recce receiver: jobs that fall due, work that starts and ends, and results posted.
-/

namespace Sys2Proof.Machine

-- The option has the proofs elaborated one after another, not beside the tests above: the two together exceed the check's memory.
set_option deprecated.oldSectionVars true

/-! ### What the receiver's operations leave alone -/

@[simp] theorem jobX_setJobX_same (s : State) (j : Nat) (x : JobX) : (s.setJobX j x).jobX j = x := mapGet_mapSet_same ..

theorem Spares.withRce (l : List Fld) (s : State) (x : Recce) : Spares l s { s with rce := x } :=
  ⟨rfl, fun _ _ _ _ => rfl, fun _ _ h => h⟩

section
variable {σ β : Type} {p : σ → β} {s t u : σ}

/-- The chain taken from its end. -/
theorem Keeps.after (k : Keeps p t u) (h : Keeps p s t) : Keeps p s u := ⟨k.eq.trans h.eq⟩

theorem Keeps.ite {c : Prop} [Decidable c] (h : Keeps p s t) (k : Keeps p s u) : Keeps p s (if c then t else u) := by
  split
  · exact h
  · exact k

theorem Keeps.forEach {α : Type} (l : List α) (f : σ → α → σ) (hf : ∀ s a, Keeps p s (f s a)) (s : σ) :
    Keeps p s (forEach l s f) := ⟨forEach_keeps p l f hf s⟩

end

/-! ### Results put into processing (Tables 11.3, 11.9) -/

/-- The state with one result more in processing. -/
def State.putResult (s : State) (d : RceDone) : State := { s with rce := { s.rce with done := s.rce.done ++ [d] } }

/-- Beyond the result itself, its source is raised. -/
theorem rceDone_raised (s : State) (d : RceDone) : OnlyRaised (s.putResult d) (s.rceDone d) :=
  .ite (fun _ => pulse_raised _ (by decide)) fun _ => .ite (fun _ => pulse_raised _ (by decide)) fun _ =>
    .ite (fun _ => pulse_raised _ (by decide)) fun _ => .refl _

/-- The result of a host job that ends without starting. -/
def State.skipped (s : State) (j status : Nat) : RceDone :=
  ⟨⟨0, 0, j, s.sheet⟩, s.get Fd.RCE_JCFG0_KIND j, status, -32768, 0, 0, 0, 0, 0, s.time.gt⟩

theorem skipJob_raised (s : State) (j status : Nat) : OnlyRaised (s.putResult (s.skipped j status)) (s.skipJob j status) :=
  rceDone_raised ..

theorem skipJob_spares (s : State) (l : List Fld) (j status : Nat) : Spares l s (s.skipJob j status) :=
  (Spares.of_raised l (skipJob_raised ..)).after (.withRce ..)

/-! ### RECCE_JOB_DUE (R228) -/

/-- A job falls due at the present grid tick. -/
abbrev State.jobDue (s : State) (j : Nat) : Prop :=
  s.recceOn = true ∧ s.jobOn j = true ∧ s.time.gt % 80 = 0 ∧
    s.sheet % 2 ^ 32 % s.get Fd.RCE_JCFG0_PERIOD j = j % s.get Fd.RCE_JCFG0_PERIOD j ∧ (s.jobX j).lastDue ≠ some s.sheet

/-- The waiting work without that of a job. -/
def State.waitingBut (s : State) (j : Nat) : List RceWork := s.rce.waiting.filter fun w => !(w.kind == 0 && w.idx == j)

/-- Work of a job waits. -/
def State.jobWaits (s : State) (j : Nat) : Bool := s.rce.waiting.any fun w => w.kind == 0 && w.idx == j

/-- The state with a job entered, in place of its work that waited, as due in the present sheet. -/
def State.listJob (s : State) (j : Nat) : State :=
  let work : RceWork := ⟨if pinned (s.get Fd.RCE_JCFG0_KIND j) then 0 else 2, 0, j, s.sheet⟩
  { s with rce := { s.rce with waiting := s.waitingBut j ++ [work] } }.setJobX j { s.jobX j with lastDue := some s.sheet }

/-- The state with a job entered; work of it that waited has ended SKIPPED_LATE. -/
def State.enterJob (s : State) (j : Nat) : State := if s.jobWaits j then (s.listJob j).skipJob j 3 else s.listJob j

theorem exec_recceJobDue (j : Fin 32) (s : State) : exec (.recceJobDue j) s =
    s.whenLive (.next (if s.jobDue j then s.enterJob j else s)) := rfl

theorem jobWaits_iff {s : State} {j : Nat} : s.jobWaits j = true ↔ ∃ w ∈ s.rce.waiting, w.kind = 0 ∧ w.idx = j := by
  simp [State.jobWaits]

/-- A job entered leaves the results, but for one SKIPPED_LATE where work of it waited. -/
theorem enterJob_rce (s : State) (j : Nat) : (s.enterJob j).rce = if s.jobWaits j then
    { (s.listJob j).rce with done := s.rce.done ++ [(s.listJob j).skipped j 3] } else (s.listJob j).rce := by
  unfold State.enterJob
  split
  · exact (skipJob_raised ..).rce
  · rfl

theorem recceJobDue_enters (j : Fin 32) {s : State} (hs : s.alive = true) (hd : s.jobDue j) :
    ∃ t, exec (.recceJobDue j) s = .next t ∧ (t.jobX j).lastDue = some s.sheet ∧ t.rce.cur = s.rce.cur ∧
      t.rce.waiting = s.waitingBut j ++ [⟨if pinned (s.get Fd.RCE_JCFG0_KIND j) then 0 else 2, 0, j.val, s.sheet⟩] ∧
      ((∀ w ∈ s.rce.waiting, ¬ (w.kind = 0 ∧ w.idx = j.val)) → t.rce.done = s.rce.done) ∧
      ((∃ w ∈ s.rce.waiting, w.kind = 0 ∧ w.idx = j.val) →
        ∃ d, t.rce.done = s.rce.done ++ [d] ∧ d.status = 3 ∧ d.work.idx = j.val) := by
  obtain ⟨t, e, ht, _⟩ := exec_whereDue hs (exec_recceJobDue j s)
  have hl : ((s.listJob j).jobX j).lastDue = some s.sheet := congrArg JobX.lastDue (jobX_setJobX_same ..)
  have hr : t.rce = _ := (congrArg State.rce (ht hd)).trans (enterJob_rce s j)
  rw [← jobWaits_iff]
  refine ⟨t, e, ?_⟩
  rw [State.jobX, hr]
  by_cases hw : s.jobWaits j = true
  · rw [if_pos hw]
    exact ⟨hl, rfl, rfl, fun hn => absurd (jobWaits_iff.1 hw) (by simpa using hn), fun _ => ⟨_, rfl, rfl, rfl⟩⟩
  · rw [if_neg hw]
    exact ⟨hl, rfl, rfl, fun _ => rfl, fun h => absurd h hw⟩

/-! ### Work that starts (R226 to R230) -/

/-- The run of work `w` begun at sample `t`. -/
def State.runOf (s : State) (w : RceWork) (t : Nat) (pa pb : Int) (ognt : Bool) : RceRun :=
  let host := w.kind == 0
  let share := s.get Fd.RCE_CTL_OSHARE
  let cfg := if host then s.get Fd.RCE_JCFG0_AERIAL w.idx else 3
  let uses := host && s.wantsShared w.idx
  let aerial := if uses && !ognt && cfg == 0 then 3 - share else chooseAerial cfg (s.jobX w.idx).aerial pa pb
  let pre := (s.workSpan w t).1 - usToSamples (preambleUs cfg)
  { work := w, tuneAt := t + usToSamples s.wakeUs, preAt := pre, openAt := (s.workSpan w t).1, endAt := (s.workSpan w t).2,
    reqAt := pre - usToSamples (s.legN 0x6003), aerial := aerial, uses := uses, shared := uses && aerial == share,
    waitGrant := uses && !ognt && cfg == share, jkind := if host then s.get Fd.RCE_JCFG0_KIND w.idx else 0, ret := s.workRet w,
    freq := s.workFreq w, cx := false }

/-- The waiting pinned jobs of higher index that the tracking interval of work `w` begun at sample `t` displaces. -/
def State.displacedBy (s : State) (w : RceWork) (t : Nat) (others : List NextPinned) : List Nat :=
  if s.tracks w t then
    (others.filter fun q => decide (w.idx < q.job) && decide (q.openAt < (s.workSpan w t).2) && decide ((s.workSpan w t).1 < q.endAt) &&
      s.rce.waiting.any fun x => x.kind == 0 && x.idx == q.job).map (·.job)
  else []

/-- The front end is taken by a run begun at sample `t`; the displaced jobs wait no more. -/
def State.takeFront (s : State) (r : RceRun) (t : Nat) (lost : List Nat) : State :=
  let rest := s.rce.waiting.filter fun q => q != r.work && !(q.kind == 0 && lost.contains q.idx)
  let s := if r.tuneAt ≤ t then s.set Fd.RCE_STAT_STATE 3 else s
  { s with rce := { s.rce with waiting := rest, cur := some r, ret := r.ret, freq := some r.freq } }

/-- A host job's last aerial noted. -/
def State.noteAerial (s : State) (r : RceRun) : State :=
  if r.work.kind == 0 then s.setJobX r.work.idx { s.jobX r.work.idx with aerial := r.aerial } else s

/-- Jobs that end SKIPPED_LATE. -/
def State.skipJobs (s : State) (lost : List Nat) : State := forEach lost s fun s j => s.skipJob j 3

/-- STAT shows a run. -/
def State.showRun (s : State) (r : RceRun) : State :=
  ((s.set Fd.RCE_STAT_JOB (if r.work.kind == 0 then r.work.idx else 0)).setB Fd.RCE_STAT_SURVEY (!(r.work.kind == 0))).set
    Fd.RCE_STAT_AERIAL r.aerial

theorem beginWork_eq (s : State) (w : RceWork) (t : Nat) (pa pb : Int) (ognt : Bool) (others : List NextPinned) :
    s.beginWork w t pa pb ognt others =
      (((s.takeFront (s.runOf w t pa pb ognt) t (s.displacedBy w t others)).noteAerial (s.runOf w t pa pb ognt)).skipJobs
        (s.displacedBy w t others)).showRun (s.runOf w t pa pb ognt) := rfl

/-- What occupies the front end, and what waits for it. -/
def State.front (s : State) : Option RceRun × List RceWork := (s.rce.cur, s.rce.waiting)

/-- The fields of STAT that show which work runs. -/
def runFields : List Fld := [Fd.RCE_STAT_JOB, Fd.RCE_STAT_SURVEY, Fd.RCE_STAT_AERIAL]

section
variable (s : State) (r : RceRun) (lost : List Nat)

theorem set_front (f : Fld) (v i j : Nat) : Keeps State.front s (s.set f v i j) :=
  ⟨congrArg (fun x : Recce => (x.cur, x.waiting)) (State.set_rce ..)⟩

theorem noteAerial_front : Keeps State.front s (s.noteAerial r) := .ite ⟨rfl⟩ ⟨rfl⟩

theorem noteAerial_spares (l : List Fld) : Spares l s (s.noteAerial r) := .ite (fun _ => .withRce ..) fun _ => .refl ..

theorem skipJobs_front : Keeps State.front s (s.skipJobs lost) :=
  .forEach _ _ (fun _ _ => ⟨congrArg (fun x : Recce => (x.cur, x.waiting)) (skipJob_raised ..).rce⟩) s

theorem skipJobs_spares (l : List Fld) : Spares l s (s.skipJobs lost) := .forEach_mem _ _ (fun _ _ _ => skipJob_spares ..) s

theorem showRun_front : Keeps State.front s (s.showRun r) :=
  .after (set_front ..) (.after (set_front ..) (set_front ..))

theorem showRun_spares : Spares runFields s (s.showRun r) :=
  .after (.set _ (by decide) _ Nat.one_pos) (.after (.setB _ (by decide) _ Nat.one_pos) (.set _ (by decide) _ Nat.one_pos))

theorem showRun_survey : (s.showRun r).getB Fd.RCE_STAT_SURVEY = !(r.work.kind == 0) :=
  (getB_set_field _ Fd.RCE_STAT_AERIAL Fd.RCE_STAT_SURVEY 0 0 rfl (fits_of rfl) (by decide) _).trans
    (getB_setB_same _ Fd.RCE_STAT_SURVEY _ 0 0 (fits_of rfl) (by decide))

theorem takeFront_front (t : Nat) : (s.takeFront r t lost).front =
    (some r, s.rce.waiting.filter fun q => q != r.work && !(q.kind == 0 && lost.contains q.idx)) := rfl

theorem takeFront_state {t : Nat} (h : r.tuneAt ≤ t) : (s.takeFront r t lost).get Fd.RCE_STAT_STATE = 3 := by
  unfold State.takeFront
  rw [if_pos h]
  exact get_set_of_lt s 0 0 (fits_of rfl) (by decide)

end

section
variable (s : State) (w : RceWork) (t : Nat) (pa pb : Int) (ognt : Bool) (others : List NextPinned)

theorem beginWork_front : (s.beginWork w t pa pb ognt others).front = (some (s.runOf w t pa pb ognt),
    s.rce.waiting.filter fun q => q != w && !(q.kind == 0 && (s.displacedBy w t others).contains q.idx)) := by
  rw [beginWork_eq, (showRun_front ..).eq, (skipJobs_front ..).eq, (noteAerial_front ..).eq, takeFront_front]
  rfl

theorem beginWork_survey : (s.beginWork w t pa pb ognt others).getB Fd.RCE_STAT_SURVEY = !(w.kind == 0) := by
  rw [beginWork_eq]
  exact showRun_survey ..

/-- Work of a receiver that need not wake is TUNING at once. -/
theorem beginWork_state (h : s.wakeUs = 0) : (s.beginWork w t pa pb ognt others).get Fd.RCE_STAT_STATE = 3 := by
  have hk : Spares runFields (s.takeFront (s.runOf w t pa pb ognt) t (s.displacedBy w t others)) (s.beginWork w t pa pb ognt others) := by
    rw [beginWork_eq]
    exact .after (showRun_spares ..) (.after (skipJobs_spares ..) (noteAerial_spares ..))
  have ht : (s.runOf w t pa pb ognt).tuneAt ≤ t := Nat.le_of_eq (congrArg (fun n => t + usToSamples n) h)
  exact (hk.fields Fd.RCE_STAT_STATE 0 (by decide) Nat.one_pos).trans (takeFront_state _ _ _ ht)

end

/-! ### RECCE_JOB_START (R228, R230) -/

/-- The first work that may start now. -/
def State.nextWork (s : State) : Option RceWork := firstWork ((s.rce.waiting ++ s.surveysDue).filter (s.mayStart s.now))

/-- The tracking interval of work that would start now overlaps one of lower index. -/
def State.overlapsLower (s : State) (w : RceWork) : Bool :=
  s.tracks w s.now && displaced (s.pinnedNext s.now (s.workRet w) w) w.idx (s.workSpan w s.now).1 (s.workSpan w s.now).2

/-- The state with work that waits no more. -/
def State.dropWork (s : State) (w : RceWork) : State := { s with rce := { s.rce with waiting := s.rce.waiting.filter fun q => q != w } }

/-- The state with work started now, or ended SKIPPED_LATE where its interval overlaps one of lower index. -/
def State.startWork (s : State) (pa pb : Int) (ognt : Bool) (w : RceWork) : State :=
  if s.overlapsLower w then (s.dropWork w).skipJob w.idx 3
  else s.beginWork w s.now pa pb ognt (s.pinnedNext s.now (s.workRet w) w)

/-- The receiver is free and enabled, and this work may start. -/
def State.mayTake (s : State) : Option RceWork := if s.rce.cur = none ∧ s.recceOn = true then s.nextWork else none

theorem exec_recceJobStart (pa pb : Int) (ognt : Bool) (s : State) : exec (.recceJobStart pa pb ognt) s =
    s.whenLive (.next ((s.mayTake.map (s.startWork pa pb ognt)).getD s)) := by
  change execRecceJobStart pa pb ognt s = _
  unfold execRecceJobStart State.mayTake
  cases hc : s.rce.cur with
  | some r => rw [if_neg (by simp)]; rfl
  | none =>
    cases hw : s.nextWork with
    | none =>
      rw [State.nextWork] at hw
      simp only [hw, ite_self]
      rfl
    | some w =>
      rw [State.nextWork] at hw
      simp only [hw]
      cases s.recceOn <;> rfl

/-- Work that overlaps none of lower index has the front end. -/
theorem startWork_begins {s : State} (pa pb : Int) (ognt : Bool) {w : RceWork} (h : s.overlapsLower w = false) :
    (∃ r, (s.startWork pa pb ognt w).rce.cur = some r ∧ r.work = w ∧ r.openAt = (s.workSpan w s.now).1 ∧
      r.endAt = (s.workSpan w s.now).2 ∧ r.tuneAt = s.now + usToSamples s.wakeUs) ∧ w ∉ (s.startWork pa pb ognt w).rce.waiting ∧
    (s.startWork pa pb ognt w).getB Fd.RCE_STAT_SURVEY = decide (w.kind ≠ 0) ∧
    (s.wakeUs = 0 → (s.startWork pa pb ognt w).get Fd.RCE_STAT_STATE = 3) := by
  rw [State.startWork, if_neg (Bool.eq_false_iff.1 h)]
  have hf := beginWork_front s w s.now pa pb ognt (s.pinnedNext s.now (s.workRet w) w)
  have hcur := congrArg Prod.fst hf
  have hwait := congrArg Prod.snd hf
  refine ⟨⟨_, hcur, rfl, rfl, rfl, rfl⟩, fun hm => ?_, (beginWork_survey ..).trans ?_, beginWork_state _ _ _ _ _ _ _⟩
  · rw [show (State.beginWork ..).rce.waiting = _ from hwait] at hm
    simp at hm
  · rw [decide_not]
    rfl

/-- Work that overlaps one of lower index ends SKIPPED_LATE. -/
theorem startWork_skips {s : State} (pa pb : Int) (ognt : Bool) {w : RceWork} (h : s.overlapsLower w = true) :
    (s.startWork pa pb ognt w).rce.cur = s.rce.cur ∧
    (s.startWork pa pb ognt w).rce.waiting = s.rce.waiting.filter (fun q => q != w) ∧
    ∃ d, (s.startWork pa pb ognt w).rce.done = s.rce.done ++ [d] ∧ d.status = 3 ∧ d.work.idx = w.idx := by
  rw [State.startWork, if_pos h, (skipJob_raised ..).rce]
  exact ⟨rfl, rfl, _, rfl, rfl, rfl⟩

/-! ### The end of work (Tables 11.3, 11.4) -/

/-- Work `q` in progress in `s` has ended in `t` with a status, and the front end is in its return state. -/
structure WorkEnded (s : State) (q : RceRun) (status : Nat) (t : State) : Prop where
  cur : t.rce.cur = none
  state : t.get Fd.RCE_STAT_STATE = min q.ret 2
  done : ∃ d, t.rce.done = s.rce.done ++ [d] ∧ d.work = q.work ∧ d.status = status ∧ d.endAt = s.time.gt

theorem rceReturn_state (s : State) (ret : Nat) : (s.rceReturn ret).get Fd.RCE_STAT_STATE = min ret 2 := by
  have hl : min ret 2 < 2 ^ Fd.RCE_STAT_STATE.width := Nat.lt_of_le_of_lt (Nat.min_le_right ..) (by decide)
  unfold State.rceReturn State.setB
  rw [get_set_field _ Fd.RCE_STAT_SURVEY Fd.RCE_STAT_STATE _ 0 0 rfl (fits_of rfl) (by decide),
    get_set_field _ Fd.RCE_STAT_JOB Fd.RCE_STAT_STATE _ 0 0 rfl (fits_of rfl) (by decide)]
  exact get_set_of_lt _ 0 0 (fits_of rfl) hl

theorem rceReturn_rce (s : State) (ret : Nat) : (s.rceReturn ret).rce =
    { s.rce with cur := none, freq := if ret = 0 then none else s.rce.freq } := by
  unfold State.rceReturn
  rw [State.setB_rce, State.set_rce, State.set_rce, apply_ite State.rce, State.set_rce, ite_self]

theorem rceReturn_time (s : State) (ret : Nat) : (s.rceReturn ret).time = s.time := by
  unfold State.rceReturn
  rw [State.setB_time, State.set_time, State.set_time, apply_ite State.time, State.set_time, ite_self]

theorem endWork_ended (s : State) (q : RceRun) (status : Nat) (level : Int) (ssb ident phase burst : Nat) :
    WorkEnded s q status (s.endWork q status level ssb ident phase burst) := by
  have hr := rceDone_raised (s.rceReturn q.ret)
    ⟨q.work, q.jkind, status, level, ssb, ident, phase, burst, q.aerial, (s.rceReturn q.ret).time.gt⟩
  have hd := congrArg Recce.done (rceReturn_rce s q.ret)
  refine ⟨?_, ?_, _, (congrArg Recce.done hr.rce).trans (congrArg (· ++ [_]) hd), rfl, rfl, congrArg Time.gt (rceReturn_time ..)⟩
  · exact (congrArg Recce.cur hr.rce).trans (congrArg Recce.cur (rceReturn_rce s q.ret))
  · exact (get_of_reg Fd.RCE_STAT_STATE (hr.low (by decide))).trans (rceReturn_state ..)

theorem WorkEnded.putBack {s t : State} {q : RceRun} {status : Nat} (h : WorkEnded s q status t) (u : State) :
    WorkEnded s q status (t.putBack u) := ⟨h.cur, h.state, h.done⟩

/-- The status of work that is not cut short by a coexistence request (Table 11.3). -/
def resultStatus : RecceResult → Nat
  | .found .. => 1
  | .notFound => 2
  | .overload => 7

/-- The state with the measurement of work `q` over. -/
def State.finishWork (s : State) (q : RceRun) (r : RecceResult) : State :=
  if q.cx ∨ s.cxMeets then s.endWork q 4 (-32768) 0 0 0 0
  else match r with
    | .found level ssb ident phase burst => s.endWork q 1 level ssb ident phase burst
    | .notFound => s.endWork q 2 (-32768) 0 0 0 0
    | .overload => s.endWork q 7 (-32768) 0 0 0 0

/-- The status with which the measurement of work ends: SKIPPED_CX where a coexistence request met it (R235). -/
def State.endStatus (s : State) (q : RceRun) (r : RecceResult) : Nat := if q.cx ∨ s.cxMeets then 4 else resultStatus r

theorem finishWork_ended (s : State) (q : RceRun) (r : RecceResult) : WorkEnded s q (s.endStatus q r) (s.finishWork q r) := by
  unfold State.finishWork State.endStatus
  split
  · exact endWork_ended ..
  · cases r with
    | found => exact endWork_ended ..
    | notFound => exact endWork_ended ..
    | overload => exact endWork_ended ..

/-- The stream sample from which a result may end work: an overload shows as soon as the interval has begun. -/
def RceRun.endsFrom (q : RceRun) (r : RecceResult) : Nat := if r = .overload then q.openAt else q.endAt

theorem exec_recceJobEnd {s : State} {q : RceRun} (r : RecceResult) (h : s.rce.cur = some q) : exec (.recceJobEnd r) s =
    s.whenLive (.next (if ¬ (q.waitGrant = true ∨ s.now + 1536 ≤ q.endsFrom r) then s.finishWork q r else s)) := by
  change execRecceJobEnd r s = _
  rw [ite_not, execRecceJobEnd]
  simp only [h]
  rfl

/-! ### SYNRC_UNLOCK (Tables 11.7, 11.9) -/

/-- The synthesiser without its lock. -/
def State.unlockRce (s : State) : State := { s with rce := { s.rce with freq := none } }

theorem exec_synrcUnlock_busy {s : State} {q : RceRun} (h : s.rce.cur = some q) : exec .synrcUnlock s =
    s.whenLive (.next (s.endWork q 6 (-32768) 0 0 0 0).unlockRce) := by
  change execSynrcUnlock s = _
  unfold execSynrcUnlock
  split
  · next hn => exact absurd (h.symm.trans hn) (Option.some_ne_none q)
  · next p hp => rw [Option.some.inj (hp.symm.trans h)]; rfl

theorem exec_synrcUnlock_idle {s : State} (h : s.rce.cur = none) : exec .synrcUnlock s =
    s.whenLive (.next (if s.rce.freq.isNone then s else s.unlockRce.pulse 276)) := by
  change execSynrcUnlock s = _
  unfold execSynrcUnlock
  split
  · rfl
  · next p hp => exact absurd (hp.symm.trans h) (Option.some_ne_none p)

theorem WorkEnded.unlockRce {s t : State} {q : RceRun} {status : Nat} (h : WorkEnded s q status t) :
    WorkEnded s q status t.unlockRce := ⟨h.cur, h.state, h.done⟩

theorem synrcUnlock_rests {s : State} (hs : s.alive = true) (h : s.rce.cur = none) : ∃ t, exec .synrcUnlock s = .next t ∧
    OnlyRaised s.unlockRce t ∧ (s.rce.freq = none → t = s) := by
  cases hf : s.rce.freq with
  | none =>
    have hn : s.unlockRce = s := by rw [State.unlockRce, ← hf]
    have e := exec_synrcUnlock_idle h
    rw [hf] at e
    refine ⟨s, ?_, by rw [hn]; exact .refl s, fun _ => rfl⟩
    exact (exec_next hs e).trans (congrArg _ (putBack_self rfl rfl))
  | some f =>
    have e := exec_synrcUnlock_idle h
    have hr := pulse_raised s.unlockRce (src := 276) (by decide)
    rw [hf] at e
    exact ⟨_, (exec_next hs e).trans (congrArg _ (putBack_self hr.time hr.pending)), hr, fun hn => absurd hn (by simp)⟩

/-! ### RESULT_POST: what the consumers of a result leave in processing (R188, R189, R211, R225) -/

/-- The results in processing. -/
def State.results (s : State) : List RceDone := s.rce.done

section
variable (s : State)

theorem OnlyRaised.results {s t : State} (h : OnlyRaised s t) : Keeps State.results s t := ⟨congrArg Recce.done h.rce⟩

theorem set_results (f : Fld) (v i j : Nat) : Keeps State.results s (s.set f v i j) := ⟨congrArg Recce.done (State.set_rce ..)⟩

theorem addSat_results (f : Fld) (n i j : Nat) : Keeps State.results s (s.addSat f n i j) := set_results ..

theorem setI_results (f : Fld) (v : Int) (i j : Nat) : Keeps State.results s (s.setI f v i j) := set_results ..

theorem withProt_results (x : Prot) : Keeps State.results s { s with prot := x } := ⟨rfl⟩

theorem withTdd_results (x : Tdd) : Keeps State.results s { s with tdd := x } := ⟨rfl⟩

theorem withLive_results (x : List (Nat × Word × Word)) : Keeps State.results s { s with rce := { s.rce with live := x } } := ⟨rfl⟩

theorem setDomX_results (d : Nat) (x : DomX) : Keeps State.results s (s.setDomX d x) := ⟨rfl⟩

theorem setJobX_results (j : Nat) (x : JobX) : Keeps State.results s (s.setJobX j x) := ⟨rfl⟩

theorem setPair_results (w : Nat) (x : PairExt) : Keeps State.results s (s.setPair w x) := ⟨rfl⟩

theorem noteProt_results (release : Bool) (r : Restriction) (value : Int) : Keeps State.results s (s.noteProt release r value) :=
  ((offer_raised ..).trans (notifyNow_raised ..)).results

theorem lay_results (kind cls group t : Nat) : Keeps State.results s (s.lay kind cls group t) := ⟨rfl⟩

theorem holdTarget_results (kind cls group : Nat) (value : Int) (t : Nat) :
    Keeps State.results s (s.holdTarget kind cls group value t) := by
  have h : Keeps State.results (s.lay kind cls group t) (s.holdTarget kind cls group value t) :=
    .after (noteProt_results ..) (.ite (set_results ..) (.ite (.after (addSat_results ..) (.after (set_results ..) (set_results ..)))
      (set_results ..)))
  exact h.after (lay_results ..)

theorem trip_results (kind cls : Nat) (targets : List Nat) (value : Int) : Keeps State.results s (s.trip kind cls targets value) := by
  have hold (group : Nat) : Keeps State.results s (forEach targets s fun s t => s.holdTarget kind cls group value t) :=
    .forEach _ _ (fun _ _ => holdTarget_results ..) s
  by_cases hk : kind < 8
  · unfold State.trip
    rw [if_pos hk]
    exact .after (pulseOn_raised _ _ _ (by omega)).results (hold _)
  · unfold State.trip
    rw [if_neg hk]
    exact hold _

theorem donorResult_results (j : Nat) (rsrp : Option Int) : Keeps State.results s (s.donorResult j rsrp) := by
  have missed (s : State) (n w : Nat) : Keeps State.results s ((s.addSat Fd.FLT_WDONOR_MISSES n w).set Fd.FLT_WDONOR_GOOD 0 w) :=
    .after (set_results ..) (addSat_results ..)
  have good (s : State) (n w : Nat) : Keeps State.results s ((s.set Fd.FLT_WDONOR_MISSES 0 w).addSat Fd.FLT_WDONOR_GOOD n w) :=
    .after (addSat_results ..) (set_results ..)
  unfold State.donorResult
  refine .after (.ite (trip_results ..) ⟨rfl⟩) (.forEach _ _ (fun s w => ?_) s)
  cases rsrp with
  | none => exact .after (.ite (missed ..) (good ..)) (setI_results ..)
  | some v => exact .after (.ite (missed ..) (good ..)) (.after (setI_results ..) (setI_results ..))

theorem emsTrip_results (w : Nat) : Keeps State.results s (s.emsTrip w) := by
  unfold State.emsTrip
  exact .ite (.after (trip_results ..) (withProt_results ..)) ⟨rfl⟩

theorem spurTrip_results (step : Nat) : Keeps State.results s (s.spurTrip step) := by
  unfold State.spurTrip
  exact .ite (.after (trip_results ..) (withProt_results ..)) ⟨rfl⟩

theorem spanResult_results (span : Nat) (level : Int) : Keeps State.results s (s.spanResult span level) := by
  unfold State.spanResult
  refine .after (emsTrip_results ..) (.after (.forEach _ _ (fun _ _ => setDomX_results ..) _) ?_)
  exact .after (set_results ..) (.after (setI_results ..) (withProt_results ..))

theorem stepResult_results (step : Nat) (level : Int) : Keeps State.results s (s.stepResult step level) :=
  .after (spurTrip_results ..) (withProt_results ..)

/-- The Datum core takes a result without touching those in processing. -/
theorem datumResult_results (kind key : Nat) (v : Option Int) : Keeps State.results s (s.datumResult kind key v) := by
  unfold State.datumResult
  refine .ite (withProt_results ..) (.ite (donorResult_results ..) ?_)
  cases v with
  | none => exact ⟨rfl⟩
  | some l => exact .ite (spanResult_results ..) (stepResult_results ..)

theorem judgeActive_results : Keeps State.results s s.judgeActive := by
  unfold State.judgeActive
  refine .forEach _ _ (fun s w => ?_) s
  exact .ite (setPair_results ..) ⟨rfl⟩

/-- The frame timing takes a result without touching those in processing. -/
theorem tddResult_results (start : Int) : Keeps State.results s (s.tddResult start) := by
  have step (s : State) (p : Nat) : Keeps State.results s (s.planStep p) := withTdd_results ..
  have active (s : State) : Keeps State.results s (((s.set Fd.TDD_STAT_STATE 2).set Fd.TDD_STAT_ERR 0).judgeActive.clearSource 272) :=
    .after (clearSource_raised _ (by decide)).results (.after (judgeActive_results _) (.after (set_results ..) (set_results ..)))
  unfold State.tddResult
  refine .after (.ite (.ite ?_ ?_) (.ite ?_ (.ite ?_ ⟨rfl⟩))) (withTdd_results ..)
  · exact .after (active _) (withTdd_results ..)
  · exact withTdd_results ..
  · exact .after (.ite (withTdd_results ..) (.ite (.after (step ..) (withTdd_results ..)) (withTdd_results ..))) (setI_results ..)
  · exact .after (.ite (.after (set_results ..) (withTdd_results ..)) ⟨rfl⟩) (setI_results ..)

theorem postJob_results (d : RceDone) : Keeps State.results s (s.postJob d) := by
  unfold State.postJob
  refine .after (.ite (tddResult_results ..) ⟨rfl⟩) (.after (.ite (datumResult_results ..) (.ite (datumResult_results ..) ⟨rfl⟩)) ?_)
  refine .after (.ite (setJobX_results ..) ⟨rfl⟩) (.after (withLive_results ..) ?_)
  exact .after (set_results ..) (.after (set_results ..) (setI_results ..))

theorem postSurvey_results (d : RceDone) : Keeps State.results s (s.postSurvey d) := by
  unfold State.postSurvey
  exact .ite ⟨rfl⟩ (.ite (.after (datumResult_results ..) ⟨rfl⟩) (.after (datumResult_results ..) ⟨rfl⟩))

end

/-- The state with result `d` posted and `ds` left in processing. -/
def State.postResult (s : State) (d : RceDone) (ds : List RceDone) : State :=
  let s := { s with rce := { s.rce with done := ds } }
  if d.work.kind = 0 then s.postJob d else s.postSurvey d

theorem postResult_done (s : State) (d : RceDone) (ds : List RceDone) : (s.postResult d ds).rce.done = ds := by
  have h : Keeps State.results { s with rce := { s.rce with done := ds } } (s.postResult d ds) :=
    .ite (postJob_results ..) (postSurvey_results ..)
  exact h.eq

theorem exec_resultPost {s : State} {d : RceDone} {ds : List RceDone} (h : s.rce.done = d :: ds) : exec .resultPost s =
    s.whenLive (.next (if d.endAt < s.time.gt then s.postResult d ds else s)) := by
  change execResultPost s = _
  rw [execResultPost]
  simp only [h]
  rfl

/-! ### SURVEY_STALE (R229) -/

/-- The sheet in which a span was last surveyed. -/
def State.surveyedAt (s : State) (p : Nat) : Nat := ((s.rce.spans.find? fun q => q.1 == p).map (·.2)).getD 0

/-- The Datum core without the measurement of a span. -/
def State.forgetSpan (s : State) (p : Nat) : State :=
  { s with prot := { s.prot with spans := s.prot.spans.filter fun q => q.1 != p } }

/-- The state with the measurement of a span missing. -/
def State.loseSpan (s : State) (p : Nat) : State :=
  let s := s.forgetSpan p
  (s.set Fd.FLT_WEMS_M 0x8000 (p / 2)).pulseOn 278 0 (s.windowDomains (p / 2))

theorem exec_surveyStale (p : Fin 32) (s : State) : exec (.surveyStale p) s =
    s.whenLive (.next (if s.getB Fd.FLT_WCFG_EMS_EN (p.val / 2) = true ∧ s.surveyedAt p + 2 * s.get Fd.FLT_THR_EMS_REV ≤ s.sheet then
      s.loseSpan p else s)) := rfl

theorem quiet_wems {w : Nat} (h : w < 16) : quiet (Reg.FLT_WEMS.off w 0) = true := by revert h; revert w; decide

theorem loseSpan_raised (s : State) (p : Nat) : OnlyRaised ((s.forgetSpan p).set Fd.FLT_WEMS_M 0x8000 (p / 2)) (s.loseSpan p) :=
  pulseOn_raised _ _ _ (by decide)

theorem surveyStale_loses (p : Fin 32) {s : State} (hs : s.alive = true) (hen : s.getB Fd.FLT_WCFG_EMS_EN (p.val / 2) = true)
    (hst : s.surveyedAt p + 2 * s.get Fd.FLT_THR_EMS_REV ≤ s.sheet) : ∃ t, exec (.surveyStale p) s = .next t ∧
      OnlyRaised ({ s with prot := t.prot }.set Fd.FLT_WEMS_M 0x8000 (p.val / 2)) t ∧ t.get Fd.FLT_WEMS_M (p.val / 2) = 0x8000 := by
  have hr := loseSpan_raised s p
  have hp : { s with prot := (s.loseSpan p).prot } = s.forgetSpan p := by rw [hr.prot]; rfl
  obtain ⟨t, e, ht, _⟩ := exec_event hs (exec_surveyStale p s) (hr.time.trans (State.set_time ..))
    (hr.pending.trans (State.set_pending ..))
  refine ⟨t, e, ?_⟩
  rw [ht ⟨hen, hst⟩, hp]
  exact ⟨hr, (hr.get Fd.FLT_WEMS_M _ 0 (quiet_wems (by omega))).trans (get_set_of_lt _ _ 0 (fits_of rfl) (by decide))⟩

/-! ### The rows -/

section
variable {s : State} (hs : s.alive = true)
include hs

theorem recceJobEnd_ends (r : RecceResult) {q : RceRun} (h : s.rce.cur = some q) (hw : q.waitGrant = false)
    (he : q.endsFrom r < s.now + 1536) : ∃ t d, exec (.recceJobEnd r) s = .next t ∧
      t.rce.cur = none ∧ t.get Fd.RCE_STAT_STATE = min q.ret 2 ∧ t.rce.done = s.rce.done ++ [d] ∧ d.work = q.work ∧
      d.endAt = s.time.gt ∧ (q.cx = true ∨ s.cxMeets = true → d.status = 4) ∧
      (q.cx = false → s.cxMeets = false → d.status = resultStatus r) := by
  obtain ⟨t, e, ht, _⟩ := exec_whereDue hs (exec_recceJobEnd r h)
  have hd : ¬ (q.waitGrant = true ∨ s.now + 1536 ≤ q.endsFrom r) := by rw [hw]; simpa using he
  have hk : WorkEnded s q (s.endStatus q r) t := by
    rw [ht hd]
    exact (finishWork_ended s q r).putBack s
  obtain ⟨d, hdone, hwork, hstat, hend⟩ := hk.done
  exact ⟨t, d, e, hk.cur, hk.state, hdone, hwork, hend, fun hx => hstat.trans (if_pos hx),
    fun h1 h2 => hstat.trans (if_neg (by simp [h1, h2]))⟩

theorem synrcUnlock_ends {q : RceRun} (h : s.rce.cur = some q) : ∃ t d, exec .synrcUnlock s = .next t ∧
    t.rce.cur = none ∧ t.rce.freq = none ∧ t.rce.done = s.rce.done ++ [d] ∧ d.work = q.work ∧ d.status = 6 := by
  have hk := ((endWork_ended s q 6 (-32768) 0 0 0 0).unlockRce).putBack s
  obtain ⟨d, hdone, hwork, hstat, _⟩ := hk.done
  exact ⟨_, d, exec_next hs (exec_synrcUnlock_busy h), hk.cur, rfl, hdone, hwork, hstat⟩

theorem recceJobStart_acts (pa pb : Int) (ognt : Bool) : ∃ t, exec (.recceJobStart pa pb ognt) s = .next t ∧
    (∀ w, s.rce.cur = none → s.recceOn = true → s.nextWork = some w →
      (s.overlapsLower w = false → (∃ r, t.rce.cur = some r ∧ r.work = w ∧ r.openAt = (s.workSpan w s.now).1 ∧
          r.endAt = (s.workSpan w s.now).2 ∧ r.tuneAt = s.now + usToSamples s.wakeUs) ∧ w ∉ t.rce.waiting ∧
        t.getB Fd.RCE_STAT_SURVEY = decide (w.kind ≠ 0) ∧ (s.wakeUs = 0 → t.get Fd.RCE_STAT_STATE = 3)) ∧
      (s.overlapsLower w = true → t.rce.cur = none ∧ t.rce.waiting = s.rce.waiting.filter (fun q => q != w) ∧
        ∃ d, t.rce.done = s.rce.done ++ [d] ∧ d.status = 3 ∧ d.work.idx = w.idx)) ∧
    (s.rce.cur ≠ none ∨ s.recceOn = false → t = s) := by
  refine ⟨_, exec_next hs (exec_recceJobStart pa pb ognt s), fun w hc hon hw => ?_, fun h => ?_⟩
  · have hk : s.mayTake = some w := (if_pos ⟨hc, hon⟩).trans hw
    rw [hk]
    exact ⟨startWork_begins pa pb ognt, fun h => hc ▸ startWork_skips pa pb ognt h⟩
  · have hn : s.mayTake = none := if_neg fun hk => h.elim (· hk.1) fun hf => absurd (hk.2.symm.trans hf) (by decide)
    rw [hn]
    exact putBack_self rfl rfl

end

/-- Settles O35: a job entered by `enterJob_rce`; work taken by `startWork_begins` or skipped by `startWork_skips`, and ended by
`endWork_ended`; a result posted by `postResult_done`; a span lost by `loseSpan_raised`. -/
theorem recceWorkRuns : Obligations.RecceWorkRuns := by
  refine ⟨fun j s hs hon hj hb hp hl => recceJobDue_enters j hs ⟨hon, hj, hb, hp, hl⟩,
    fun pa pb ognt s hs => recceJobStart_acts hs pa pb ognt, fun r q s hs h hw he => ?_, fun r q s hs h hn => ?_,
    fun q s hs h => synrcUnlock_ends hs h, fun s hs h => synrcUnlock_rests hs h, fun d ds s hs h => ?_, fun p s hs hen hst => surveyStale_loses p hs hen hst⟩
  · cases r with
    | found => exact recceJobEnd_ends hs _ h hw he
    | notFound => exact recceJobEnd_ends hs _ h hw he
    | overload => exact recceJobEnd_ends hs _ h hw he
  · obtain ⟨t, e, _, ht⟩ := exec_whereDue hs (exec_recceJobEnd r h)
    exact e.trans (congrArg _ (ht (not_not.2 hn)))
  · obtain ⟨t, e, hd, hn⟩ := exec_whereDue hs (exec_resultPost h)
    refine ⟨t, e, fun hlt => ?_, fun hle => hn (Nat.not_lt.2 hle)⟩
    rw [hd hlt]
    exact postResult_done s d ds

end Sys2Proof.Machine

/-!
SUPPORT. Proofs about coexistence: the inbound links, and the aerial that the Recce receiver shares.
-/

namespace Sys2Proof.Machine

-- The option has the proofs elaborated one after another, not beside the tests above: the two together exceed the check's memory.
set_option deprecated.oldSectionVars true

/-! ### Links -/

@[simp] theorem cxLink_setCxLink_same (s : State) (i : Nat) (l : CxLink) : (s.setCxLink i l).cxLink i = l := mapGet_mapSet_same ..

theorem cxLink_of_cx {s t : State} (h : t.cx = s.cx) (i : Nat) : t.cxLink i = s.cxLink i := by rw [State.cxLink, State.cxLink, h]

@[simp] theorem putBack_cxLink (u s : State) (i : Nat) : (u.putBack s).cxLink i = u.cxLink i := rfl

theorem Spares.setCxLink (l : List Fld) (s : State) (i : Nat) (x : CxLink) : Spares l s (s.setCxLink i x) :=
  ⟨rfl, fun _ _ _ _ => rfl, fun _ _ h => h⟩

theorem since_isSome {s : State} {i : Nat} : (s.cxLink i).since.isSome = true ↔ (s.cxLink i).since ≠ none := Option.isSome_iff_ne_none

/-- The rows of the pins run on every device; they too leave the timebase and the queue alone. -/
theorem exec_pin {c : Instr} {s u : State} (e : exec c s = s.keepTime (.next u)) : exec c s = .next (u.putBack s) := e

/-- A row of the pins that has its effect where it is due, and none otherwise. -/
theorem exec_pinWhere {c : Instr} {s u : State} {due : Prop} [Decidable due] (e : exec c s = s.keepTime (.next (if due then u else s))) :
    ∃ t, exec c s = .next t ∧ (due → t = u.putBack s) ∧ (¬ due → t = s) := by
  refine ⟨_, exec_pin e, fun h => by rw [if_pos h], fun h => ?_⟩
  rw [if_neg h, putBack_self rfl rfl]

/-! ### CX_REQ_ASSERT (R233, R235) -/

/-- The registers of a link show a request. -/
def State.showRequest (s : State) (i : Nat) (pri : Bool) : State :=
  ((s.setB Fd.RCE_CXSTAT_REQ true i).setB Fd.RCE_CXSTAT_PRI pri i).addSat Fd.RCE_CXSTAT_COUNT 1 i

/-- Link `l` with a request that began at the present grid tick. -/
def State.openLink (s : State) (i : Nat) (l : CxLink) : State :=
  let en := s.getB Fd.RCE_CXCFG_EN i
  s.setCxLink i { l with
    since := some s.time.gt, atB0 := if en then s.get Fd.RCE_CXCFG_WMASK i else 0, deferred := 0
    b0 := if en then s.time.gt + 1 else 0, grantAt := none, long := false }

/-- CX_GNT of a link where it copies CX_REQ (R234). -/
def State.copyGrant (s : State) (i : Nat) : State := if s.cxCopies then s.setB Fd.RCE_CXSTAT_GNT true i else s

/-- A measurement that the request meets is marked (R235). -/
def State.meetWork (s : State) (i : Nat) : State :=
  match s.rce.cur with
  | some r =>
    if s.getB Fd.RCE_CXCFG_RCE_SKIP i ∧ r.waitGrant = false ∧ r.openAt < s.now + 1536 then
      { s with rce := { s.rce with cur := some { r with cx := true } } }
    else s
  | none => s

theorem meetWork_busy {s : State} {i : Nat} {r : RceRun} (h : s.rce.cur = some r) : s.meetWork i =
    if s.getB Fd.RCE_CXCFG_RCE_SKIP i ∧ r.waitGrant = false ∧ r.openAt < s.now + 1536 then
      { s with rce := { s.rce with cur := some { r with cx := true } } }
    else s := by
  unfold State.meetWork
  split
  · next q hq => rw [Option.some.inj (hq.symm.trans h)]
  · next hq => exact absurd (h.symm.trans hq) (Option.some_ne_none r)

theorem meetWork_idle {s : State} {i : Nat} (h : s.rce.cur = none) : s.meetWork i = s := by
  unfold State.meetWork
  split
  · next q hq => exact absurd (hq.symm.trans h) (Option.some_ne_none q)
  · rfl

/-- The state with a request of a link opened. -/
def State.openRequest (s : State) (i : Nat) (pri : Bool) : State := 
  (((s.showRequest i pri).openLink i (s.cxLink i)).copyGrant i).meetWork i

theorem exec_cxReqAssert (i : Fin 2) (pri : Bool) (s : State) : exec (.cxReqAssert i pri) s =
    s.keepTime (.next (if ¬ (s.cxLink i).since.isSome = true then s.openRequest i pri else s)) := by
  change execCxReqAssert i pri s = _
  unfold execCxReqAssert
  simp only []
  by_cases hl : (s.cxLink i).since.isSome = true
  · rw [if_pos hl, if_neg (not_not.2 hl)]
  · rw [if_neg hl, if_pos hl]
    split
    · next r hr => exact congrArg (fun u => s.keepTime (.next u)) (meetWork_busy hr).symm
    · next hr => exact congrArg (fun u => s.keepTime (.next u)) (meetWork_idle hr).symm

section
variable (s : State) {i : Nat} (hi : i < 2) (pri : Bool)

theorem meetWork_spares (l : List Fld) (i : Nat) : Spares l s (s.meetWork i) := by
  cases h : s.rce.cur with
  | none => rw [meetWork_idle h]; exact .refl ..
  | some r => rw [meetWork_busy h]; exact .ite (fun _ => .withRce ..) fun _ => .refl ..

theorem meetWork_cx (i : Nat) : (s.meetWork i).cx = s.cx := by
  cases h : s.rce.cur with
  | none => rw [meetWork_idle h]
  | some r => rw [meetWork_busy h, apply_ite State.cx, ite_self]

theorem copyGrant_cx (i : Nat) : (s.copyGrant i).cx = s.cx := by
  unfold State.copyGrant
  rw [apply_ite State.cx, State.setB_cx, ite_self]

theorem showRequest_time (i : Nat) : (s.showRequest i pri).time = s.time :=
  (State.set_time ..).trans ((State.setB_time ..).trans (State.setB_time ..))

theorem openRequest_since (i : Nat) : ((s.openRequest i pri).cxLink i).since = some s.time.gt := by
  rw [State.openRequest, cxLink_of_cx ((meetWork_cx ..).trans (copyGrant_cx ..)), State.openLink, cxLink_setCxLink_same]
  exact congrArg (fun a : Time => some a.gt) (showRequest_time ..)

include hi

/-- Behind the registers of the request only CX_GNT is written. -/
theorem openRequest_spares : Spares [Fd.RCE_CXSTAT_GNT] (s.showRequest i pri) (s.openRequest i pri) :=
  .after (meetWork_spares ..) (.after (.ite (fun _ => .setB _ (by decide) true hi) fun _ => .refl ..) (.setCxLink ..))

theorem openRequest_req : (s.openRequest i pri).getB Fd.RCE_CXSTAT_REQ i = true := by
  have h : Spares [Fd.RCE_CXSTAT_PRI, Fd.RCE_CXSTAT_COUNT] (s.setB Fd.RCE_CXSTAT_REQ true i) (s.showRequest i pri) :=
    .after (.addSat _ (by decide) 1 hi) (.setB _ (by decide) pri hi)
  exact ((openRequest_spares s hi pri).getB Fd.RCE_CXSTAT_REQ (by decide) hi).trans ((h.getB Fd.RCE_CXSTAT_REQ (by decide) hi).trans
    (getB_setB_same _ _ _ _ _ (fits_of rfl) (by decide)))

theorem openRequest_pri : (s.openRequest i pri).getB Fd.RCE_CXSTAT_PRI i = pri := by
  have h : Spares [Fd.RCE_CXSTAT_COUNT] ((s.setB Fd.RCE_CXSTAT_REQ true i).setB Fd.RCE_CXSTAT_PRI pri i) (s.showRequest i pri) :=
    .addSat _ (by decide) 1 hi
  exact ((openRequest_spares s hi pri).getB Fd.RCE_CXSTAT_PRI (by decide) hi).trans ((h.getB Fd.RCE_CXSTAT_PRI (by decide) hi).trans
    (getB_setB_same _ _ _ _ _ (fits_of rfl) (by decide)))

theorem openRequest_count : (s.openRequest i pri).get Fd.RCE_CXSTAT_COUNT i =
    min (s.get Fd.RCE_CXSTAT_COUNT i + 1) (2 ^ Fd.RCE_CXSTAT_COUNT.width - 1) := by
  have h : Spares [Fd.RCE_CXSTAT_REQ, Fd.RCE_CXSTAT_PRI] s ((s.setB Fd.RCE_CXSTAT_REQ true i).setB Fd.RCE_CXSTAT_PRI pri i) :=
    .after (.setB _ (by decide) pri hi) (.setB _ (by decide) true hi)
  rw [(openRequest_spares s hi pri).fields Fd.RCE_CXSTAT_COUNT i (by decide) hi, ← h.fields Fd.RCE_CXSTAT_COUNT i (by decide) hi]
  exact get_addSat_same _ Fd.RCE_CXSTAT_COUNT 1 i 0 (fits_of rfl)

end

/-! ### CX_PRI_ASSERT, CX_GNT_ASSERT, CX_REQ_DEASSERT (R231, R233, R234) -/

theorem exec_cxPriAssert (i : Fin 2) (s : State) : exec (.cxPriAssert i) s =
    s.whenLive (.next (if (s.cxLink i).since.isSome = true then s.setB Fd.RCE_CXSTAT_PRI true i else s)) := rfl

theorem exec_cxGntAssert {i : Fin 2} {s : State} {g : Nat} (h : (s.cxLink i).grantAt = some g) : exec (.cxGntAssert i) s =
    s.whenLive (.next (if g < s.now + 1536 then s.setB Fd.RCE_CXSTAT_GNT true i else s)) := by
  change execCxGntAssert i s = _
  rw [execCxGntAssert]
  simp only [h]

/-- A link without its request, the lifting of its blanks to come. -/
def State.closeLink (s : State) (i : Nat) : State :=
  s.setCxLink i { s.cxLink i with since := none, atB0 := 0, deferred := 0, grantAt := none, lifting := true }

/-- The state with the request of a link ended. -/
def State.endRequest (s : State) (i : Nat) : State :=
  (((s.closeLink i).setB Fd.RCE_CXSTAT_REQ false i).setB Fd.RCE_CXSTAT_GNT false i).setB Fd.RCE_CXSTAT_DEFERRING false i

theorem exec_cxReqDeassert (i : Fin 2) (s : State) : exec (.cxReqDeassert i) s =
    s.keepTime (.next (if (s.cxLink i).since.isSome = true then s.endRequest i else s)) := rfl

section
variable (s : State) {i : Nat} (hi : i < 2)

theorem endRequest_link (i : Nat) : (s.endRequest i).cxLink i = (s.closeLink i).cxLink i :=
  cxLink_of_cx ((State.setB_cx ..).trans ((State.setB_cx ..).trans (State.setB_cx ..))) i

theorem endRequest_deferring (i : Nat) : (s.endRequest i).getB Fd.RCE_CXSTAT_DEFERRING i = false :=
  getB_setB_same _ _ _ _ _ (fits_of rfl) (by decide)

include hi

theorem endRequest_gnt : (s.endRequest i).getB Fd.RCE_CXSTAT_GNT i = false := by
  have h : Spares [Fd.RCE_CXSTAT_DEFERRING] (((s.closeLink i).setB Fd.RCE_CXSTAT_REQ false i).setB Fd.RCE_CXSTAT_GNT false i)
      (s.endRequest i) := .setB _ (by decide) false hi
  exact (h.getB Fd.RCE_CXSTAT_GNT (by decide) hi).trans (getB_setB_same _ _ _ _ _ (fits_of rfl) (by decide))

theorem endRequest_req : (s.endRequest i).getB Fd.RCE_CXSTAT_REQ i = false := by
  have h : Spares [Fd.RCE_CXSTAT_GNT, Fd.RCE_CXSTAT_DEFERRING] ((s.closeLink i).setB Fd.RCE_CXSTAT_REQ false i) (s.endRequest i) :=
    .after (.setB _ (by decide) false hi) (.setB _ (by decide) false hi)
  exact (h.getB Fd.RCE_CXSTAT_REQ (by decide) hi).trans (getB_setB_same _ _ _ _ _ (fits_of rfl) (by decide))

end

/-! ### DEFERRAL_TIMEOUT (R233) -/

/-- The timebase, and the deferral of a link: the windows it waits for, and where it began. -/
def State.deferral (i : Nat) (s : State) : Time × Nat × Nat := (s.time, (s.cxLink i).deferred, (s.cxLink i).b0)

theorem deferral_of {i : Nat} {s t : State} (ht : t.time = s.time) (hc : t.cx = s.cx) : Keeps (State.deferral i) s t :=
  ⟨by rw [State.deferral, State.deferral, ht, cxLink_of_cx hc]⟩

/-- The deferred windows wait no more. -/
def State.dropDeferral (s : State) (i : Nat) : State := s.setCxLink i { s.cxLink i with deferred := 0 }

/-- The deferred windows of a link are blanked, and it shows how long they waited, where that began at `b0`. -/
def State.showDeferral (s : State) (i ws b0 : Nat) : State :=
  let s := (s.blank i ws).setB Fd.RCE_CXSTAT_DEFERRING false i
  s.set Fd.RCE_CXSTAT_DEFER_T (min (s.time.gt - b0) 128) i

theorem endDeferral_eq (s : State) (i : Nat) : s.endDeferral i =
    ((s.dropDeferral i).showDeferral i (s.cxLink i).deferred (s.cxLink i).b0).scheduleGrant i := rfl

theorem exec_deferralTimeout (i : Fin 2) (s : State) : exec (.deferralTimeout i) s =
    s.whenLive (.next (if (s.cxLink i).deferred ≠ 0 ∧ (s.cxLink i).b0 + 128 ≤ s.time.gt then s.endDeferral i else s)) := rfl

section
variable (s : State) (i : Nat)

theorem closeGates_deferral (w : Nat) : Keeps (State.deferral i) s (s.closeGates w) :=
  deferral_of (State.set_time ..) (State.set_cx ..)

theorem blank_deferral (ws : Nat) : Keeps (State.deferral i) s (s.blank i ws) := by
  unfold State.blank
  refine .after (.forEach _ _ (fun s w => closeGates_deferral s i w) _) ⟨?_⟩
  rw [State.deferral, cxLink_setCxLink_same]
  rfl

theorem showDeferral_deferral (ws b0 : Nat) : Keeps (State.deferral i) s (s.showDeferral i ws b0) :=
  .after (deferral_of (State.set_time ..) (State.set_cx ..)) (.after (deferral_of (State.setB_time ..) (State.setB_cx ..))
    (blank_deferral ..))

theorem scheduleGrant_reg (o : Nat) : (s.scheduleGrant i).reg o = s.reg o := by
  unfold State.scheduleGrant
  rw [apply_ite (fun u : State => u.reg o)]
  exact ite_self _

theorem scheduleGrant_deferred : ((s.scheduleGrant i).cxLink i).deferred = (s.cxLink i).deferred := by
  unfold State.scheduleGrant
  simp only []
  split
  · rw [cxLink_setCxLink_same]
  · rfl

theorem endDeferral_deferred : ((s.endDeferral i).cxLink i).deferred = 0 := by
  rw [endDeferral_eq, scheduleGrant_deferred]
  refine (congrArg (·.2.1) (showDeferral_deferral (s.dropDeferral i) i _ _).eq).trans ?_
  exact congrArg CxLink.deferred (cxLink_setCxLink_same ..)

theorem endDeferral_deferring : (s.endDeferral i).getB Fd.RCE_CXSTAT_DEFERRING i = false := by
  rw [endDeferral_eq, getB_of_get (get_of_reg Fd.RCE_CXSTAT_DEFERRING (scheduleGrant_reg ..))]
  exact (getB_set_field _ Fd.RCE_CXSTAT_DEFER_T Fd.RCE_CXSTAT_DEFERRING i 0 rfl (fits_of rfl) (by decide) _).trans
    (getB_setB_same _ Fd.RCE_CXSTAT_DEFERRING false i 0 (fits_of rfl) (by decide))

theorem showDeferral_time (ws b0 : Nat) : (s.showDeferral i ws b0).get Fd.RCE_CXSTAT_DEFER_T i = min (s.time.gt - b0) 128 := by
  have ht : ((s.blank i ws).setB Fd.RCE_CXSTAT_DEFERRING false i).time.gt = s.time.gt :=
    congrArg Time.gt ((State.setB_time ..).trans (congrArg Prod.fst (blank_deferral s i ws).eq))
  rw [← ht]
  exact get_set_of_lt _ i 0 (fits_of rfl) (Nat.lt_of_le_of_lt (Nat.min_le_right ..) (by decide))

/-- A deferral of 128 grid ticks shows that length. -/
theorem endDeferral_time (h : (s.cxLink i).b0 + 128 ≤ s.time.gt) : (s.endDeferral i).get Fd.RCE_CXSTAT_DEFER_T i = 128 := by
  rw [endDeferral_eq, get_of_reg Fd.RCE_CXSTAT_DEFER_T (scheduleGrant_reg ..), showDeferral_time]
  exact Nat.min_eq_right (Nat.le_sub_of_add_le' h)

end

/-! ### CX_MAX_HOLD (R235) -/

/-- A link whose request has been found long. -/
def State.markLong (s : State) (i : Nat) : State := s.setCxLink i { s.cxLink i with long := true }

theorem exec_cxMaxHold {i : Fin 2} {s : State} {b : Nat} (h : (s.cxLink i).since = some b) : exec (.cxMaxHold i) s =
    s.whenLive (.next (if (s.cxLink i).long = false ∧ b + 80 * s.legN 0x6064 < s.time.gt then (s.markLong i).pulse 279 else s)) := by
  change execCxMaxHold i s = _
  unfold execCxMaxHold
  simp only
  split
  · next c hc => rw [Option.some.inj (hc.symm.trans h)]; rfl
  · next hc => exact absurd (h.symm.trans hc) (Option.some_ne_none b)

/-! ### CX_OGNT_DEASSERT and OGRANT_TIMEOUT (R230) -/

/-- The pin of the grant low. -/
def State.lowerGrant (s : State) : State := { s with rce := { s.rce with ognt := false } }

/-- The state with the work in progress ended for want of its aerial. -/
def State.loseAerial (s : State) (q : RceRun) : State := s.endWork q 5 (-32768) 0 0 0 0

section
variable {s : State} {q : RceRun} (h : s.rce.cur = some q)
include h

theorem exec_cxOgntDeassert : exec .cxOgntDeassert s =
    s.whenLive (.next (if q.shared = true ∧ q.waitGrant = false ∧ q.preAt < s.now + 1536 then s.lowerGrant.loseAerial q
      else s.lowerGrant)) := by
  change execCxOgntDeassert s = _
  unfold execCxOgntDeassert
  simp only
  split
  · next r hr => rw [Option.some.inj (hr.symm.trans h)]; rfl
  · next hr => exact absurd (h.symm.trans hr) (Option.some_ne_none q)

theorem exec_ograntTimeout : exec .ograntTimeout s =
    s.whenLive (.next (if q.waitGrant = true ∧ q.reqAt + usToSamples (s.legN 0x6002) < s.now + 1536 then s.loseAerial q else s)) := by
  change execOgrantTimeout s = _
  unfold execOgrantTimeout
  split
  · next r hr => rw [Option.some.inj (hr.symm.trans h)]; rfl
  · next hr => exact absurd (h.symm.trans hr) (Option.some_ne_none q)

end

/-- The end of work leaves the front end free and a result in processing. -/
theorem WorkEnded.posted {s t : State} {q : RceRun} {status : Nat} (h : WorkEnded s q status t) :
    t.rce.cur = none ∧ ∃ d, t.rce.done = s.rce.done ++ [d] ∧ d.work = q.work ∧ d.status = status := by
  obtain ⟨d, hdone, hwork, hstat, _⟩ := h.done
  exact ⟨h.cur, d, hdone, hwork, hstat⟩

/-! ### The rows -/

theorem cxReqAssert_opens (i : Fin 2) (pri : Bool) (s : State) : ∃ t, exec (.cxReqAssert i pri) s = .next t ∧
    ((s.cxLink i).since = none → t.getB Fd.RCE_CXSTAT_REQ i = true ∧ t.getB Fd.RCE_CXSTAT_PRI i = pri ∧
      t.get Fd.RCE_CXSTAT_COUNT i = min (s.get Fd.RCE_CXSTAT_COUNT i + 1) (2 ^ Fd.RCE_CXSTAT_COUNT.width - 1) ∧
      (t.cxLink i).since = some s.time.gt) ∧
    ((s.cxLink i).since ≠ none → t = s) := by
  obtain ⟨t, e, hd, hn⟩ := exec_pinWhere (exec_cxReqAssert i pri s)
  refine ⟨t, e, fun h => ?_, fun h => hn (not_not.2 (since_isSome.2 h))⟩
  rw [hd (mt since_isSome.1 (not_not.2 h)), putBack_getB, putBack_getB, putBack_get, putBack_cxLink]
  exact ⟨openRequest_req s i.isLt pri, openRequest_pri s i.isLt pri, openRequest_count s i.isLt pri, openRequest_since s pri i⟩

theorem cxReqDeassert_ends (i : Fin 2) {s : State} (h : (s.cxLink i).since ≠ none) : ∃ t, exec (.cxReqDeassert i) s = .next t ∧
    t.getB Fd.RCE_CXSTAT_REQ i = false ∧ t.getB Fd.RCE_CXSTAT_GNT i = false ∧
    t.getB Fd.RCE_CXSTAT_DEFERRING i = false ∧ (t.cxLink i).since = none ∧ (t.cxLink i).grantAt = none := by
  obtain ⟨t, e, hd, _⟩ := exec_pinWhere (exec_cxReqDeassert i s)
  refine ⟨t, e, ?_⟩
  rw [hd (since_isSome.2 h), putBack_getB, putBack_getB, putBack_getB, putBack_cxLink, endRequest_link, State.closeLink,
    cxLink_setCxLink_same]
  exact ⟨endRequest_req s i.isLt, endRequest_gnt s i.isLt, endRequest_deferring s i, rfl, rfl⟩

section
variable {s : State} (hs : s.alive = true) (i : Fin 2)
include hs

theorem cxPriAssert_raises : ∃ t, exec (.cxPriAssert i) s = .next t ∧
    ((s.cxLink i).since ≠ none → t = s.setB Fd.RCE_CXSTAT_PRI true i) ∧ ((s.cxLink i).since = none → t = s) := by
  obtain ⟨t, e, hd, hn⟩ := exec_event hs (exec_cxPriAssert i s) (State.setB_time ..) (State.setB_pending ..)
  exact ⟨t, e, fun h => hd (since_isSome.2 h), fun h => hn (mt since_isSome.1 (not_not.2 h))⟩

theorem deferralTimeout_ends (hw : (s.cxLink i).deferred ≠ 0) : ∃ t, exec (.deferralTimeout i) s = .next t ∧
    ((s.cxLink i).b0 + 128 ≤ s.time.gt → (t.cxLink i).deferred = 0 ∧ t.getB Fd.RCE_CXSTAT_DEFERRING i = false ∧
      t.get Fd.RCE_CXSTAT_DEFER_T i = 128) ∧
    (s.time.gt < (s.cxLink i).b0 + 128 → t = s) := by
  obtain ⟨t, e, hd, hn⟩ := exec_whereDue hs (exec_deferralTimeout i s)
  refine ⟨t, e, fun h => ?_, fun h => hn fun hk => absurd hk.2 (Nat.not_le.2 h)⟩
  rw [hd ⟨hw, h⟩, putBack_cxLink, putBack_getB, putBack_get]
  exact ⟨endDeferral_deferred s i, endDeferral_deferring s i, endDeferral_time s i h⟩

theorem cxGntAssert_grants {g : Nat} (h : (s.cxLink i).grantAt = some g) : ∃ t, exec (.cxGntAssert i) s = .next t ∧
    (g < s.now + 1536 → t = s.setB Fd.RCE_CXSTAT_GNT true i) ∧ (s.now + 1536 ≤ g → t = s) := by
  obtain ⟨t, e, hd, hn⟩ := exec_event hs (exec_cxGntAssert h) (State.setB_time ..) (State.setB_pending ..)
  exact ⟨t, e, hd, fun hg => hn (Nat.not_lt.2 hg)⟩

theorem cxMaxHold_reports {b : Nat} (h : (s.cxLink i).since = some b) (hl : (s.cxLink i).long = false) :
    ∃ t, exec (.cxMaxHold i) s = .next t ∧
      (b + 80 * s.legN 0x6064 < s.time.gt → OnlyRaised (s.setCxLink i { s.cxLink i with long := true }) t) ∧
      (s.time.gt ≤ b + 80 * s.legN 0x6064 → t = s) := by
  have hr := pulse_raised (s.markLong i) (src := 279) (by decide)
  obtain ⟨t, e, hd, hn⟩ := exec_event hs (exec_cxMaxHold h) hr.time hr.pending
  exact ⟨t, e, fun hb => by rw [hd ⟨hl, hb⟩]; exact hr, fun hb => hn fun hk => absurd hk.2 (Nat.not_lt.2 hb)⟩

end

section
variable {s : State} (hs : s.alive = true) {q : RceRun} (h : s.rce.cur = some q)
include hs h

theorem cxOgntDeassert_ends : ∃ t, exec .cxOgntDeassert s = .next t ∧
    (q.shared = true → q.waitGrant = false → q.preAt < s.now + 1536 →
      t.rce.cur = none ∧ ∃ d, t.rce.done = s.rce.done ++ [d] ∧ d.work = q.work ∧ d.status = 5) ∧
    (q.shared = false ∨ q.waitGrant = true ∨ s.now + 1536 ≤ q.preAt → t = { s with rce := { s.rce with ognt := false } }) := by
  refine ⟨_, exec_next hs (exec_cxOgntDeassert h), fun hsh hw hp => ?_, fun hk => ?_⟩
  · rw [if_pos ⟨hsh, hw, hp⟩]
    exact ((endWork_ended s.lowerGrant q 5 (-32768) 0 0 0 0).putBack s).posted
  · rw [if_neg ?_]
    · exact putBack_self rfl rfl
    · rintro ⟨hsh, hw, hp⟩
      rcases hk with hk | hk | hk
      · exact absurd (hsh.symm.trans hk) (by decide)
      · exact absurd (hk.symm.trans hw) (by decide)
      · exact absurd hp (Nat.not_lt.2 hk)

theorem ograntTimeout_ends : ∃ t, exec .ograntTimeout s = .next t ∧
    (q.waitGrant = true → q.reqAt + usToSamples (s.legN 0x6002) < s.now + 1536 →
      t.rce.cur = none ∧ ∃ d, t.rce.done = s.rce.done ++ [d] ∧ d.work = q.work ∧ d.status = 5) ∧
    (q.waitGrant = false ∨ s.now + 1536 ≤ q.reqAt + usToSamples (s.legN 0x6002) → t = s) := by
  obtain ⟨t, e, hd, hn⟩ := exec_whereDue hs (exec_ograntTimeout h)
  refine ⟨t, e, fun hw ht => ?_, fun hk => hn ?_⟩
  · rw [hd ⟨hw, ht⟩]
    exact ((endWork_ended s q 5 (-32768) 0 0 0 0).putBack s).posted
  · rintro ⟨hw, ht⟩
    rcases hk with hk | hk
    · exact absurd (hw.symm.trans hk) (by decide)
    · exact absurd ht (Nat.not_lt.2 hk)

end

/-- Settles O36: a request opened by `openRequest_since` and its registers, ended by `endRequest_link`; a deferral ended by
`endDeferral_time`; work that loses its aerial by `endWork_ended`. -/
theorem sharedAerialAndLinksServed : Obligations.SharedAerialAndLinksServed :=
  ⟨⟨fun i pri s => cxReqAssert_opens i pri s, fun i _ hs => cxPriAssert_raises hs i, fun i _ hs hw => deferralTimeout_ends hs i hw,
    fun i _ _ hs h => cxGntAssert_grants hs i h, fun i _ h => cxReqDeassert_ends i h, fun i _ _ hs h hl => cxMaxHold_reports hs i h hl⟩,
    fun _ _ hs h => cxOgntDeassert_ends hs h, fun _ _ hs h => ograntTimeout_ends hs h⟩

end Sys2Proof.Machine

/-!
SUPPORT. Proofs about the sense converters: slots, the end of a sequence, injected conversions, calibrations.
-/

namespace Sys2Proof.Machine

-- The option has the proofs elaborated one after another, not beside the tests above: the two together exceed the check's memory.
set_option deprecated.oldSectionVars true

/-! ### Converters and inputs -/

@[simp] theorem snsConv_setSnsConv_same (s : State) (c : Nat) (x : SnsConv) : (s.setSnsConv c x).snsConv c = x := mapGet_mapSet_same ..

theorem snsConv_of_sns {s t : State} (h : t.sns = s.sns) (c : Nat) : t.snsConv c = s.snsConv c := by rw [State.snsConv, State.snsConv, h]

@[simp] theorem putBack_sns (u s : State) : (u.putBack s).sns = u.sns := rfl
@[simp] theorem putBack_snsConv (u s : State) (c : Nat) : (u.putBack s).snsConv c = u.snsConv c := rfl
@[simp] theorem putBack_csr (u s : State) : (u.putBack s).csr = u.csr := rfl

/-- A sequence has a round to run. -/
abbrev State.inRounds (s : State) : Prop := s.sns.round < s.get Fd.SNS_SEQ_ROUNDS (s.get Fd.SNS_STAT_ACT_BANK)

/-! ### SENSE_SLOT (R239, R241) -/

/-- Round and slot of the sequence. -/
def State.slotPlace (s : State) : Nat × Nat := (s.sns.round, s.sns.slot)

theorem place_of_sns {s t : State} (h : t.sns = s.sns) : Keeps State.slotPlace s t := ⟨by rw [State.slotPlace, State.slotPlace, h]⟩

/-- The over-range conversions of a slot noted: the first of a round by its position, where both converters insert, a further one by the
sample that its converter is to discard. -/
def State.noteOverRange (s : State) (p : Nat) (had o0 o1 : Bool) : State :=
  if had then
    let s := if o0 then s.setSnsConv 0 { s.snsConv 0 with drop := true } else s
    if o1 then s.setSnsConv 1 { s.snsConv 1 with drop := true } else s
  else if o0 || o1 then { s with sns := { s.sns with ins := some p } } else s

/-- Both converters convert position `p` of bank `b`. -/
def State.convertPair (s : State) (b p : Nat) (a0 a1 : SenseConv) : State :=
  let had := s.sns.ins.isSome
  let (s, o0) := s.snsConvert b 0 p a0
  let (s, o1) := s.snsConvert b 1 p a1
  s.noteOverRange p had o0 o1

/-- The position of the slot, if any, converted. -/
def State.convertSlot (s : State) (b : Nat) (a0 a1 : SenseConv) : State :=
  match slotPosition (s.get Fd.SNS_SEQ_LEN b) s.sns.slot s.sns.ins with
  | none => s
  | some p => s.convertPair b p a0 a1

/-- The spare slot of both converters free for an injected conversion. -/
def State.freeSpares (s : State) : State :=
  (s.setSnsConv 0 { s.snsConv 0 with spareUsed := false }).setSnsConv 1 { s.snsConv 1 with spareUsed := false }

/-- The slot after the present one: the spare slot ends the round. -/
def State.passSlot (s : State) (len : Nat) : State :=
  if s.sns.slot < len then { s with sns := { s.sns with slot := s.sns.slot + 1 } }
  else { s with sns := { s.sns with slot := 0, round := s.sns.round + 1, ins := none } }

/-- The state after a slot of the bank in force. -/
def State.runSlot (s : State) (a0 a1 : SenseConv) : State :=
  let b := s.get Fd.SNS_STAT_ACT_BANK
  (s.convertSlot b a0 a1).freeSpares.passSlot (s.get Fd.SNS_SEQ_LEN b)

theorem convertSlot_spare {s : State} {b : Nat} (h : slotPosition (s.get Fd.SNS_SEQ_LEN b) s.sns.slot s.sns.ins = none)
    (a0 a1 : SenseConv) : s.convertSlot b a0 a1 = s := by
  simp only [State.convertSlot, h]

theorem convertSlot_position {s : State} {b p : Nat}
    (h : slotPosition (s.get Fd.SNS_SEQ_LEN b) s.sns.slot s.sns.ins = some p) (a0 a1 : SenseConv) :
    s.convertSlot b a0 a1 = s.convertPair b p a0 a1 := by
  simp only [State.convertSlot, h]

theorem exec_senseSlot (a0 a1 : SenseConv) (s : State) : exec (.senseSlot a0 a1) s =
    s.whenLive (.next (if s.sns.active = true ∧ s.inRounds then s.runSlot a0 a1 else s)) := by
  change execSenseSlot a0 a1 s = _
  unfold execSenseSlot
  simp only []
  by_cases h : s.sns.active = true ∧ s.inRounds
  · rw [if_pos h, if_neg (by simpa using h)]
    refine congrArg (fun u => s.whenLive (.next u)) ?_
    split
    · next hp => exact congrArg (fun u : State => u.freeSpares.passSlot _) (convertSlot_spare hp a0 a1).symm
    · next p hp => exact congrArg (fun u : State => u.freeSpares.passSlot _) (convertSlot_position hp a0 a1).symm
  · rw [if_neg h, if_pos (by simpa [imp_iff_not_or] using h)]

section
variable (s : State)

theorem snsAccept_place (c n code : Nat) : Keeps State.slotPlace s (s.snsAccept c n code) := by
  unfold State.snsAccept
  simp only []
  split
  · split <;> exact ⟨rfl⟩
  · exact ⟨rfl⟩

theorem snsOverRange_place (n : Nat) : Keeps State.slotPlace s (s.snsOverRange n) := by
  unfold State.snsOverRange
  exact .after (place_of_sns (pulse_raised _ (by decide)).sns) (.ite (.after (place_of_sns (State.set_sns ..)) ⟨rfl⟩) ⟨rfl⟩)

theorem snsConvert_place (b c p : Nat) (a : SenseConv) : Keeps State.slotPlace s (s.snsConvert b c p a).1 := by
  unfold State.snsConvert
  split
  · exact ⟨rfl⟩
  · next n _ =>
    simp only [apply_ite Prod.fst]
    exact .after (.ite (snsOverRange_place ..) ⟨rfl⟩) (snsAccept_place ..)

theorem setSnsConv_place (c : Nat) (x : SnsConv) : Keeps State.slotPlace s (s.setSnsConv c x) := ⟨rfl⟩

theorem noteOverRange_place (p : Nat) (had o0 o1 : Bool) : Keeps State.slotPlace s (s.noteOverRange p had o0 o1) := by
  have drop (s : State) (o : Bool) (c : Nat) (x : SnsConv) : Keeps State.slotPlace s (if o then s.setSnsConv c x else s) :=
    .ite (setSnsConv_place ..) ⟨rfl⟩
  exact .ite (.after (drop _ o1 1 _) (drop s o0 0 _)) (.ite ⟨rfl⟩ ⟨rfl⟩)

theorem convertPair_place (b p : Nat) (a0 a1 : SenseConv) : Keeps State.slotPlace s (s.convertPair b p a0 a1) :=
  .after (noteOverRange_place ..) (.after (snsConvert_place ..) (snsConvert_place ..))

theorem convertSlot_place (b : Nat) (a0 a1 : SenseConv) : Keeps State.slotPlace s (s.convertSlot b a0 a1) := by
  unfold State.convertSlot
  split
  · exact ⟨rfl⟩
  · exact convertPair_place ..

theorem freeSpares_place : Keeps State.slotPlace s s.freeSpares := ⟨rfl⟩

theorem convertSlot_free_place (b : Nat) (a0 a1 : SenseConv) : Keeps State.slotPlace s (s.convertSlot b a0 a1).freeSpares :=
  .after (freeSpares_place ..) (convertSlot_place ..)

end

theorem passSlot_listed {s : State} {len : Nat} (h : s.sns.slot < len) : (s.passSlot len).slotPlace = (s.sns.round, s.sns.slot + 1) := by
  rw [State.passSlot, if_pos h]
  rfl

theorem passSlot_spare {s : State} {len : Nat} (h : len ≤ s.sns.slot) :
    (s.passSlot len).slotPlace = (s.sns.round + 1, 0) ∧ (s.passSlot len).sns.ins = none := by
  rw [State.passSlot, if_neg (Nat.not_lt.2 h)]
  exact ⟨rfl, rfl⟩

section
variable {s : State} (a0 a1 : SenseConv)

theorem runSlot_listed (h : s.sns.slot < s.get Fd.SNS_SEQ_LEN (s.get Fd.SNS_STAT_ACT_BANK)) :
    (s.runSlot a0 a1).slotPlace = (s.sns.round, s.sns.slot + 1) := by
  obtain ⟨hr, hp⟩ := Prod.mk.inj (convertSlot_free_place s (s.get Fd.SNS_STAT_ACT_BANK) a0 a1).eq
  rw [State.runSlot, passSlot_listed (by rwa [hp]), hr, hp]

theorem runSlot_spare (h : s.get Fd.SNS_SEQ_LEN (s.get Fd.SNS_STAT_ACT_BANK) ≤ s.sns.slot) :
    (s.runSlot a0 a1).slotPlace = (s.sns.round + 1, 0) ∧ (s.runSlot a0 a1).sns.ins = none := by
  obtain ⟨hr, hp⟩ := Prod.mk.inj (convertSlot_free_place s (s.get Fd.SNS_STAT_ACT_BANK) a0 a1).eq
  obtain ⟨hq, hi⟩ := passSlot_spare (h.trans_eq hp.symm)
  exact ⟨by rw [State.runSlot, hq, hr], hi⟩

theorem senseSlot_converts (hs : s.alive = true) : ∃ t, exec (.senseSlot a0 a1) s = .next t ∧
    (let k := s.get Fd.SNS_STAT_ACT_BANK
     (s.sns.active = true → s.sns.round < s.get Fd.SNS_SEQ_ROUNDS k →
        (s.sns.slot < s.get Fd.SNS_SEQ_LEN k → t.sns.slot = s.sns.slot + 1 ∧ t.sns.round = s.sns.round) ∧
        (s.get Fd.SNS_SEQ_LEN k ≤ s.sns.slot → t.sns.slot = 0 ∧ t.sns.round = s.sns.round + 1 ∧ t.sns.ins = none)) ∧
      (s.sns.active = false ∨ s.get Fd.SNS_SEQ_ROUNDS k ≤ s.sns.round → t = s)) := by
  obtain ⟨t, e, hd, hn⟩ := exec_whereDue hs (exec_senseSlot a0 a1 s)
  refine ⟨t, e, fun ha hr => ?_, fun h => hn ?_⟩
  · rw [hd ⟨ha, hr⟩, putBack_sns]
    refine ⟨fun hl => ?_, fun hl => ?_⟩
    · obtain ⟨hround, hslot⟩ := Prod.mk.inj (runSlot_listed a0 a1 hl)
      exact ⟨hslot, hround⟩
    · obtain ⟨hplace, hins⟩ := runSlot_spare a0 a1 hl
      obtain ⟨hround, hslot⟩ := Prod.mk.inj hplace
      exact ⟨hslot, hround, hins⟩
  · rintro ⟨ha, hr⟩
    rcases h with h | h
    · exact absurd (ha.symm.trans h) (by decide)
    · exact absurd hr (Nat.not_lt.2 h)

end

/-! ### SENSE_SEQUENCE_END (R240, R242, R243) -/

/-- The inputs whose results are staged. -/
def State.stagedInputs (s : State) : List Nat := s.sns.staged.map Prod.fst

/-- The mean of the SNS_CHK samples of converter `c` over the rounds of bank `b`. -/
def State.checkMean (s : State) (b c : Nat) : Nat := (divRnd ((s.snsConv c).chkSum : Nat) (s.get Fd.SNS_SEQ_ROUNDS b)).toNat

/-- SNS.CHK reports both means. -/
def State.reportMeans (s : State) (b : Nat) : State := (s.set Fd.SNS_CHK_SA0 (s.checkMean b 0)).set Fd.SNS_CHK_SA1 (s.checkMean b 1)

/-- The means differ by more than the tolerance. -/
def State.checkFails (s : State) (b : Nat) : Bool :=
  decide ((s.reportMeans b).get Fd.SNS_CAL_CFG_CHK_TOL < max (s.checkMean b 0) (s.checkMean b 1) - min (s.checkMean b 0) (s.checkMean b 1))

/-- The check channel judged: its means reported, a difference raised. -/
def State.judgeCheck (s : State) (b : Nat) : State := if s.checkFails b then (s.reportMeans b).pulse 281 else s.reportMeans b

/-- The samples of SNS_CHK closed: the latest of each converter stays in its history. -/
def State.closeCheck (s : State) : State :=
  forEach [32, 33] s fun s n => let i := s.snsInput n
    s.setSnsInput n { i with now := [], hist := (i.now ++ i.hist).take 1 }

/-- LAST_END shown: 6 µs of waking, then the slots of half a microsecond, or of a whole one in single-cycle settling. -/
def State.showEnd (s : State) (b r : Nat) : State :=
  s.set Fd.SNS_STAT_LAST_END (6 + (s.get Fd.SNS_SEQ_LEN b + 1) * r * (if s.getB Fd.SNS_SEQ_SCS b then 2 else 1) / 2)

/-- The sequence over. -/
def State.stopSequence (s : State) : State := { s with sns := { s.sns with active := false, ended := true } }

/-- The results of bank `b` staged. -/
def State.stageResults (s : State) (b : Nat) (bad : Bool) : State :=
  forEach (s.snsListed b) s fun s e => s.snsResult b e.1 bad

/-- The state after the end of the sequence of the bank in force. -/
def State.finishSequence (s : State) : State :=
  let b := s.get Fd.SNS_STAT_ACT_BANK
  ((s.judgeCheck b).stageResults b (s.checkFails b)).closeCheck.showEnd b (s.get Fd.SNS_SEQ_ROUNDS b) |>.stopSequence

theorem exec_senseSequenceEnd (s : State) : exec .senseSequenceEnd s =
    s.whenLive (.next (if s.sns.active = true ∧ ¬ s.inRounds then s.finishSequence else s)) := by
  change execSenseSequenceEnd s = _
  unfold execSenseSequenceEnd
  simp only []
  by_cases h : s.sns.active = true ∧ ¬ s.inRounds
  · rw [if_pos h, if_neg (by simpa using h)]
    rfl
  · rw [if_neg h, if_pos (by simpa [imp_iff_not_or] using h)]

/-- The offset of an entry of a list lies above SNS.CHK and below the fault collector. -/
theorem entry_between {b e : Nat} (hb : b < 2) (he : e < 64) :
    0x30048 < Reg.SNS_ENTRY.off b e ∧ Reg.SNS_ENTRY.off b e < 0x34048 := by
  simp only [RegDesc.off, Reg.SNS_ENTRY]
  omega

theorem seq_between {b : Nat} (hb : b < 2) : 0x30048 < Reg.SNS_SEQ.off b 0 ∧ Reg.SNS_SEQ.off b 0 < 0x34048 := by
  simp only [RegDesc.off, Reg.SNS_SEQ]
  omega

/-- The registers of the banks, which lie between SNS.CHK and the fault collector, read the same. -/
def SameBanks (s t : State) : Prop := ∀ o, 0x30048 < o → o < 0x34048 → t.reg o = s.reg o

section
variable {s t : State} (h : SameBanks s t) {b : Nat} (hb : b < 2)
include h hb

theorem SameBanks.entry {c p : Nat} (hc : c < 2) (hp : p < 32) : t.snsEntry b c p = s.snsEntry b c p := by
  obtain ⟨hl, hu⟩ := entry_between hb (show 16 * c + p < 64 by omega)
  have hr := h _ hl hu
  rw [State.snsEntry, State.snsEntry, getB_of_get (get_of_reg Fd.SNS_ENTRY_USED hr), get_of_reg Fd.SNS_ENTRY_INPUT hr]

theorem SameBanks.listed : t.snsListed b = s.snsListed b := by
  have hlen : t.get Fd.SNS_SEQ_LEN b = s.get Fd.SNS_SEQ_LEN b :=
    get_of_reg Fd.SNS_SEQ_LEN (h _ (seq_between hb).1 (seq_between hb).2)
  rw [State.snsListed, State.snsListed, hlen]
  refine List.flatMap_congr fun p hp => List.filterMap_congr fun c hc => ?_
  have hp : p < 32 := Nat.lt_trans (List.mem_range.1 hp) (get_lt ..)
  have hc : c < 2 := by
    simp only [List.mem_cons, List.not_mem_nil, or_false] at hc
    omega
  rw [h.entry hb hc hp]

end

section
variable (s : State)

theorem judgeCheck_sameBanks (b : Nat) : SameBanks s (s.judgeCheck b) := by
  have hm (o : Nat) (h : 0x30048 < o) : (s.reportMeans b).reg o = s.reg o :=
    (reg_set_other _ Fd.SNS_CHK_SA1 _ 0 0 (Nat.ne_of_gt h)).trans (reg_set_other _ Fd.SNS_CHK_SA0 _ 0 0 (Nat.ne_of_gt h))
  intro o hl hu
  unfold State.judgeCheck
  split
  · exact ((pulse_raised _ (by decide)).low hu).trans (hm o hl)
  · exact hm o hl

theorem judgeCheck_sns (b : Nat) : (s.judgeCheck b).sns = s.sns := by
  have hm : (s.reportMeans b).sns = s.sns := (State.set_sns ..).trans (State.set_sns ..)
  unfold State.judgeCheck
  split
  · exact (pulse_raised _ (by decide)).sns.trans hm
  · exact hm

theorem snsResult_stages (b n : Nat) (bad : Bool) : (s.snsResult b n bad).stagedInputs = s.stagedInputs ++ [n] := by
  rw [State.stagedInputs, State.stagedInputs]
  exact List.map_append

theorem forEach_snsResult_stages (b : Nat) (bad : Bool) (l : List (Nat × Nat × Nat)) :
    (forEach l s fun s e => s.snsResult b e.1 bad).stagedInputs = s.stagedInputs ++ l.map Prod.fst := by
  induction l generalizing s with
  | nil => exact (List.append_nil _).symm
  | cons e l ih => rw [forEach_cons, ih, snsResult_stages, List.append_assoc]; rfl

theorem closeCheck_staged : Keeps State.stagedInputs s s.closeCheck := by
  have hset (s : State) (n : Nat) (i : SnsInput) : Keeps State.stagedInputs s (s.setSnsInput n i) := ⟨rfl⟩
  exact .forEach _ _ (fun _ _ => hset ..) s

theorem showEnd_staged (b r : Nat) : Keeps State.stagedInputs s (s.showEnd b r) :=
  ⟨by rw [State.stagedInputs, State.stagedInputs, State.showEnd, State.set_sns]⟩

theorem stopSequence_staged : Keeps State.stagedInputs s s.stopSequence := ⟨rfl⟩

theorem finishSequence_stages :
    s.finishSequence.stagedInputs = s.stagedInputs ++ (s.snsListed (s.get Fd.SNS_STAT_ACT_BANK)).map Prod.fst := by
  have hb : s.get Fd.SNS_STAT_ACT_BANK < 2 := get_lt ..
  have hs : (s.judgeCheck (s.get Fd.SNS_STAT_ACT_BANK)).stagedInputs = s.stagedInputs := by
    rw [State.stagedInputs, State.stagedInputs, judgeCheck_sns]
  rw [State.finishSequence, (stopSequence_staged _).eq, (showEnd_staged ..).eq, (closeCheck_staged _).eq, State.stageResults,
    forEach_snsResult_stages, hs, (judgeCheck_sameBanks s _).listed hb]

end

theorem senseSequenceEnd_stages {s : State} (hs : s.alive = true) : ∃ t, exec .senseSequenceEnd s = .next t ∧
    (let k := s.get Fd.SNS_STAT_ACT_BANK
     (s.sns.active = true → s.get Fd.SNS_SEQ_ROUNDS k ≤ s.sns.round →
        t.sns.active = false ∧ t.sns.ended = true ∧
        t.sns.staged.map Prod.fst = s.sns.staged.map Prod.fst ++ (s.snsListed k).map Prod.fst) ∧
      (s.sns.active = false ∨ s.sns.round < s.get Fd.SNS_SEQ_ROUNDS k → t = s)) := by
  obtain ⟨t, e, hd, hn⟩ := exec_whereDue hs (exec_senseSequenceEnd s)
  refine ⟨t, e, fun ha hr => ?_, fun h => hn ?_⟩
  · rw [hd ⟨ha, Nat.not_lt.2 hr⟩, putBack_sns]
    exact ⟨rfl, rfl, finishSequence_stages s⟩
  · rintro ⟨ha, hr⟩
    rcases h with h | h
    · exact absurd (ha.symm.trans h) (by decide)
    · exact hr h

/-! ### INJECTED_CONVERSION (R247) -/

theorem senseCode_lt (a : SenseConv) : senseCode a < 65536 := by
  have := a.code.isLt
  unfold senseCode
  split_ifs <;> omega

theorem snsSnapshots_none {s : State} (h : s.flt.snapReq = []) : s.snsSnapshots = s := by
  have hf : { s.flt with snapReq := [] } = s.flt := by rw [← h]
  rw [State.snsSnapshots, h, hf]
  rfl

/-- The oldest request of a converter taken, `rest` being those behind it. -/
def State.takeRequest (s : State) (c : Nat) (rest : List (Nat × Bool × Nat)) : State :=
  s.setSnsConv c { s.snsConv c with queue := rest, spareUsed := s.sns.active }

/-- The flags of an injected conversion shown. -/
def State.showInjected (s : State) (c : Nat) (ovr delayed flt : Bool) : State :=
  (((s.setB Fd.SNS_INJ_RES_DONE true c).setB Fd.SNS_INJ_RES_OVR ovr c).setB Fd.SNS_INJ_RES_CAL_DELAYED delayed c).setB
    Fd.SNS_INJ_RES_FLT flt c

/-- The input, the code and the instant of an injected conversion shown. -/
def State.showSample (s : State) (c input code : Nat) : State :=
  let s := (s.set Fd.SNS_INJ_RES_INPUT input c).set Fd.SNS_INJ_RES_CODE code c
  s.set Fd.SNS_INJ_TIME_GT s.gtInSec c

/-- The state after an injected conversion of a request for `input`. -/
def State.runInjected (s : State) (c : Nat) (a : SenseConv) (input : Nat) (flt : Bool) (at_ : Nat) (rest : List (Nat × Bool × Nat)) :
    State :=
  ((s.takeRequest c rest).showInjected c (a.low || a.high) ((s.snsConv c).stepped && duringStep at_ (s.snsConv c).stepAt) flt).showSample
    c input (senseCode a)

theorem exec_injectedConversion {c : Fin 2} {a : SenseConv} {k : Fin 1536} {flt : Bool} {input at_ : Nat}
    {rest : List (Nat × Bool × Nat)} {s : State} (hsnap : s.flt.snapReq = []) (hidle : s.sns.active = false)
    (htime : s.tooLate k = false) (hq : (s.snsConv c).queue = (input, flt, at_) :: rest) :
    exec (.injectedConversion c a k) s = s.whenLive (.next (s.runInjected c a input flt at_ rest)) := by
  change execInjectedConversion c a k s = _
  unfold execInjectedConversion
  simp only [snsSnapshots_none hsnap, hq, hidle, htime]
  simp only [State.runInjected, State.takeRequest, hidle]
  rfl

section
variable (s : State) {c : Nat} (hc : c < 2) (ovr delayed flt : Bool) (input code : Nat)

theorem showInjected_flt : (s.showInjected c ovr delayed flt).getB Fd.SNS_INJ_RES_FLT c = flt :=
  getB_setB_same _ _ _ _ _ (fits_of rfl) (by decide)

theorem showInjected_sns : (s.showInjected c ovr delayed flt).sns = s.sns :=
  (State.setB_sns ..).trans ((State.setB_sns ..).trans ((State.setB_sns ..).trans (State.setB_sns ..)))

theorem showSample_sns : (s.showSample c input code).sns = s.sns :=
  (State.set_sns ..).trans ((State.set_sns ..).trans (State.set_sns ..))

include hc

theorem showInjected_delayed : (s.showInjected c ovr delayed flt).getB Fd.SNS_INJ_RES_CAL_DELAYED c = delayed := by
  have h (u : State) : Spares [Fd.SNS_INJ_RES_FLT] u (u.setB Fd.SNS_INJ_RES_FLT flt c) := .setB _ (by decide) flt hc
  exact ((h _).getB Fd.SNS_INJ_RES_CAL_DELAYED (by decide) hc).trans (getB_setB_same _ _ _ _ _ (fits_of rfl) (by decide))

theorem showInjected_ovr : (s.showInjected c ovr delayed flt).getB Fd.SNS_INJ_RES_OVR c = ovr := by
  have h : Spares [Fd.SNS_INJ_RES_CAL_DELAYED, Fd.SNS_INJ_RES_FLT] ((s.setB Fd.SNS_INJ_RES_DONE true c).setB Fd.SNS_INJ_RES_OVR ovr c)
      (s.showInjected c ovr delayed flt) := .after (.setB _ (by decide) flt hc) (.setB _ (by decide) delayed hc)
  exact (h.getB Fd.SNS_INJ_RES_OVR (by decide) hc).trans (getB_setB_same _ _ _ _ _ (fits_of rfl) (by decide))

theorem showInjected_done : (s.showInjected c ovr delayed flt).getB Fd.SNS_INJ_RES_DONE c = true := by
  have h : Spares [Fd.SNS_INJ_RES_OVR, Fd.SNS_INJ_RES_CAL_DELAYED, Fd.SNS_INJ_RES_FLT] (s.setB Fd.SNS_INJ_RES_DONE true c)
      (s.showInjected c ovr delayed flt) :=
    .after (.setB _ (by decide) flt hc) (.after (.setB _ (by decide) delayed hc) (.setB _ (by decide) ovr hc))
  exact (h.getB Fd.SNS_INJ_RES_DONE (by decide) hc).trans (getB_setB_same _ _ _ _ _ (fits_of rfl) (by decide))

theorem showSample_spares :
    Spares [Fd.SNS_INJ_RES_INPUT, Fd.SNS_INJ_RES_CODE, Fd.SNS_INJ_TIME_GT] s (s.showSample c input code) :=
  .after (.set _ (by decide) _ hc) (.after (.set _ (by decide) code hc) (.set _ (by decide) input hc))

theorem showSample_code (h : code < 65536) : (s.showSample c input code).get Fd.SNS_INJ_RES_CODE c = code := by
  have ht (u : State) (v : Nat) : Spares [Fd.SNS_INJ_TIME_GT] u (u.set Fd.SNS_INJ_TIME_GT v c) := .set _ (by decide) v hc
  exact ((ht ..).fields Fd.SNS_INJ_RES_CODE c (by decide) hc).trans (get_set_of_lt _ c 0 (fits_of rfl) h)

end

theorem injectedConversion_reports {c : Fin 2} {a : SenseConv} {k : Fin 1536} {flt : Bool} {input at_ : Nat}
    {rest : List (Nat × Bool × Nat)} {s : State} (hs : s.alive = true) (hsnap : s.flt.snapReq = []) (hidle : s.sns.active = false)
    (htime : s.tooLate k = false) (hq : (s.snsConv c).queue = (input, flt, at_) :: rest) :
    ∃ t, exec (.injectedConversion c a k) s = .next t ∧ (t.snsConv c).queue = rest ∧ t.getB Fd.SNS_INJ_RES_DONE c = true ∧
      t.getB Fd.SNS_INJ_RES_OVR c = (a.low || a.high) ∧ t.getB Fd.SNS_INJ_RES_FLT c = flt ∧
      t.getB Fd.SNS_INJ_RES_CAL_DELAYED c = ((s.snsConv c).stepped && duringStep at_ (s.snsConv c).stepAt) ∧
      t.get Fd.SNS_INJ_RES_CODE c = senseCode a := by
  refine ⟨_, exec_next hs (exec_injectedConversion hsnap hidle htime hq), ?_⟩
  rw [putBack_snsConv, putBack_getB, putBack_getB, putBack_getB, putBack_getB, putBack_get, State.runInjected]
  have hp := showSample_spares ((s.takeRequest c rest).showInjected c (a.low || a.high)
    ((s.snsConv c).stepped && duringStep at_ (s.snsConv c).stepAt) flt) c.isLt input (senseCode a)
  refine ⟨?_, ?_, ?_, ?_, ?_, showSample_code _ c.isLt _ _ (senseCode_lt a)⟩
  · rw [snsConv_of_sns ((showSample_sns ..).trans (showInjected_sns ..)), State.takeRequest, snsConv_setSnsConv_same]
  · exact (hp.getB Fd.SNS_INJ_RES_DONE (by decide) c.isLt).trans (showInjected_done _ c.isLt ..)
  · exact (hp.getB Fd.SNS_INJ_RES_OVR (by decide) c.isLt).trans (showInjected_ovr _ c.isLt ..)
  · exact (hp.getB Fd.SNS_INJ_RES_FLT (by decide) c.isLt).trans (showInjected_flt ..)
  · exact (hp.getB Fd.SNS_INJ_RES_CAL_DELAYED (by decide) c.isLt).trans (showInjected_delayed _ c.isLt ..)

/-! ### SNS_CAL_STEP (R248) -/

/-- A converter after a step of its calibration in grid tick `gt`. -/
def SnsConv.afterStep (x : SnsConv) (bad : Bool) (gt : Nat) : SnsConv :=
  { x with calLeft := x.calLeft - 1, calBad := x.calBad || bad, stepped := true, stepAt := gt, failed := x.failed || bad }

/-- The result of a calibration shown. -/
def State.showCalibration (s : State) (c : Nat) (bad : Bool) : State := (s.setB (snsBusy c) false).set (snsCalStat c) (if bad then 2 else 1)

/-- The calibration of a converter, `x` after its last step, ended: a result other than PASS is raised. -/
def State.endCalibration (s : State) (c : Nat) (x : SnsConv) : State :=
  let s := (s.setSnsConv c { x with calAt := s.time.gt, calTemp := mapGet 0 s.lane.die 16 }).showCalibration c x.calBad
  if x.calBad then s.pulse 282 else s

/-- The state after a step of a calibration. -/
def State.takeStep (s : State) (c : Nat) (bad : Bool) : State :=
  let x := (s.snsConv c).afterStep bad s.time.gt
  if x.calLeft ≠ 0 then s.setSnsConv c x else s.endCalibration c x

theorem exec_snsCalStep {c : Fin 2} {r : CalResult} {s : State} (hidle : s.sns.active = false) (hgap : (s.snsConv c).stepped = false)
    (hq : (s.snsConv c).queue = []) :
    exec (.snsCalStep c r) s = s.whenLive (.next (if (s.snsConv c).calLeft ≠ 0 then s.takeStep c (r != .pass) else s)) := by
  change execSnsCalStep c r s = _
  unfold execSnsCalStep
  simp only []
  by_cases h : (s.snsConv c).calLeft = 0
  · rw [if_pos (by simp [h]), if_neg (not_not.2 h)]
  · rw [if_neg (by simp [h, hidle, hgap, hq]), if_pos h]
    split
    · next hm => exact congrArg (fun u => s.whenLive (.next u)) (if_pos hm).symm
    · next hl => exact congrArg (fun u => s.whenLive (.next u)) (if_neg hl).symm

theorem snsBusy_fits (c : Nat) : (snsBusy c).fits ∧ 0 < (snsBusy c).width := by
  unfold snsBusy
  split <;> exact ⟨fits_of rfl, by decide⟩

theorem snsCalStat_fits (c : Nat) : (snsCalStat c).fits ∧ (snsCalStat c).width = 4 := by
  unfold snsCalStat
  split <;> exact ⟨fits_of rfl, rfl⟩

/-- BUSY and result of a converter are single, in different registers below the fault collector. -/
theorem snsBusy_spared (c : Nat) : (snsBusy c).sparedBy [snsCalStat c] = true ∧ (snsCalStat c).sparedBy [] = true ∧
    (snsBusy c).reg.count = 1 ∧ (snsCalStat c).reg.count = 1 := by
  unfold snsBusy snsCalStat
  split <;> decide

section
variable (s : State) (c : Nat)

theorem showCalibration_busy (bad : Bool) : (s.showCalibration c bad).getB (snsBusy c) = false := by
  obtain ⟨hb, _, hbc, hsc⟩ := snsBusy_spared c
  have h : Spares [snsCalStat c] (s.setB (snsBusy c) false) (s.showCalibration c bad) := .set _ List.mem_cons_self _ (by omega)
  exact (h.getB (snsBusy c) hb (by omega)).trans (getB_setB_same _ _ _ _ _ (snsBusy_fits c).1 (snsBusy_fits c).2)

theorem showCalibration_result (bad : Bool) : (s.showCalibration c bad).get (snsCalStat c) = if bad then 2 else 1 := by
  obtain ⟨hf, hw⟩ := snsCalStat_fits c
  exact get_set_of_lt _ 0 0 hf (by rw [hw]; split <;> decide)

theorem showCalibration_sns (bad : Bool) : (s.showCalibration c bad).sns = s.sns := (State.set_sns ..).trans (State.setB_sns ..)

theorem endCalibration_raised (x : SnsConv) : OnlyRaised
    ((s.setSnsConv c { x with calAt := s.time.gt, calTemp := mapGet 0 s.lane.die 16 }).showCalibration c x.calBad) (s.endCalibration c x) :=
  .ite (fun _ => pulse_raised _ (by decide)) fun _ => .refl _

theorem endCalibration_conv (x : SnsConv) :
    (s.endCalibration c x).snsConv c = { x with calAt := s.time.gt, calTemp := mapGet 0 s.lane.die 16 } := by
  rw [snsConv_of_sns ((endCalibration_raised ..).sns.trans (showCalibration_sns ..)), snsConv_setSnsConv_same]

theorem endCalibration_busy (x : SnsConv) : (s.endCalibration c x).getB (snsBusy c) = false := by
  obtain ⟨hb, _, hbc, _⟩ := snsBusy_spared c
  exact ((Spares.of_raised [snsCalStat c] (endCalibration_raised s c x)).getB (snsBusy c) hb (by omega)).trans (showCalibration_busy ..)

theorem endCalibration_result (x : SnsConv) : (s.endCalibration c x).get (snsCalStat c) = if x.calBad then 2 else 1 := by
  obtain ⟨_, hr, _, hsc⟩ := snsBusy_spared c
  exact ((Spares.of_raised [] (endCalibration_raised s c x)).fields (snsCalStat c) 0 hr (by omega)).trans (showCalibration_result ..)

end

theorem takeStep_more {s : State} {c : Nat} (h : 2 ≤ (s.snsConv c).calLeft) (bad : Bool) :
    s.takeStep c bad = s.setSnsConv c ((s.snsConv c).afterStep bad s.time.gt) :=
  if_pos (show (s.snsConv c).calLeft - 1 ≠ 0 by omega)

theorem takeStep_last {s : State} {c : Nat} (h : (s.snsConv c).calLeft = 1) (bad : Bool) :
    s.takeStep c bad = s.endCalibration c ((s.snsConv c).afterStep bad s.time.gt) :=
  if_neg (show ¬ (s.snsConv c).calLeft - 1 ≠ 0 by omega)

theorem snsCalStep_steps {c : Fin 2} (r : CalResult) {s : State} (hs : s.alive = true) (hidle : s.sns.active = false)
    (hgap : (s.snsConv c).stepped = false) (hq : (s.snsConv c).queue = []) : ∃ t, exec (.snsCalStep c r) s = .next t ∧
      (2 ≤ (s.snsConv c).calLeft → (t.snsConv c).calLeft = (s.snsConv c).calLeft - 1 ∧ t.csr = s.csr) ∧
      ((s.snsConv c).calLeft = 1 → (t.snsConv c).calLeft = 0 ∧ (t.snsConv c).calAt = s.time.gt ∧ t.getB (snsBusy c) = false ∧
        t.get (snsCalStat c) = if (s.snsConv c).calBad = true ∨ r ≠ .pass then 2 else 1) ∧
      ((s.snsConv c).calLeft = 0 → t = s) := by
  obtain ⟨t, e, hd, hn⟩ := exec_whereDue hs (exec_snsCalStep (r := r) hidle hgap hq)
  refine ⟨t, e, fun h => ?_, fun h => ?_, fun h => hn (not_not.2 h)⟩
  · rw [hd (by omega), putBack_snsConv, putBack_csr, takeStep_more h, snsConv_setSnsConv_same]
    exact ⟨rfl, rfl⟩
  · rw [hd (by omega), putBack_snsConv, putBack_getB, putBack_get, takeStep_last h, endCalibration_conv, endCalibration_busy,
      endCalibration_result]
    refine ⟨?_, rfl, rfl, ?_⟩
    · show (s.snsConv c).calLeft - 1 = 0
      omega
    · simp only [SnsConv.afterStep, Bool.or_eq_true, bne_iff_ne]

/-! ### SNS_CAL_DUE (R248) -/

/-- A calibration is due: by its interval, or because the die temperature has moved. -/
abbrev State.calibrationDue (s : State) (c : Nat) (temp : Int) : Prop :=
  (s.snsConv c).calAt + s.get Fd.SNS_CAL_CFG_IVL * 38400000 ≤ s.time.gt ∨
    s.get Fd.SNS_CAL_CFG_TEMP < (temp - (s.snsConv c).calTemp).natAbs

theorem exec_snsCalDue (c : Fin 2) (temp : Int) (s : State) : exec (.snsCalDue c temp) s =
    s.whenLive (.next (if s.calibrationDue c temp then s.snsCalibrate c else s)) :=
  congrArg s.whenLive (apply_ite ..).symm

theorem snsCalibrate_starts {s : State} {c : Nat} (h : (s.snsConv c).calLeft = 0) :
    ((s.snsCalibrate c).snsConv c).calLeft = 16 ∧ (s.snsCalibrate c).getB (snsBusy c) = true := by
  obtain ⟨hf, hw⟩ := snsBusy_fits c
  rw [State.snsCalibrate]
  simp only [h, ne_eq, not_true_eq_false, if_false]
  exact ⟨by rw [snsConv_of_sns (State.setB_sns ..), snsConv_setSnsConv_same], getB_setB_same _ _ _ _ _ hf hw⟩

theorem snsCalDue_starts (c : Fin 2) (temp : Int) {s : State} (hs : s.alive = true) (h : (s.snsConv c).calLeft = 0) :
    ∃ t, exec (.snsCalDue c temp) s = .next t ∧
    (let moved := (temp - (s.snsConv c).calTemp).natAbs
     ((s.snsConv c).calAt + s.get Fd.SNS_CAL_CFG_IVL * 38400000 ≤ s.time.gt ∨ s.get Fd.SNS_CAL_CFG_TEMP < moved →
      (t.snsConv c).calLeft = 16 ∧ t.getB (snsBusy c) = true) ∧
     (s.time.gt < (s.snsConv c).calAt + s.get Fd.SNS_CAL_CFG_IVL * 38400000 → moved ≤ s.get Fd.SNS_CAL_CFG_TEMP → t = s)) := by
  obtain ⟨t, e, hd, hn⟩ := exec_whereDue hs (exec_snsCalDue c temp s)
  refine ⟨t, e, fun hk => ?_, fun hi hm => hn (not_or.2 ⟨Nat.not_le.2 hi, Nat.not_lt.2 hm⟩)⟩
  rw [hd hk, putBack_snsConv, putBack_getB]
  exact snsCalibrate_starts h

/-- Settles O38: a slot moves the sequence on by `State.passSlot`; its end stages the listed inputs (`finishSequence_stages`); an injected
conversion, a step and the start of a calibration each leave what the lemma of the row says. -/
theorem senseConverts : Obligations.SenseConverts :=
  ⟨fun a0 a1 _ hs => senseSlot_converts a0 a1 hs, fun _ hs => senseSequenceEnd_stages hs,
    fun _ _ _ _ _ _ _ _ hs hsnap hidle htime hq => injectedConversion_reports hs hsnap hidle htime hq,
    fun _ r _ hs hidle hgap hq => snsCalStep_steps r hs hidle hgap hq, fun c temp _ hs h => snsCalDue_starts c temp hs h⟩

end Sys2Proof.Machine

/-!
SUPPORT. Proofs about every command: each completes, puts the queue back, and leaves a stopped device alone but for the pins' rows.
-/

namespace Sys2Proof.Machine

-- The option has the proofs elaborated one after another, not beside the tests above: the two together exceed the check's memory.
set_option deprecated.oldSectionVars true

/-! ### Every command completes -/

/-- An outcome that is a next state. -/
def Completes (o : Out) : Prop := ∃ t, o = .next t

theorem Completes.next (t : State) : Completes (.next t) := ⟨t, rfl⟩

theorem Completes.ite {c : Prop} [Decidable c] {o o' : Out} (h : Completes o) (h' : Completes o') :
    Completes (if c then o else o') := by
  split
  · exact h
  · exact h'

theorem Completes.keepTime {s : State} {o : Out} (h : Completes o) : Completes (s.keepTime o) := by
  obtain ⟨t, rfl⟩ := h
  exact .next _

theorem Completes.keepQueue {s : State} {o : Out} (h : Completes o) : Completes (s.keepQueue o) := by
  obtain ⟨t, rfl⟩ := h
  exact .next _

theorem Completes.live {s : State} {o : Out} (h : Completes o) : Completes (s.whenLive o) := .ite h.keepTime (.next s)

theorem Completes.timed {s : State} {o : Out} (h : Completes o) : Completes (s.whenLiveTimed o) := .ite h.keepQueue (.next s)

/-- Every command answers a next state: it runs under one of the guards, and each branch of its effect ends in a next state. -/
theorem exec_completes (c : Instr) (s : State) : Completes (exec c s) := by
  cases c
  case startRetry | datumOrderedStart => exact .timed (.next _)
  case gridTickBoundary | sheetBoundary | operatingSecond => exact .timed (.ite (.next _) (.next _))
  case vinValid | railsReady | vinLoss | resetNRelease | romBootDone => exact .keepQueue (.ite (.next _) (.next _))
  case resetNAssert => exact .keepQueue (.ite (.next _) (.ite (.next _) (.next _)))
  case cxReqAssert | cxReqDeassert | perstNAssert | perstNDeassert | pciLink | linkL0Return | insetSel | insetRead | insetStat
      | extest | samplePreload | bypass | testLogicReset => exact .keepTime (.next _)
  case responsePost | counterWrap | refRevert | holdoverLong | tddResultTimeout | tddHoldoverExpiry | sealHoldTimeout
      | failCountClear | cmdCopyDone | captureDone | presenceAssert | trackEmpty | rffeSequenceStart | snsCalDue | dramUe
      | startCalDone | sketchEntry | trainingRamp | fullEntry | startFailTimeout | pairInvalid | senseSequenceEnd | senseSlot
      | sspiTransaction => exact .live (.ite (.next _) (.next _))
  case periodicReplanDue | snsCalStep => exact .live (.ite (.next _) (.ite (.next _) (.next _)))
  case ppsEdge => exact .live (.ite (.ite (.next _) (.next _)) (.next _))
  case alertPulseEnd =>
    refine .keepTime ?_
    split
    · exact .ite (.next _) (.next _)
    · exact .next _
  case nonceLapse | authBusyEnd | escIntervalEnd | fiUnlockLapse | lockLeaseExpiry | tddStep | patternChange =>
    refine .live ?_
    split
    · exact .ite (.next _) (.next _)
    · exact .next _
  case dropsOffer =>
    refine .live ?_
    simp only []
    split
    · exact .ite (.next _) (.next _)
    · exact .next _
  case segmentStart =>
    refine .live ?_
    split
    · exact .next _
    · exact .ite (.next _) (.next _)
  case injectedConversion =>
    refine .live ?_
    simp only []
    split
    · exact .next _
    · exact .ite (.next _) (.next _)
  case imageWriteDone | replanDone =>
    refine .live ?_
    split
    · exact .next _
    · exact .next _
  case recordWrite =>
    refine .live ?_
    split
    · exact .next _
    · simp only []
      split
      · exact .ite (.next _) (.next _)
      · exact .next _
  case atlasLoadDone =>
    refine .live ?_
    split
    · exact .next _
    · simp only []
      split
      · exact .next _
      · exact .next _
  case rffeSequenceEnd =>
    refine .live ?_
    split
    · exact .next _
    · split
      · exact .next _
      · refine .ite (.next _) ?_
        simp only []
        split
        · exact .next _
        · exact .next _
  case failoverTakeover =>
    refine .live ?_
    split
    · exact .ite (.next _) (.next _)
    · exact .ite (.next _) (.next _)
    · exact .next _
  case imageVerifyDone =>
    refine .live (.ite (.next _) ?_)
    split
    · exact .next _
    · exact .ite (.next _) (.next _)
  case aliasAccess =>
    refine .live (.ite (.next _) ?_)
    split
    · exact .next _
    · exact .next _
  case warmRestartDone =>
    refine .timed (.ite (.next _) ?_)
    split
    · exact .next _
    · exact .next _
  all_goals exact .live (.next _)

/-- Settles O3, by the branches of every row's effect (`exec_completes`). -/
theorem everyCommandCompletes : Obligations.EveryCommandCompletes := exec_completes

/-! ### The queue of commands -/

/-- Every next state of an outcome has the queue of `s`. -/
def SameQueue (s : State) (o : Out) : Prop := ∀ t, o = .next t → t.pending = s.pending

theorem SameQueue.next (s : State) : SameQueue s (.next s) := by
  rintro t ⟨⟩
  rfl

theorem SameQueue.keepQueue (s : State) (o : Out) : SameQueue s (s.keepQueue o) := by
  cases o with
  | next u => rintro t ⟨⟩; rfl
  | fault r => rintro t ⟨⟩
  | refused r => rintro t ⟨⟩

theorem SameQueue.keepTime (s : State) (o : Out) : SameQueue s (s.keepTime o) := by
  cases o with
  | next u => rintro t ⟨⟩; rfl
  | fault r => rintro t ⟨⟩
  | refused r => rintro t ⟨⟩

theorem SameQueue.ite {c : Prop} [Decidable c] {s : State} {o o' : Out} (h : SameQueue s o) (h' : SameQueue s o') :
    SameQueue s (if c then o else o') := by
  split
  · exact h
  · exact h'

theorem SameQueue.timed (s : State) (o : Out) : SameQueue s (s.whenLiveTimed o) := .ite (.keepQueue s o) (.next s)

theorem SameQueue.live (s : State) (o : Out) : SameQueue s (s.whenLive o) := .ite (.keepTime s o) (.next s)

theorem SameQueue.guarded {s : State} {o : Out} (h : Guarded s o) : SameQueue s o := by
  obtain ⟨o', rfl⟩ | ⟨o', rfl⟩ := h
  · exact .live s o'
  · exact .keepTime s o'

/-- Every command runs under a guard that puts the queue back. -/
theorem exec_sameQueue (c : Instr) (s : State) : SameQueue s (exec c s) := by
  by_cases hc : movesTime c = false
  · exact .guarded (exec_guarded c s hc)
  · cases c with
    | gridTickBoundary | sheetBoundary | operatingSecond | datumOrderedStart | startRetry | warmRestartDone => exact .timed s _
    | vinValid | railsReady | vinLoss | resetNAssert | resetNRelease | romBootDone => exact .keepQueue s _
    | _ => exact absurd rfl hc

theorem step_empty {s : State} (h : s.pending = []) : step s = .next s := by
  unfold step
  rw [h]

theorem step_front {s : State} {c : Instr} {rest : List Instr} (h : s.pending = c :: rest) :
    step s = exec c { s with pending := rest } := by
  unfold step
  rw [h]

/-- Settles O1: the step reads the front of the queue. -/
theorem stepRunsFrontCommand : Obligations.StepRunsFrontCommand := fun _ _ _ h => step_front h

theorem step_pending {s t : State} (h : step s = .next t) : t.pending = s.pending.tail := by
  cases hp : s.pending with
  | nil =>
    rw [step_empty hp] at h
    cases h
    exact hp
  | cons c rest =>
    rw [step_front hp] at h
    exact exec_sameQueue c _ t h

/-- Settles O2: every command puts the queue back (`exec_sameQueue`), so a step takes its front command and no other. -/
theorem stepConsumesOneCommand : Obligations.StepConsumesOneCommand :=
  ⟨exec_sameQueue, fun _ _ h => step_pending h, fun _ h => step_empty h⟩

/-! ### A device that is stopped -/

/-- The rows of a working device run under `whenLive` or `whenLiveTimed`, which leave a stopped device as it is. -/
theorem exec_stopped (c : Instr) {s : State} (hc : worksStopped c = false) (ha : s.alive = false) : exec c s = .next s := by
  have hn : ¬ s.alive = true := by rw [ha]; decide
  cases c
  case vinValid | railsReady | vinLoss | resetNAssert | resetNRelease | romBootDone | perstNAssert | perstNDeassert | pciLink
      | linkL0Return | cxReqAssert | cxReqDeassert | insetSel | insetRead | insetStat | extest | samplePreload | bypass
      | testLogicReset | alertPulseEnd => cases hc
  all_goals exact if_neg hn

/-- Settles O7: a row off the list of `worksStopped` runs only on a device that works (`exec_stopped`). -/
theorem stoppedDeviceIsInert : Obligations.StoppedDeviceIsInert := fun c _ hc ha => exec_stopped c hc ha

end Sys2Proof.Machine

/-!
SUPPORT. Proofs about the test access port: what each of its instructions shifts out and drives.
-/

namespace Sys2Proof.Machine

-- The option has the proofs elaborated one after another, not beside the tests above: the two together exceed the check's memory.
set_option deprecated.oldSectionVars true

/-! ### The instructions of the test access port (R350, R373) -/

/-- A TAP instruction that shifts the bits of a chosen port state out: nothing but the port and what it shifts out changes. -/
def State.shifted (s : State) (tap : Tap) (tdo : List Bool) : State := { s with tap := tap, out := { s.out with tdo := tdo } }

/-- A row of the port with one effect in FROZEN and another out of it. -/
theorem exec_port {c : Instr} {s u v : State} {p : Prop} [Decidable p] (e : exec c s = s.keepTime (.next (if p then u else v)))
    (hu : u.putBack s = u) (hv : v.putBack s = v) : (p → exec c s = .next u) ∧ (¬ p → exec c s = .next v) := by
  refine ⟨fun h => ?_, fun h => ?_⟩
  · rw [if_pos h] at e
    rw [exec_pin e, hu]
  · rw [if_neg h] at e
    rw [exec_pin e, hv]

theorem insetSel_shifts (region : Fin 256) (word : Nat) (s : State) : ∃ t, exec (.insetSel region word) s = .next t ∧
    t = { s with tap := t.tap, out := { s.out with tdo := [] } } ∧ t.tap.ir = 0xC0 ∧ t.tap.driving = false ∧
    (s.start.frozen = true → t.tap.region = region.val ∧ t.tap.word = word % 2 ^ 32) ∧
    (s.start.frozen = false → t.tap.region = s.tap.region ∧ t.tap.word = s.tap.word) := by
  have e := exec_port (c := .insetSel region word) (s := s) (p := s.start.frozen = true)
    (u := s.shifted { s.tap with ir := 0xC0, driving := false, region := region, word := word % 2 ^ 32 } [])
    (v := s.shifted { s.tap with ir := 0xC0, driving := false } []) rfl rfl rfl
  cases hf : s.start.frozen with
  | true => exact ⟨_, e.1 hf, rfl, rfl, rfl, fun _ => ⟨rfl, rfl⟩, nofun⟩
  | false => exact ⟨_, e.2 (by rw [hf]; decide), rfl, rfl, rfl, nofun, fun _ => ⟨rfl, rfl⟩⟩

theorem wordBits_zero : wordBits 0 = List.replicate 32 false := by decide

theorem insetRead_shifts (raw : Word) (ue : Bool) (s : State) : ∃ t, exec (.insetRead raw ue) s = .next t ∧
    t = { s with tap := t.tap, out := { s.out with tdo := t.out.tdo } } ∧ t.tap.ir = 0xC1 ∧
    (s.start.frozen = true → t.out.tdo = wordBits (s.insetWord raw) ∧ t.tap.word = (s.tap.word + 1) % 2 ^ 32 ∧
      t.tap.bad = min (s.tap.bad + b2n ue) 65535) ∧
    (s.start.frozen = false → t.out.tdo = List.replicate 32 false ∧ t.tap.word = s.tap.word) := by
  have e := exec_port (c := .insetRead raw ue) (s := s) (p := s.start.frozen = true)
    (u := s.shifted { s.tap with ir := 0xC1, driving := false, word := (s.tap.word + 1) % 2 ^ 32,
                                 bad := min (s.tap.bad + b2n ue) 65535 } (wordBits (s.insetWord raw)))
    (v := s.shifted { s.tap with ir := 0xC1, driving := false } (wordBits 0)) rfl rfl rfl
  cases hf : s.start.frozen with
  | true => exact ⟨_, e.1 hf, rfl, rfl, fun _ => ⟨rfl, rfl, rfl⟩, nofun⟩
  | false => exact ⟨_, e.2 (by rw [hf]; decide), rfl, rfl, nofun, fun _ => ⟨wordBits_zero, rfl⟩⟩

theorem insetStat_shifts (s : State) : ∃ t, exec .insetStat s = .next t ∧
    t = { s with tap := t.tap, out := { s.out with tdo := t.out.tdo } } ∧ t.tap.ir = 0xC2 ∧
    (s.start.frozen = true → t.out.tdo = wordBits (wd (2 ^ 31 + b2n (regionWords s.tap.region != 0) * 2 ^ 30 + s.tap.bad))) ∧
    (s.start.frozen = false → t.out.tdo = List.replicate 32 false) := by
  have e : exec .insetStat s = .next (s.shifted { s.tap with ir := 0xC2, driving := false }
    (wordBits (if s.start.frozen then wd (2 ^ 31 + b2n (regionWords s.tap.region != 0) * 2 ^ 30 + s.tap.bad) else 0))) := rfl
  refine ⟨_, e, rfl, rfl, fun hf => congrArg wordBits (if_pos hf), fun hf => ?_⟩
  exact (congrArg wordBits (if_neg (by rw [hf]; decide))).trans wordBits_zero

theorem extest_shifts (pins data : List Bool) (s : State) : ∃ t, exec (.extest pins data) s = .next t ∧
    t = { s with tap := t.tap, out := { s.out with tdo := t.out.tdo } } ∧
    (s.start.frozen = true ∨ s.start.inReset = true → t.tap.ir = 0 ∧ t.out.tdo = pins ∧ t.tap.scan = data ∧ t.tap.driving = true) ∧
    (s.start.frozen = false → s.start.inReset = false → t.tap.ir = 0xFF ∧ t.out.tdo = bypassed data ∧ t.tap.driving = false) := by
  have e := exec_port (c := .extest pins data) (s := s) (p := s.start.frozen = true ∨ s.start.inReset = true)
    (u := s.shifted { s.tap with ir := 0, driving := true, scan := data } pins)
    (v := s.shifted { s.tap with ir := 0xFF, driving := false } (bypassed data)) rfl rfl rfl
  by_cases h : s.start.frozen = true ∨ s.start.inReset = true
  · exact ⟨_, e.1 h, rfl, fun _ => ⟨rfl, rfl, rfl, rfl⟩, fun hf hr => by simp [hf, hr] at h⟩
  · exact ⟨_, e.2 h, rfl, fun h' => absurd h' h, fun _ _ => ⟨rfl, rfl, rfl⟩⟩

/-- Settles O60: each row leaves `State.shifted`, in FROZEN and out of it as the lemma of the row says. -/
theorem testPortShifts : Obligations.TestPortShifts :=
  ⟨insetSel_shifts, insetRead_shifts, insetStat_shifts, extest_shifts, fun _ _ _ => rfl, fun _ _ => rfl, fun _ => rfl⟩

end Sys2Proof.Machine

/-!
SUPPORT. Proofs about the host link: which pins take it up and down, and that no mailbox moves with it.
-/

namespace Sys2Proof.Machine

-- The option has the proofs elaborated one after another, not beside the tests above: the two together exceed the check's memory.
set_option deprecated.oldSectionVars true

/-! ### The link goes down (R301, R370) -/

/-- `t` has the host port and the mailboxes of `s`. -/
structure SameLink (s t : State) : Prop where
  pci : t.pci = s.pci
  mbox : t.mbox = s.mbox

/-- The chain taken from its end. -/
theorem SameLink.after {s t u : State} (k : SameLink t u) (h : SameLink s t) : SameLink s u :=
  ⟨k.pci.trans h.pci, k.mbox.trans h.mbox⟩

theorem SameLink.of_raised {s t : State} (h : OnlyRaised s t) : SameLink s t := ⟨h.pci, h.mbox⟩

/-- The link shown down: no width and no speed. -/
def State.showDown (s : State) : State := (s.set Fd.PCI_LNK_STAT_WIDTH 0).set Fd.PCI_LNK_STAT_SPEED 0

theorem set_sameLink (s : State) (f : Fld) (v i j : Nat) : SameLink s (s.set f v i j) := ⟨rfl, rfl⟩

theorem setB_sameLink (s : State) (f : Fld) (v : Bool) (i j : Nat) : SameLink s (s.setB f v i j) := ⟨rfl, rfl⟩

theorem addSat_sameLink (s : State) (f : Fld) (n i j : Nat) : SameLink s (s.addSat f n i j) := ⟨rfl, rfl⟩

theorem showDown_sameLink (s : State) : SameLink s s.showDown := (set_sameLink ..).after (set_sameLink ..)

theorem dropHost_sameLink (s : State) : SameLink s s.dropHost := (addSat_sameLink ..).after ⟨rfl, rfl⟩

theorem dropHostInFlight_sameLink (s : State) : SameLink s s.dropHostInFlight := by
  unfold State.dropHostInFlight
  split
  · exact .after (setB_sameLink ..) (.after (.of_raised (pulse_raised _ (by decide))) (.after (dropHost_sameLink _) ⟨rfl, rfl⟩))
  · exact ⟨rfl, rfl⟩

theorem putBack_sameLink (u s : State) : SameLink u (u.putBack s) := ⟨rfl, rfl⟩

/-- The state with its host port replaced. -/
def State.withPort (s : State) (p : PciPort) : State := { s with pci := p }

theorem withPort_mbox (s : State) (p : PciPort) : (s.withPort p).mbox = s.mbox := rfl

theorem withPort_pci (s : State) (p : PciPort) : (s.withPort p).pci = p := rfl

theorem withPort_get (s : State) (p : PciPort) (f : Fld) (i j : Nat) : (s.withPort p).get f i j = s.get f i j := rfl

theorem exec_perstNAssert (s : State) : exec .perstNAssert s =
    s.keepTime (.next (s.resetPci.dropHostInFlight.withPort { perst := true, l0 := false, master := false })) := rfl

theorem perstNAssert_drops (s : State) :
    ∃ t, exec .perstNAssert s = .next t ∧ t.pci = { perst := true, l0 := false, master := false } ∧ t.mbox = s.mbox := by
  have hp := putBack_sameLink (s.resetPci.dropHostInFlight.withPort { perst := true, l0 := false, master := false }) s
  refine ⟨_, exec_pin (exec_perstNAssert s), hp.pci.trans (withPort_pci ..), hp.mbox.trans ((withPort_mbox ..).trans ?_)⟩
  rw [(dropHostInFlight_sameLink _).mbox]
  rfl

/-- The link out of L0. -/
def State.unlinked (s : State) : State := { s with pci := { s.pci with l0 := false } }

theorem showDown_width (s : State) : s.showDown.get Fd.PCI_LNK_STAT_WIDTH = 0 := by
  rw [State.showDown, get_set_field _ Fd.PCI_LNK_STAT_SPEED Fd.PCI_LNK_STAT_WIDTH _ 0 0 rfl (by unfold Fld.fits; decide) (by decide),
    get_set_same _ _ _ _ _ (by unfold Fld.fits; decide), Nat.zero_mod]

theorem showDown_speed (s : State) : s.showDown.get Fd.PCI_LNK_STAT_SPEED = 0 := by
  rw [State.showDown, get_set_same _ _ _ _ _ (by unfold Fld.fits; decide), Nat.zero_mod]

theorem exec_pciLink (s : State) : exec .pciLink s = s.keepTime (.next (
    if s.pci.l0 = true then s.unlinked.dropHostInFlight.showDown.pulse 290 else s)) := rfl

theorem pciLink_drops (s : State) : ∃ t, exec .pciLink s = .next t ∧ (s.pci.l0 = true → t.pci = { s.pci with l0 := false } ∧
      t.get Fd.PCI_LNK_STAT_WIDTH = 0 ∧ t.get Fd.PCI_LNK_STAT_SPEED = 0 ∧ t.mbox = s.mbox) ∧ (s.pci.l0 = false → t = s) := by
  have hr := pulse_raised s.unlinked.dropHostInFlight.showDown (src := 290) (by decide)
  have hv := (SameLink.of_raised hr).after ((showDown_sameLink _).after (dropHostInFlight_sameLink s.unlinked))
  obtain ⟨t, e, hu, hs⟩ := exec_pinWhere (exec_pciLink s)
  refine ⟨t, e, fun hl => ?_, fun hl => hs (by rw [hl]; decide)⟩
  rw [hu hl]
  have hv := (putBack_sameLink _ s).after hv
  refine ⟨hv.pci, ?_, ?_, hv.mbox⟩
  · rw [putBack_get, hr.get _ _ _ (by decide), showDown_width]
  · rw [putBack_get, hr.get _ _ _ (by decide), showDown_speed]

/-! ### The link comes up -/

/-- The link in L0 with a width and a speed shown. -/
def State.inL0 (s : State) (width speed : Nat) (master : Bool) : State :=
  ((s.set Fd.PCI_LNK_STAT_WIDTH width).set Fd.PCI_LNK_STAT_SPEED speed).withPort { perst := false, l0 := true, master := master }

section
variable (width speed : Fin 5) (master : Bool) (s : State)

theorem linkUp_legal (hw : width.val ≠ 0) (h3 : width.val ≠ 3) (hs : speed.val ≠ 0) :
    s.linkUp width speed master = s.inL0 width speed master := if_neg (by omega)

theorem inL0_width : (s.inL0 width speed master).get Fd.PCI_LNK_STAT_WIDTH = width.val := by
  rw [State.inL0, withPort_get, get_set_field _ Fd.PCI_LNK_STAT_SPEED Fd.PCI_LNK_STAT_WIDTH _ 0 0 rfl (by unfold Fld.fits; decide)
    (by decide), get_set_same _ _ _ _ _ (by unfold Fld.fits; decide)]
  exact Nat.mod_eq_of_lt (Nat.lt_trans width.isLt (by decide))

theorem inL0_speed : (s.inL0 width speed master).get Fd.PCI_LNK_STAT_SPEED = speed.val := by
  rw [State.inL0, withPort_get, get_set_same _ _ _ _ _ (by unfold Fld.fits; decide)]
  exact Nat.mod_eq_of_lt (Nat.lt_trans speed.isLt (by decide))

/-- A link trained, as the two rows that train it show it. -/
def Trained (t : State) : Prop := t.pci = { perst := false, l0 := true, master := master } ∧
  t.get Fd.PCI_LNK_STAT_WIDTH = width.val ∧ t.get Fd.PCI_LNK_STAT_SPEED = speed.val

theorem inL0_trained : Trained width speed master ((s.inL0 width speed master).putBack s) :=
  ⟨(putBack_sameLink ..).pci.trans (withPort_pci ..), (putBack_get ..).trans (inL0_width width speed master s),
    (putBack_get ..).trans (inL0_speed width speed master s)⟩

variable (hw : width.val ≠ 0) (h3 : width.val ≠ 3) (hs : speed.val ≠ 0)
include hw h3 hs

theorem perstNDeassert_trains : ∃ t, exec (.perstNDeassert width speed master) s = .next t ∧
    (s.pci.perst = true → s.start.good = true → s.start.inReset = false → Trained width speed master t) ∧
    (s.pci.perst = false → t = s) := by
  have e : exec (.perstNDeassert width speed master) s = s.keepTime (.next (
      if s.pci.perst = true ∧ s.start.good = true ∧ s.start.inReset = false then s.linkUp width speed master else s)) := rfl
  rw [linkUp_legal width speed master s hw h3 hs] at e
  obtain ⟨t, e, hu, hn⟩ := exec_pinWhere e
  refine ⟨t, e, fun hp hg hr => ?_, fun hp => hn fun h => by rw [hp] at h; cases h.1⟩
  rw [hu ⟨hp, hg, hr⟩]
  exact inL0_trained width speed master s

theorem linkL0Return_trains : ∃ t, exec (.linkL0Return width speed master) s = .next t ∧
    (s.pci.perst = false → s.pci.l0 = false → Trained width speed master t) ∧
    (s.pci.perst = true ∨ s.pci.l0 = true → t = s) := by
  have e : exec (.linkL0Return width speed master) s = s.keepTime (.next (
      if s.pci.perst = true ∨ s.pci.l0 = true then s else s.linkUp width speed master)) := rfl
  rw [linkUp_legal width speed master s hw h3 hs, ← ite_not] at e
  obtain ⟨t, e, hu, hn⟩ := exec_pinWhere e
  refine ⟨t, e, fun hp hl => ?_, fun h => hn (not_not_intro h)⟩
  rw [hu (by rw [hp, hl]; decide)]
  exact inL0_trained width speed master s

end

/-- Settles O59: the rows that drop the link keep what `SameLink` names, those that train it leave it `Trained`. -/
theorem hostLinkFollowsPins : Obligations.HostLinkFollowsPins :=
  ⟨perstNAssert_drops, fun width speed master s hw h3 hs => perstNDeassert_trains width speed master s hw h3 hs, pciLink_drops,
    fun width speed master s hw h3 hs => linkL0Return_trains width speed master s hw h3 hs⟩

end Sys2Proof.Machine

/-!
SUPPORT. Proofs about the state at reset.
-/

namespace Sys2Proof.Machine

-- The option has the proofs elaborated one after another, not beside the tests above: the two together exceed the check's memory.
set_option deprecated.oldSectionVars true

/-- A store that lists nothing reads every register at its reset value. -/
theorem reg_of_empty {s : State} (h : s.csr = []) (off : Nat) : s.reg off = wd (resetAt off) := by
  rw [State.reg, h, mapGet]

theorem storeCanonical_of_empty {s : State} (h : s.csr = []) : s.StoreCanonical := by
  rw [State.StoreCanonical, h]
  exact ⟨rfl, fun p hp => absurd hp List.not_mem_nil⟩

theorem mb_of_empty {s : State} (h : s.mbox = []) (k : Nat) : s.mb k = Mailbox.reset := by rw [State.mb, h, mapGet]

theorem reset_kept : State.reset.time.Kept := ⟨le_refl _, Nat.zero_le _, Nat.zero_le _⟩

/-- Settles O8: the store and the mailboxes list nothing at reset, so each reads its reset value. -/
theorem resetLeaves : Obligations.ResetLeaves := by
  refine ⟨rfl, rfl, rfl, reset_kept, storeCanonical_of_empty rfl, reg_of_empty rfl, rfl, fun k => ?_⟩
  rw [mb_of_empty rfl]
  exact ⟨rfl, rfl, rfl⟩

end Sys2Proof.Machine

/-!
SUPPORT. Proofs about the mailbox pages: rings and acknowledgements, the copy of CMD, the posting of responses and notifications, and the
tokens that these rows move.
-/

namespace Sys2Proof.Machine

-- The option has the proofs elaborated one after another, not beside the tests above: the two together exceed the check's memory.
set_option deprecated.oldSectionVars true

/-! ### DOORBELL_RING (R253) -/

/-- Events, records and notifications raised on the way to a mailbox's new contents. -/
theorem OnlyRaised.thenSetMb {s u : State} (h : OnlyRaised s u) (m : Nat) (b : Mailbox) :
    OnlyRaised { s with mbox := (u.setMb m b).mbox } (u.setMb m b) :=
  ⟨congrArg (fun x : State => { x with mbox := (u.setMb m b).mbox }) h.part, h.regs⟩

/-- A mailbox after a ring that was accepted, or was not. -/
def State.rung (s : State) (m : Nat) : Mailbox :=
  if s.ringAccepted m then { s.mb m with
    tokens := (s.mb m).tokens - 1
    queued := (s.mb m).queued + 1
    acceptCnt := (s.mb m).acceptCnt + 1
    cmdBusy := true
    copyLevel := s.get Fd.MBX_MBCFG_LEVEL m
    copyAt := s.time.gt
    copyBook := s.book.nextSeq }
  else { s.mb m with dbOvf := true }

theorem ring_eq (s : State) (m : Nat) :
    s.ring m = (s.count 2 0 (if s.ringAccepted m then 0x10 else 0x12) 1).setMb m (s.rung m) := by
  unfold State.ring State.rung
  cases s.ringAccepted m <;> rfl

/-- R253's conditions for the acceptance of a ring. -/
theorem ringAccepted_iff (s : State) (mb : Fin 20) : s.ringAccepted mb = true ↔ 1 ≤ (s.mb mb).tokens ∧ (s.mb mb).cmdBusy = false ∧
    s.getB Fd.MBX_MBCFG_EN mb = true ∧ mb ≠ 15 ∧ (s.mb mb).owesReset = false := by
  have h15 : mb ≠ 15 ↔ mb.val ≠ 15 := not_congr Fin.ext_iff
  rw [h15]
  simp only [State.ringAccepted, Bool.and_eq_true, decide_eq_true_eq, Bool.not_eq_true', bne_iff_ne, and_assoc]

section
variable {mb : Fin 20} {s : State}

theorem doorbellRing_next (hs : s.alive = true) : exec (.doorbellRing mb) s = .next (s.ring mb) := by
  have hr := count_raised s 2 0 (if s.ringAccepted mb then 0x10 else 0x12) 1 EventAttr.bare
  have e : exec (.doorbellRing mb) s = s.whenLive (.next (s.ring mb)) := rfl
  rw [ring_eq] at e ⊢
  rw [exec_next hs e, putBack_self ((State.setMb_time ..).trans hr.time) ((State.setMb_pending ..).trans hr.pending)]

theorem ring_box (m : Nat) : (s.ring m).mb m = s.rung m := by rw [ring_eq, mb_setMb_same]

theorem ring_other {m k : Nat} (h : k ≠ m) : (s.ring m).mb k = s.mb k := by
  rw [ring_eq, mb_setMb_other _ _ h, (count_raised ..).mb]

theorem ring_raised (m : Nat) : OnlyRaised { s with mbox := (s.ring m).mbox } (s.ring m) := by
  rw [ring_eq]
  exact (count_raised ..).thenSetMb m _

theorem rung_accepted {m : Nat} (h : s.ringAccepted m = true) :
    (s.rung m).tokens = (s.mb m).tokens - 1 ∧ (s.rung m).queued = (s.mb m).queued + 1 ∧
      (s.rung m).acceptCnt = (s.mb m).acceptCnt + 1 ∧ (s.rung m).cmdBusy = true ∧ (s.rung m).dbOvf = (s.mb m).dbOvf := by
  rw [State.rung, if_pos h]
  exact ⟨rfl, rfl, rfl, rfl, rfl⟩

theorem rung_refused {m : Nat} (h : ¬ s.ringAccepted m = true) : s.rung m = { s.mb m with dbOvf := true } := if_neg h

theorem doorbellRing_moves (mb : Fin 20) (s : State) (hs : s.alive = true) : ∃ t, exec (.doorbellRing mb) s = .next t ∧
    (1 ≤ (s.mb mb).tokens → (s.mb mb).cmdBusy = false → s.getB Fd.MBX_MBCFG_EN mb = true → mb ≠ 15 → (s.mb mb).owesReset = false →
      (t.mb mb).tokens + 1 = (s.mb mb).tokens ∧ (t.mb mb).queued = (s.mb mb).queued + 1 ∧
        (t.mb mb).acceptCnt = (s.mb mb).acceptCnt + 1 ∧ (t.mb mb).cmdBusy = true ∧ (t.mb mb).dbOvf = (s.mb mb).dbOvf) ∧
    (¬ (1 ≤ (s.mb mb).tokens ∧ (s.mb mb).cmdBusy = false ∧ s.getB Fd.MBX_MBCFG_EN mb = true ∧ mb ≠ 15 ∧ (s.mb mb).owesReset = false) →
      t.mb mb = { s.mb mb with dbOvf := true }) ∧
    (∀ k, k ≠ mb.val → t.mb k = s.mb k) ∧ OnlyRaised { s with mbox := t.mbox } t := by
  refine ⟨_, doorbellRing_next hs, fun h1 h2 h3 h4 h5 => ?_, fun hn => ?_, fun k hk => ring_other hk, ring_raised mb⟩
  · obtain ⟨ht, hr⟩ := rung_accepted ((ringAccepted_iff s mb).2 ⟨h1, h2, h3, h4, h5⟩)
    rw [ring_box]
    exact ⟨by omega, hr⟩
  · rw [ring_box, rung_refused fun h => hn ((ringAccepted_iff s mb).1 h)]

/-! ### DOORBELL_ACK (R254) -/

/-- A mailbox after an acknowledgement. -/
def State.acked (s : State) (m : Nat) : Mailbox :=
  if (s.mb m).rspValid then
    if m = 15 then { s.mb m with rspValid := false }
    else { s.mb m with rspValid := false, queued := (s.mb m).queued - 1, tokens := (s.mb m).tokens + 1 }
  else { s.mb m with dbOvf := true }

theorem ack_eq (s : State) (m : Nat) : s.ack m = s.setMb m (s.acked m) := by
  simp only [State.ack, State.acked, apply_ite (s.setMb m)]

theorem doorbellAck_next (hs : s.alive = true) : exec (.doorbellAck mb) s = .next (s.setMb mb (s.acked mb)) := by
  have e : exec (.doorbellAck mb) s = s.whenLive (.next (s.ack mb)) := rfl
  rw [ack_eq] at e
  exact exec_next hs e

theorem acked_empty {m : Nat} (h : (s.mb m).rspValid = false) : s.acked m = { s.mb m with dbOvf := true } :=
  if_neg (by rw [h]; decide)

theorem acked_notice (h : (s.mb 15).rspValid = true) : s.acked 15 = { s.mb 15 with rspValid := false } := by
  rw [State.acked, if_pos h, if_pos rfl]

theorem acked_response {m : Nat} (h : (s.mb m).rspValid = true) (hm : m ≠ 15) :
    s.acked m = { s.mb m with rspValid := false, queued := (s.mb m).queued - 1, tokens := (s.mb m).tokens + 1 } := by
  rw [State.acked, if_pos h, if_neg hm]

theorem doorbellAck_moves (mb : Fin 20) (s : State) (hs : s.alive = true) : ∃ t, exec (.doorbellAck mb) s = .next t ∧
    ((s.mb mb).rspValid = true → (t.mb mb).rspValid = false ∧
      (mb ≠ 15 → (t.mb mb).tokens = (s.mb mb).tokens + 1 ∧ (t.mb mb).queued = (s.mb mb).queued - 1) ∧
      (mb = 15 → (t.mb mb).tokens = (s.mb mb).tokens ∧ (t.mb mb).queued = (s.mb mb).queued)) ∧
    ((s.mb mb).rspValid = false → t.mb mb = { s.mb mb with dbOvf := true }) ∧
    t = { s with mbox := t.mbox } ∧ ∀ k, k ≠ mb.val → t.mb k = s.mb k := by
  refine ⟨_, doorbellAck_next hs, fun hv => ?_, fun hv => ?_, rfl, fun k hk => mb_setMb_other s _ hk⟩
  · rw [mb_setMb_same]
    by_cases hm : mb = 15
    · subst hm
      rw [show s.acked (15 : Fin 20) = _ from acked_notice hv]
      exact ⟨rfl, fun h => absurd rfl h, fun _ => ⟨rfl, rfl⟩⟩
    · rw [acked_response hv fun h => hm (Fin.ext h)]
      exact ⟨rfl, fun _ => ⟨rfl, rfl⟩, fun h => absurd h hm⟩
  · rw [mb_setMb_same, acked_empty hv]

end

/-- Settles O9: a ring leaves `State.rung`, an acknowledgement `State.acked`. -/
theorem doorbellsMoveTokens : Obligations.DoorbellsMoveTokens := ⟨doorbellRing_moves, doorbellAck_moves⟩

/-! ### CMD_COPY_DONE (R253) -/

/-- The command that CMD spells, in the queue. -/
def State.copyDone (s : State) (m : Nat) : State :=
  s.setMb m { s.mb m with cmdBusy := false, queue := (s.mb m).queue ++ [(s.mb m).copied] }

theorem drainUndefined_defined {s : State} {m : Nat} (h : ∀ c ∈ (s.mb m).queue, opcodeDefined c.opcode = true) (k : Nat) :
    s.drainUndefined k m = s := by
  cases k with
  | zero => rfl
  | succ k =>
    rw [State.drainUndefined]
    split
    · next c ho => rw [h c (List.mem_of_find?_eq_some ho), Bool.true_or, if_pos rfl]
    · rfl

section
variable {mb : Fin 20} {s : State}

theorem exec_cmdCopyDone (hb : (s.mb mb).cmdBusy = true) :
    exec (.cmdCopyDone mb) s = s.whenLive (.next ((s.copyDone mb).drainUndefined 4 mb)) := congrArg s.whenLive (if_pos hb)

theorem OnlyAnswered.tokens {m : Nat} {s t : State} (h : OnlyAnswered m s t) :
    (t.mb m).tokens = (s.mb m).tokens := (congrArg (fun b : Mailbox => b.tokens) h.box : _)

theorem OnlyAnswered.queued {m : Nat} {s t : State} (h : OnlyAnswered m s t) :
    (t.mb m).queued = (s.mb m).queued := (congrArg (fun b : Mailbox => b.queued) h.box : _)

theorem OnlyAnswered.cmdBusy {m : Nat} {s t : State} (h : OnlyAnswered m s t) :
    (t.mb m).cmdBusy = (s.mb m).cmdBusy := (congrArg (fun b : Mailbox => b.cmdBusy) h.box : _)

theorem cmdCopyDone_enters (mb : Fin 20) (s : State) (hs : s.alive = true) (hb : (s.mb mb).cmdBusy = true) :
    ∃ t, exec (.cmdCopyDone mb) s = .next t ∧ (t.mb mb).cmdBusy = false ∧ (t.mb mb).tokens = (s.mb mb).tokens ∧
    (t.mb mb).queued = (s.mb mb).queued ∧
    ((∀ c ∈ (s.mb mb).queue ++ [(s.mb mb).copied], opcodeDefined c.opcode = true) →
      (t.mb mb).queue = (s.mb mb).queue ++ [(s.mb mb).copied] ∧ (t.mb mb).waiting = (s.mb mb).waiting) := by
  have hd := drainUndefined_answered 4 (s.copyDone mb) mb
  refine ⟨_, exec_next hs (exec_cmdCopyDone hb), ?_, ?_, ?_, fun hdef => ?_⟩
  · rw [putBack_mb, hd.cmdBusy, State.copyDone, mb_setMb_same]
  · rw [putBack_mb, hd.tokens, State.copyDone, mb_setMb_same]
  · rw [putBack_mb, hd.queued, State.copyDone, mb_setMb_same]
  · rw [putBack_mb, drainUndefined_defined (by rwa [State.copyDone, mb_setMb_same]), State.copyDone, mb_setMb_same]
    exact ⟨rfl, rfl⟩

end

/-! ### RESPONSE_POST (R254) -/

/-- `t` has the mailboxes of `s` but for the levels that wait, and the notifications of `s`. -/
structure SamePages (s t : State) : Prop where
  box : ∀ k, { t.mb k with levelPending := [] } = { s.mb k with levelPending := [] }
  notices : t.fw.notices = s.fw.notices

/-- The chain taken from its end. -/
theorem SamePages.after {s t u : State} (k : SamePages t u) (h : SamePages s t) : SamePages s u :=
  ⟨fun n => (k.box n).trans (h.box n), k.notices.trans h.notices⟩

theorem SamePages.refl (s : State) : SamePages s s := ⟨fun _ => rfl, rfl⟩

theorem SamePages.ite {c : Prop} [Decidable c] {s t u : State} (h : SamePages s t) (k : SamePages s u) :
    SamePages s (if c then t else u) := by
  split
  · exact h
  · exact k

theorem addCounter_fw (s : State) (i n : Nat) : (s.addCounter i n).fw = s.fw := by
  unfold State.addCounter
  simp -implicitDefEqProofs only [apply_ite State.fw, State.setB_fw, ite_self]

theorem count_fw (s : State) (b i c n : Nat) (a : EventAttr) : (s.count b i c n a).fw = s.fw := by
  unfold State.count
  split
  · rfl
  · refine forEach_keeps State.fw _ _ (fun u e => ⟨?_⟩) s
    rw [apply_ite State.fw, addCounter_fw, ite_self]

theorem count_samePages (s : State) (b i c n : Nat) (a : EventAttr) : SamePages s (s.count b i c n a) :=
  ⟨fun k => by rw [(count_raised ..).mb], congrArg Firmware.notices (count_fw ..)⟩

theorem set_samePages (s : State) (f : Fld) (v i j : Nat) : SamePages s (s.set f v i j) := ⟨fun _ => rfl, rfl⟩

theorem addSat_samePages (s : State) (f : Fld) (n i j : Nat) : SamePages s (s.addSat f n i j) := ⟨fun _ => rfl, rfl⟩

theorem setPending_samePages (s : State) (m : Nat) (l : List (Nat × Nat × Nat)) :
    SamePages s (s.setMb m { s.mb m with levelPending := l }) := by
  refine ⟨fun k => ?_, rfl⟩
  by_cases hk : k = m
  · subst hk
    rw [mb_setMb_same]
  · rw [mb_setMb_other s _ hk]

theorem levelOnPost_samePages (s : State) (m tag : Nat) : SamePages s (s.levelOnPost m tag) := by
  unfold State.levelOnPost
  split
  · exact (set_samePages ..).after (setPending_samePages ..)
  · exact .refl s

theorem rspInterrupt_samePages (s : State) (m : Nat) : SamePages s (s.rspInterrupt m) := by
  unfold State.rspInterrupt
  exact .ite ⟨fun _ => rfl, rfl⟩ (.refl s)

section
variable {s t : State} (h : SamePages s t) (k : Nat)
include h

theorem SamePages.tokens : (t.mb k).tokens = (s.mb k).tokens := (congrArg (fun b : Mailbox => b.tokens) (h.box k) : _)
theorem SamePages.queued : (t.mb k).queued = (s.mb k).queued := (congrArg (fun b : Mailbox => b.queued) (h.box k) : _)
theorem SamePages.rsp : (t.mb k).rsp = (s.mb k).rsp := (congrArg (fun b : Mailbox => b.rsp) (h.box k) : _)
theorem SamePages.rspValid : (t.mb k).rspValid = (s.mb k).rspValid := (congrArg (fun b : Mailbox => b.rspValid) (h.box k) : _)
theorem SamePages.rspCnt : (t.mb k).rspCnt = (s.mb k).rspCnt := (congrArg (fun b : Mailbox => b.rspCnt) (h.box k) : _)
theorem SamePages.waiting : (t.mb k).waiting = (s.mb k).waiting := (congrArg (fun b : Mailbox => b.waiting) (h.box k) : _)

end

/-- A response copied into RSP. -/
def State.fillRsp (s : State) (m : Nat) (r : Response) (rest : List Response) : State :=
  s.setMb m { s.mb m with
    rsp := r.header :: r.payload
    rspValid := true
    rspCnt := (s.mb m).rspCnt + 1
    waiting := rest }

/-- What follows the copy into RSP: the count, the level that waits for it, the interrupt. -/
theorem postResponse_fills {s : State} {m : Nat} {r : Response} {rest : List Response} (hv : (s.mb m).rspValid = false)
    (h : takeFirst (fun r => decide (r.postAt ≤ s.time.gt)) (s.mb m).waiting = some (r, rest)) :
    SamePages (s.fillRsp m r rest) (s.postResponse m) := by
  have hn : ¬ (s.mb m).rspValid = true := by rw [hv]; decide
  unfold State.postResponse
  simp only [if_neg hn, h]
  refine (rspInterrupt_samePages ..).after ((levelOnPost_samePages ..).after ?_)
  exact .ite ((addSat_samePages ..).after (count_samePages ..)) (count_samePages ..)

/-- A notification copied into RSP of MB15. -/
def State.fillNotice (s : State) (n : Notification) (rest : List Notification) : State :=
  { s.setMb 15 { s.mb 15 with rsp := n.words s.fw.notices.lost, rspValid := true, rspCnt := (s.mb 15).rspCnt + 1 } with
    fw := { s.fw with notices := { s.fw.notices with queue := rest, lost := false } } }

theorem postNotice_fills {s : State} {n : Notification} {rest : List Notification} (hv : (s.mb 15).rspValid = false)
    (h : s.fw.notices.queue = n :: rest) : SamePages (s.fillNotice n rest) s.postNotice := by
  have hn : ¬ (s.mb 15).rspValid = true := by rw [hv]; decide
  unfold State.postNotice
  simp only [if_neg hn, h]
  exact (rspInterrupt_samePages ..).after (count_samePages ..)

theorem fillNotice_box (s : State) (n : Notification) (rest : List Notification) : (s.fillNotice n rest).mb 15 =
    { s.mb 15 with rsp := n.words s.fw.notices.lost, rspValid := true, rspCnt := (s.mb 15).rspCnt + 1 } := mb_setMb_same s 15 _

theorem exec_responsePost {mb : Fin 20} (s : State) (h : mb ≠ 15) :
    exec (.responsePost mb) s = s.whenLive (.next (s.postResponse mb)) := congrArg s.whenLive (if_neg h)

theorem exec_responsePost_notice (s : State) : exec (.responsePost 15) s = s.whenLive (.next s.postNotice) := rfl

theorem responsePost_fills (mb : Fin 20) (s : State) (r : Response) (rest : List Response) (hs : s.alive = true) (hm : mb ≠ 15)
    (hv : (s.mb mb).rspValid = false)
    (h : takeFirst (fun r => decide (r.postAt ≤ s.time.gt)) (s.mb mb).waiting = some (r, rest)) :
    ∃ t, exec (.responsePost mb) s = .next t ∧ (t.mb mb).rsp = r.header :: r.payload ∧ (t.mb mb).rspValid = true ∧
      (t.mb mb).rspCnt = (s.mb mb).rspCnt + 1 ∧ (t.mb mb).waiting = rest ∧ (t.mb mb).tokens = (s.mb mb).tokens := by
  have hp := postResponse_fills hv h
  have hf : (s.fillRsp mb r rest).mb mb = _ := mb_setMb_same s mb _
  refine ⟨_, exec_next hs (exec_responsePost s hm), ?_⟩
  rw [putBack_mb, hp.rsp, hp.rspValid, hp.rspCnt, hp.waiting, hp.tokens, hf]
  exact ⟨rfl, rfl, rfl, rfl, rfl⟩

theorem putBack_fw (u s : State) : (u.putBack s).fw = u.fw := rfl

theorem responsePost_fillsNotice (s : State) (n : Notification) (rest : List Notification) (hs : s.alive = true)
    (hv : (s.mb 15).rspValid = false) (h : s.fw.notices.queue = n :: rest) :
    ∃ t, exec (.responsePost 15) s = .next t ∧ (t.mb 15).rsp = n.words s.fw.notices.lost ∧ (t.mb 15).rspValid = true ∧
      (t.mb 15).rspCnt = (s.mb 15).rspCnt + 1 ∧ t.fw.notices.queue = rest ∧ t.fw.notices.lost = false := by
  have hp := postNotice_fills hv h
  refine ⟨_, exec_next hs (exec_responsePost_notice s), ?_⟩
  rw [putBack_mb, putBack_fw, hp.rsp, hp.rspValid, hp.rspCnt, hp.notices, fillNotice_box]
  exact ⟨rfl, rfl, rfl, rfl, rfl⟩

/-! ### NOTIFICATION_POST (R261) -/

/-- A notification at its posting time, in the queue of MB15. -/
def State.queueNotice (s : State) (n : Notification) (rest : List Notification) : State :=
  { s with fw := { s.fw with notices := { s.fw.notices with raised := rest, queue := s.fw.notices.queue ++ [n] } } }

theorem enqueueNotice_queues {s : State} {n : Notification} {rest : List Notification} (hq : s.fw.notices.queue.length < 64)
    (h : takeFirst (fun n => decide (n.postAt ≤ s.time.gt)) s.fw.notices.raised = some (n, rest)) :
    s.enqueueNotice = s.queueNotice n rest := by
  unfold State.enqueueNotice
  simp only [h]
  exact if_pos hq

theorem notificationPost_queues (s : State) (n : Notification) (rest : List Notification) (hs : s.alive = true)
    (hq : s.fw.notices.queue.length < 64)
    (h : takeFirst (fun n => decide (n.postAt ≤ s.time.gt)) s.fw.notices.raised = some (n, rest)) :
    ∃ t, exec .notificationPost s = .next t ∧ t.fw.notices.raised = rest ∧ t.fw.notices.queue = s.fw.notices.queue ++ [n] ∧
      t.csr = s.csr := by
  have e : exec .notificationPost s = s.whenLive (.next s.enqueueNotice) := rfl
  rw [enqueueNotice_queues hq h] at e
  exact ⟨_, exec_next hs e, rfl, rfl, rfl⟩

/-- Settles O10: a copied command is at the end of the queue (`drainUndefined_defined`); what a row posts is in RSP or in the queue of
MB15. -/
theorem commandsEnterAndResponsesPost : Obligations.CommandsEnterAndResponsesPost :=
  ⟨cmdCopyDone_enters, responsePost_fills, responsePost_fillsNotice, notificationPost_queues⟩

/-! ### The sum of tokens (R252, R301) -/

/-- The tokens of mailbox `k`, free and queued. -/
def State.tokenSum (s : State) (k : Nat) : Nat := (s.mb k).tokens + (s.mb k).queued

theorem tokenSum_setMb (s : State) (m k : Nat) (b : Mailbox) (h : b.tokens + b.queued = s.tokenSum m) :
    (s.setMb m b).tokenSum k = s.tokenSum k := by
  unfold State.tokenSum
  by_cases hk : k = m
  · subst hk
    rw [mb_setMb_same]
    exact h
  · rw [mb_setMb_other s b hk]

theorem OnlyRaised.tokenSum {s t : State} (h : OnlyRaised s t) (k : Nat) : t.tokenSum k = s.tokenSum k := by
  unfold State.tokenSum
  rw [h.mb]

theorem OnlyAnswered.tokenSum {m : Nat} {s t : State} (h : OnlyAnswered m s t) (k : Nat) : t.tokenSum k = s.tokenSum k := by
  unfold State.tokenSum
  by_cases hk : k = m
  · subst hk
    rw [h.tokens, h.queued]
  · rw [h.others k hk]

theorem SamePages.tokenSum {s t : State} (h : SamePages s t) (k : Nat) : t.tokenSum k = s.tokenSum k := by
  unfold State.tokenSum
  rw [h.tokens, h.queued]

theorem ring_tokenSum (s : State) (m k : Nat) : (s.ring m).tokenSum k = s.tokenSum k := by
  have hr := count_raised s 2 0 (if s.ringAccepted m then 0x10 else 0x12) 1 EventAttr.bare
  rw [ring_eq, tokenSum_setMb _ _ _ _ ?_, hr.tokenSum]
  rw [hr.tokenSum, State.tokenSum]
  by_cases h : s.ringAccepted m = true
  · obtain ⟨ht, hq, _⟩ := rung_accepted h
    have h1 : 1 ≤ (s.mb m).tokens := by
      simp only [State.ringAccepted, Bool.and_eq_true, decide_eq_true_eq] at h
      exact h.1.1.1.1
    omega
  · rw [rung_refused h]

/-- An acknowledgement returns the token that the posted response has out. -/
theorem acked_tokenSum (s : State) (m k : Nat) (h : (s.mb k).rspValid = true → k ≠ 15 → 1 ≤ (s.mb k).queued) :
    (s.setMb m (s.acked m)).tokenSum k = s.tokenSum k := by
  by_cases hk : k = m
  · subst hk
    refine tokenSum_setMb s k k _ ?_
    unfold State.tokenSum State.acked
    split_ifs with hv h15
    · rfl
    · have := h hv h15
      simp only []
      omega
    · rfl
  · rw [State.tokenSum, mb_setMb_other s _ hk, State.tokenSum]

theorem copyDone_tokenSum (s : State) (m k : Nat) : (s.copyDone m).tokenSum k = s.tokenSum k := tokenSum_setMb s m k _ rfl

theorem postResponse_tokenSum (s : State) (m k : Nat) : (s.postResponse m).tokenSum k = s.tokenSum k := by
  cases hv : (s.mb m).rspValid with
  | true => rw [State.postResponse, if_pos hv]
  | false =>
    cases h : takeFirst (fun r => decide (r.postAt ≤ s.time.gt)) (s.mb m).waiting with
    | none =>
      rw [State.postResponse]
      simp only [hv, Bool.false_eq_true, if_false, h]
    | some p =>
      rw [(postResponse_fills (r := p.1) (rest := p.2) hv h).tokenSum]
      exact tokenSum_setMb s m k _ rfl

theorem fillNotice_tokenSum (s : State) (n : Notification) (rest : List Notification) (k : Nat) :
    (s.fillNotice n rest).tokenSum k = s.tokenSum k := by
  refine Eq.trans ?_ (tokenSum_setMb s 15 k
    { s.mb 15 with rsp := n.words s.fw.notices.lost, rspValid := true, rspCnt := (s.mb 15).rspCnt + 1 } rfl)
  rfl

theorem postNotice_tokenSum (s : State) (k : Nat) : s.postNotice.tokenSum k = s.tokenSum k := by
  cases hv : (s.mb 15).rspValid with
  | true => rw [State.postNotice, if_pos hv]
  | false =>
    cases h : s.fw.notices.queue with
    | nil =>
      rw [State.postNotice]
      simp only [hv, Bool.false_eq_true, if_false, h]
    | cons n rest => rw [(postNotice_fills hv h).tokenSum, fillNotice_tokenSum]

/-- A row whose effect keeps the sum keeps it on a stopped device too. -/
theorem whenLive_tokenSum {i : Instr} {s t u : State} {k : Nat} (e : exec i s = s.whenLive (.next u)) (hu : u.tokenSum k = s.tokenSum k)
    (h : exec i s = .next t) : t.tokenSum k = s.tokenSum k := by
  cases hs : s.alive with
  | true =>
    rw [exec_next hs e] at h
    cases h
    exact hu
  | false =>
    rw [e, State.whenLive, if_neg (by rw [hs]; decide)] at h
    cases h
    rfl

theorem cmdCopyDone_tokenSum (mb : Fin 20) (s : State) (k : Nat) {t : State} (h : exec (.cmdCopyDone mb) s = .next t) :
    t.tokenSum k = s.tokenSum k := by
  cases hb : (s.mb mb).cmdBusy with
  | true =>
    exact whenLive_tokenSum (exec_cmdCopyDone hb) (((drainUndefined_answered ..).tokenSum k).trans (copyDone_tokenSum ..)) h
  | false =>
    have hn : ¬ (s.mb mb).cmdBusy = true := by rw [hb]; decide
    have e : exec (.cmdCopyDone mb) s = s.whenLive (.next s) := congrArg s.whenLive (if_neg hn)
    exact whenLive_tokenSum e rfl h

theorem responsePost_tokenSum (mb : Fin 20) (s : State) (k : Nat) {t : State} (h : exec (.responsePost mb) s = .next t) :
    t.tokenSum k = s.tokenSum k := by
  by_cases hm : mb = 15
  · subst hm
    exact whenLive_tokenSum (exec_responsePost_notice s) (postNotice_tokenSum s k) h
  · exact whenLive_tokenSum (exec_responsePost s hm) (postResponse_tokenSum s mb k) h

/-- Settles O11: each of the four rows keeps `State.tokenSum`. -/
theorem tokensConserved : Obligations.TokensConserved := by
  rintro mb k s t i hi hout h4 h
  refine Eq.trans (b := s.tokenSum k) ?_ h4
  rcases hi with rfl | rfl | rfl | rfl
  · exact whenLive_tokenSum (u := s.ring mb) rfl (ring_tokenSum s mb k) h
  · exact whenLive_tokenSum (u := s.ack mb) rfl (by rw [ack_eq, acked_tokenSum s mb k hout]) h
  · exact cmdCopyDone_tokenSum mb s k h
  · exact responsePost_tokenSum mb s k h

end Sys2Proof.Machine

/-!
SUPPORT. Proofs about the checks of R257: a command that fails one is answered and does nothing.
-/

namespace Sys2Proof.Machine

-- The option has the proofs elaborated one after another, not beside the tests above: the two together exceed the check's memory.
set_option deprecated.oldSectionVars true

/-! ### The checks before the payload, in their order (R257) -/

section
variable (s : State) (m : Nat) {c : Command} (level : Nat) (perm : Bool) (hd : opcodeDefined c.opcode = true)
include hd

theorem check_length (h : lengthOk c = false ∨ 63 < c.len) : s.checkCommand m c level perm = some 0x03 := by
  have hl : (!lengthOk c || decide (63 < c.len)) = true := by
    rcases h with h | h
    · rw [h, Bool.not_false, Bool.true_or]
    · rw [decide_eq_true h, Bool.or_true]
  simp only [State.checkCommand, hd, hl, Bool.not_true, Bool.false_eq_true, if_false, if_true]

variable (hl : lengthOk c = true) (h63 : c.len ≤ 63)
include hl h63

theorem check_flags (h : c.flags / 4 ≠ 0) : s.checkCommand m c level perm = some 0x04 := by
  simp only [State.checkCommand, hd, hl, decide_eq_false (Nat.not_lt.2 h63), Bool.not_true, Bool.or_self, Bool.false_eq_true, if_false,
    if_pos h]

theorem check_level (hf : c.flags / 4 = 0) (h : c.level < level) : s.checkCommand m c level perm = some 0x05 := by
  simp only [State.checkCommand, hd, hl, decide_eq_false (Nat.not_lt.2 h63), Bool.not_true, Bool.or_self, Bool.false_eq_true, if_false,
    hf, ne_eq, not_true_eq_false, if_pos h]

end

/-! ### A command row that refuses -/

/-- Row `i` takes the oldest command of mailbox `mb` where its opcode is `op`, and checks it at `level`. -/
def ChecksAt (mb : Nat) (i : Instr) (op level : Nat) : Prop :=
  ∃ (perm : State → Command → Bool) (body : State → Command → State), ∀ s, exec i s =
    s.whenLive (.next (s.runCommand mb op fun s c => s.checked mb c level (perm s c) fun s => body s c))

section
variable {s t : State} {mb op level : Nat} {i : Instr} {c : Command} (hs : s.alive = true) (hv : s.serves op = true)
  (hr : s.romServes mb = true) (ho : s.oldest mb = some c) (hop : c.opcode = op) (he : c.early = false)
include hs hv hr ho hop he

/-- What a check refuses is answered with its status, and nothing else happens. -/
theorem refused_row (hi : ChecksAt mb i op level) {st : Nat} (hc : ∀ perm, s.checkCommand mb c level perm = some st)
    (e : exec i s = .next t) : s.answers t mb c st [] ∧ OnlyAnswered mb s t := by
  obtain ⟨perm, body, hx⟩ := hi
  subst hop
  have hk : (s.startOldest mb).checkCommand mb (s.begun c) level (perm (s.startOldest mb) (s.begun c)) = some st :=
    (checkCommand_startOldest ..).trans (hc _)
  have hrow : s.runCommand mb c.opcode (fun s c => s.checked mb c level (perm s c) fun s => body s c) =
      ((s.startOldest mb).complete mb (s.begun c) st).drainUndefined 4 mb := by
    unfold State.runCommand
    simp only [hv, hr, ho, Bool.and_self, if_true]
    change State.drainUndefined 4 ((s.startOldest mb).checked mb (s.begun c) level (perm (s.startOldest mb) (s.begun c))
      fun u => body u (s.begun c)) mb = _
    unfold State.checked
    simp only [hk]
  obtain ⟨u, e', h⟩ := drained_answers hs he st ((hx s).trans (by rw [hrow]))
  rw [e] at e'
  cases e'
  exact h

theorem refuses_in_order (hi : ChecksAt mb i op level) (hd : opcodeDefined op = true) : ∃ t, exec i s = .next t ∧
    (lengthOk c = false ∨ 63 < c.len → s.answers t mb c 0x03 [] ∧ OnlyAnswered mb s t) ∧
    (lengthOk c = true → c.len ≤ 63 → c.flags / 4 ≠ 0 → s.answers t mb c 0x04 [] ∧ OnlyAnswered mb s t) ∧
    (lengthOk c = true → c.len ≤ 63 → c.flags / 4 = 0 → c.level < level → s.answers t mb c 0x05 [] ∧ OnlyAnswered mb s t) := by
  rw [← hop] at hd
  obtain ⟨t, e⟩ := exec_completes i s
  refine ⟨t, e, fun hl => ?_, fun hl h63 hf => ?_, fun hl h63 hf hlv => ?_⟩
  · exact refused_row hs hv hr ho hop he hi (fun perm => check_length s mb level perm hd hl) e
  · exact refused_row hs hv hr ho hop he hi (fun perm => check_flags s mb level perm hd hl h63 hf) e
  · exact refused_row hs hv hr ho hop he hi (fun perm => check_level s mb level perm hd hl h63 hf hlv) e

end

/-- Settles O12: each row of the list checks its command at its level (`ChecksAt`), and what a check refuses is only answered
(`refused_row`). -/
theorem checksRefuseInOrder : Obligations.ChecksRefuseInOrder := by
  intro mb i op level hm s c hs hv hr ho hop he
  suffices h : ChecksAt mb i op level ∧ opcodeDefined op = true from refuses_in_order hs hv hr ho hop he h.1 h.2
  simp only [List.mem_cons, List.not_mem_nil, or_false, Prod.mk.injEq] at hm
  rcases hm with ⟨rfl, rfl, rfl⟩ | ⟨rfl, rfl, rfl⟩ | ⟨rfl, rfl, rfl⟩ | ⟨rfl, rfl, rfl⟩ | ⟨rfl, rfl, rfl⟩ | ⟨rfl, rfl, rfl⟩ |
    ⟨rfl, rfl, rfl⟩ | ⟨rfl, rfl, rfl⟩ | ⟨rfl, rfl, rfl⟩ | ⟨rfl, rfl, rfl⟩ | ⟨rfl, rfl, rfl⟩ | ⟨rfl, rfl, rfl⟩ | ⟨rfl, rfl, rfl⟩ |
    ⟨rfl, rfl, rfl⟩ | ⟨rfl, rfl, rfl⟩ | ⟨rfl, rfl, rfl⟩ | ⟨rfl, rfl, rfl⟩ | ⟨rfl, rfl, rfl⟩
  all_goals exact ⟨⟨_, _, fun _ => rfl⟩, by decide⟩

end Sys2Proof.Machine

/-!
SUPPORT. Proofs about the maintenance lock: who holds it, until when, and what ends it.
-/

namespace Sys2Proof.Machine

-- The option has the proofs elaborated one after another, not beside the tests above: the two together exceed the check's memory.
set_option deprecated.oldSectionVars true

/-! ### Rows of commands, named by their instruction -/

@[simp] theorem begun_word (s : State) (c : Command) (k : Nat) : (s.begun c).word k = c.word k := rfl

section
variable {s : State} {mb op lv : Nat} {pm : Bool} {c : Command} {i : Instr} {level : Command → Nat} {perm : State → Command → Bool}
  {body : State → Command → State}
  (e : exec i s = s.whenLive (.next (s.runCommand mb op fun s c => s.checked mb c (level c) (perm s c) fun s => body s c)))
  (h : s.runs mb op lv pm c) (hl : level (s.begun c) = lv) (hp : perm (s.startOldest mb) (s.begun c) = pm)
include e h hl hp

theorem rowAt_next (b : State) (hb : body (s.startOldest mb) (s.begun c) = b) (ht : b.time = s.time) (hq : b.pending = s.pending) :
    ∃ t, exec i s = .next t ∧ OnlyAnswered mb b t := by
  rw [e]
  exact runs_next h level perm body hl hp b hb ht hq

theorem rowAt_complete (b : State) (st : Nat) (p : List Word)
    (hb : body (s.startOldest mb) (s.begun c) = b.complete mb (s.begun c) st p)
    (ht : b.time = s.time) (hq : b.pending = s.pending) (hw : (b.mb mb).waiting = (s.mb mb).waiting) :
    ∃ t, exec i s = .next t ∧ s.answers t mb c st (p.take 63) ∧ OnlyAnswered mb b t := by
  rw [e]
  exact runs_complete h level perm body hl hp b st p hb ht hq hw

theorem rowAt_answers (st : Nat) (p : List Word)
    (hb : body (s.startOldest mb) (s.begun c) = (s.startOldest mb).complete mb (s.begun c) st p) :
    ∃ t, exec i s = .next t ∧ s.answers t mb c st (p.take 63) ∧ OnlyAnswered mb s t := by
  rw [e]
  exact runs_answers h level perm body hl hp st p hb

end

section
variable {s : State} {mb op lv : Nat} {pm : Bool} {c : Command} {i : Instr} {body : State → Command → State}
  (e : exec i s = s.whenLive (.next (s.runCommand mb op fun s c => s.checked mb c lv pm fun s => body s c)))
  (h : s.runs mb op lv pm c)
include e h

/-- A row whose level and kind do not depend on its command. -/
theorem row_next (b : State) (hb : body (s.startOldest mb) (s.begun c) = b) (ht : b.time = s.time) (hq : b.pending = s.pending) :
    ∃ t, exec i s = .next t ∧ OnlyAnswered mb b t :=
  rowAt_next (level := fun _ => lv) (perm := fun _ _ => pm) e h rfl rfl b hb ht hq

theorem row_complete (b : State) (st : Nat) (p : List Word)
    (hb : body (s.startOldest mb) (s.begun c) = b.complete mb (s.begun c) st p)
    (ht : b.time = s.time) (hq : b.pending = s.pending) (hw : (b.mb mb).waiting = (s.mb mb).waiting) :
    ∃ t, exec i s = .next t ∧ s.answers t mb c st (p.take 63) ∧ OnlyAnswered mb b t :=
  rowAt_complete (level := fun _ => lv) (perm := fun _ _ => pm) e h rfl rfl b st p hb ht hq hw

theorem row_answers (st : Nat) (p : List Word)
    (hb : body (s.startOldest mb) (s.begun c) = (s.startOldest mb).complete mb (s.begun c) st p) :
    ∃ t, exec i s = .next t ∧ s.answers t mb c st (p.take 63) ∧ OnlyAnswered mb s t :=
  rowAt_answers (level := fun _ => lv) (perm := fun _ _ => pm) e h rfl rfl st p hb

end

/-! ### The lock in the state (R266, R298) -/

@[simp] theorem startOldest_fw (s : State) (m : Nat) : (s.startOldest m).fw = s.fw := rfl

theorem lockEvent_raised (s : State) (event holder breaker : Nat) : OnlyRaised s (s.lockEvent event holder breaker) :=
  (offer_raised ..).trans (notifyChart_raised ..)

/-- The lock held by a mailbox. -/
def State.grant (s : State) (mb : Nat) : State := { s with fw := { s.fw with lockHolder := some mb } }

theorem leaseOk_iff (v : Word) : leaseOk v = true ↔ 1 ≤ v.toNat ∧ v.toNat ≤ 3600 := by
  simp only [leaseOk, Bool.and_eq_true, decide_eq_true_eq]

/-- `t` has mailbox `mb` hold the lock for `n` seconds from `s` on. -/
structure Leased (mb n : Nat) (s t : State) : Prop where
  holder : t.fw.lockHolder = some mb
  lease : t.fw.leaseEnd = s.time.opSec + n + (if s.gtInSec = 0 then 0 else 1)

theorem Leased.raised {mb n : Nat} {s t u : State} (h : Leased mb n s t) (k : OnlyRaised t u) : Leased mb n s u :=
  ⟨k.lockHolder.trans h.holder, k.leaseEnd.trans h.lease⟩

theorem Leased.answered {mb n m : Nat} {s t u : State} (h : Leased mb n s t) (k : OnlyAnswered m t u) : Leased mb n s u :=
  ⟨k.lockHolder.trans h.holder, k.leaseEnd.trans h.lease⟩

/-- `t` has the lock free and no unlock of field injection. -/
structure LockFree (t : State) : Prop where
  holder : t.fw.lockHolder = none
  unlock : t.flt.unlockEnd = none

theorem LockFree.raised {t u : State} (h : LockFree t) (k : OnlyRaised t u) : LockFree u :=
  ⟨k.lockHolder.trans h.holder, k.unlockEnd.trans h.unlock⟩

theorem LockFree.answered {m : Nat} {t u : State} (h : LockFree t) (k : OnlyAnswered m t u) : LockFree u :=
  ⟨k.lockHolder.trans h.holder, k.unlockEnd.trans h.unlock⟩

theorem dropLock_free (s : State) : LockFree s.dropLock := ⟨rfl, rfl⟩

/-- The lock ended, with its record and its notification. -/
def State.endLock (s : State) (event holder breaker : Nat) : State := s.dropLock.lockEvent event holder breaker

section
variable (s : State) (event holder breaker : Nat)

theorem endLock_free : LockFree (s.endLock event holder breaker) := (dropLock_free s).raised (lockEvent_raised ..)

theorem endLock_time : (s.endLock event holder breaker).time = s.time := (lockEvent_raised ..).time

theorem endLock_pending : (s.endLock event holder breaker).pending = s.pending := (lockEvent_raised ..).pending

theorem endLock_mb (m : Nat) : (s.endLock event holder breaker).mb m = s.mb m := (lockEvent_raised ..).mb m

end

/-! ### The commands of Table 13.14 -/

section
variable {mb : Fin 20} {s : State} {c : Command}

theorem startOldest_gtInSec (s : State) (m : Nat) : (s.startOldest m).gtInSec = s.gtInSec := rfl

/-- The lease extended, once the command is taken. -/
def State.leased (s : State) (mb n : Nat) : State := (s.startOldest mb).lease n

theorem leased_end (s : State) (mb n : Nat) :
    (s.leased mb n).fw.leaseEnd = s.time.opSec + n + (if s.gtInSec = 0 then 0 else 1) := rfl

theorem leased_waiting (s : State) (mb n : Nat) : ((s.leased mb n).mb mb).waiting = (s.mb mb).waiting := startOldest_waiting s mb

theorem lockAcquire_grants (h : s.runs mb 0xE0 1 false c) (hl : leaseOk (c.word 1) = true) (hh : s.fw.lockHolder = none) :
    ∃ t, exec (.lockAcquire mb) s = .next t ∧ Leased mb (c.word 1).toNat s t ∧ s.answers t mb c 0 [wd t.fw.leaseEnd] := by
  have hr := lockEvent_raised ((s.leased mb (c.word 1).toNat).grant mb) 0 mb 0xFF
  obtain ⟨t, e, ha, hk⟩ := row_complete (i := .lockAcquire mb) rfl h
    (((s.leased mb (c.word 1).toNat).grant mb).lockEvent 0 mb 0xFF) 0 [wd (s.leased mb (c.word 1).toNat).fw.leaseEnd]
    (by simp only [begun_word, startOldest_fw, hl, hh, Bool.not_true, Bool.false_eq_true, if_false]; rfl)
    hr.time hr.pending (by rw [hr.mb]; exact leased_waiting s mb (c.word 1).toNat)
  have ht : Leased mb (c.word 1).toNat s ((s.leased mb (c.word 1).toNat).grant mb) := ⟨rfl, rfl⟩
  have ht := (ht.raised hr).answered hk
  rw [leased_end, ← ht.lease] at ha
  exact ⟨t, e, ht, ha⟩

/-- A row whose body extends the holder's lease and answers its end. -/
theorem row_leases {op n : Nat} {i : Instr} {body : State → Command → State}
    (e : exec i s = s.whenLive (.next (s.runCommand mb op fun s c => s.checked mb c 1 false fun s => body s c)))
    (h : s.runs mb op 1 false c) (hh : s.fw.lockHolder = some mb.val)
    (hb : body (s.startOldest mb) (s.begun c) = (s.leased mb n).complete mb (s.begun c) 0 [wd (s.leased mb n).fw.leaseEnd]) :
    ∃ t, exec i s = .next t ∧ Leased mb n s t ∧ s.answers t mb c 0 [wd t.fw.leaseEnd] := by
  obtain ⟨t, e, ha, hk⟩ := row_complete e h _ 0 _ hb rfl rfl (leased_waiting ..)
  have ht : Leased mb n s (s.leased mb n) := ⟨hh, rfl⟩
  have ht := ht.answered hk
  rw [leased_end, ← ht.lease] at ha
  exact ⟨t, e, ht, ha⟩

theorem lockAcquire_extends (h : s.runs mb 0xE0 1 false c) (hl : leaseOk (c.word 1) = true) (hh : s.fw.lockHolder = some mb.val) :
    ∃ t, exec (.lockAcquire mb) s = .next t ∧ Leased mb (c.word 1).toNat s t ∧ s.answers t mb c 0 [wd t.fw.leaseEnd] :=
  row_leases (i := .lockAcquire mb) rfl h hh
    (by simp only [begun_word, startOldest_fw, hl, hh, Bool.not_true, Bool.false_eq_true, if_false, if_true]; rfl)

theorem lockAcquire_locked (h : s.runs mb 0xE0 1 false c) (hl : leaseOk (c.word 1) = true) {k : Nat} (hh : s.fw.lockHolder = some k)
    (hk : k ≠ mb.val) : ∃ t, exec (.lockAcquire mb) s = .next t ∧ s.answers t mb c 0x0B [wd k] ∧ OnlyAnswered mb s t :=
  row_answers (i := .lockAcquire mb) rfl h 0x0B [wd k]
    (by simp only [begun_word, startOldest_fw, hl, hh, hk, Bool.not_true, Bool.false_eq_true, if_false])

theorem lockRenew_extends (h : s.runs mb 0xE1 1 false c) (hl : leaseOk (c.word 1) = true) (hh : s.fw.lockHolder = some mb.val) :
    ∃ t, exec (.lockRenew mb) s = .next t ∧ Leased mb (c.word 1).toNat s t ∧ s.answers t mb c 0 [wd t.fw.leaseEnd] :=
  row_leases (i := .lockRenew mb) rfl h hh
    (by simp only [begun_word, startOldest_fw, hl, hh, Bool.not_true, Bool.false_eq_true, if_false, if_true]; rfl)

theorem lockRenew_refused (h : s.runs mb 0xE1 1 false c) (hl : leaseOk (c.word 1) = true) (hh : s.fw.lockHolder ≠ some mb.val) :
    ∃ t, exec (.lockRenew mb) s = .next t ∧ s.answers t mb c 7 [] ∧ OnlyAnswered mb s t :=
  row_answers (i := .lockRenew mb) rfl h 7 []
    (by simp only [begun_word, startOldest_fw, hl, hh, Bool.not_true, Bool.false_eq_true, if_false])

/-- A row whose body ends the lock and answers OK. -/
theorem row_endsLock {op lv event holder breaker : Nat} {i : Instr} {body : State → Command → State}
    (e : exec i s = s.whenLive (.next (s.runCommand mb op fun s c => s.checked mb c lv false fun s => body s c)))
    (h : s.runs mb op lv false c)
    (hb : body (s.startOldest mb) (s.begun c) = ((s.startOldest mb).endLock event holder breaker).complete mb (s.begun c) 0) :
    ∃ t, exec i s = .next t ∧ LockFree t ∧ s.answers t mb c 0 [] := by
  obtain ⟨t, e, ha, hk⟩ := row_complete e h _ 0 [] hb (endLock_time ..) (endLock_pending ..)
    (by rw [endLock_mb]; exact startOldest_waiting s mb)
  exact ⟨t, e, (endLock_free ..).answered hk, ha⟩

theorem lockRelease_frees (h : s.runs mb 0xE2 1 false c) (hh : s.fw.lockHolder = some mb.val) :
    ∃ t, exec (.lockRelease mb) s = .next t ∧ LockFree t ∧ s.answers t mb c 0 [] :=
  row_endsLock (i := .lockRelease mb) (event := 1) (holder := mb) (breaker := 0xFF) rfl h
    (by simp only [startOldest_fw, hh, if_true]; rfl)

theorem lockRelease_refused (h : s.runs mb 0xE2 1 false c) (hh : s.fw.lockHolder ≠ some mb.val) :
    ∃ t, exec (.lockRelease mb) s = .next t ∧ s.answers t mb c 7 [] ∧ OnlyAnswered mb s t :=
  row_answers (i := .lockRelease mb) rfl h 7 [] (by simp only [startOldest_fw, hh, if_false])

theorem lockBreak_frees (h : s.runs mb 0xE3 3 false c) {k : Nat} (hh : s.fw.lockHolder = some k) :
    ∃ t, exec (.lockBreak mb) s = .next t ∧ LockFree t ∧ s.answers t mb c 0 [] :=
  row_endsLock (i := .lockBreak mb) (event := 3) (holder := k) (breaker := mb) rfl h
    (by simp only [startOldest_fw, hh]; rfl)

theorem lockBreak_refused (h : s.runs mb 0xE3 3 false c) (hh : s.fw.lockHolder = none) :
    ∃ t, exec (.lockBreak mb) s = .next t ∧ s.answers t mb c 7 [] ∧ OnlyAnswered mb s t :=
  row_answers (i := .lockBreak mb) rfl h 7 [] (by simp only [startOldest_fw, hh])

theorem lockStatus_answers (h : s.runs mb 0xE4 1 false c) :
    ∃ t, exec (.lockStatus mb) s = .next t ∧ s.answers t mb c 0 [wd (s.fw.lockHolder.getD 0xFF), wd s.leaseLeft] ∧ OnlyAnswered mb s t :=
  row_answers (i := .lockStatus mb) rfl h 0 [wd (s.fw.lockHolder.getD 0xFF), wd s.leaseLeft] rfl

theorem exec_lockLeaseExpiry {k : Nat} (hh : s.fw.lockHolder = some k) : exec .lockLeaseExpiry s =
    s.whenLive (.next (if s.fw.leaseEnd ≤ s.time.opSec then s.endLock 2 k 0xFF else s)) := by
  rw [show exec .lockLeaseExpiry s = execLockLeaseExpiry s from rfl, execLockLeaseExpiry]
  simp only [hh, apply_ite Host.Outcome.next]
  rfl

theorem lockLeaseExpiry_frees (s : State) (k : Nat) (hs : s.alive = true) (hh : s.fw.lockHolder = some k) :
    ∃ t, exec .lockLeaseExpiry s = .next t ∧
      (s.fw.leaseEnd ≤ s.time.opSec → t.fw.lockHolder = none ∧ t.flt.unlockEnd = none) ∧
      (s.time.opSec < s.fw.leaseEnd → t = s) := by
  obtain ⟨t, e, hd, hn⟩ := exec_event hs (exec_lockLeaseExpiry hh) (endLock_time ..) (endLock_pending ..)
  refine ⟨t, e, fun hl => ?_, fun hl => hn (Nat.not_le.2 hl)⟩
  rw [hd hl]
  exact ⟨(endLock_free ..).holder, (endLock_free ..).unlock⟩

end

/-- Settles O14: each row leaves the lock `Leased` or `LockFree`, or only answers. -/
theorem maintenanceLockGoverns : Obligations.MaintenanceLockGoverns := by
  refine ⟨⟨fun mb s c h h1 h2 => ?_, fun mb s c h h1 h2 => ?_⟩, fun mb s c h => ?_, fun mb s c h => ?_,
    fun mb s c h => lockStatus_answers h, lockLeaseExpiry_frees⟩
  · have hl := (leaseOk_iff _).2 ⟨h1, h2⟩
    cases hh : s.fw.lockHolder with
    | none =>
      obtain ⟨t, e, hd, ha⟩ := lockAcquire_grants h hl hh
      exact ⟨t, e, fun _ => ⟨hd.holder, hd.lease, ha⟩, nofun⟩
    | some k =>
      by_cases hk : k = mb.val
      · subst hk
        obtain ⟨t, e, hd, ha⟩ := lockAcquire_extends h hl hh
        exact ⟨t, e, fun _ => ⟨hd.holder, hd.lease, ha⟩, fun n hn hne => absurd (Option.some.inj hn).symm hne⟩
      · obtain ⟨t, e, ha, ho⟩ := lockAcquire_locked h hl hh hk
        refine ⟨t, e, fun hn => ?_, fun n hn _ => ?_⟩
        · rcases hn with hn | hn
          · cases hn
          · exact absurd (Option.some.inj hn) hk
        · cases hn
          exact ⟨ha, ho⟩
  · have hl := (leaseOk_iff _).2 ⟨h1, h2⟩
    by_cases hh : s.fw.lockHolder = some mb.val
    · obtain ⟨t, e, hd, ha⟩ := lockRenew_extends h hl hh
      exact ⟨t, e, fun _ => ⟨hd.holder, hd.lease, ha⟩, fun hn => absurd hh hn⟩
    · obtain ⟨t, e, ha, ho⟩ := lockRenew_refused h hl hh
      exact ⟨t, e, fun hp => absurd hp hh, fun _ => ⟨ha, ho⟩⟩
  · by_cases hh : s.fw.lockHolder = some mb.val
    · obtain ⟨t, e, hf, ha⟩ := lockRelease_frees h hh
      exact ⟨t, e, fun _ => ⟨hf.holder, hf.unlock, ha⟩, fun hn => absurd hh hn⟩
    · obtain ⟨t, e, ha, ho⟩ := lockRelease_refused h hh
      exact ⟨t, e, fun hp => absurd hp hh, fun _ => ⟨ha, ho⟩⟩
  · cases hh : s.fw.lockHolder with
    | some k =>
      obtain ⟨t, e, hf, ha⟩ := lockBreak_frees h hh
      exact ⟨t, e, fun _ => ⟨hf.holder, hf.unlock, ha⟩, nofun⟩
    | none =>
      obtain ⟨t, e, ha, ho⟩ := lockBreak_refused h hh
      exact ⟨t, e, fun hp => absurd rfl hp, fun _ => ⟨ha, ho⟩⟩

end Sys2Proof.Machine

/-!
SUPPORT. Proofs about the Legend: what its reads answer, what the staging set holds, and which order a set leaves waiting.
-/

namespace Sys2Proof.Machine

-- The option has the proofs elaborated one after another, not beside the tests above: the two together exceed the check's memory.
set_option deprecated.oldSectionVars true

/-! ### GET and DESCRIBE (Table 13.11, R262) -/

@[simp] theorem begun_legFault (s : State) (c : Command) (n : Nat) : (s.begun c).legFault n = c.legFault n := rfl

@[simp] theorem begun_legElems (s : State) (c : Command) : (s.begun c).legElems = c.legElems := rfl

theorem legFault_count {c : Command} {n : Nat} (h : c.legFault n = none) : c.legCount ≤ n := by
  unfold Command.legFault at h
  split at h
  · cases h
  · split at h
    · cases h
    · next hc => exact Nat.not_lt.1 fun hn => hc (.inr hn)

/-- The value that GET answers for an element: the staged word where it is asked for and one is staged, else the word in force. -/
def State.gotValue (s : State) (mb : Nat) (c : Command) (k : Nat) : Word :=
  match if bit (c.word 2).toNat 31 then (s.mb mb).staging.find? fun e => e.id == c.legId && e.idx == c.legIdx + k else none with
  | some e => e.val
  | none => s.legendValue c.legId (c.legIdx + k)

theorem gotValue_inForce {s : State} {mb : Nat} {c : Command} (h : bit (c.word 2).toNat 31 = false) (k : Nat) :
    s.gotValue mb c k = s.legendValue c.legId (c.legIdx + k) := by
  rw [State.gotValue, if_neg (by rw [h]; decide)]

theorem gotValue_staged {s : State} {mb : Nat} {c : Command} (h : bit (c.word 2).toNat 31 = true) (k : Nat) :
    s.gotValue mb c k = (((s.mb mb).staging.find? fun e => e.id == c.legId && e.idx == c.legIdx + k).map Elem.val).getD
      (s.legendValue c.legId (c.legIdx + k)) := by
  rw [State.gotValue, if_pos h]
  split
  · next e he => rw [he]; rfl
  · next he => rw [he]; rfl

/-- The payload of GET. -/
def State.got (s : State) (mb : Nat) (c : Command) : List Word := c.word 1 :: (List.range c.legCount).map (s.gotValue mb c)

theorem got_length (s : State) (mb : Nat) (c : Command) : (s.got mb c).length = c.legCount + 1 := by
  rw [State.got, List.length_cons, List.length_map, List.length_range]

theorem got_element (s : State) (mb : Nat) (c : Command) {k : Nat} (h : k < c.legCount) :
    (s.got mb c)[k + 1]? = some (s.gotValue mb c k) := by
  rw [State.got, List.getElem?_cons_succ, List.getElem?_map, List.getElem?_range h, Option.map_some]

section
variable {mb : Fin 20} {s : State} {c : Command}

theorem startOldest_staging (s : State) (m : Nat) : ((s.startOldest m).mb m).staging = (s.mb m).staging := by
  rw [State.startOldest, mb_setMb_same]

theorem startOldest_got (s : State) (m : Nat) (c : Command) : (s.startOldest m).got m (s.begun c) = s.got m c := by
  have hv (k : Nat) : (s.startOldest m).gotValue m (s.begun c) k = s.gotValue m c k := by
    unfold State.gotValue
    rw [startOldest_staging]
    rfl
  rw [State.got, State.got, funext hv]
  rfl

theorem get_answers (h : s.runs mb 0x10 2 false c) (hf : c.legFault 62 = none) :
    ∃ t, exec (.get mb) s = .next t ∧ s.answers t mb c 0 (s.got mb c) ∧ OnlyAnswered mb s t := by
  have hn : (s.got mb c).length ≤ 63 := by
    have := legFault_count hf
    rw [got_length]
    omega
  rw [← List.take_of_length_le hn]
  refine row_answers (i := .get mb) rfl h 0 (s.got mb c) ?_
  rw [← startOldest_got]
  simp only [begun_legFault, hf]
  rfl

theorem describe_answers (h : s.runs mb 0x15 2 false c) {p : LegendParam} (hp : findParam c.legId = some p) (hi : c.legIdx < p.len) :
    ∃ t, exec (.describe mb) s = .next t ∧ s.answers t mb c 0 ([wd p.id, wd (p.typ.code + p.len * 65536), wdI p.min, wdI p.max,
      legendDefault p.id c.legIdx, wd (p.senseAt c.legIdx + p.level * 16 + p.cls * 256)] ++ nameWords p.name ++ [0, 0]) ∧
      OnlyAnswered mb s t := by
  refine row_answers (i := .describe mb) rfl h 0 ([wd p.id, wd (p.typ.code + p.len * 65536), wdI p.min, wdI p.max,
      legendDefault p.id c.legIdx, wd (p.senseAt c.legIdx + p.level * 16 + p.cls * 256)] ++ nameWords p.name ++ [0, 0]) ?_
  have hp' : findParam (s.begun c).legId = some p := hp
  have hi' : ¬ p.len ≤ (s.begun c).legIdx := Nat.not_le.2 hi
  simp only [hp', if_neg hi']
  rfl

theorem describe_range (h : s.runs mb 0x15 2 false c) {p : LegendParam} (hp : findParam c.legId = some p) (hi : p.len ≤ c.legIdx) :
    ∃ t, exec (.describe mb) s = .next t ∧ s.answers t mb c 0x0D [] ∧ OnlyAnswered mb s t := by
  refine row_answers (i := .describe mb) rfl h 0x0D [] ?_
  have hp' : findParam (s.begun c).legId = some p := hp
  have hi' : p.len ≤ (s.begun c).legIdx := hi
  simp only [hp', if_pos hi']

/-! ### The staging set (R263) -/

/-- The state with a mailbox's staging set replaced. -/
def State.restage (s : State) (m : Nat) (l : List Elem) : State := s.setMb m { s.mb m with staging := l }

theorem restage_waiting (s : State) (m : Nat) (l : List Elem) : ((s.restage m l).mb m).waiting = (s.mb m).waiting := by
  rw [State.restage, mb_setMb_same]

theorem restage_staging (s : State) (m : Nat) (l : List Elem) : ((s.restage m l).mb m).staging = l := by
  rw [State.restage, mb_setMb_same]

theorem OnlyAnswered.staging {m : Nat} {s t : State} (h : OnlyAnswered m s t) : (t.mb m).staging = (s.mb m).staging :=
  (congrArg (fun b : Mailbox => b.staging) h.box : _)

/-- Whether any element passes a test, after the first of a kind is replaced by one that the test judges alike. -/
theorem any_changeFirst {α : Type} {p q : α → Bool} {f : α → α} {a : α} (hq : q (f a) = q a) :
    ∀ {l : List α}, l.find? p = some a → (changeFirst p (fun x => [f x]) l).any q = l.any q
  | [], h => nomatch h
  | x :: xs, h => by
    rw [List.find?_cons] at h
    rw [changeFirst]
    cases hp : p x with
    | true =>
      rw [hp] at h
      cases h
      simp only [if_true, List.cons_append, List.nil_append, List.any_cons, hq]
    | false =>
      rw [hp] at h
      simp only [Bool.false_eq_true, if_false, List.any_cons, any_changeFirst hq h]

/-- Taking a command other than COMMIT starts no COMMIT. -/
theorem startOldest_commitRuns {m : Nat} (ho : s.oldest m = some c) (hop : c.opcode ≠ 0x13) :
    (s.startOldest m).commitRuns m = s.commitRuns m := by
  have hn : (c.opcode == 0x13) = false := beq_false_of_ne hop
  have hq : (c.started && c.opcode == 0x13) = ((s.begun c).started && (s.begun c).opcode == 0x13) := by
    rw [hn, show ((s.begun c).opcode == 0x13) = false from hn, Bool.and_false, Bool.and_false]
  unfold State.commitRuns State.startOldest
  rw [mb_setMb_same]
  exact congrArg (· || _) (any_changeFirst (q := fun c : Command => c.started && c.opcode == 0x13) hq.symm ho)

/-- What a row that runs knows of its command. -/
theorem runs_commitRuns {op lv : Nat} {pm : Bool} (h : s.runs mb op lv pm c) (hop : op ≠ 0x13) :
    (s.startOldest mb).commitRuns mb = s.commitRuns mb := by
  obtain ⟨_, _, _, ho, rfl, _⟩ := h
  exact startOldest_commitRuns ho hop

/-- A row that answers and leaves `l` staged. -/
theorem restaged {i : Instr} {l : List Elem} {p : List Word} (h : ∃ t, exec i s = .next t ∧ s.answers t mb c 0 p ∧
      OnlyAnswered mb ((s.startOldest mb).restage mb l) t) :
    ∃ t, exec i s = .next t ∧ s.answers t mb c 0 p ∧ t.fw.legend = s.fw.legend ∧ (t.mb mb).staging = l := by
  obtain ⟨t, e, ha, hk⟩ := h
  exact ⟨t, e, ha, hk.legend, by rw [hk.staging, restage_staging]⟩

theorem stage_stages (h : s.runs mb 0x12 c.legLevel false c) (hf : c.legFault 61 = none) (hr : s.commitRuns mb = false)
    (hb : c.legElems.any elemBad = false) (hl : (c.legElems.foldl stageElem (s.mb mb).staging).length ≤ 4096) :
    ∃ t, exec (.stage mb) s = .next t ∧ s.answers t mb c 0 [] ∧ t.fw.legend = s.fw.legend ∧
      (t.mb mb).staging = c.legElems.foldl stageElem (s.mb mb).staging := by
  refine restaged (rowAt_complete (i := .stage mb) (level := Command.legLevel) (perm := fun _ _ => false) rfl h rfl rfl
    ((s.startOldest mb).restage mb (c.legElems.foldl stageElem (s.mb mb).staging)) 0 [] ?_ rfl rfl
    ((restage_waiting ..).trans (startOldest_waiting ..)))
  simp only [begun_legFault, begun_legElems, hf, runs_commitRuns h (by decide), hr, hb, startOldest_staging, if_neg (Nat.not_lt.2 hl),
    Bool.false_eq_true, if_false]
  rfl

theorem discard_empties (h : s.runs mb 0x14 1 false c) (hr : s.commitRuns mb = false) :
    ∃ t, exec (.discard mb) s = .next t ∧ s.answers t mb c 0 [wd (s.mb mb).staging.length] ∧ t.fw.legend = s.fw.legend ∧
      (t.mb mb).staging = [] := by
  refine restaged (row_complete (i := .discard mb) rfl h ((s.startOldest mb).restage mb []) 0 [wd (s.mb mb).staging.length] ?_ rfl rfl
    ((restage_waiting ..).trans (startOldest_waiting ..)))
  simp only [runs_commitRuns h (by decide), hr, startOldest_staging, Bool.false_eq_true, if_false]
  rfl

/-- Settles O15: GET answers `State.got`, DESCRIBE the entry; STAGE and DISCARD leave the staging set named (`restaged`). -/
theorem legendReadsAndStages : Obligations.LegendReadsAndStages := by
  refine ⟨⟨fun mb s c h hf => ?_, fun mb s c p h hp => ?_⟩, fun mb s c h hf hr hb hl => stage_stages h hf hr hb hl, fun mb s c h hr => ?_⟩
  · obtain ⟨t, e, ha, ho⟩ := get_answers h hf
    refine ⟨t, s.got mb c, e, ha, ho, got_length s mb c, rfl, fun k hk => ⟨fun hb => ?_, fun hb => ?_⟩⟩
    · rw [got_element s mb c hk, gotValue_inForce hb]
    · rw [got_element s mb c hk, gotValue_staged hb]
  · rcases Nat.lt_or_ge c.legIdx p.len with hi | hi
    · obtain ⟨t, e, ha, ho⟩ := describe_answers h hp hi
      exact ⟨t, e, ho, fun _ => ha, fun hn => absurd hi (Nat.not_lt.2 hn)⟩
    · obtain ⟨t, e, ha, ho⟩ := describe_range h hp hi
      exact ⟨t, e, ho, fun hn => absurd hi (Nat.not_le.2 hn), fun _ => ha⟩
  · obtain ⟨t, e, ha, hleg, hst⟩ := discard_empties h hr
    exact ⟨t, e, ha, hst, hleg⟩

/-! ### SET and COMMIT (R263) -/

/-- The order that a set leaves. -/
def State.setOrder (s : State) (m : Nat) (c : Command) (es : List Elem) : Order :=
  ⟨m, c.tag, c.opcode, c.flags, c.fo, c.payload, es, s.effectSheet, !s.setPermissive es, (s.changedElems es).isEmpty⟩

/-- The state with an order behind those that wait. -/
def State.awaitOrder (s : State) (o : Order) : State := { s with fw := { s.fw with orders := s.fw.orders ++ [o] } }

theorem OnlyAnswered.orders {m : Nat} {s t : State} (h : OnlyAnswered m s t) : t.fw.orders = s.fw.orders :=
  (congrArg (fun x => x.fw.orders) h.part : _)

theorem effectSheet_eq (s : State) :
    s.effectSheet = if s.time.gt % 80 < 76 then s.time.gt / 80 + 1 else s.time.gt / 80 + 2 := rfl

theorem startOldest_failingElem (s : State) (m : Nat) (es : List Elem) : (s.startOldest m).failingElem es = s.failingElem es := rfl

theorem startOldest_setPermissive (s : State) (m : Nat) (es : List Elem) : (s.startOldest m).setPermissive es = s.setPermissive es := rfl

theorem scheduleSet_waits {m : Nat} {es : List Elem} (h : s.failingElem es = none) :
    s.scheduleSet m c es = (s.acceptEarly m c).awaitOrder ((s.acceptEarly m c).setOrder m c es) := by
  rw [State.scheduleSet, h]
  rfl

theorem scheduleSet_fails {m : Nat} {es : List Elem} {e : Elem} (h : s.failingElem es = some e) :
    s.scheduleSet m c es = s.complete m c 0x04 [wd (e.id + e.idx * 65536)] := by
  rw [State.scheduleSet, h]

/-- `t` has the set of `c` waiting behind the orders of `s` for its sheet boundary, and the Legend of `s`. -/
structure SetWaits (mb : Nat) (c : Command) (es : List Elem) (s t : State) : Prop where
  legend : t.fw.legend = s.fw.legend
  order : ∃ o, t.fw.orders = s.fw.orders ++ [o] ∧ o.mb = mb ∧ o.tag = c.tag ∧ o.elems = es ∧
    o.sheet = if s.time.gt % 80 < 76 then s.time.gt / 80 + 1 else s.time.gt / 80 + 2

/-- A row whose body schedules a set. -/
theorem set_waits {i : Instr} {op lv : Nat} {pm : Bool} {level : Command → Nat} {perm : State → Command → Bool}
    {body : State → Command → State} {es : List Elem}
    (e : exec i s = s.whenLive (.next (s.runCommand mb op fun s c => s.checked mb c (level c) (perm s c) fun s => body s c)))
    (h : s.runs mb op lv pm c) (hl : level (s.begun c) = lv) (hp : perm (s.startOldest mb) (s.begun c) = pm)
    (hf : s.failingElem es = none) (hb : body (s.startOldest mb) (s.begun c) = (s.startOldest mb).scheduleSet mb (s.begun c) es) :
    ∃ t, exec i s = .next t ∧ SetWaits mb c es s t := by
  have hk := (startOldest_answered s mb).trans (acceptEarly_answered (s.startOldest mb) mb (s.begun c))
  rw [scheduleSet_waits ((startOldest_failingElem ..).trans hf)] at hb
  obtain ⟨t, e, ht⟩ := rowAt_next e h hl hp _ hb hk.time hk.pending
  have horders : t.fw.orders = ((s.startOldest mb).acceptEarly mb (s.begun c)).fw.orders ++ [_] := ht.orders
  refine ⟨t, e, ht.legend.trans hk.legend, _, horders.trans (by rw [hk.orders]), rfl, rfl, rfl, ?_⟩
  exact (effectSheet_eq _).trans (by rw [hk.time])

/-- A row whose body refuses a set. -/
theorem set_fails {i : Instr} {op lv : Nat} {pm : Bool} {level : Command → Nat} {perm : State → Command → Bool}
    {body : State → Command → State} {es : List Elem} {x : Elem}
    (e : exec i s = s.whenLive (.next (s.runCommand mb op fun s c => s.checked mb c (level c) (perm s c) fun s => body s c)))
    (h : s.runs mb op lv pm c) (hl : level (s.begun c) = lv) (hp : perm (s.startOldest mb) (s.begun c) = pm)
    (hf : s.failingElem es = some x) (hb : body (s.startOldest mb) (s.begun c) = (s.startOldest mb).scheduleSet mb (s.begun c) es) :
    ∃ t, exec i s = .next t ∧ s.answers t mb c 4 [wd (x.id + x.idx * 65536)] ∧ OnlyAnswered mb s t :=
  rowAt_answers e h hl hp 4 [wd (x.id + x.idx * 65536)]
    (hb.trans (scheduleSet_fails ((startOldest_failingElem ..).trans hf)))

/-- What SET does once its checks have passed. -/
def setBody (mb : Nat) (s : State) (c : Command) : State :=
  match c.legFault 61 with
  | some st => s.complete mb c st
  | none => s.scheduleSet mb c c.legElems

theorem exec_set (mb : Fin 20) (s : State) : exec (.set mb) s = s.whenLive (.next (s.runCommand mb 0x11 fun s c =>
    s.checked mb c c.legLevel ((c.legFault 61).isNone && s.setPermissive c.legElems) fun s => setBody mb s c)) := rfl

theorem setBody_schedules (mb : Nat) (hf : c.legFault 61 = none) (u : State) :
    setBody mb u (s.begun c) = u.scheduleSet mb (s.begun c) c.legElems := by
  unfold setBody
  simp only [begun_legFault, hf]
  rfl

theorem set_permissive (hf : c.legFault 61 = none) :
    (((s.begun c).legFault 61).isNone && (s.startOldest mb).setPermissive (s.begun c).legElems) = s.setPermissive c.legElems := by
  rw [begun_legFault, hf, startOldest_setPermissive]
  rfl

/-- What COMMIT does once its checks have passed, `running` saying whether another one runs. -/
def commitBody (mb : Nat) (running : Bool) (s : State) (c : Command) : State :=
  if running then s.complete mb c 0x06 else s.scheduleSet mb c (s.mb mb).staging

theorem exec_commit (mb : Fin 20) (s : State) : exec (.commit mb) s = s.whenLive (.next (s.runCommand mb 0x13 fun u c =>
    u.checked mb c 3 (u.setPermissive (u.mb mb).staging) fun u => commitBody mb (s.commitRuns mb) u c)) := rfl

theorem commit_permissive : (s.startOldest mb).setPermissive ((s.startOldest mb).mb mb).staging =
    s.setPermissive (s.mb mb).staging := by rw [startOldest_staging, startOldest_setPermissive]

theorem commit_busy (h : s.runs mb 0x13 3 (s.setPermissive (s.mb mb).staging) c) (hr : s.commitRuns mb = true) :
    ∃ t, exec (.commit mb) s = .next t ∧ s.answers t mb c 6 [] ∧ OnlyAnswered mb s t :=
  rowAt_answers (level := fun _ => 3) (perm := fun u _ => u.setPermissive (u.mb mb).staging) (exec_commit mb s) h rfl commit_permissive
    6 [] (if_pos hr)

theorem commitBody_schedules (hr : s.commitRuns mb = false) : commitBody mb (s.commitRuns mb) (s.startOldest mb) (s.begun c) =
    (s.startOldest mb).scheduleSet mb (s.begun c) (s.mb mb).staging := by
  rw [commitBody, hr, startOldest_staging]
  rfl

end

/-- Settles O16: a set that fails is answered (`set_fails`), one that does not leaves `SetWaits`. -/
theorem legendSetsWaitForBoundary : Obligations.LegendSetsWaitForBoundary := by
  refine ⟨fun mb s c h hf => ?_, fun mb s c h => ?_⟩
  · cases hx : s.failingElem c.legElems with
    | none =>
      obtain ⟨t, e, hw⟩ := set_waits (exec_set mb s) h rfl (set_permissive hf) hx (setBody_schedules mb hf _)
      exact ⟨t, e, hw.legend, fun _ => hw.order, nofun⟩
    | some x =>
      obtain ⟨t, e, ha, hk⟩ := set_fails (exec_set mb s) h rfl (set_permissive hf) hx (setBody_schedules mb hf _)
      refine ⟨t, e, hk.legend, nofun, fun y hy => ?_⟩
      cases hy
      exact ⟨ha, hk⟩
  · cases hr : s.commitRuns mb with
    | true =>
      obtain ⟨t, e, ha, hk⟩ := commit_busy h hr
      exact ⟨t, e, hk.legend, fun _ => ⟨ha, hk⟩, nofun, nofun⟩
    | false =>
      cases hx : s.failingElem (s.mb mb).staging with
      | none =>
        obtain ⟨t, e, hw⟩ := set_waits (level := fun _ => 3) (exec_commit mb s) h rfl commit_permissive hx (commitBody_schedules hr)
        exact ⟨t, e, hw.legend, nofun, fun _ _ => hw.order, nofun⟩
      | some x =>
        obtain ⟨t, e, ha, hk⟩ := set_fails (level := fun _ => 3) (exec_commit mb s) h rfl commit_permissive hx (commitBody_schedules hr)
        refine ⟨t, e, hk.legend, nofun, nofun, fun y _ hy => ?_⟩
        cases hy
        exact ⟨ha, hk⟩

end Sys2Proof.Machine

/-!
SUPPORT. Proofs about reads: the words that a transaction of the service SPI answers, and what a latching read latches.
-/

namespace Sys2Proof.Machine

-- The option has the proofs elaborated one after another, not beside the tests above: the two together exceed the check's memory.
set_option deprecated.oldSectionVars true

/-! ### Records placed in the Field Book: what they leave alone -/

/-- `t` is `s` but for the Field Book and what is raised by the way. -/
structure OnlyBooked (s t : State) : Prop where
  part : { t.quietPart with book := Book.reset } = { s.quietPart with book := Book.reset }
  regs : ∀ off, quiet off = true → t.reg off = s.reg off

theorem OnlyBooked.refl (s : State) : OnlyBooked s s := ⟨rfl, fun _ _ => rfl⟩

theorem OnlyBooked.trans {s t u : State} (h : OnlyBooked s t) (k : OnlyBooked t u) : OnlyBooked s u :=
  ⟨k.part.trans h.part, fun o ho => (k.regs o ho).trans (h.regs o ho)⟩

/-- The chain taken from its end. -/
theorem OnlyBooked.after {s t u : State} (k : OnlyBooked t u) (h : OnlyBooked s t) : OnlyBooked s u := h.trans k

theorem OnlyRaised.booked {s t : State} (h : OnlyRaised s t) : OnlyBooked s t :=
  ⟨congrArg (fun x : State => { x with book := Book.reset }) h.part, h.regs⟩

theorem OnlyBooked.withBook (s : State) (b : Book) : OnlyBooked s { s with book := b } := ⟨rfl, fun _ _ => rfl⟩

theorem OnlyBooked.ite {c : Prop} [Decidable c] {s t u : State} (h : OnlyBooked s t) (k : OnlyBooked s u) :
    OnlyBooked s (if c then t else u) := by
  split
  · exact h
  · exact k

section
variable {s t : State} (h : OnlyBooked s t)
include h

theorem OnlyBooked.time : t.time = s.time := (congrArg State.time h.part : _)
theorem OnlyBooked.pending : t.pending = s.pending := (congrArg State.pending h.part : _)
theorem OnlyBooked.mbox : t.mbox = s.mbox := (congrArg State.mbox h.part : _)
theorem OnlyBooked.out : t.out = s.out := (congrArg State.out h.part : _)
theorem OnlyBooked.draws : t.draws = s.draws := (congrArg State.draws h.part : _)
theorem OnlyBooked.start : t.start = s.start := (congrArg State.start h.part : _)
theorem OnlyBooked.legend : t.fw.legend = s.fw.legend := (congrArg (fun x => x.fw.legend) h.part : _)

end

theorem countVictim_booked (s : State) (sev : Nat) : OnlyBooked s (s.countVictim sev) := by
  unfold State.countVictim
  exact .ite (.withBook ..) (.after (pulseNoRecord_raised _ (by decide)).booked (.withBook ..))

theorem place_booked {s t : State} {r : Record} {q n : Nat} (h : s.place r = some (t, q, n)) : OnlyBooked s t := by
  unfold State.place at h
  simp -implicitDefEqProofs only [] at h
  split at h
  · split at h
    · cases h
      exact .after (.withBook ..) (countVictim_booked s _)
    · cases h
  · cases h
    exact .withBook ..

theorem placeOrDrop_booked (s : State) (r : Record) : OnlyBooked s (s.placeOrDrop r).1 := by
  unfold State.placeOrDrop
  split
  · next h => exact place_booked h
  · exact (dropOffer_raised ..).booked

theorem levelEvent_booked (s : State) (lv : Nat) : OnlyBooked s (s.levelEvent lv) := by
  unfold State.levelEvent
  exact .ite (pulseNoRecord_raised _ (by decide)).booked
    (.after (alertPulse_raised _).booked (pulseNoRecord_raised _ (by decide)).booked)

theorem bookNotice_raised (s : State) (event seq : Nat) : OnlyRaised s (s.bookNotice event seq) := notifyChart_raised ..

theorem degrade_booked (s : State) (cause slot : Nat) (failing : Option Record) : OnlyBooked s (s.degrade cause slot failing).1 := by
  unfold State.degrade
  refine .after (bookNotice_raised ..).booked (.after (levelEvent_booked ..) (.after (placeOrDrop_booked ..) ?_))
  split
  · exact .after (placeOrDrop_booked ..) (.withBook ..)
  · exact .withBook ..

theorem badRead_booked (s : State) (k : Kept) (ue : Bool) : OnlyBooked s (s.badRead k ue) := by
  have h : OnlyBooked s ({ s with book := { s.book with crcCnt := (s.book.crcCnt + 1) % 2 ^ 32 } }.pulseNoRecord 301) :=
    .after (pulseNoRecord_raised _ (by decide)).booked (.withBook ..)
  unfold State.badRead
  exact .ite (.after (degrade_booked ..) h) h

/-! ### A read of the service SPI: what it leaves alone (R267) -/

/-- `t` has the words shifted out by the SPI and the count of free values of `s`. -/
structure SameSpi (s t : State) : Prop where
  spiOut : t.out.spiOut = s.out.spiOut
  draws : t.draws = s.draws

theorem SameSpi.refl (s : State) : SameSpi s s := ⟨rfl, rfl⟩

/-- The chain taken from its end. -/
theorem SameSpi.after {s t u : State} (k : SameSpi t u) (h : SameSpi s t) : SameSpi s u :=
  ⟨k.spiOut.trans h.spiOut, k.draws.trans h.draws⟩

theorem SameSpi.ite {c : Prop} [Decidable c] {s t u : State} (h : SameSpi s t) (k : SameSpi s u) : SameSpi s (if c then t else u) := by
  split
  · exact h
  · exact k

theorem SameSpi.of_booked {s t : State} (h : OnlyBooked s t) : SameSpi s t := ⟨congrArg Outputs.spiOut h.out, h.draws⟩

theorem SameSpi.of_raised {s t : State} (h : OnlyRaised s t) : SameSpi s t := .of_booked h.booked

theorem SameSpi.set (s : State) (f : Fld) (v i j : Nat) : SameSpi s (s.set f v i j) := ⟨rfl, rfl⟩

theorem SameSpi.setB (s : State) (f : Fld) (v : Bool) (i j : Nat) : SameSpi s (s.setB f v i j) := ⟨rfl, rfl⟩

theorem SameSpi.setReg (s : State) (o : Nat) (v : Word) : SameSpi s (s.setReg o v) := ⟨rfl, rfl⟩

theorem SameSpi.answer (s : State) (v : Word) : SameSpi s (s.answer v) := ⟨rfl, rfl⟩

theorem SameSpi.setMb (s : State) (m : Nat) (b : Mailbox) : SameSpi s (s.setMb m b) := ⟨rfl, rfl⟩

section
variable (s : State)

theorem latchTime_sameSpi : SameSpi s s.latchTime := .after (.set ..) (.after (.set ..) (.set ..))

theorem tblAdvance_sameSpi (len : Nat) : SameSpi s (s.tblAdvance len) := by
  unfold State.tblAdvance
  exact .ite (.after (.setB ..) (.set ..)) (.set ..)

theorem tblAccess_sameSpi : SameSpi s (s.tblAccess none).1 := by
  unfold State.tblAccess
  simp only [apply_ite Prod.fst]
  exact .ite (.setB ..) (.ite (.after (.setB ..) (.after (.set ..) (.setB ..))) (tblAdvance_sameSpi ..))

theorem amapAccess_sameSpi : SameSpi s (s.amapAccess none).1 := .set ..

theorem rseqAccess_sameSpi (m : Nat) : SameSpi s (s.rseqAccess m none).1 := .set ..

theorem syncFsum_sameSpi (k : Nat) : SameSpi s (s.syncFsum k) := .set ..

theorem setCtX_sameSpi (k : Nat) (x : ContourX) : SameSpi s (s.setCtX k x) := ⟨rfl, rfl⟩

theorem withCon_sameSpi (c : Contours) : SameSpi s { s with con := c } := ⟨rfl, rfl⟩

theorem setAperture_sameSpi (b : Nat) (a : Aperture) : SameSpi s (s.setAperture b a) := ⟨rfl, rfl⟩

theorem stRead_sameSpi (clear : Bool) : SameSpi s (s.stRead clear).1 := by
  unfold State.stRead
  refine .after (.ite (.after (.set ..) (.set ..)) (.set ..)) (.after (.ite (.after (syncFsum_sameSpi ..) (setCtX_sameSpi ..)) (.refl _)) ?_)
  exact .ite (withCon_sameSpi ..) (.refl _)

theorem jres0Read_sameSpi (j : Nat) : SameSpi s (s.jres0Read j).1 := by
  unfold State.jres0Read
  simp only []
  split
  · exact .after (.setReg ..) (.setReg ..)
  · exact .refl s

theorem readValLo_sameSpi (i : Nat) : SameSpi s (s.readValLo i) := .after (.answer ..) (.set ..)

theorem mramRead_sameSpi (ue : Bool) : SameSpi s (s.mramRead ue).1 := by
  unfold State.mramRead
  split
  · exact .after (.of_raised (pulse_raised _ (by decide))) ⟨rfl, rfl⟩
  · exact .refl s

theorem readAp0_sameSpi (bank : Nat) (ue : Bool) : SameSpi s (s.readAp0 bank ue) := by
  unfold State.readAp0
  simp only []
  split
  · exact .after (.answer ..) (.after (setAperture_sameSpi ..)
      (.after (.ite (.of_booked (badRead_booked ..)) (.refl _)) (mramRead_sameSpi s ue)))
  · exact .after (.answer ..) (setAperture_sameSpi ..)

theorem readAp15_sameSpi (bank : Nat) : SameSpi s (s.readAp15 bank) := by
  unfold State.readAp15
  simp only []
  exact .after (.answer ..) (.ite (setAperture_sameSpi ..) (.refl s))

theorem readEffect_sameSpi (m : Master) (p : RegAt) (off : Nat) (clear ue : Bool) : SameSpi s (s.readEffect m p off clear ue) := by
  unfold State.readEffect
  simp only []
  exact .ite (.after (.answer ..) (latchTime_sameSpi s)) (.ite ⟨rfl, rfl⟩ (.ite (.after (.answer ..) (tblAccess_sameSpi s))
    (.ite (.after (.answer ..) (amapAccess_sameSpi s)) (.ite (.after (.answer ..) (stRead_sameSpi s clear))
    (.ite (.after (.answer ..) (rseqAccess_sameSpi s _)) (.ite (.after (.answer ..) (jres0Read_sameSpi s _))
    (.ite (readValLo_sameSpi s _) (.ite (readAp0_sameSpi s _ ue) (.ite (readAp15_sameSpi s _) (.answer ..))))))))))

theorem markRefusal_sameSpi (m : Master) (i kind off : Nat) (write : Bool) : SameSpi s (s.markRefusal m i kind off write) := by
  unfold State.markRefusal
  exact .after (.setB ..) (.ite (.refl s) (.after (.set ..) (.after (.setB ..) (.after (.set ..) (.set ..)))))

theorem refuse_sameSpi (m : Master) {i : Nat} (kind off : Nat) (write : Bool) (h : i < 35) : SameSpi s (s.refuse m i kind off write) :=
  .after (.of_raised (refuse_raised s m kind off write h)) (markRefusal_sameSpi ..)

theorem ite_lt {c : Prop} [Decidable c] {a b n : Nat} (ha : c → a < n) (hb : b < n) : (if c then a else b) < n := by
  split
  · next h => exact ha h
  · exact hb

/-- Every offset stands in one of the 35 register sets (Table 14.1); the sets 3 to 18 are the LANE instances. -/
theorem setOf_lt (off : Nat) : setOf off < 35 := by
  have hl (h : off < 0x8000) : 3 + (off - 0x4000) / 0x400 < 35 := by omega
  unfold setOf
  repeat' refine ite_lt (fun h => ?_) ?_
  case refine_2.refine_2.refine_2.refine_1 => exact hl ‹_›
  all_goals decide

theorem csrRead_sameSpi (m : Master) (off : Nat) (ue : Bool) : SameSpi s (s.csrRead m off false ue) := by
  unfold State.csrRead
  split
  · exact .answer ..
  · have he (p : RegAt) (clear : Bool) : SameSpi s ((s.countAccess m off 3).readEffect m p off clear ue) :=
      .after (readEffect_sameSpi ..) (.of_raised (countAccess_raised ..))
    have hc (u : State) (p : RegAt) : SameSpi u (u.clearRc p off) := .ite (.refl u) (.setReg ..)
    rw [if_neg Bool.false_ne_true]
    exact .ite (.after (.answer ..) (refuse_sameSpi _ _ _ _ _ (setOf_lt off))) (.ite (.after (hc ..) (he ..)) (he ..))

theorem pageRead_sameSpi (m off : Nat) : SameSpi s (s.pageRead m off) := by
  unfold State.pageRead
  exact .ite (.answer ..) (.ite (.answer ..) (.ite (.after (.setMb ..) (.answer ..)) (.ite (.answer ..) (.ite (.answer ..) (.answer ..)))))

end

/-- One word read over the SPI: the word read goes out. -/
def State.spiWord (s : State) (space addr : Nat) : State :=
  if space = 0 then (if addr < 0x4000 then s.pageRead (16 + addr / 0x1000) (addr % 0x1000) else s.answer 0)
  else if space = 1 then (if addr < 0x40000 then s.csrRead .spi addr false false else s.answer 0)
  else s.answer 0

theorem spiWord_sameSpi (s : State) (space addr : Nat) : SameSpi s (s.spiWord space addr) := by
  unfold State.spiWord
  exact .ite (.ite (pageRead_sameSpi ..) (.answer ..)) (.ite (.ite (csrRead_sameSpi ..) (.answer ..)) (.answer ..))

/-- A word shifted out. -/
def State.shiftOut (s : State) : State := { s with out := { s.out with spiOut := s.out.spiOut ++ [s.out.readData] } }

theorem spiRead_succ (s : State) (space addr n : Nat) :
    s.spiRead space addr (n + 1) = (s.spiWord space addr).shiftOut.spiRead space (addr + 4) n := rfl

/-- A read of `n` words shifts out `n` words behind those that went before, and draws no free value. -/
theorem spiRead_words (space n : Nat) : ∀ (s : State) (addr : Nat), ∃ ws, (s.spiRead space addr n).out.spiOut = s.out.spiOut ++ ws ∧
    ws.length = n ∧ (s.spiRead space addr n).draws = s.draws := by
  induction n with
  | zero => exact fun s addr => ⟨[], (List.append_nil _).symm, rfl, rfl⟩
  | succ n ih =>
    intro s addr
    have hw := spiWord_sameSpi s space addr
    obtain ⟨ws, ho, hl, hd⟩ := ih (s.spiWord space addr).shiftOut (addr + 4)
    have hs : (s.spiWord space addr).shiftOut.out.spiOut = s.out.spiOut ++ [(s.spiWord space addr).out.readData] :=
      congrArg (· ++ _) hw.spiOut
    refine ⟨(s.spiWord space addr).out.readData :: ws, ?_, by rw [List.length_cons, hl], ?_⟩
    · rw [spiRead_succ, ho, hs, List.append_assoc, List.singleton_append]
    · rw [spiRead_succ, hd]
      exact hw.draws

/-! ### The rows that latch (R28, R85, R225, R326) -/

/-- A read at the read level of a register without RC fields is counted and has its effect. -/
theorem csrRead_served {s : State} {m : Master} {off : Nat} {p : RegAt} (hf : findReg off = some p)
    (hl : s.readLevel off ≤ s.masterLevel m) (hc : p.reg.rcMask = 0) :
    ∃ clear, s.csrRead m off false false = (s.countAccess m off 3).readEffect m p off clear false := by
  refine ⟨decide (blockWriteLevel (setOf off) ≤ s.masterLevel m), ?_⟩
  simp only [State.csrRead, hf, Bool.false_eq_true, if_false, if_neg (Nat.not_lt.2 hl), State.clearRc, hc, if_true, ite_self]

section
variable (s : State) (m : Master) (off : Nat) (clear ue : Bool)

theorem readEffect_gtSec : s.readEffect m ⟨Reg.SYS_GT_SEC, 0, 0⟩ off clear ue = s.latchTime.answer (wd s.gtInSec) := rfl

theorem readEffect_poolUsed : s.readEffect m ⟨Reg.CAN_POOL_USED, 0, 0⟩ off clear ue =
    { s with can := { s.can with freeLatch := s.get Fd.CAN_POOL_FREE_FREE } }.answer (s.reg off) := rfl

theorem readEffect_jres0 (j : Nat) :
    s.readEffect m ⟨Reg.RCE_JRES0, j, 0⟩ off clear ue = (s.jres0Read j).1.answer (s.jres0Read j).2 := by
  unfold State.readEffect
  simp -implicitDefEqProofs only []
  iterate 6 rw [if_neg (by decide)]
  exact if_pos trivial

theorem readEffect_valLo (i : Nat) : s.readEffect m ⟨Reg.PMC_VAL_LO, i, 0⟩ off clear ue = s.readValLo i := by
  unfold State.readEffect
  simp -implicitDefEqProofs only []
  iterate 7 rw [if_neg (by decide)]
  exact if_pos trivial

end

/-- Only the performance counters are read from level 3 up. -/
theorem readLevel_le_two {s : State} {off : Nat} (h : setOf off ≠ 30) : s.readLevel off ≤ 2 :=
  Nat.not_lt.1 fun hl => h (setOf_of_readLevel hl)

theorem chart_reads (s : State) (off : Nat) : s.readLevel off ≤ s.masterLevel .chart :=
  Nat.not_lt.1 (not_chart_below_readLevel s off)

theorem latchTime_opSec (s : State) : s.latchTime.get Fd.SYS_OP_SEC_OP_SEC = s.time.opSec % 2 ^ 32 := by
  rw [State.latchTime, get_set_other _ _ Fd.SYS_OP_SEC_OP_SEC _ _ _ _ _ (by decide), get_set_other _ _ Fd.SYS_OP_SEC_OP_SEC _ _ _ _ _ (by decide)]
  exact get_set_same s Fd.SYS_OP_SEC_OP_SEC _ 0 0 (by unfold Fld.fits; decide)

theorem latchTime_pwrCyc (s : State) : s.latchTime.get Fd.SYS_PWR_CYC_PWR_CYC = s.time.pwrCyc % 2 ^ 24 := by
  rw [State.latchTime, get_set_other _ _ Fd.SYS_PWR_CYC_PWR_CYC _ _ _ _ _ (by decide)]
  exact get_set_same _ Fd.SYS_PWR_CYC_PWR_CYC _ 0 0 (by unfold Fld.fits; decide)

theorem latchTime_sheet (s : State) : s.latchTime.get Fd.SYS_SHEET_CNT_SHEET = s.time.gt / 80 % 2 ^ 32 :=
  get_set_same _ Fd.SYS_SHEET_CNT_SHEET _ 0 0 (by unfold Fld.fits; decide)

theorem gtSecRead_latches {s : State} (hs : s.alive = true) : ∃ t, exec .gtSecRead s = .next t ∧ t.out.readData = wd s.gtInSec ∧
    t.get Fd.SYS_OP_SEC_OP_SEC = s.time.opSec % 2 ^ 32 ∧ t.get Fd.SYS_PWR_CYC_PWR_CYC = s.time.pwrCyc % 2 ^ 24 ∧
    t.get Fd.SYS_SHEET_CNT_SHEET = s.time.gt / 80 % 2 ^ 32 := by
  obtain ⟨clear, he⟩ := csrRead_served (s := s) (show findReg Reg.SYS_GT_SEC.base = some ⟨Reg.SYS_GT_SEC, 0, 0⟩ by decide)
    (chart_reads s _) (by decide)
  rw [readEffect_gtSec] at he
  have ht := (countAccess_raised s .chart Reg.SYS_GT_SEC.base 3).time
  refine ⟨_, (exec_next hs rfl).trans (by rw [he]), ?_, ?_, ?_, ?_⟩
  · show wd (State.gtInSec _) = _
    rw [State.gtInSec, ht, State.gtInSec]
  · exact (latchTime_opSec _).trans (by rw [ht])
  · exact (latchTime_pwrCyc _).trans (by rw [ht])
  · exact (latchTime_sheet _).trans (by rw [ht])

theorem poolUsedRead_latches {s : State} (hs : s.alive = true) (m : Master) (hl : 2 ≤ s.masterLevel m) :
    ∃ t, exec (.poolUsedRead m) s = .next t ∧ t.out.readData = s.reg (Reg.CAN_POOL_USED.off 0 0) ∧
      t.can.freeLatch = s.get Fd.CAN_POOL_FREE_FREE := by
  obtain ⟨clear, he⟩ := csrRead_served (s := s) (show findReg Reg.CAN_POOL_USED.base = some ⟨Reg.CAN_POOL_USED, 0, 0⟩ by decide)
    (Nat.le_trans (readLevel_le_two (by decide)) hl) (by decide)
  rw [readEffect_poolUsed] at he
  have hc := countAccess_raised s m Reg.CAN_POOL_USED.base 3
  exact ⟨_, (exec_next hs rfl).trans (by rw [he]), hc.regs (Reg.CAN_POOL_USED.off 0 0) (quiet_low (by decide)), hc.get Fd.CAN_POOL_FREE_FREE 0 0 (by decide)⟩

theorem off_jres0 (j : Fin 32) : Reg.RCE_JRES0.off j 0 = 0x2E108 + 32 * j.val := rfl
theorem off_valLo (i : Fin 384) : Reg.PMC_VAL_LO.off i 0 = 0x3A408 + 16 * i.val := rfl
theorem off_valHi (i : Fin 384) : Reg.PMC_VAL_HI.off i 0 = 0x3A40C + 16 * i.val := rfl

theorem setOf_jres0 (j : Fin 32) : setOf (Reg.RCE_JRES0.off j 0) = 26 := by revert j; decide

theorem findReg_jres0 (j : Fin 32) : findReg (Reg.RCE_JRES0.off j 0) = some ⟨Reg.RCE_JRES0, j, 0⟩ := by revert j; decide

theorem setOf_pmc {o : Nat} (h : 0x3A000 ≤ o ∧ o < 0x3C000) : setOf o = 30 := by
  unfold setOf
  repeat rw [if_neg (by omega)]
  exact if_pos h.2

theorem setOf_valLo (i : Fin 384) : setOf (Reg.PMC_VAL_LO.off i 0) = 30 := setOf_pmc (by rw [off_valLo]; omega)

theorem findReg_valLo (i : Fin 384) : findReg (Reg.PMC_VAL_LO.off i 0) = some ⟨Reg.PMC_VAL_LO, i, 0⟩ :=
  findReg_off 19 (setOf_valLo i) (by rw [off_valLo]; exact ⟨Nat.le_trans (by decide) (Nat.le_add_right _ _), by omega⟩) i.isLt rfl
    (by decide) (by decide)

theorem jres0Read_latches {s : State} (hs : s.alive = true) (m : Master) (j : Fin 32) (p : Nat × Word × Word) (hl : 2 ≤ s.masterLevel m)
    (hp : s.rce.live.find? (fun p => p.1 == j.val) = some p) :
    ∃ t, exec (.jres0Read m j) s = .next t ∧ t.out.readData = s.reg (Reg.RCE_JRES0.off j 0) ∧
      t.reg (Reg.RCE_JRES1.off j 0) = p.2.1 ∧ t.reg (Reg.RCE_JRES2.off j 0) = p.2.2 := by
  obtain ⟨clear, he⟩ := csrRead_served (s := s) (findReg_jres0 j)
    (Nat.le_trans (readLevel_le_two (by rw [setOf_jres0]; decide)) hl) (show Reg.RCE_JRES0.rcMask = 0 by decide)
  have hc := countAccess_raised s m (Reg.RCE_JRES0.off j 0) 3
  rw [readEffect_jres0, State.jres0Read] at he
  simp only [hc.rce, hp] at he
  refine ⟨_, (exec_next hs rfl).trans (by rw [he]), hc.regs _ ?_, ?_, ?_⟩
  · exact quiet_low (by rw [off_jres0]; omega)
  · exact (reg_setReg_other _ _ (by simp only [RegDesc.off, Reg.RCE_JRES1, Reg.RCE_JRES2]; omega)).trans (reg_setReg_same ..)
  · exact reg_setReg_same ..

theorem quiet_high {o : Nat} (h : 0x38000 ≤ o) (hm : o % 16 ≠ 12) : quiet o = true := by
  simp only [quiet, Bool.not_eq_true', Bool.or_eq_false_iff, decide_eq_false_iff_not]
  omega

theorem quiet_valLo (i : Fin 384) : quiet (Reg.PMC_VAL_LO.off i 0) = true :=
  quiet_high (by rw [off_valLo]; omega) (by rw [off_valLo]; omega)

theorem readValLo_latches (s : State) (i : Fin 384) : (s.readValLo i).out.readData = s.reg (Reg.PMC_VAL_LO.off i 0) ∧
    (s.readValLo i).get Fd.PMC_VAL_HI_VALUE i = mapGet 0 s.pmc.snap i / 2 ^ 32 % 2 ^ 16 :=
  ⟨reg_set_other s Fd.PMC_VAL_HI_VALUE _ i 0 (by rw [off_valLo]; show _ ≠ Reg.PMC_VAL_HI.off i 0; rw [off_valHi]; omega),
    get_set_same s Fd.PMC_VAL_HI_VALUE _ i 0 (by unfold Fld.fits; decide)⟩

theorem valLoRead_latches {s : State} (hs : s.alive = true) (m : Master) (i : Fin 384) (hl : 3 ≤ s.masterLevel m) :
    ∃ t, exec (.valLoRead m i) s = .next t ∧ t.out.readData = s.reg (Reg.PMC_VAL_LO.off i 0) ∧
      t.get Fd.PMC_VAL_HI_VALUE i = mapGet 0 s.pmc.snap i / 2 ^ 32 % 2 ^ 16 := by
  obtain ⟨clear, he⟩ := csrRead_served (s := s) (findReg_valLo i) (Nat.le_trans (readLevel_le s _) hl)
    (show Reg.PMC_VAL_LO.rcMask = 0 by decide)
  have hc := countAccess_raised s m (Reg.PMC_VAL_LO.off i 0) 3
  have hsnap : (s.countAccess m (Reg.PMC_VAL_LO.off i 0) 3).pmc.snap = s.pmc.snap := congrArg (·.pmc.snap) hc.part
  rw [readEffect_valLo] at he
  obtain ⟨hd, hv⟩ := readValLo_latches (s.countAccess m (Reg.PMC_VAL_LO.off i 0) 3) i
  have ht : exec (.valLoRead m i) s = .next (State.putBack _ s) := (exec_next hs rfl).trans (by rw [he])
  refine ⟨_, ht, hd.trans (hc.regs _ (quiet_valLo i)), hv.trans (by rw [hsnap])⟩

/-! ### The transactions of the service SPI (R267) -/

theorem spiTransaction_reads {s : State} (hs : s.alive = true) (opening : Word) (data : List Word) (reads : Nat)
    (hr : bit opening.toNat 31 = false) : ∃ t ws, exec (.sspiTransaction opening data reads) s = .next t ∧
      t.out.spiOut = Config.spiDummy s.draws :: ws ∧ ws.length = reads ∧ t.draws = s.draws + 1 := by
  obtain ⟨ws, ho, hl, hd⟩ := spiRead_words (wbits opening 30 28) reads
    { s with draws := s.draws + 1, out := { s.out with spiOut := [Config.spiDummy s.draws] } } (wbits opening 23 0 / 4 * 4)
  have he : execSspiTransaction opening data reads s = s.whenLive (.next _) :=
    congrArg s.whenLive (if_neg (by rw [hr]; decide))
  exact ⟨_, ws, exec_next hs he, ho, hl, hd⟩

theorem pageWrite_cmd (s : State) (m : Nat) {off : Nat} (v : Word) (ho : off < 0x100) (hb : (s.mb m).cmdBusy = false) :
    mapGet 0 ((s.pageWrite m off v).mb m).cmd (off / 4) = v := by
  unfold State.pageWrite
  simp only [if_pos ho, hb, Bool.false_eq_true, if_false, mb_setMb_same, mapGet_mapSet_same]

theorem spiTransaction_writes {s : State} (hs : s.alive = true) (opening v : Word) (reads : Nat) (hw : bit opening.toNat 31 = true)
    (hm : wbits opening 30 28 = 0) (ha : wbits opening 23 0 / 4 * 4 < 0x4000) (ho : wbits opening 23 0 / 4 * 4 % 0x1000 < 0x100)
    (hb : (s.mb (16 + wbits opening 23 0 / 4 * 4 / 0x1000)).cmdBusy = false) :
    ∃ t, exec (.sspiTransaction opening [v] reads) s = .next t ∧
      mapGet 0 (t.mb (16 + wbits opening 23 0 / 4 * 4 / 0x1000)).cmd (wbits opening 23 0 / 4 * 4 % 0x1000 / 4) = v := by
  have he : execSspiTransaction opening [v] reads s = s.whenLive (.next (State.pageWrite { s with out := { s.out with spiOut := [] } }
      (16 + wbits opening 23 0 / 4 * 4 / 0x1000) (wbits opening 23 0 / 4 * 4 % 0x1000) v)) := by
    unfold execSspiTransaction
    simp only [hw, if_true, State.spiWrite, hm, ha]
  exact ⟨_, exec_next hs he, pageWrite_cmd _ _ v ho hb⟩

/-- Settles O29. -/
theorem transactionsAndLatches : Obligations.TransactionsAndLatches :=
  ⟨⟨fun _ _ _ _ hs hr => spiTransaction_reads hs _ _ _ hr, fun _ _ _ _ hs hw hm ha ho hb => spiTransaction_writes hs _ _ _ hw hm ha ho hb⟩,
    fun _ hs => gtSecRead_latches hs, fun m _ hs hl => poolUsedRead_latches hs m hl,
    fun m j _ p hs hl hp => jres0Read_latches hs m j p hl hp, fun m i _ hs hl => valLoRead_latches hs m i hl⟩

end Sys2Proof.Machine

/-!
SUPPORT. Proofs about the Field Book: what takes a record into the staging FIFO and into a region, and the nonce and the key of its commands.
-/

namespace Sys2Proof.Machine

-- The option has the proofs elaborated one after another, not beside the tests above: the two together exceed the check's memory.
set_option deprecated.oldSectionVars true

/-! ### The collector's work without a record leaves the Field Book alone (R309) -/

/-- `t` has the Field Book of `s`. -/
structure SameBook (s t : State) : Prop where
  book : t.book = s.book

theorem SameBook.refl (s : State) : SameBook s s := ⟨rfl⟩

/-- The chain taken from its end. -/
theorem SameBook.after {s t u : State} (k : SameBook t u) (h : SameBook s t) : SameBook s u := ⟨k.book.trans h.book⟩

theorem SameBook.ite {c : Prop} [Decidable c] {s t u : State} (h : SameBook s t) (k : SameBook s u) : SameBook s (if c then t else u) := by
  split
  · exact h
  · exact k

theorem SameBook.set (s : State) (f : Fld) (v i j : Nat) : SameBook s (s.set f v i j) := ⟨rfl⟩

theorem SameBook.setB (s : State) (f : Fld) (v : Bool) (i j : Nat) : SameBook s (s.setB f v i j) := ⟨rfl⟩

theorem SameBook.withFlt (s : State) (f : Collector) : SameBook s { s with flt := f } := ⟨rfl⟩

theorem SameBook.withPmc (s : State) (p : Perf) : SameBook s { s with pmc := p } := ⟨rfl⟩

theorem SameBook.forEach {α : Type} (l : List α) (f : State → α → State) (hf : ∀ s a, SameBook s (f s a)) (s : State) :
    SameBook s (forEach l s f) := ⟨forEach_keeps State.book l f (fun s a => ⟨(hf s a).book⟩) s⟩

section
variable (s : State) (src sev : Nat)

theorem addCounter_sameBook (i n : Nat) : SameBook s (s.addCounter i n) := by
  unfold State.addCounter
  exact .ite (.withPmc ..) (.after (.setB ..) (.withPmc ..))

theorem count_sameBook (b i c n : Nat) (a : EventAttr) : SameBook s (s.count b i c n a) := by
  unfold State.count
  exact .ite (.refl s) (.forEach _ _ (fun s _ => .ite (addCounter_sameBook s _ _) (.refl s)) s)

theorem notify_sameBook (code : Nat) (content : List Word) (at_ : Nat) : SameBook s (s.notify code content at_) := by
  unfold State.notify
  exact .ite ⟨rfl⟩ (.refl s)

theorem alertPulse_sameBook : SameBook s s.alertPulse := .after (.setB ..) (.after (.setB ..) (.withFlt ..))

theorem countEvent_sameBook : SameBook s (s.countEvent src).1 := by
  unfold State.countEvent
  split
  · exact .refl s
  · refine .after (t := State.set _ Fd.FLT_SSTAT_CNT _ src) (.ite (.setB ..) (.refl _)) (.after (.set ..) ?_)
    exact .ite (.refl s) (.after (.setB ..) (.withFlt ..))

theorem markSource_sameBook (e : FaultEv) : SameBook s (s.markSource e sev) := by
  unfold State.markSource
  refine .after (count_sameBook ..) (.after (.ite (.refl _) (.set ..)) ?_)
  exact .after (.setB ..) (.after (.setB ..) (.after (.set ..) (.after (.setB ..) (.setB ..))))

theorem postReaction_sameBook (sc : Nat × Nat) : SameBook s (s.postReaction src sev sc) := by
  unfold State.postReaction
  exact .after (.ite (alertPulse_sameBook _) (.refl _)) (.ite (.refl s) (.withFlt ..))

theorem notifyFault_sameBook (e : FaultEv) (lanes : Nat) : SameBook s (s.notifyFault e sev lanes) := by
  unfold State.notifyFault
  exact .ite (notify_sameBook ..) (.refl s)

theorem hitCapture_sameBook : SameBook s (s.hitCapture src) := by
  unfold State.hitCapture
  exact .ite ⟨rfl⟩ (.refl s)

theorem askFreeze_sameBook (yes : Bool) : SameBook s (s.askFreeze src yes) := by
  unfold State.askFreeze
  exact .ite (.withFlt ..) (.refl s)

theorem requestSnap_sameBook (yes : Bool) : SameBook s (s.requestSnap yes) := by
  unfold State.requestSnap
  exact .ite (.withFlt ..) (.refl s)

theorem collectOne_sameBook (e : FaultEv) : SameBook s (s.collectOne e).1 :=
  .after (notifyFault_sameBook ..) (.after (requestSnap_sameBook ..) (.after (askFreeze_sameBook ..) (.after (postReaction_sameBook ..)
    (.after (hitCapture_sameBook ..) (.after (markSource_sameBook ..) (countEvent_sameBook ..))))))

theorem writeFirst_sameBook (n : Nat) (r : EventResult) : SameBook s (s.writeFirst n r) :=
  .after (.set ..) (.after (.set ..) (.after (.set ..) (.after (.set ..) (.after (.set ..) (.after (.setB ..) (.after (.setB ..)
    (.after (.set ..) (.setB ..))))))))

theorem captureFirst_sameBook (rs : List EventResult) : SameBook s (s.captureFirst rs) := by
  unfold State.captureFirst
  refine .ite (.refl s) ?_
  split
  · exact .refl s
  · exact .after (.forEach _ _ (fun _ _ => .set ..) _) (writeFirst_sameBook ..)

theorem raiseNoRecord_sameBook : SameBook s (s.raiseNoRecord src) := .after (captureFirst_sameBook ..) (collectOne_sameBook ..)

theorem pulseNoRecord_sameBook : SameBook s (s.pulseNoRecord src) := .after (.withFlt ..) (raiseNoRecord_sameBook s src)

theorem bookNotice_sameBook (event seq : Nat) : SameBook s (s.bookNotice event seq) := notify_sameBook ..

theorem notifyClear_sameBook (lanes : Nat) : SameBook s (s.notifyClear src sev lanes) := by
  unfold State.notifyClear
  exact .ite (notify_sameBook ..) (.refl _)

theorem offerClear_silent (lanes domains : Nat) (h : noFaultRecord src = true) : s.offerClear src sev lanes domains = s := by
  unfold State.offerClear
  rw [h, Bool.true_or, if_pos rfl]

/-- The clearance of a source that makes no record. -/
theorem clearSource_sameBook (h : noFaultRecord src = true) : SameBook s (s.clearSource src) := by
  unfold State.clearSource
  simp only [offerClear_silent _ src _ _ _ h]
  exact .ite (.after (notifyClear_sameBook ..) (.after (.set ..) (.after (.set ..) (.setB ..)))) (.refl s)

/-- FBK_FILL is judged: of the Field Book only its flag may change. -/
theorem checkFill_book : ∃ b, s.checkFill.book = { s.book with fillRaised := b } := by
  unfold State.checkFill
  simp only []
  split
  · exact ⟨true, ((bookNotice_sameBook _ _ _).after (raiseNoRecord_sameBook _ _)).book⟩
  · split
    · exact ⟨false, (clearSource_sameBook _ 303 (by decide)).book⟩
    · exact ⟨_, rfl⟩

end

/-! ### The writer: a record placed in a region with a slot free (R310) -/

theorem region_setRegion (b : Book) {lv : Nat} (h : lv ≤ 2) (l : List Kept) : (b.setRegion lv l).region lv = l := by
  unfold Book.region Book.setRegion
  obtain rfl | rfl | rfl : lv = 0 ∨ lv = 1 ∨ lv = 2 := by omega
  all_goals rfl

/-- Parts of the book that the records of a region are none of. -/
theorem setRegion_keeps (b : Book) (lv : Nat) (l : List Kept) : (b.setRegion lv l).fifo = b.fifo ∧ (b.setRegion lv l).level = b.level ∧
    (b.setRegion lv l).retries = b.retries := by
  unfold Book.setRegion
  split
  · exact ⟨rfl, rfl, rfl⟩
  · split
    · exact ⟨rfl, rfl, rfl⟩
    · exact ⟨rfl, rfl, rfl⟩

/-- The record that a region with a slot free keeps of `r`. -/
def State.keptNext (s : State) (r : Record) : Kept :=
  ⟨freeSlot (s.book.region s.book.level) (regionSlots s.book.level),
    recordWords r s.book.nextSeq (s.book.level == 1) (s.book.level == 2), false⟩

/-- The book with `r` written into a region with a slot free. -/
def State.bookWith (s : State) (r : Record) : Book :=
  { s.book.setRegion s.book.level (s.book.region s.book.level ++ [s.keptNext r]) with
    nextSeq := (s.book.nextSeq + 1) % 2 ^ 32
    shadow := if s.getB Fd.DRC_CSTAT_LOST Config.heapChannel then [] else s.book.shadow ++ [s.keptNext r] }

/-- The state with its Field Book replaced. -/
def State.withBook (s : State) (b : Book) : State := { s with book := b }

theorem place_free (s : State) (r : Record) (hf : s.book.full = false) : s.place r = some (s.withBook (s.bookWith r), s.book.nextSeq,
    freeSlot (s.book.region s.book.level) (regionSlots s.book.level)) := by
  unfold State.place
  simp only [hf, Bool.false_eq_true, if_false]
  rfl

/-- No retry is counted. -/
def State.verified (s : State) : State := s.withBook { s.book with retries := s.book.retries % 2 ^ 32 }

/-- A record verified at once, with a slot free: placed, and the fill of the main region judged. -/
theorem writeRecord_verified (s : State) (r : Record) (hf : s.book.full = false) :
    s.writeRecord r 0 = ((s.verified.withBook (s.verified.bookWith r)).checkFill, some s.book.nextSeq) := by
  have hp := place_free s.verified r hf
  unfold State.verified State.withBook at hp
  unfold State.writeRecord
  simp only [Nat.zero_min, List.range_zero, forEach, List.foldl_nil, Nat.add_zero, Nat.not_lt_zero, decide_false, Bool.false_and,
    Bool.false_eq_true, if_false, State.placeOrDrop, hp, Option.isSome_some, if_true]
  rfl

/-- The oldest record taken out of the FIFO. -/
def State.taken (s : State) (rest : List Staged) : State := s.withBook { s.book with fifo := rest }

/-- The writer's step with a record at the head of the FIFO. -/
theorem recordWrite_writes {s u : State} {e : Staged} {rest : List Staged} {seq : Nat} (hq : s.book.fifo = e :: rest)
    (hw : (s.taken rest).writeRecord e.final 0 = (u, some seq)) :
    execRecordWrite 0 s = s.whenLive (if e.drops then .next (u.bookNotice 1 seq) else .next u) := by
  unfold State.taken State.withBook at hw
  unfold execRecordWrite
  simp only [hq, hw]

theorem putBack_book (u s : State) : (u.putBack s).book = u.book := rfl

/-- What RECORD_WRITE leaves of the book: the record placed, the flag of the fill apart. -/
theorem recordWrite_book {s : State} (hs : s.alive = true) {e : Staged} {rest : List Staged} (hq : s.book.fifo = e :: rest)
    (hf : s.book.full = false) : ∃ t b, exec (.recordWrite 0) s = .next t ∧
      t.book = { (s.taken rest).verified.bookWith e.final with fillRaised := b } := by
  have he := recordWrite_writes hq (writeRecord_verified (s.taken rest) e.final hf)
  obtain ⟨b, hb⟩ := checkFill_book ((s.taken rest).verified.withBook ((s.taken rest).verified.bookWith e.final))
  by_cases hd : e.drops = true
  · rw [if_pos hd] at he
    exact ⟨_, b, exec_next hs he, (putBack_book ..).trans ((bookNotice_sameBook _ _ _).book.trans hb)⟩
  · rw [if_neg hd] at he
    exact ⟨_, b, exec_next hs he, (putBack_book ..).trans hb⟩

section
variable (s : State) (r : Record)

theorem bookWith_keeps : (s.bookWith r).fifo = s.book.fifo ∧ (s.bookWith r).level = s.book.level ∧
    (s.bookWith r).retries = s.book.retries := setRegion_keeps ..

theorem bookWith_region (h : s.book.level ≤ 2) : (s.bookWith r).region s.book.level = s.book.region s.book.level ++ [s.keptNext r] :=
  region_setRegion _ h _

end

theorem recordWrite_places {s : State} (hs : s.alive = true) {e : Staged} {rest : List Staged} (hq : s.book.fifo = e :: rest)
    (hf : s.book.full = false) (hl : s.book.level ≤ 2) :
    ∃ t, exec (.recordWrite 0) s = .next t ∧ t.book.fifo = rest ∧ t.book.nextSeq = (s.book.nextSeq + 1) % 2 ^ 32 ∧
      t.book.level = s.book.level ∧ t.book.retries = s.book.retries % 2 ^ 32 ∧
      t.book.shadow = (if s.getB Fd.DRC_CSTAT_LOST Config.heapChannel then [] else s.book.shadow ++ [s.keptNext e.final]) ∧
      t.book.region s.book.level = s.book.region s.book.level ++ [s.keptNext e.final] := by
  obtain ⟨t, b, ht, hb⟩ := recordWrite_book hs hq hf
  obtain ⟨hfifo, hlevel, hretries⟩ := bookWith_keeps (s.taken rest).verified e.final
  refine ⟨t, ht, ?_⟩
  rw [hb]
  exact ⟨hfifo, rfl, hlevel, hretries, rfl, bookWith_region (s.taken rest).verified e.final hl⟩

/-! ### Offers, the drops, and the lockout of authentication (R306 to R308, R319) -/

theorem recordOffer_offers {s : State} (hs : s.alive = true) (r : Record) : exec (.recordOffer r) s = .next (s.offer r) := by
  have h := offer_raised s r
  exact (exec_next hs rfl).trans (by rw [putBack_self h.time h.pending])

theorem offer_enters {s : State} {r : Record} (hf : foldInto s.book.fifo r = none) (hd : fifoDepth s.book.fifo < 256) :
    (s.offer r).book = { s.book with fifo := s.book.fifo ++ [⟨r, 1, r.stamp, r.sev, r.typ, false⟩] } := by
  unfold State.offer
  simp only [hf, if_pos hd]

theorem offer_folds {s : State} {r : Record} {l : List Staged} (hf : foldInto s.book.fifo r = some l) :
    (s.offer r).book = { s.book with fifo := l, coal := (s.book.coal + 1) % 2 ^ 32 } := by
  unfold State.offer
  simp only [hf]

/-- The highest severity of which records were dropped. -/
def Book.dropSev (b : Book) : Nat :=
  if mapGet 0 b.dropped 3 ≠ 0 then 3 else if mapGet 0 b.dropped 2 ≠ 0 then 2 else if mapGet 0 b.dropped 1 ≠ 0 then 1 else 0

/-- The entry of the drops since the last one, with the stamps of the first and the last. -/
def Book.dropsEntry (b : Book) (f l : Stamp) : Staged :=
  let n := fun k => wd (mapGet 0 b.dropped k)
  ⟨⟨0x0A, 296, b.dropSev, 0, false, false, f, [n 0, n 1, n 2, n 3, wd f.opSec, wd f.gt, wd l.opSec, wd l.gt, 0, 0]⟩, 1, f, b.dropSev, 0x0A, true⟩

/-- The book with its drops entered. -/
def Book.dropsEntered (b : Book) (f l : Stamp) : Book :=
  { b with fifo := b.fifo ++ [b.dropsEntry f l], dropped := [], firstDrop := none, lastDrop := none }

theorem dropsOffer_enters {s : State} (hs : s.alive = true) {f l : Stamp} (hf : s.book.firstDrop = some f) (hl : s.book.lastDrop = some l) :
    ∃ t, exec .dropsOffer s = .next t ∧
      (fifoDepth s.book.fifo ≤ 128 → t.book.firstDrop = none ∧ t.book.lastDrop = none ∧ t.book.dropped = [] ∧
        ∃ e, t.book.fifo = s.book.fifo ++ [e] ∧ e.drops = true ∧ e.record.typ = 0x0A ∧
          e.record.payload.take 4 = (List.range 4).map fun k => wd (mapGet 0 s.book.dropped k)) ∧
      (128 < fifoDepth s.book.fifo → t = s) := by
  by_cases hd : fifoDepth s.book.fifo ≤ 128
  · have he : exec .dropsOffer s = s.whenLive (.next (s.withBook (s.book.dropsEntered f l))) := by
      show execDropsOffer s = _
      unfold execDropsOffer
      simp only [hf, hl, if_pos hd]
      rfl
    exact ⟨_, exec_next hs he, fun _ => ⟨rfl, rfl, rfl, _, rfl, rfl, rfl, rfl⟩, fun h => absurd h (Nat.not_lt.2 hd)⟩
  · have he : exec .dropsOffer s = s.whenLive (.next s) := by
      show execDropsOffer s = _
      unfold execDropsOffer
      simp only [hf, hl, if_neg hd]
    exact ⟨s, (exec_next hs he).trans (by rw [putBack_self rfl rfl]), fun h => absurd h hd, fun _ => rfl⟩

theorem authBusyEnd_ends {s : State} (hs : s.alive = true) {e : Nat} (hb : s.book.authBusyUntil = some e) :
    ∃ t, exec .authBusyEnd s = .next t ∧ (e ≤ s.time.opSec → t = { s with book := { s.book with authBusyUntil := none } }) ∧
      (s.time.opSec < e → t = s) := by
  have he : exec .authBusyEnd s = s.whenLive
      (if e ≤ s.time.opSec then .next { s with book := { s.book with authBusyUntil := none } } else .next s) := by
    show execAuthBusyEnd s = _
    unfold execAuthBusyEnd
    rw [hb]
  obtain ⟨t, ht, hd, hn⟩ := exec_raises hs he (.refl _) rfl rfl
  exact ⟨t, ht, hd, fun h => hn (Nat.not_le.2 h)⟩

/-- Settles O46. -/
theorem bookTakesRecords : Obligations.BookTakesRecords := by
  refine ⟨fun r s hs => ⟨_, recordOffer_offers hs r, offer_raised s r, offer_enters, fun _ => offer_folds⟩, ?_,
    fun _ _ _ hs hf hl => dropsOffer_enters hs hf hl, fun _ _ hs hb => authBusyEnd_ends hs hb⟩
  intro e rest s hs hq hf hl
  obtain ⟨t, ht, hfifo, hseq, hlevel, hretries, hshadow, hregion⟩ := recordWrite_places hs hq hf hl
  exact ⟨t, ht, hfifo, hseq, hlevel, hretries, hshadow, hregion⟩

end Sys2Proof.Machine

/-!
SUPPORT. Proofs about the secrets of the Field Book: its nonce and its key.
-/

namespace Sys2Proof.Machine

-- The option has the proofs elaborated one after another, not beside the tests above: the two together exceed the check's memory.
set_option deprecated.oldSectionVars true

/-! ### What the writer leaves of the nonce (R318) -/

/-- `t` has the nonce, the time and the queue of `s`. -/
structure SameNonce (s t : State) : Prop where
  nonce : t.book.nonce = s.book.nonce
  time : t.time = s.time
  pending : t.pending = s.pending

theorem SameNonce.refl (s : State) : SameNonce s s := ⟨rfl, rfl, rfl⟩

/-- The chain taken from its end. -/
theorem SameNonce.after {s t u : State} (k : SameNonce t u) (h : SameNonce s t) : SameNonce s u :=
  ⟨k.nonce.trans h.nonce, k.time.trans h.time, k.pending.trans h.pending⟩

theorem SameNonce.ite {c : Prop} [Decidable c] {s t u : State} (h : SameNonce s t) (k : SameNonce s u) :
    SameNonce s (if c then t else u) := by
  split
  · exact h
  · exact k

theorem SameNonce.raised {s t : State} (h : OnlyRaised s t) : SameNonce s t := ⟨congrArg (·.book.nonce) h.part, h.time, h.pending⟩

theorem SameNonce.withBook (s : State) {b : Book} (h : b.nonce = s.book.nonce) : SameNonce s { s with book := b } := ⟨h, rfl, rfl⟩

theorem SameNonce.forEach {α : Type} (l : List α) (f : State → α → State) (hf : ∀ s a, SameNonce s (f s a)) (s : State) :
    SameNonce s (forEach l s f) := by
  induction l generalizing s with
  | nil => exact .refl s
  | cons a l ih => exact .after (ih (f s a)) (hf s a)

theorem setRegion_nonce (b : Book) (lv : Nat) (l : List Kept) : (b.setRegion lv l).nonce = b.nonce := by
  unfold Book.setRegion
  split
  · rfl
  · split <;> rfl

section
variable (s : State)

theorem countVictim_sameNonce (sev : Nat) : SameNonce s (s.countVictim sev) := by
  unfold State.countVictim
  exact .ite (.withBook s rfl) (.after (.raised (pulseNoRecord_raised _ (by decide))) (.withBook s rfl))

theorem place_sameNonce {t : State} {r : Record} {q n : Nat} (h : s.place r = some (t, q, n)) : SameNonce s t := by
  unfold State.place at h
  simp -implicitDefEqProofs only [] at h
  split at h
  · split at h
    · cases h
      exact .after (.withBook _ (setRegion_nonce ..)) (countVictim_sameNonce s _)
    · cases h
  · cases h
    exact .withBook s (setRegion_nonce ..)

theorem placeOrDrop_sameNonce (r : Record) : SameNonce s (s.placeOrDrop r).1 := by
  unfold State.placeOrDrop
  split
  · next h => exact place_sameNonce s h
  · exact .raised (dropOffer_raised ..)

theorem levelEvent_sameNonce (lv : Nat) : SameNonce s (s.levelEvent lv) := by
  unfold State.levelEvent
  exact .ite (.raised (pulseNoRecord_raised _ (by decide))) (.after (.raised (alertPulse_raised _)) (.raised (pulseNoRecord_raised _ (by decide))))

theorem degrade_sameNonce (cause slot : Nat) (failing : Option Record) : SameNonce s (s.degrade cause slot failing).1 := by
  unfold State.degrade
  refine .after (.raised (bookNotice_raised ..)) (.after (levelEvent_sameNonce ..) (.after (placeOrDrop_sameNonce ..) ?_))
  split
  · exact .after (placeOrDrop_sameNonce ..) (.withBook s rfl)
  · exact .withBook s rfl

theorem checkFill_sameNonce : SameNonce s s.checkFill := by
  unfold State.checkFill
  refine .ite (.after (.raised (bookNotice_raised ..)) (.after (.raised (raiseNoRecord_raised _ (by decide))) (.withBook s rfl))) ?_
  exact .ite (.after (.raised (clearSource_raised _ (by decide))) (.withBook s rfl)) (.refl s)

/-- `n` retries counted and raised. -/
def State.retried (n : Nat) : State :=
  forEach (List.range n) { s with book := { s.book with retries := (s.book.retries + n) % 2 ^ 32 } } fun s _ => s.pulseNoRecord 298

theorem retried_sameNonce (n : Nat) : SameNonce s (s.retried n) :=
  .after (.forEach _ _ (fun s _ => .raised (pulseNoRecord_raised s (src := 298) (by decide))) _) (.withBook s rfl)

theorem writeRecord_sameNonce (r : Record) (failures : Nat) : SameNonce s (s.writeRecord r failures).1 := by
  refine .after (t := s.retried (min failures (s.legN 0x9000))) ?_ (retried_sameNonce s _)
  unfold State.writeRecord
  simp -implicitDefEqProofs only []
  split
  · exact degrade_sameNonce ..
  · exact .after (.ite (checkFill_sameNonce _) (.refl _)) (placeOrDrop_sameNonce ..)

theorem complete_sameNonce (m : Nat) (c : Command) (st : Nat) (p : List Word) : SameNonce s (s.complete m c st p) :=
  have h := complete_answered s m c st p
  ⟨h.nonce, h.time, h.pending⟩

theorem authFail_sameNonce : SameNonce s s.authFail := .after (.raised (pulseNoRecord_raised _ (by decide))) (.withBook s rfl)

/-- A clear takes no nonce but the one its row took. -/
theorem clearBook_sameNonce (run : BookRun) (c : Command) (first last : Word) (nonce : Option Nonce) (code : Word × Word) :
    SameNonce s (s.clearBook run c first last nonce code) := by
  unfold State.clearBook
  simp -implicitDefEqProofs only []
  refine .ite (complete_sameNonce ..) (.ite (complete_sameNonce ..) (.ite (complete_sameNonce ..)
    (.ite (.after (complete_sameNonce ..) (authFail_sameNonce s)) ?_)))
  have hw := writeRecord_sameNonce s (clearedRecord s.stamp first last (s.clearCount first last) run.mb c.opcode) run.failures
  split
  · next h => rw [h] at hw; exact .after (complete_sameNonce ..) hw
  · next h =>
    rw [h] at hw
    exact .after (.ite (complete_sameNonce ..) (.after (complete_sameNonce ..) (.after (.raised (bookNotice_raised ..)) (.withBook _ rfl)))) hw

end

/-! ### The commands that draw and take the nonce (R318 to R320) -/

/-- The live nonce taken. -/
def State.nonceTaken (s : State) : State := { s with book := { s.book with nonce := none } }

/-- Two words of the random source drawn as the live nonce. -/
def State.nonceDrawn (s : State) : State :=
  { s with
    draws := s.draws + 2
    book := { s.book with nonce := some ⟨Config.random s.draws, Config.random (s.draws + 1), s.time.opSec + s.legN 0x9002⟩ } }

section
variable {s : State} {c : Command}

theorem fbNonce_draws {mb : Fin 20} (h : s.runs mb 0x52 3 false c) (hb : s.book.authBusyUntil = none) :
    ∃ t, exec (.fbNonce mb) s = .next t ∧ s.answers t mb c 0 [Config.random s.draws, Config.random (s.draws + 1)] ∧
      t.draws = s.draws + 2 ∧ t.book.nonce = some ⟨Config.random s.draws, Config.random (s.draws + 1), s.time.opSec + s.legN 0x9002⟩ := by
  obtain ⟨t, e, ha, hk⟩ := row_complete (i := .fbNonce mb) rfl h (s.startOldest mb).nonceDrawn 0
    [Config.random s.draws, Config.random (s.draws + 1)]
    (if_neg (by show ¬ s.book.authBusyUntil.isSome = true; rw [hb]; decide)) rfl rfl (startOldest_waiting s mb)
  exact ⟨t, e, ha, congrArg (·.draws) hk.part, hk.nonce⟩

theorem fbNonce_busy {mb : Fin 20} (h : s.runs mb 0x52 3 false c) (hb : s.book.authBusyUntil ≠ none) :
    ∃ t, exec (.fbNonce mb) s = .next t ∧ s.answers t mb c 6 [] ∧ OnlyAnswered mb s t :=
  row_answers (i := .fbNonce mb) rfl h 6 [] (if_pos (Option.isSome_iff_ne_none.2 hb))

theorem fbClearCompat_takes {run : BookRun} (h : s.runs run.mb 0x5C 3 true c) :
    ∃ t, exec (.fbClearCompat run) s = .next t ∧ t.book.nonce = none := by
  have hk := clearBook_sameNonce (s.startOldest run.mb).nonceTaken run (s.begun c) (c.word 1) (c.word 2) s.book.nonce (c.word 3, c.word 4)
  obtain ⟨t, e, ha⟩ := row_next (i := .fbClearCompat run) rfl h _ rfl hk.time hk.pending
  exact ⟨t, e, ha.nonce.trans hk.nonce⟩

/-- FB_CLEAR once its nonce is looked at: `named` where it names the live one. -/
theorem fbClear_next {run : BookRun} {n : Nonce} (h : s.runs run.mb 0x5D 3 true c) (hn : s.book.nonce = some n) :
    ∃ t, exec (.fbClear run) s = .next t ∧ t.book.nonce = if n.lo = c.word 3 ∧ n.hi = c.word 4 then none else some n := by
  have hk (u : State) (x : Option Nonce) := clearBook_sameNonce u run (s.begun c) (c.word 1) (c.word 2) x (c.word 5, c.word 6)
  have hn' : (s.startOldest run.mb).book.nonce = some n := hn
  by_cases hc : n.lo = c.word 3 ∧ n.hi = c.word 4
  · have hk := hk (s.startOldest run.mb).nonceTaken (some n)
    obtain ⟨t, e, ha⟩ := row_next (i := .fbClear run) rfl h _ (by
      simp only [hn', begun_word, hc.1, hc.2, beq_self_eq_true, Bool.and_self, if_true]
      rfl) hk.time hk.pending
    exact ⟨t, e, (ha.nonce.trans hk.nonce).trans (if_pos hc).symm⟩
  · have hk := hk (s.startOldest run.mb) none
    have hd : (n.lo == c.word 3 && n.hi == c.word 4) = false := by simpa using hc
    obtain ⟨t, e, ha⟩ := row_next (i := .fbClear run) rfl h _ (by
      simp only [hn', begun_word, hd, Bool.false_eq_true, if_false]) hk.time hk.pending
    exact ⟨t, e, (ha.nonce.trans (hk.nonce.trans hn)).trans (if_neg hc).symm⟩

theorem nonceLapse_ends {n : Nonce} (hs : s.alive = true) (hn : s.book.nonce = some n) : ∃ t, exec .nonceLapse s = .next t ∧
    (n.lapseAt ≤ s.time.opSec → t = { s with book := { s.book with nonce := none } }) ∧ (s.time.opSec < n.lapseAt → t = s) := by
  have he : exec .nonceLapse s = s.whenLive (if n.lapseAt ≤ s.time.opSec then .next s.nonceTaken else .next s) := by
    show execNonceLapse s = _
    unfold execNonceLapse
    rw [hn]
    rfl
  obtain ⟨t, ht, hd, hu⟩ := exec_raises hs he (.refl _) rfl rfl
  exact ⟨t, ht, hd, fun h => hu (Nat.not_le.2 h)⟩

/-! ### FB_KEY (R322) -/

/-- The new key that a command carries. -/
def Command.newKey (c : Command) : List Byte := ((c.payload.take 8).flatMap wordBytes).map fun n => BitVec.ofNat 8 n

/-- A key replacement is authorised: the key area is blank, or the code is that of the old key and the live nonce. -/
def State.keyGood (s : State) (c : Command) : Bool :=
  s.keyBlank || match s.book.nonce with
    | some n => s.bookCode 0xFFFFFFFF 0xFFFFFFFF n.lo n.hi == (c.word 9, c.word 10)
    | none => false

/-- The state with the book key replaced. -/
def State.withKey (s : State) (key : List Byte) : State := { s with book := { s.book with key := key } }

/-- FB_KEY as it runs. -/
def State.fbKeyRun (s : State) (run : BookRun) (c : Command) : State :=
  if run.restart then s.nonceTaken.complete run.mb c 0x0A
  else if c.newKey.all fun b => b == 0xFF then s.nonceTaken.complete run.mb c 0x04
  else if s.keyGood c then (s.nonceTaken.withKey c.newKey).complete run.mb c 0x00
  else s.nonceTaken.authFail.complete run.mb c 0x0E

theorem exec_fbKey (run : BookRun) (s : State) : exec (.fbKey run) s =
    s.whenLive (.next (s.runCommand run.mb 0x5E fun s c => s.checked run.mb c 3 true fun s => s.fbKeyRun run c)) := rfl

theorem authFail_raised (s : State) :
    OnlyRaised { s with book := { s.book with authBusyUntil := some (s.time.opSec + 60) } } s.authFail :=
  pulseNoRecord_raised _ (by decide)

theorem keyGood_iff (s : State) (c : Command) : s.keyGood c = true ↔ (s.book.key.all fun b => b == 0xFF) = true ∨
    ∃ n, s.book.nonce = some n ∧ s.bookCode 0xFFFFFFFF 0xFFFFFFFF n.lo n.hi = (c.word 9, c.word 10) := by
  unfold State.keyGood State.keyBlank
  rw [Bool.or_eq_true]
  cases s.book.nonce with
  | none => simp
  | some n => simp only [beq_iff_eq, Option.some.injEq, exists_eq_left']

variable {run : BookRun} (h : s.runs run.mb 0x5E 3 true c)
include h

/-- FB_KEY takes the nonce, whatever the outcome; `b` is the state it answers from. -/
theorem fbKey_completes (b : State) (st : Nat) (hb : (s.startOldest run.mb).fbKeyRun run (s.begun c) = b.complete run.mb (s.begun c) st)
    (hn : b.book.nonce = none) (ht : b.time = s.time) (hq : b.pending = s.pending)
    (hw : (b.mb run.mb).waiting = (s.mb run.mb).waiting) :
    ∃ t, exec (.fbKey run) s = .next t ∧ s.answers t run.mb c st [] ∧ t.book.nonce = none ∧ t.book.key = b.book.key ∧
      t.book.authBusyUntil = b.book.authBusyUntil := by
  obtain ⟨t, e, ha, hk⟩ := row_complete (exec_fbKey run s) h b st [] hb ht hq hw
  exact ⟨t, e, ha, hk.nonce.trans hn, hk.key, congrArg (·.book.authBusyUntil) hk.part⟩

theorem fbKey_restart (hr : run.restart = true) :
    ∃ t, exec (.fbKey run) s = .next t ∧ t.book.nonce = none ∧ t.book.key = s.book.key ∧ s.answers t run.mb c 0x0A [] := by
  obtain ⟨t, e, ha, hn, hk, -⟩ := fbKey_completes h (s.startOldest run.mb).nonceTaken 0x0A (if_pos hr) rfl rfl rfl
    (startOldest_waiting s run.mb)
  exact ⟨t, e, hn, hk, ha⟩

theorem fbKey_badKey (hr : ¬ run.restart = true) (hb : (c.newKey.all fun b => b == 0xFF) = true) :
    ∃ t, exec (.fbKey run) s = .next t ∧ t.book.nonce = none ∧ t.book.key = s.book.key ∧ s.answers t run.mb c 0x04 [] := by
  obtain ⟨t, e, ha, hn, hk, -⟩ := fbKey_completes h (s.startOldest run.mb).nonceTaken 0x04 ((if_neg hr).trans (if_pos hb)) rfl rfl rfl
    (startOldest_waiting s run.mb)
  exact ⟨t, e, hn, hk, ha⟩

theorem fbKey_replaces (hr : ¬ run.restart = true) (hb : ¬ (c.newKey.all fun b => b == 0xFF) = true) (hg : s.keyGood c = true) :
    ∃ t, exec (.fbKey run) s = .next t ∧ t.book.nonce = none ∧ t.book.key = c.newKey ∧ s.answers t run.mb c 0 [] := by
  obtain ⟨t, e, ha, hn, hk, -⟩ := fbKey_completes h ((s.startOldest run.mb).nonceTaken.withKey c.newKey) 0
    ((if_neg hr).trans ((if_neg hb).trans (if_pos hg))) rfl rfl rfl (startOldest_waiting s run.mb)
  exact ⟨t, e, hn, hk, ha⟩

theorem fbKey_fails (hr : ¬ run.restart = true) (hb : ¬ (c.newKey.all fun b => b == 0xFF) = true) (hg : ¬ s.keyGood c = true) :
    ∃ t, exec (.fbKey run) s = .next t ∧ t.book.nonce = none ∧ t.book.key = s.book.key ∧ s.answers t run.mb c 0x0E [] ∧
      t.book.authBusyUntil = some (s.time.opSec + 60) := by
  have ha := authFail_raised (s.startOldest run.mb).nonceTaken
  obtain ⟨t, e, ha', hn, hk, hl⟩ := fbKey_completes h (s.startOldest run.mb).nonceTaken.authFail 0x0E
    ((if_neg hr).trans ((if_neg hb).trans (if_neg hg))) (congrArg (·.book.nonce) ha.part) ha.time ha.pending
    (by rw [ha.mb]; exact startOldest_waiting s run.mb)
  exact ⟨t, e, hn, hk.trans (congrArg (·.book.key) ha.part), ha', hl.trans (congrArg (·.book.authBusyUntil) ha.part)⟩

theorem fbKey_takes : ∃ t, exec (.fbKey run) s = .next t ∧ t.book.nonce = none := by
  by_cases hr : run.restart = true
  · obtain ⟨t, e, hn, -⟩ := fbKey_restart h hr
    exact ⟨t, e, hn⟩
  · by_cases hb : (c.newKey.all fun b => b == 0xFF) = true
    · obtain ⟨t, e, hn, -⟩ := fbKey_badKey h hr hb
      exact ⟨t, e, hn⟩
    · by_cases hg : s.keyGood c = true
      · obtain ⟨t, e, hn, -⟩ := fbKey_replaces h hr hb hg
        exact ⟨t, e, hn⟩
      · obtain ⟨t, e, hn, -⟩ := fbKey_fails h hr hb hg
        exact ⟨t, e, hn⟩

end

/-- Settles O48. -/
theorem nonceLifecycle : Obligations.NonceLifecycle := by
  refine ⟨fun mb s c h => ?_, fun run s c h => fbClearCompat_takes h, fun run s c h => fbKey_takes h, fun run s c n h hn => ?_,
    fun n s hs hn => nonceLapse_ends hs hn⟩
  · by_cases hb : s.book.authBusyUntil = none
    · obtain ⟨t, e, ht⟩ := fbNonce_draws h hb
      exact ⟨t, e, fun _ => ht, fun hn => absurd hb hn⟩
    · obtain ⟨t, e, ht⟩ := fbNonce_busy h hb
      exact ⟨t, e, fun hn => absurd hn hb, fun _ => ht⟩
  · obtain ⟨t, e, ht⟩ := fbClear_next h hn
    exact ⟨t, e, fun hc => ht.trans (if_pos hc), fun hc => ht.trans (if_neg hc)⟩

/-- Settles O49. -/
theorem bookKeyReplaced : Obligations.BookKeyReplaced := by
  intro run s c h key blank good
  have hg : s.keyGood c = true ↔ good := keyGood_iff s c
  by_cases hr : run.restart = true
  · obtain ⟨t, e, -, ht⟩ := fbKey_restart h hr
    exact ⟨t, e, fun _ => ht, fun hn => absurd hr (by simp [hn]), fun hn => absurd hr (by simp [hn]), fun hn => absurd hr (by simp [hn])⟩
  · by_cases hb : blank = true
    · obtain ⟨t, e, -, ht⟩ := fbKey_badKey h hr hb
      exact ⟨t, e, fun hn => absurd hn hr, fun _ _ => ht, fun _ hn => absurd hb (by simp [hn]), fun _ hn => absurd hb (by simp [hn])⟩
    · by_cases hk : s.keyGood c = true
      · obtain ⟨t, e, -, ht⟩ := fbKey_replaces h hr hb hk
        exact ⟨t, e, fun hn => absurd hn hr, fun _ hn => absurd hn hb, fun _ _ _ => ht, fun _ _ hn => absurd (hg.1 hk) hn⟩
      · obtain ⟨t, e, -, ht⟩ := fbKey_fails h hr hb hk
        exact ⟨t, e, fun hn => absurd hn hr, fun _ hn => absurd hn hb, fun _ _ hn => absurd (hg.2 hn) hk, fun _ _ _ => ht⟩

end Sys2Proof.Machine

/-!
SUPPORT. Proofs about the fault collector's rows: which sources an event raises and a clearance lowers, and what each timer ends.
-/

namespace Sys2Proof.Machine

-- The option has the proofs elaborated one after another, not beside the tests above: the two together exceed the check's memory.
set_option deprecated.oldSectionVars true

/-! ### The sources of a cycle's events are active after it (R287) -/

theorem collectAll_noneCleared (l : List FaultEv) : ∀ s : State, NoneCleared s (s.collectAll l).1 := by
  induction l with
  | nil => exact fun s => .refl s
  | cons e es ih => exact fun s => .after (ih _) (collectOne_noneCleared s e)

theorem collectAll_active (l : List FaultEv) : ∀ (s : State) (e : FaultEv), e ∈ l → e.source < 512 →
    (s.collectAll l).1.getB Fd.FLT_SSTAT_ACTIVE e.source = true := by
  induction l with
  | nil => exact fun s e he => absurd he List.not_mem_nil
  | cons d ds ih =>
    intro s e he hs
    rcases List.mem_cons.1 he with rfl | he
    · exact (collectAll_noneCleared ds _).active _ hs (collectOne_active s e hs)
    · exact ih _ e he hs

/-- The events that a cycle collects: those given, and that of an injection where one is injected. -/
def cycleEvents (l : List FaultEv) : List FaultEv := if l.any (·.inj) then l ++ [⟨289, false, false, 0, 0⟩] else l

theorem mem_cycleEvents {l : List FaultEv} {e : FaultEv} (he : e ∈ l) : e ∈ cycleEvents l := by
  unfold cycleEvents
  split
  · exact List.mem_append_left _ he
  · exact he

theorem cycleEvents_sources {l : List FaultEv} (h : ∀ e ∈ l, e.source < 512) : ∀ e ∈ cycleEvents l, e.source < 512 := by
  unfold cycleEvents
  split
  · intro e he
    rcases List.mem_append.1 he with he | he
    · exact h e he
    · rw [List.mem_singleton.1 he]; decide
  · exact h

/-- What a cycle does once its events are collected lowers no source. -/
theorem raiseCycle_collected (s : State) (l : List FaultEv) (h : ∀ e ∈ l, e.source < 512) :
    NoneCleared (s.collectAll (cycleEvents l)).1 (s.raiseCycle l) := by
  unfold State.raiseCycle
  refine .after (.forEach _ _ (fun s r => offerEvent_noneCleared ..) _) (.after (captureFirst_noneCleared _ _ fun r hr => ?_) ?_)
  · have hm := List.mem_map_of_mem (f := (·.ev)) hr
    rw [collectAll_sources] at hm
    exact cycleEvents_sources h _ hm
  · exact .ite (fun _ => toPulse_noneCleared ..) (.refl _)

theorem raiseCycle_noneCleared (s : State) (l : List FaultEv) (h : ∀ e ∈ l, e.source < 512) : NoneCleared s (s.raiseCycle l) :=
  .after (raiseCycle_collected s l h) (collectAll_noneCleared _ s)

theorem raiseCycle_active (s : State) {l : List FaultEv} (h : ∀ e ∈ l, e.source < 512) {e : FaultEv} (he : e ∈ l) :
    (s.raiseCycle l).getB Fd.FLT_SSTAT_ACTIVE e.source = true :=
  (raiseCycle_collected s l h).active _ (h e he) (collectAll_active _ s e (mem_cycleEvents he) (h e he))

theorem faultEvent_takes {s : State} (hs : s.alive = true) (events : List FaultEv) (hl : ∀ e ∈ events, e.source < 512) :
    ∃ t, exec (.faultEvent events) s = .next t ∧ OnlyRaised s t ∧
      ∀ e ∈ events, reservedSource e.source = false → t.getB Fd.FLT_SSTAT_ACTIVE e.source = true := by
  have hf : ∀ e ∈ events.filter (fun e => !reservedSource e.source && !s.getB Fd.FLT_SSTAT_ACTIVE e.source), e.source < 512 :=
    fun e he => hl e (List.mem_of_mem_filter he)
  have hr := raiseCycle_raised s _ hf
  refine ⟨_, (exec_next hs rfl).trans (by rw [putBack_self hr.time hr.pending]), hr, fun e he hn => ?_⟩
  by_cases ha : s.getB Fd.FLT_SSTAT_ACTIVE e.source = true
  · exact (raiseCycle_noneCleared s _ hf).active _ (hl e he) ha
  · exact raiseCycle_active s hf (List.mem_filter.2 ⟨he, by simp [hn, ha]⟩)

/-! ### PAIR_INVALID (R287) -/

/-- The events of an invalid pair: that of its source, and FLT_PATH, each where it is not active. -/
def State.pairEvents (s : State) (source : Nat) (inj : Bool) : List FaultEv :=
  (if s.getB Fd.FLT_SSTAT_ACTIVE source then [] else [⟨source, inj, true, 0, s.sourceDomains source⟩]) ++
    (if s.getB Fd.FLT_SSTAT_ACTIVE 491 then [] else [⟨491, inj, false, 0, 0⟩])

theorem pairEvents_sources (s : State) {source : Nat} (inj : Bool) (h : source < 512) : ∀ e ∈ s.pairEvents source inj, e.source < 512 := by
  intro e he
  rcases List.mem_append.1 he with he | he
  · split at he
    · exact absurd he List.not_mem_nil
    · rw [List.mem_singleton.1 he]; exact h
  · split at he
    · exact absurd he List.not_mem_nil
    · rw [List.mem_singleton.1 he]; exact (by decide : 491 < 512)

theorem toPulse_getB (s : State) (src : Nat) (f : Fld) (i j : Nat) : (s.toPulse src).getB f i j = s.getB f i j := rfl

/-- After the events of an invalid pair its source and FLT_PATH are active. -/
theorem pairEvents_active (s : State) {source : Nat} (inj : Bool) (h : source < 512) :
    (s.raiseCycle (s.pairEvents source inj)).getB Fd.FLT_SSTAT_ACTIVE source = true ∧
      (s.raiseCycle (s.pairEvents source inj)).getB Fd.FLT_SSTAT_ACTIVE 491 = true := by
  have hl := pairEvents_sources s inj h
  have hk := raiseCycle_noneCleared s _ hl
  constructor
  · by_cases ha : s.getB Fd.FLT_SSTAT_ACTIVE source = true
    · exact hk.active _ h ha
    · refine raiseCycle_active s hl (e := ⟨source, inj, true, 0, s.sourceDomains source⟩) (List.mem_append_left _ ?_)
      rw [if_neg ha]
      exact List.mem_singleton.2 rfl
  · by_cases ha : s.getB Fd.FLT_SSTAT_ACTIVE 491 = true
    · exact hk.active _ (by decide) ha
    · refine raiseCycle_active s hl (e := ⟨491, inj, false, 0, 0⟩) (List.mem_append_right _ ?_)
      rw [if_neg ha]
      exact List.mem_singleton.2 rfl

/-- PAIR_INVALID raises the pair's events, once an armed injection of it is taken. -/
theorem pairInvalid_raises (s : State) {source : Fin 512} (h : reservedSource source = false) :
    ∃ u inj, exec (.pairInvalid source) s = s.whenLive (.next ((State.raiseCycle u (u.pairEvents source inj)).toPulse 491)) := by
  show ∃ u inj, execPairInvalid source s = _
  unfold execPairInvalid
  rw [h, if_neg Bool.false_ne_true]
  exact ⟨_, _, rfl⟩

theorem pairInvalid_takes {s : State} (hs : s.alive = true) (source : Fin 512) : ∃ t, exec (.pairInvalid source) s = .next t ∧
    (reservedSource source = false → t.getB Fd.FLT_SSTAT_ACTIVE source = true ∧ t.getB Fd.FLT_SSTAT_ACTIVE 491 = true) ∧
    (reservedSource source = true → t = s) := by
  by_cases h : reservedSource source = true
  · have he : exec (.pairInvalid source) s = s.whenLive (.next s) := congrArg s.whenLive (if_pos h)
    exact ⟨s, (exec_next hs he).trans (by rw [putBack_self rfl rfl]), fun hn => absurd h (by simp [hn]), fun _ => rfl⟩
  · obtain ⟨u, inj, he⟩ := pairInvalid_raises s (Bool.eq_false_iff.2 h)
    obtain ⟨ha, hp⟩ := pairEvents_active u inj source.isLt
    exact ⟨_, exec_next hs he, fun _ => by rw [putBack_getB, putBack_getB, toPulse_getB, toPulse_getB]; exact ⟨ha, hp⟩, fun hn => absurd hn h⟩

/-! ### FAULT_CLEARANCE (R296): the records it makes raise no source but that of the drops -/

/-- SSTAT of source `k` is in `t` what it is in `s`. -/
structure SameSstat (k : Nat) (s t : State) : Prop where
  sstat : t.reg (Reg.FLT_SSTAT.off k 0) = s.reg (Reg.FLT_SSTAT.off k 0)

theorem SameSstat.refl (k : Nat) (s : State) : SameSstat k s s := ⟨rfl⟩

/-- The chain taken from its end. -/
theorem SameSstat.after {k : Nat} {s t u : State} (j : SameSstat k t u) (h : SameSstat k s t) : SameSstat k s u :=
  ⟨j.sstat.trans h.sstat⟩

theorem SameSstat.ite {k : Nat} {c : Prop} [Decidable c] {s t u : State} (h : SameSstat k s t) (j : SameSstat k s u) :
    SameSstat k s (if c then t else u) := by
  split
  · exact h
  · exact j

theorem SameSstat.of_csr {k : Nat} {s t : State} (h : t.csr = s.csr) : SameSstat k s t := ⟨by simp only [State.reg, h]⟩

theorem SameSstat.forEach_mem {k : Nat} {α : Type} (l : List α) (f : State → α → State) (hf : ∀ s, ∀ a ∈ l, SameSstat k s (f s a))
    (s : State) : SameSstat k s (forEach l s f) :=
  ⟨forEach_keeps_mem (fun s => s.reg (Reg.FLT_SSTAT.off k 0)) l f (fun s a ha => ⟨(hf s a ha).sstat⟩) s⟩

/-- A register outside SSTAT. -/
theorem SameSstat.set {k : Nat} (hk : k < 512) (s : State) (f : Fld) (v i j : Nat)
    (h : f.reg.off i j < 0x35800 ∨ 0x36000 ≤ f.reg.off i j) : SameSstat k s (s.set f v i j) :=
  ⟨reg_set_other s f v i j (by rw [sstat_off]; omega)⟩

/-- SSTAT of another source. -/
theorem SameSstat.setSstat {k i : Nat} (hi : i ≠ k) (s : State) (f : Fld) (v : Nat) (hr : f.reg = Reg.FLT_SSTAT) :
    SameSstat k s (s.set f v i) :=
  ⟨reg_set_other s f v i 0 (by rw [hr, sstat_off, sstat_off]; omega)⟩

section
variable {k src : Nat} (hk : k < 512) (hi : src ≠ k) (s : State)
include hk

theorem count_sameSstat (b i c n : Nat) (a : EventAttr) : SameSstat k s (s.count b i c n a) := by
  unfold State.count
  refine .ite (.refl k s) (.forEach_mem _ _ (fun s e _ => .ite ?_ (.refl k s)) s)
  unfold State.addCounter
  refine .ite (.of_csr rfl) (.after (.set hk _ Fd.PMC_VAL_HI_WRAP _ e.1 0 (.inr ?_)) (.of_csr rfl))
  simp only [RegDesc.off, Fd.PMC_VAL_HI_WRAP, Reg.PMC_VAL_HI]
  omega

theorem alertPulse_sameSstat : SameSstat k s s.alertPulse :=
  .after (.set hk _ Fd.FLT_ALERT_PULSE _ 0 0 (by decide)) (.after (.set hk _ Fd.FLT_ALERT_SW _ 0 0 (by decide)) (.of_csr rfl))

omit hk in
theorem notify_sameSstat (code : Nat) (l : List Word) (at_ : Nat) : SameSstat k s (s.notify code l at_) := by
  unfold State.notify
  exact .ite (.of_csr rfl) (.refl k s)

theorem writeFirst_sameSstat (n : Nat) (r : EventResult) : SameSstat k s (s.writeFirst n r) := by
  unfold State.writeFirst
  refine .after (.set hk _ Fd.FLT_FIRST_CNT_COUNT _ 0 0 (by decide)) (.after (.set hk _ Fd.FLT_FIRST_PC_PWR_CYC _ 0 0 (by decide)) ?_)
  refine .after (.set hk _ Fd.FLT_FIRST_GT_GT _ 0 0 (by decide)) (.after (.set hk _ Fd.FLT_FIRST_SEC_OP_SEC _ 0 0 (by decide)) ?_)
  refine .after (.set hk _ Fd.FLT_FIRST_SOURCE _ 0 0 (by decide)) (.after (.set hk _ Fd.FLT_FIRST_INJ _ 0 0 (by decide)) ?_)
  refine .after (.set hk _ Fd.FLT_FIRST_PATH _ 0 0 (by decide)) (.after (.set hk _ Fd.FLT_FIRST_SEV _ 0 0 (by decide)) ?_)
  exact .set hk _ Fd.FLT_FIRST_VALID _ 0 0 (by decide)

theorem captureFirst_sameSstat (rs : List EventResult) (h : ∀ r ∈ rs, r.ev.source < 512) : SameSstat k s (s.captureFirst rs) := by
  unfold State.captureFirst
  refine .ite (.refl k s) ?_
  split
  · exact .refl k s
  · refine .after (.forEach_mem rs _ (fun u q hq => ?_) _) (writeFirst_sameSstat hk s _ _)
    have hq := h q hq
    exact .set hk u Fd.FLT_SAMECYC_SRC _ _ 0 (.inl (by simp only [RegDesc.off, Fd.FLT_SAMECYC_SRC, Reg.FLT_SAMECYC]; omega))

include hi

omit hk in
theorem countEvent_sameSstat : SameSstat k s (s.countEvent src).1 := by
  unfold State.countEvent
  split
  · exact .refl k s
  · unfold State.escalate State.openInterval
    refine .after (.ite (.setSstat hi _ Fd.FLT_SSTAT_ESC _ rfl) (.refl k _)) (.after (.setSstat hi _ Fd.FLT_SSTAT_CNT _ rfl) ?_)
    exact .ite (.refl k s) (.after (.setSstat hi _ Fd.FLT_SSTAT_ESC _ rfl) (.of_csr rfl))

theorem markSource_sameSstat (e : FaultEv) (sev : Nat) (he : e.source = src) : SameSstat k s (s.markSource e sev) := by
  subst he
  unfold State.markSource
  refine .after (count_sameSstat hk _ ..) (.after (.ite (.refl k _) (.setSstat hi _ Fd.FLT_SSTAT_TOTAL _ rfl)) ?_)
  refine .after (.setSstat hi _ Fd.FLT_SSTAT_PATH _ rfl) (.after (.setSstat hi _ Fd.FLT_SSTAT_INJ _ rfl) ?_)
  refine .after (.setSstat hi _ Fd.FLT_SSTAT_SEV _ rfl) (.after (.setSstat hi _ Fd.FLT_SSTAT_LATCHED _ rfl) ?_)
  exact .setSstat hi _ Fd.FLT_SSTAT_ACTIVE _ rfl

omit hi in
theorem postReaction_sameSstat (sev : Nat) (sc : Nat × Nat) : SameSstat k s (s.postReaction src sev sc) := by
  unfold State.postReaction
  exact .after (.ite (alertPulse_sameSstat hk _) (.refl k _)) (.ite (.refl k s) (.of_csr rfl))

omit hi hk in
theorem hitCapture_sameSstat : SameSstat k s (s.hitCapture src) := by
  unfold State.hitCapture
  exact .ite (.of_csr rfl) (.refl k s)

omit hi hk in
theorem askFreeze_sameSstat (yes : Bool) : SameSstat k s (s.askFreeze src yes) := by
  unfold State.askFreeze
  exact .ite (.of_csr rfl) (.refl k s)

omit hi hk in
theorem requestSnap_sameSstat (yes : Bool) : SameSstat k s (s.requestSnap yes) := by
  unfold State.requestSnap
  exact .ite (.of_csr rfl) (.refl k s)

omit hi hk in
theorem notifyFault_sameSstat (e : FaultEv) (sev lanes : Nat) : SameSstat k s (s.notifyFault e sev lanes) := by
  unfold State.notifyFault
  exact .ite (notify_sameSstat ..) (.refl k s)

/-- One event of another source. -/
theorem collectOne_sameSstat (e : FaultEv) (he : e.source = src) : SameSstat k s (s.collectOne e).1 := by
  have hc : SameSstat k s (s.countEvent e.source).1 := by rw [he]; exact countEvent_sameSstat hi s
  exact .after (notifyFault_sameSstat ..) (.after (requestSnap_sameSstat ..) (.after (askFreeze_sameSstat ..)
    (.after (postReaction_sameSstat hk ..) (.after (hitCapture_sameSstat ..) (.after (markSource_sameSstat hk hi _ e _ he) hc)))))

theorem pulseNoRecord_sameSstat (hs : src < 512) : SameSstat k s (s.pulseNoRecord src) := by
  refine .after (t := s.raiseNoRecord src) (.of_csr rfl) (.after (captureFirst_sameSstat hk _ _ fun r hr => ?_)
    (collectOne_sameSstat hk hi s ⟨src, false, false, 0, 0⟩ rfl))
  rw [List.mem_singleton.1 hr]
  exact hs

end

section
variable {k : Nat} (hk : k < 512) (hd : 296 ≠ k) (s : State)
include hk hd

theorem dropOffer_sameSstat (sev : Nat) (st : Stamp) : SameSstat k s (s.dropOffer sev st) := by
  unfold State.dropOffer State.countDrop
  exact .ite (.after (pulseNoRecord_sameSstat hk hd _ (by decide)) (.of_csr rfl)) (.of_csr rfl)

/-- A record offered raises no source but that of the drops. -/
theorem offer_sameSstat (r : Record) : SameSstat k s (s.offer r) := by
  unfold State.offer
  split
  · exact .of_csr rfl
  · refine .ite (.of_csr rfl) (.ite ?_ (dropOffer_sameSstat hk hd ..))
    split
    · exact .after (dropOffer_sameSstat hk hd ..) (.of_csr rfl)
    · exact dropOffer_sameSstat hk hd ..

end

theorem SameSstat.inactive {k : Nat} {s t : State} (h : SameSstat k s t) (hs : s.getB Fd.FLT_SSTAT_ACTIVE k = false) :
    t.getB Fd.FLT_SSTAT_ACTIVE k = false := by
  rw [← hs]
  simp only [State.getB, State.get]
  rw [show Fd.FLT_SSTAT_ACTIVE.reg.off k 0 = Reg.FLT_SSTAT.off k 0 from rfl, h.sstat]

theorem markClear_inactive (s : State) {src : Nat} (h : src < 512) : (s.markClear src).getB Fd.FLT_SSTAT_ACTIVE src = false := by
  have hs : SameSstat src (s.setB Fd.FLT_SSTAT_ACTIVE false src) (s.markClear src) :=
    .after (.set h _ Fd.FLT_CLR_GT_GT _ src 0 (.inr (by simp only [RegDesc.off, Fd.FLT_CLR_GT_GT, Reg.FLT_CLR_GT]; omega)))
      (.set h _ Fd.FLT_CLR_SEC_OP_SEC _ src 0 (.inr (by simp only [RegDesc.off, Fd.FLT_CLR_SEC_OP_SEC, Reg.FLT_CLR_SEC]; omega)))
  exact hs.inactive (getB_setB_same s Fd.FLT_SSTAT_ACTIVE false src 0 (by unfold Fld.fits; decide) (by decide))

theorem notifyClear_sameSstat (k : Nat) (s : State) (src sev lanes : Nat) : SameSstat k s (s.notifyClear src sev lanes) := by
  unfold State.notifyClear
  exact .ite (notify_sameSstat ..) (.refl k s)

theorem offerClear_sameSstat {k : Nat} (hk : k < 512) (hd : 296 ≠ k) (s : State) (src sev lanes domains : Nat) :
    SameSstat k s (s.offerClear src sev lanes domains) := by
  unfold State.offerClear
  exact .ite (.refl k s) (offer_sameSstat hk hd ..)

/-- A source cleared is inactive, that of the drops apart. -/
theorem clearSource_inactive (s : State) {src : Nat} (h : src < 512) (hd : src ≠ 296) :
    (s.clearSource src).getB Fd.FLT_SSTAT_ACTIVE src = false := by
  unfold State.clearSource
  split
  · exact SameSstat.inactive (.after (offerClear_sameSstat h hd.symm ..) (notifyClear_sameSstat ..)) (markClear_inactive s h)
  · next ha => exact Bool.eq_false_iff.2 ha

theorem faultClearance_clears {s : State} (hs : s.alive = true) (source : Fin 512) :
    ∃ t, exec (.faultClearance source) s = .next t ∧ OnlyRaised s t ∧
      (source.val ≠ 296 → t.getB Fd.FLT_SSTAT_ACTIVE source = false) ∧ (s.getB Fd.FLT_SSTAT_ACTIVE source = false → t = s) := by
  have hr := clearSource_raised s source.isLt
  exact ⟨_, (exec_next hs rfl).trans (by rw [putBack_self hr.time hr.pending]), hr, clearSource_inactive s source.isLt,
    fun hn => if_neg (by rw [hn]; decide)⟩

/-! ### FAULT_REACTION (R290) -/

/-- `t` has the collector's state of `s`, registers apart. -/
structure SameFlt (s t : State) : Prop where
  flt : t.flt = s.flt

theorem SameFlt.after {s t u : State} (k : SameFlt t u) (h : SameFlt s t) : SameFlt s u := ⟨k.flt.trans h.flt⟩

theorem SameFlt.refl (s : State) : SameFlt s s := ⟨rfl⟩

theorem SameFlt.ite {c : Prop} [Decidable c] {s t u : State} (h : SameFlt s t) (k : SameFlt s u) : SameFlt s (if c then t else u) := by
  split
  · exact h
  · exact k

theorem SameFlt.set (s : State) (f : Fld) (v i j : Nat) : SameFlt s (s.set f v i j) := ⟨rfl⟩

theorem SameFlt.setB (s : State) (f : Fld) (v : Bool) (i j : Nat) : SameFlt s (s.setB f v i j) := ⟨rfl⟩

theorem SameFlt.withLane (s : State) (l : Lanes) : SameFlt s { s with lane := l } := ⟨rfl⟩

theorem SameFlt.forEach {α : Type} (l : List α) (f : State → α → State) (hf : ∀ s a, SameFlt s (f s a)) (s : State) :
    SameFlt s (forEach l s f) := ⟨forEach_keeps State.flt l f (fun s a => ⟨(hf s a).flt⟩) s⟩

theorem updateMuted_sameFlt (s : State) (n : Nat) : SameFlt s (s.updateMuted n) := by
  unfold State.updateMuted
  refine .ite ?_ (.ite (.after (.withLane ..) (.setB ..)) (.setB ..))
  exact .ite (.ite (.after (.withLane ..) (.setB ..)) (.after (.setB ..) (.after (.withLane ..) (.setB ..))))
    (.after (.setB ..) (.after (.withLane ..) (.setB ..)))

theorem capToSafe_sameFlt (s : State) (d : Nat) : SameFlt s (s.capToSafe d) := .set ..

/-- The reactions once those due by a grid tick are in force. -/
def inForceBy (l : List Reaction) (by_ : Nat) : List Reaction := l.map fun r => if r.dueAt ≤ by_ then { r with inForce := true } else r

/-- A reaction due by a grid tick and not yet in force. -/
def Reaction.isDue (r : Reaction) (by_ : Nat) : Bool := !r.inForce && decide (r.dueAt ≤ by_)

theorem applyReactionsBy_none {s : State} {by_ : Nat} (h : (s.flt.reactions.filter fun r => r.isDue by_) = []) :
    s.applyReactionsBy by_ = s := by
  unfold State.applyReactionsBy
  exact if_pos (by rw [List.isEmpty_iff]; exact h)

/-- What reactions coming into force do to the registers (R291). -/
def State.enforced (s : State) (due : List Reaction) : State :=
  forEach due (forEach due s fun s r => s.setB Fd.FLT_SSTAT_REACT true r.source).syncFltMute fun s r =>
    if r.sev = 2 then forEach (maskList r.domains 256) s fun s d => (s.capToSafe d).set Fd.CON_GAPP_SEL 2 d else s

theorem syncFltMute_sameFlt (s : State) : SameFlt s s.syncFltMute :=
  .forEach _ _ (fun _ _ => .after (updateMuted_sameFlt ..) (.setB ..)) s

theorem enforced_sameFlt (s : State) (due : List Reaction) : SameFlt s (s.enforced due) := by
  unfold State.enforced
  refine .after (.forEach _ _ (fun s r => ?_) _) (.after (syncFltMute_sameFlt _) (.forEach _ _ (fun _ _ => .setB ..) s))
  exact .ite (.forEach _ _ (fun _ _ => .after (.set ..) (capToSafe_sameFlt ..)) s) (.refl s)

/-- The state with the reactions due by a grid tick marked in force. -/
def State.withInForce (s : State) (by_ : Nat) : State := { s with flt := { s.flt with reactions := inForceBy s.flt.reactions by_ } }

theorem applyReactionsBy_reactions {s : State} {by_ : Nat} (h : (s.flt.reactions.filter fun r => r.isDue by_) ≠ []) :
    (s.applyReactionsBy by_).flt.reactions = inForceBy s.flt.reactions by_ := by
  have he : s.applyReactionsBy by_ = (s.withInForce by_).enforced (s.flt.reactions.filter fun r => r.isDue by_) := by
    unfold State.applyReactionsBy
    exact if_neg (by rw [List.isEmpty_iff]; exact h)
  rw [he, (enforced_sameFlt ..).flt]
  rfl

/-- A reaction due is in force afterwards, whether it came into force before or does now. -/
theorem applyReactionsBy_mem {s : State} {by_ : Nat} {r : Reaction} (hr : r ∈ s.flt.reactions) (hd : r.dueAt ≤ by_) :
    { r with inForce := true } ∈ (s.applyReactionsBy by_).flt.reactions := by
  by_cases h : (s.flt.reactions.filter fun r => r.isDue by_) = []
  · have hf : r.inForce = true := by
      have := List.filter_eq_nil_iff.1 h r hr
      simpa [Reaction.isDue, hd] using this
    rw [applyReactionsBy_none h, ← hf]
    exact hr
  · rw [applyReactionsBy_reactions h]
    exact List.mem_map.2 ⟨r, hr, if_pos hd⟩

theorem faultReaction_applies {s : State} (hs : s.alive = true) : ∃ t, exec .faultReaction s = .next t ∧
    (let by_ := s.time.gt + if s.tickMissing then 2 else 0
     (∀ r ∈ s.flt.reactions, r.dueAt ≤ by_ → { r with inForce := true } ∈ t.flt.reactions) ∧
      ((∀ r ∈ s.flt.reactions, r.inForce = true ∨ by_ < r.dueAt) → t = s)) := by
  refine ⟨_, exec_next hs rfl, fun r hr hd => applyReactionsBy_mem hr hd, fun h => ?_⟩
  rw [applyReactionsBy_none (List.filter_eq_nil_iff.2 fun r hr => ?_), putBack_self rfl rfl]
  rcases h r hr with hf | hl
  · simp [Reaction.isDue, hf]
  · simp [Reaction.isDue, Nat.not_le.2 hl]

/-! ### The timers of the collector (R288, R293, R298) -/

theorem escIntervalEnd_ends {s : State} (hs : s.alive = true) (source : Fin 512) (e : Nat)
    (hi : s.flt.intervals.find? (fun p => p.1 == source.val) = some (source.val, e)) :
    ∃ t, exec (.escIntervalEnd source) s = .next t ∧
      (e ≤ s.time.gt → t.getB Fd.FLT_SSTAT_ESC source = false ∧ t.flt.intervals = mapErase s.flt.intervals source) ∧
      (s.time.gt < e → t = s) := by
  have he : exec (.escIntervalEnd source) s = s.whenLive (if e ≤ s.time.gt then
      .next (State.setB { s with flt := { s.flt with intervals := mapErase s.flt.intervals source } } Fd.FLT_SSTAT_ESC false source)
      else .next s) := by
    show execEscIntervalEnd source s = _
    unfold execEscIntervalEnd
    rw [hi]
  obtain ⟨t, ht, hd, hn⟩ := exec_raises hs he (.refl _) (State.setB_time ..) (State.setB_pending ..)
  refine ⟨t, ht, fun h => ?_, fun h => hn (Nat.not_le.2 h)⟩
  rw [hd h]
  exact ⟨getB_setB_same _ Fd.FLT_SSTAT_ESC false source 0 (by unfold Fld.fits; decide) (by decide), congrArg Collector.intervals (State.setB_flt ..)⟩

theorem alertPulseEnd_ends {s : State} {e : Nat} (hp : s.flt.alertEnd = some e) (hf : s.start.frozen = false) :
    ∃ t, exec .alertPulseEnd s = .next t ∧ (e ≤ s.time.gt → t.flt.alertEnd = none ∧ t.getB Fd.FLT_ALERT_PULSE = false) ∧
      (s.time.gt < e → s.start.inReset = false → s.start.phase ≠ 1 → t = s) := by
  by_cases hd : e ≤ s.time.gt ∨ s.start.inReset = true ∨ s.start.phase = 1
  · have he : exec .alertPulseEnd s =
        s.keepTime (.next (State.setB { s with flt := { s.flt with alertEnd := none } } Fd.FLT_ALERT_PULSE false)) := by
      show execAlertPulseEnd s = _
      unfold execAlertPulseEnd
      simp only [hp, if_pos (And.intro hf hd)]
    refine ⟨_, exec_pin he, fun _ => ⟨rfl, ?_⟩, fun hl hr hph => ?_⟩
    · exact getB_setB_same _ Fd.FLT_ALERT_PULSE false 0 0 (by unfold Fld.fits; decide) (by decide)
    · rcases hd with hd | hd | hd
      · exact absurd hd (Nat.not_le.2 hl)
      · exact absurd hd (by simp [hr])
      · exact absurd hd hph
  · have he : exec .alertPulseEnd s = s.keepTime (.next s) := by
      show execAlertPulseEnd s = _
      unfold execAlertPulseEnd
      simp only [hp, if_neg (fun h : s.start.frozen = false ∧ _ => hd h.2)]
    exact ⟨s, (exec_pin he).trans (by rw [putBack_self rfl rfl]), fun h => absurd (.inl h) hd, fun _ _ _ => rfl⟩

theorem fiUnlockLapse_ends {s : State} (hs : s.alive = true) {e : Nat} (hu : s.flt.unlockEnd = some e) :
    ∃ t, exec .fiUnlockLapse s = .next t ∧
      (e ≤ s.time.opSec ∨ s.fw.lockHolder = none → t = { s with flt := { s.flt with unlockEnd := none } }) ∧
      (s.time.opSec < e → s.fw.lockHolder ≠ none → t = s) := by
  have he : exec .fiUnlockLapse s = s.whenLive (if e ≤ s.time.opSec ∨ s.fw.lockHolder = none then
      .next { s with flt := { s.flt with unlockEnd := none } } else .next s) := by
    show execFiUnlockLapse s = _
    unfold execFiUnlockLapse
    rw [hu]
  obtain ⟨t, ht, hd, hn⟩ := exec_raises hs he (.refl _) rfl rfl
  exact ⟨t, ht, hd, fun hl hh => hn fun h => h.elim (Nat.not_le.2 hl) hh⟩

/-- Settles O44. -/
theorem collectorRowsAct : Obligations.CollectorRowsAct :=
  ⟨fun events _ hs hl => faultEvent_takes hs events hl, fun source _ hs => faultClearance_clears hs source,
    fun source _ hs => pairInvalid_takes hs source, fun _ hs => faultReaction_applies hs,
    fun source e _ hs hi => escIntervalEnd_ends hs source e hi, fun _ _ hp hf => alertPulseEnd_ends hp hf,
    fun _ _ hs hu => fiUnlockLapse_ends hs hu⟩

end Sys2Proof.Machine

/-!
SUPPORT. Proofs about ageing: re-plans, canaries, and the write of an image.
-/

namespace Sys2Proof.Machine

-- The option has the proofs elaborated one after another, not beside the tests above: the two together exceed the check's memory.
set_option deprecated.oldSectionVars true

/-! ### Re-plans (R351 to R355) -/

theorem startPlan_runs {s : State} (kind : Nat) (h : s.age.running = none) :
    (s.startPlan kind).age.running = some kind ∧ (s.startPlan kind).getB Fd.AGE_STAT_BUSY = true := by
  unfold State.startPlan
  rw [h, if_neg (by decide)]
  exact ⟨congrArg Ageing.running (State.setB_age ..), getB_setB_same _ Fd.AGE_STAT_BUSY true 0 0 (by unfold Fld.fits; decide) (by decide)⟩

theorem startPlan_running {s : State} (kind : Nat) {k : Nat} (h : s.age.running = some k) : s.startPlan kind = s := by
  unfold State.startPlan
  rw [h, if_pos (by rfl)]

theorem periodicReplanDue_starts {s : State} (hs : s.alive = true) (he : s.getB Fd.AGE_CTL_EN = true) (hr : s.age.running = none) :
    ∃ t, exec .periodicReplanDue s = .next t ∧
    (s.age.lastPlan + 86400 ≤ s.time.opSec → s.get Fd.PWR_SVC_STATE = 3 → t = { s with age := { s.age with waiting := true } }) ∧
    (s.age.lastPlan + 86400 ≤ s.time.opSec → s.get Fd.PWR_SVC_STATE ≠ 3 → t.age.running = some 1 ∧ t.getB Fd.AGE_STAT_BUSY = true) ∧
    (s.time.opSec < s.age.lastPlan + 86400 → t = s) := by
  have e : exec .periodicReplanDue s = s.whenLive (if s.time.opSec < s.age.lastPlan + 86400 then .next s
      else if s.get Fd.PWR_SVC_STATE = 3 then .next { s with age := { s.age with waiting := true } } else .next (s.startPlan 1)) := by
    show execPeriodicReplanDue s = _
    unfold execPeriodicReplanDue
    simp only [he, hr, Bool.not_true, Bool.false_or, Option.isSome_none, Bool.or_false, decide_eq_true_eq]
  by_cases hd : s.time.opSec < s.age.lastPlan + 86400
  · rw [if_pos hd] at e
    exact ⟨s, (exec_next hs e).trans (by rw [putBack_self rfl rfl]), fun h => absurd hd (Nat.not_lt.2 h), fun h => absurd hd (Nat.not_lt.2 h),
      fun _ => rfl⟩
  · rw [if_neg hd] at e
    by_cases hv : s.get Fd.PWR_SVC_STATE = 3
    · rw [if_pos hv] at e
      exact ⟨_, exec_next hs e, fun _ _ => putBack_self rfl rfl, fun _ hn => absurd hv hn, fun h => absurd h hd⟩
    · rw [if_neg hv] at e
      exact ⟨_, exec_next hs e, fun _ hn => absurd hn hv, fun _ _ => startPlan_runs 1 hr, fun h => absurd h hd⟩

/-- `t` has AGE.STAT and the time of `s`. -/
structure SameAgeStat (s t : State) : Prop where
  stat : t.reg (Reg.AGE_STAT.off 0 0) = s.reg (Reg.AGE_STAT.off 0 0)
  time : t.time = s.time

theorem SameAgeStat.refl (s : State) : SameAgeStat s s := ⟨rfl, rfl⟩

/-- The chain taken from its end. -/
theorem SameAgeStat.after {s t u : State} (k : SameAgeStat t u) (h : SameAgeStat s t) : SameAgeStat s u :=
  ⟨k.stat.trans h.stat, k.time.trans h.time⟩

theorem SameAgeStat.ite {c : Prop} [Decidable c] {s t u : State} (h : SameAgeStat s t) (k : SameAgeStat s u) :
    SameAgeStat s (if c then t else u) := by
  split
  · exact h
  · exact k

theorem SameAgeStat.raised {s t : State} (h : OnlyRaised s t) : SameAgeStat s t := ⟨h.regs _ (by decide), h.time⟩

theorem SameAgeStat.answered {m : Nat} {s t : State} (h : OnlyAnswered m s t) : SameAgeStat s t := ⟨h.regs _ (by decide), h.time⟩

theorem SameAgeStat.withAge (s : State) (a : Ageing) : SameAgeStat s { s with age := a } := ⟨rfl, rfl⟩

theorem SameAgeStat.setLeg (s : State) (id i : Nat) (v : Word) : SameAgeStat s (s.setLeg id i v) := ⟨rfl, rfl⟩

theorem SameAgeStat.set (s : State) (f : Fld) (v i j : Nat) (h : f.reg.off i j ≠ 0x3E844) : SameAgeStat s (s.set f v i j) :=
  ⟨reg_set_other s f v i j h.symm, rfl⟩

theorem SameAgeStat.forEach {α : Type} (l : List α) (f : State → α → State) (hf : ∀ s, ∀ a ∈ l, SameAgeStat s (f s a)) (s : State) :
    SameAgeStat s (forEach l s f) :=
  ⟨forEach_keeps_mem (fun s => s.reg (Reg.AGE_STAT.off 0 0)) l f (fun s a ha => ⟨(hf s a ha).stat⟩) s,
    forEach_keeps_mem State.time l f (fun s a ha => ⟨(hf s a ha).time⟩) s⟩

section
variable {s t : State} (h : SameAgeStat s t)
include h

theorem SameAgeStat.get (f : Fld) (hf : f.reg = Reg.AGE_STAT) : t.get f = s.get f := by
  simp only [State.get, hf, h.stat]

end

section
variable (s : State)

theorem replanMonitor_sameAgeStat {k : Nat} (used : Nat) (hk : k < 8) : SameAgeStat s (s.replanMonitor k used) := by
  have hm (u : State) (f : Fld) (hf : f.reg = Reg.AGE_MON) (v : Nat) : SameAgeStat u (u.set f v k) :=
    .set u f v k 0 (by rw [hf]; simp only [RegDesc.off, Reg.AGE_MON]; omega)
  unfold State.replanMonitor
  exact .after (.ite (.after (.raised (pulse_raised _ (by decide))) (hm _ Fd.AGE_MON_ALARM rfl _)) (.refl _)) (hm s Fd.AGE_MON_USED rfl _)

theorem replanTrim_sameAgeStat : SameAgeStat s s.replanTrim := by
  unfold State.replanTrim
  exact .after (.ite (.raised (pulse_raised _ (by decide))) (.refl _)) (.ite (.set s Fd.PWR_VCORE_TRIM _ 0 0 (by decide)) (.refl s))

theorem replanRecal_sameAgeStat (used : List Nat) : SameAgeStat s (s.replanRecal used) := by
  unfold State.replanRecal
  exact .ite (.after (.withAge ..) (.setLeg ..)) (.ite (.after (.withAge ..) (.setLeg ..)) (.withAge ..))

/-- The measured uses taken: the monitors, the trim and the interval of the recalibration. -/
def State.replanMeasured (used : List Nat) : State :=
  ((forEach (List.range 8) s fun s k => s.replanMonitor k (used.getD k 0)).replanTrim).replanRecal used

theorem replanMeasured_sameAgeStat (used : List Nat) : SameAgeStat s (s.replanMeasured used) :=
  .after (replanRecal_sameAgeStat ..) (.after (replanTrim_sameAgeStat _)
    (.forEach _ _ (fun s _ hk => replanMonitor_sameAgeStat s _ (List.mem_range.1 hk)) s))

/-- The margins after a re-plan. -/
def State.newMargins : List Nat := (List.range 16).map s.newMargin

/-- The windows whose margin rises. -/
def State.marginsRose : Nat :=
  listMask ((List.range 16).filter fun w => decide (((List.range 16).map s.margin).getD w 0 < s.newMargins.getD w 0))

/-- The new margins in the Legend, the REPLAN record, and the canaries cleared. -/
def State.replanRecorded (used : List Nat) : State :=
  let u := forEach (List.range 16) s fun t w => t.setLeg 0xB010 w (wd (s.newMargins.getD w 0))
  ((u.offer ⟨0x14, 312, 0, 0, false, false, u.stamp, u.replanPayload s.marginsRose used⟩).set Fd.AGE_CANARY_LO_FIRED 0).set
    Fd.AGE_CANARY_HI_FIRED 0

theorem replanRecorded_sameAgeStat (used : List Nat) : SameAgeStat s (s.replanRecorded used) := by
  unfold State.replanRecorded
  exact .after (.set _ Fd.AGE_CANARY_HI_FIRED _ 0 0 (by decide)) (.after (.set _ Fd.AGE_CANARY_LO_FIRED _ 0 0 (by decide))
    (.after (.raised (offer_raised ..)) (.forEach _ _ (fun _ _ _ => .setLeg ..) s)))

/-- AGE.STAT of an ended re-plan. -/
def State.planCounted : State := (s.setB Fd.AGE_STAT_BUSY false).addSat Fd.AGE_STAT_PLANS 1

/-- AGE.NEXT of an ended re-plan. -/
def State.nextPlanned : State := s.set Fd.AGE_NEXT_OP_SEC (s.time.opSec + 86400)

/-- The ageing state of an ended re-plan. -/
def State.replanEnded (kind : Nat) (used : List Nat) : State :=
  { s with age := { s.age with
    lastPlan := s.time.opSec, running := none, waits := [], depth := [], fired := 0, used := (List.range 8).map fun k => used.getD k 0
    history := historyAdd s.age.history (s.historyEntry kind used) } }

end

theorem execReplanDone_running {s : State} {kind : Nat} (used : List Nat) (h : s.age.running = some kind) :
    exec (.replanDone used) s = s.whenLive (.next
      (let u := ((s.replanMeasured used).replanRecorded used).planCounted.nextPlanned
       forEach u.age.waits ((u.replanEnded kind used).notifyChart 0xFA []) fun s p => s.complete p.1 p.2 0x00)) := by
  show execReplanDone used s = _
  unfold execReplanDone
  unfold State.replanEnded State.nextPlanned State.planCounted State.replanRecorded State.marginsRose State.newMargins
    State.replanMeasured
  rw [h]

theorem planCounted_stat (s : State) : s.planCounted.getB Fd.AGE_STAT_BUSY = false ∧
    s.planCounted.get Fd.AGE_STAT_PLANS = min (s.get Fd.AGE_STAT_PLANS + 1) (2 ^ Fd.AGE_STAT_PLANS.width - 1) := by
  have hf : Fd.AGE_STAT_PLANS.fits := by unfold Fld.fits; decide
  constructor
  · rw [State.planCounted, State.addSat, State.getB, get_set_field _ Fd.AGE_STAT_PLANS Fd.AGE_STAT_BUSY _ 0 0 rfl hf (by decide)]
    exact getB_setB_same s Fd.AGE_STAT_BUSY false 0 0 (by unfold Fld.fits; decide) (by decide)
  · rw [State.planCounted, get_addSat_same _ _ _ _ _ hf, State.setB,
      get_set_field s Fd.AGE_STAT_BUSY Fd.AGE_STAT_PLANS _ 0 0 rfl (by unfold Fld.fits; decide) (by decide)]

theorem planCounted_time (s : State) : s.planCounted.time = s.time := (State.addSat_time ..).trans (State.setB_time ..)

theorem nextPlanned_sameAgeStat (s : State) : SameAgeStat s s.nextPlanned := .set _ Fd.AGE_NEXT_OP_SEC _ 0 0 (by decide)

/-- The commands that waited for a re-plan answered. -/
def State.answerAll (s : State) (waits : List (Nat × Command)) : State := forEach waits s fun s p => s.complete p.1 p.2 0x00

theorem answerAll_sameAgeStat (s : State) (waits : List (Nat × Command)) : SameAgeStat s (s.answerAll waits) :=
  .forEach _ _ (fun _ _ _ => .answered (complete_answered ..)) s

theorem answerAll_age (s : State) (waits : List (Nat × Command)) : (s.answerAll waits).age = s.age :=
  forEach_keeps State.age _ _ (fun _ _ => ⟨(complete_answered ..).age⟩) s

theorem replanDone_ends {s : State} (hs : s.alive = true) (used : List Nat) {kind : Nat} (hr : s.age.running = some kind) :
    ∃ t, exec (.replanDone used) s = .next t ∧ t.age.running = none ∧ t.age.waits = [] ∧ t.age.lastPlan = s.time.opSec ∧
      t.getB Fd.AGE_STAT_BUSY = false ∧
      t.get Fd.AGE_STAT_PLANS = min (s.get Fd.AGE_STAT_PLANS + 1) (2 ^ Fd.AGE_STAT_PLANS.width - 1) := by
  have hm : SameAgeStat s ((s.replanMeasured used).replanRecorded used) :=
    .after (replanRecorded_sameAgeStat ..) (replanMeasured_sameAgeStat ..)
  have hn := execReplanDone_running used hr
  generalize (s.replanMeasured used).replanRecorded used = m at hm hn
  have hu := nextPlanned_sameAgeStat m.planCounted
  have ht : m.planCounted.nextPlanned.time = s.time := hu.time.trans ((planCounted_time m).trans hm.time)
  generalize m.planCounted.nextPlanned = u at hu hn ht
  have hk := notifyChart_raised (u.replanEnded kind used) 0xFA []
  have ha : (((u.replanEnded kind used).notifyChart 0xFA []).answerAll u.age.waits).age = (u.replanEnded kind used).age :=
    (answerAll_age ..).trans hk.age
  have hs' : SameAgeStat m.planCounted (((u.replanEnded kind used).notifyChart 0xFA []).answerAll u.age.waits) :=
    .after (answerAll_sameAgeStat ..) (.after (.raised hk) (.after (.withAge ..) hu))
  obtain ⟨hb, hp⟩ := planCounted_stat m
  refine ⟨_, exec_next hs hn, congrArg Ageing.running ha, congrArg Ageing.waits ha, ?_, ?_, ?_⟩
  · exact (congrArg Ageing.lastPlan ha).trans (congrArg Time.opSec ht)
  · exact (congrArg (· != 0) (hs'.get Fd.AGE_STAT_BUSY rfl)).trans hb
  · exact (hs'.get Fd.AGE_STAT_PLANS rfl).trans (hp.trans (by rw [hm.get Fd.AGE_STAT_PLANS rfl]))

/-! ### Canaries (R352) -/

/-- The register a canary stands in, with its bit set. -/
def State.canaryMarked (s : State) (f : Fld) (k : Nat) : State := s.set f (s.get f ||| 2 ^ k)

theorem canaryMarked_bit (s : State) (f : Fld) {k : Nat} (hf : f.fits) (hk : k < f.width) : bit ((s.canaryMarked f k).get f) k = true := by
  rw [State.canaryMarked, get_set_same _ _ _ _ _ hf, bit, Nat.testBit_mod_two_pow, decide_eq_true hk, Bool.true_and, Nat.testBit_or,
    Nat.testBit_two_pow_self, Bool.or_true]

theorem exec_ageCanary (k : Fin 48) (s : State) : exec (.ageCanary k) s = s.whenLive (.next (State.pulse
    (let u := if k.val < 32 then s.canaryMarked Fd.AGE_CANARY_LO_FIRED k.val else s.canaryMarked Fd.AGE_CANARY_HI_FIRED (k.val - 32)
     { u with age := { u.age with fired := u.age.fired ||| 2 ^ k.val } }) 313)) := rfl

theorem ageCanary_marks {s : State} (hs : s.alive = true) (k : Fin 48) : ∃ t, exec (.ageCanary k) s = .next t ∧
    (k.val < 32 → bit (t.get Fd.AGE_CANARY_LO_FIRED) k = true ∧ t.get Fd.AGE_CANARY_HI_FIRED = s.get Fd.AGE_CANARY_HI_FIRED) ∧
    (32 ≤ k.val → bit (t.get Fd.AGE_CANARY_HI_FIRED) (k.val - 32) = true ∧
      t.get Fd.AGE_CANARY_LO_FIRED = s.get Fd.AGE_CANARY_LO_FIRED) := by
  have hp (u : State) := pulse_raised u (src := 313) (by decide)
  have he := exec_ageCanary k s
  by_cases hk : k.val < 32
  · rw [if_pos hk] at he
    refine ⟨_, exec_next hs he, fun _ => ?_, fun h => absurd hk (Nat.not_lt.2 h)⟩
    rw [putBack_get, putBack_get, (hp _).get Fd.AGE_CANARY_LO_FIRED 0 0 (by decide), (hp _).get Fd.AGE_CANARY_HI_FIRED 0 0 (by decide)]
    exact ⟨canaryMarked_bit s Fd.AGE_CANARY_LO_FIRED (by unfold Fld.fits; decide) hk,
      get_set_other s Fd.AGE_CANARY_LO_FIRED Fd.AGE_CANARY_HI_FIRED _ 0 0 0 0 (by decide)⟩
  · rw [if_neg hk] at he
    refine ⟨_, exec_next hs he, fun h => absurd h hk, fun _ => ?_⟩
    rw [putBack_get, putBack_get, (hp _).get Fd.AGE_CANARY_LO_FIRED 0 0 (by decide), (hp _).get Fd.AGE_CANARY_HI_FIRED 0 0 (by decide)]
    exact ⟨canaryMarked_bit s Fd.AGE_CANARY_HI_FIRED (by unfold Fld.fits; decide) (by show k.val - 32 < 16; omega),
      get_set_other s Fd.AGE_CANARY_HI_FIRED Fd.AGE_CANARY_LO_FIRED _ 0 0 0 0 (by decide)⟩

/-! ### The write of an image (R339) -/

/-- The image written, with its record. -/
def State.imageWritten (s : State) (ok : Bool) : State :=
  State.imageRecord { s with start := { s.start with writing := none } } (1 - s.fw.bootImage) (b2n (!ok))

theorem imageWritten_raised (s : State) (ok : Bool) : OnlyRaised { s with start := { s.start with writing := none } } (s.imageWritten ok) :=
  offer_raised ..

theorem exec_imageWriteDone {s : State} (img : BootImage) {mb : Nat} {c : Command} (hw : s.start.writing = some (mb, c)) :
    exec (.imageWriteDone img) s = s.whenLive (.next (if s.imageOk img then (s.imageWritten (s.imageOk img)).complete mb c 0
      else ((s.imageWritten (s.imageOk img)).pulse 311).complete mb c 8)) := by
  show execImageWriteDone img s = _
  unfold execImageWriteDone
  rw [hw]
  rfl

theorem imageWriteDone_answers {s : State} (hs : s.alive = true) (img : BootImage) {mb : Nat} {c : Command}
    (hw : s.start.writing = some (mb, c)) (hc : c.early = false) : ∃ t, exec (.imageWriteDone img) s = .next t ∧
      t.start.writing = none ∧ s.answers t mb c (if s.imageOk img then 0 else 8) [] := by
  have he := exec_imageWriteDone img hw
  -- `u` is the state that answers: the record of the write made, and IMAGE_FAIL raised or not.
  have hu {u : State} (h : OnlyRaised { s with start := { s.start with writing := none } } u) (st : Nat) :
      (u.complete mb c st).start.writing = none ∧ s.answers (u.complete mb c st) mb c st [] :=
    ⟨(congrArg (·.start.writing) (complete_answered u mb c st []).part).trans (congrArg (·.start.writing) h.part),
      answers_from (complete_answers u mb c st [] hc) (by rw [h.mb]; rfl)⟩
  by_cases ho : s.imageOk img = true
  · rw [if_pos ho] at he
    obtain ⟨hn, ha⟩ := hu (imageWritten_raised s (s.imageOk img)) 0
    exact ⟨_, exec_next hs he, hn, by rw [if_pos ho]; exact ha⟩
  · rw [if_neg ho] at he
    obtain ⟨hn, ha⟩ := hu ((imageWritten_raised s (s.imageOk img)).trans (pulse_raised _ (src := 311) (by decide))) 8
    exact ⟨_, exec_next hs he, hn, by rw [if_neg ho]; exact ha⟩

/-- Settles O58. -/
theorem ageingRowsAct : Obligations.AgeingRowsAct :=
  ⟨fun _ hs he hr => periodicReplanDue_starts hs he hr, fun used _ _ hs hr => replanDone_ends hs used hr,
    fun k _ hs => ageCanary_marks hs k, fun img _ _ _ hs hw hc => imageWriteDone_answers hs img hw hc⟩

end Sys2Proof.Machine

/-!
SUPPORT. Proofs about the commands of the start, of freeze and of ageing.
-/

namespace Sys2Proof.Machine

-- The option has the proofs elaborated one after another, not beside the tests above: the two together exceed the check's memory.
set_option deprecated.oldSectionVars true

/-! ### One register followed through a chain of steps -/

/-- The register at an offset is in `t` what it is in `s`. -/
structure SameReg (o : Nat) (s t : State) : Prop where
  reg : t.reg o = s.reg o

theorem SameReg.refl (o : Nat) (s : State) : SameReg o s s := ⟨rfl⟩

/-- The chain taken from its end. -/
theorem SameReg.after {o : Nat} {s t u : State} (k : SameReg o t u) (h : SameReg o s t) : SameReg o s u := ⟨k.reg.trans h.reg⟩

theorem SameReg.ite {o : Nat} {c : Prop} [Decidable c] {s t u : State} (h : SameReg o s t) (k : SameReg o s u) :
    SameReg o s (if c then t else u) := by
  split
  · exact h
  · exact k

theorem SameReg.of_csr {o : Nat} {s t : State} (h : t.csr = s.csr) : SameReg o s t := ⟨by simp only [State.reg, h]⟩

theorem SameReg.raised {o : Nat} {s t : State} (h : OnlyRaised s t) (ho : quiet o = true) : SameReg o s t := ⟨h.regs o ho⟩

theorem SameReg.answered {o m : Nat} {s t : State} (h : OnlyAnswered m s t) (ho : quiet o = true) : SameReg o s t := ⟨h.regs o ho⟩

theorem SameReg.set {o : Nat} (s : State) (f : Fld) (v i j : Nat) (h : f.reg.off i j ≠ o) : SameReg o s (s.set f v i j) :=
  ⟨reg_set_other s f v i j h.symm⟩

theorem SameReg.setB {o : Nat} (s : State) (f : Fld) (v : Bool) (i j : Nat) (h : f.reg.off i j ≠ o) : SameReg o s (s.setB f v i j) :=
  .set s f _ i j h

theorem SameReg.forEach {o : Nat} {α : Type} (l : List α) (f : State → α → State) (hf : ∀ s, ∀ a ∈ l, SameReg o s (f s a)) (s : State) :
    SameReg o s (forEach l s f) := ⟨forEach_keeps_mem (fun s => s.reg o) l f (fun s a ha => ⟨(hf s a ha).reg⟩) s⟩

theorem SameReg.get {o : Nat} {s t : State} (h : SameReg o s t) (f : Fld) (i : Nat) (hf : f.reg.off i 0 = o) : t.get f i = s.get f i := by
  simp only [State.get, hf, h.reg]

theorem SameReg.getB {o : Nat} {s t : State} (h : SameReg o s t) (f : Fld) (i : Nat) (hf : f.reg.off i 0 = o) : t.getB f i = s.getB f i := by
  rw [State.getB, h.get f i hf, State.getB]

/-! ### Freeze (R348) -/

theorem cxCopy_sameReg {o : Nat} (s : State) (h : o < 0x2E000 ∨ 0x30000 ≤ o) : SameReg o s s.cxCopy := by
  refine .forEach _ _ (fun s i hi => .setB _ _ _ _ _ ?_) s
  have := List.mem_range.1 hi
  simp only [RegDesc.off, Fd.RCE_CXSTAT_GNT, Reg.RCE_CXSTAT]
  omega

section
variable {o : Nat} (ho : 0x3E000 ≤ o) (hq : quiet o = true) (s : State)
include ho

/-- A register of a lane stands below. -/
theorem lane_low {f : Fld} (hb : f.reg.base + f.reg.stride * 15 < 0x3E000) {n : Nat} (hn : n ∈ List.range 16) : f.reg.off n 0 ≠ o := by
  have h := Nat.mul_le_mul_left f.reg.stride (Nat.le_of_lt_succ (List.mem_range.1 hn))
  simp only [RegDesc.off]
  omega

omit ho in
theorem SameReg.withLane (l : Lanes) : SameReg o s { s with lane := l } := .of_csr rfl

omit ho in
theorem SameReg.withFw (f : Firmware) : SameReg o s { s with fw := f } := .of_csr rfl

omit ho in
theorem SameReg.withCapt (c : SampleCapture) : SameReg o s { s with capt := c } := .of_csr rfl

theorem updateMuted_sameReg {n : Nat} (hn : n ∈ List.range 16) : SameReg o s (s.updateMuted n) := by
  have hm (u : State) (v : Bool) : SameReg o u (u.setB Fd.LANE_TX_MUTE_MUTED v n) := .setB u _ v n 0 (lane_low ho (by decide) hn)
  have hr (u : State) (v : Bool) : SameReg o u (u.setB Fd.LANE_TX_MUTE_RAMPING v n) := .setB u _ v n 0 (lane_low ho (by decide) hn)
  unfold State.updateMuted
  refine .ite ?_ (.ite (.after (.withLane ..) (hm ..)) (hm ..))
  exact .ite (.ite (.after (.withLane ..) (hm ..)) (.after (hr ..) (.after (.withLane ..) (hm ..))))
    (.after (hr ..) (.after (.withLane ..) (hm ..)))

theorem muteAll_sameReg : SameReg o s (forEach (List.range 16) s fun s n => (s.setB Fd.LANE_TX_MUTE_SRC_FRZ true n).updateMuted n) :=
  .forEach _ _ (fun _ _ hn => .after (updateMuted_sameReg ho _ hn) (.setB _ _ _ _ _ (lane_low ho (by decide) hn))) s

theorem calsStopped_sameReg : SameReg o s (forEach (List.range 16) s fun s n =>
    (s.setB Fd.LANE_CAL_STAT_RX_BUSY false n).setB Fd.LANE_CAL_STAT_TX_BUSY false n) :=
  .forEach _ _ (fun _ _ hn => .after (.setB _ _ _ _ _ (lane_low ho (by decide) hn)) (.setB _ _ _ _ _ (lane_low ho (by decide) hn))) s

omit ho in
theorem captureFreeze_sameReg : SameReg o s s.captureFreeze := by
  have ht (u : State) : SameReg o u u.captureTrigger := by
    unfold State.captureTrigger
    exact .ite (.of_csr rfl) (.refl o u)
  unfold State.captureFreeze
  refine .ite (.refl o s) (.after (t := State.captureTrigger _) (.of_csr rfl) (.after (ht _) (.ite (.withCapt ..) (.refl o s))))

omit ho in
theorem senseFreeze_sameReg : SameReg o s s.senseFreeze := .of_csr rfl

theorem selfRefresh_sameReg : SameReg o s (forEach (List.range 4) s fun s c =>
    if s.getB Fd.DRC_CSTAT_LOST c then s else s.setB Fd.DRC_CSTAT_SELF_REFRESH true c) := by
  refine .forEach _ _ (fun s c hc => .ite (.refl o s) (.setB _ _ _ _ _ ?_)) s
  have := List.mem_range.1 hc
  simp only [RegDesc.off, Fd.DRC_CSTAT_SELF_REFRESH, Reg.DRC_CSTAT]
  omega

include hq

theorem enqueueNotice_sameReg : SameReg o s s.enqueueNotice := by
  unfold State.enqueueNotice
  split
  · exact .refl o s
  · refine .ite (.withFw ..) (.after (.set _ Fd.MBX_NQ_LOST _ 0 0 ?_) (.withFw ..))
    simp only [RegDesc.off, Fd.MBX_NQ_LOST, Reg.MBX_NQ]
    omega

omit ho in
theorem rspInterrupt_sameReg (m : Nat) : SameReg o s (s.rspInterrupt m) := by
  unfold State.rspInterrupt
  exact .ite (.of_csr rfl) (.refl o s)

omit ho in
theorem postNotice_sameReg : SameReg o s s.postNotice := by
  unfold State.postNotice
  refine .ite (.refl o s) ?_
  split
  · exact .refl o s
  · exact .after (rspInterrupt_sameReg ..) (.after (.raised (count_raised ..) hq) (.after (.withFw ..) (.of_csr rfl)))

theorem postDue_sameReg : SameReg o s s.postDue :=
  .after (postNotice_sameReg hq _) (.forEach _ _ (fun s _ _ => enqueueNotice_sameReg ho s) s)

/-- The outputs muted, the calibrations and conversions ended, FROZEN raised and its notifications posted. -/
def State.freezeStopped : State :=
  let u := forEach (List.range 16) s fun s n => (s.setB Fd.LANE_TX_MUTE_SRC_FRZ true n).updateMuted n
  let u := forEach (List.range 16) u fun s n => (s.setB Fd.LANE_CAL_STAT_RX_BUSY false n).setB Fd.LANE_CAL_STAT_TX_BUSY false n
  (u.senseFreeze.captureFreeze.raise 495).postDue

/-- The FREEZE record, and the DRAM refreshed by itself. -/
def State.freezeRecorded (cause who active : Nat) : State :=
  let u := s.offer ⟨0x13, 495, 3, 0, false, false, s.stamp, [wd (cause + who * 65536), wd active] ++ List.replicate 8 0⟩
  forEach (List.range 4) u fun s c => if s.getB Fd.DRC_CSTAT_LOST c then s else s.setB Fd.DRC_CSTAT_SELF_REFRESH true c

/-- FRZ.STAT and FRZ.LAST of a freeze. -/
def State.freezeNoted (cause who active : Nat) : State :=
  let u := ((s.set Fd.FRZ_STAT_CAUSE cause).set Fd.FRZ_STAT_WHO who).set Fd.FRZ_STAT_TXMASK active
  (u.set Fd.FRZ_LAST_SEC_OP_SEC u.time.opSec).set Fd.FRZ_LAST_GT_GT u.gtInSec

/-- SVC_STATE FROZEN, READY 0, and the grants as the links ask. -/
def State.freezeShown : State := ((s.set Fd.PWR_SVC_STATE 7).setB Fd.MBX_CSTAT_READY false).cxCopy

/-- Frozen, with no dump and no work of the RCE left. -/
def State.stilled : State :=
  { s with
    start := { s.start with frozen := true }
    pmc := { s.pmc with writing := none }
    rce := { s.rce with cur := none, freq := none } }

/-- TX lanes that transmit. -/
def State.txActive : Nat := listMask ((List.range 16).filter fun n => s.get Fd.SYN_LSTATE_TX_STATE n == 4)

omit ho hq in
theorem requestFreeze_eq (cause who : Nat) (hs : s.alive = true) : s.requestFreeze cause who =
    ((s.freezeNoted cause who s.txActive).freezeStopped.freezeRecorded cause who s.txActive).freezeShown.stilled := by
  have hf : (s.start.frozen || s.start.inReset || !s.start.good) = false := by
    simp only [State.alive, Bool.and_eq_true, Bool.not_eq_true'] at hs
    obtain ⟨⟨hg, hr⟩, hz⟩ := hs
    rw [hg, hr, hz]
    rfl
  unfold State.requestFreeze
  rw [hf]
  rfl

theorem freezeStopped_sameReg : SameReg o s s.freezeStopped :=
  .after (postDue_sameReg ho hq _) (.after (.raised (raise_raised _ (src := 495) (by decide)) hq) (.after (captureFreeze_sameReg _)
    (.after (senseFreeze_sameReg _) (.after (calsStopped_sameReg ho _) (muteAll_sameReg ho s)))))

theorem freezeRecorded_sameReg (cause who active : Nat) : SameReg o s (s.freezeRecorded cause who active) :=
  .after (selfRefresh_sameReg ho _) (.raised (offer_raised ..) hq)

end

theorem stilled_get (s : State) (f : Fld) (i j : Nat) : s.stilled.get f i j = s.get f i j := rfl

theorem stilled_getB (s : State) (f : Fld) (i j : Nat) : s.stilled.getB f i j = s.getB f i j := rfl

theorem freezeShown_state (s : State) : s.freezeShown.get Fd.PWR_SVC_STATE = 7 := by
  have h : SameReg (Reg.PWR_SVC.off 0 0) (s.set Fd.PWR_SVC_STATE 7) s.freezeShown :=
    .after (cxCopy_sameReg _ (by decide)) (.setB _ Fd.MBX_CSTAT_READY _ 0 0 (by decide))
  rw [h.get Fd.PWR_SVC_STATE 0 rfl]
  exact get_set_same s Fd.PWR_SVC_STATE 7 0 0 (by unfold Fld.fits; decide)

theorem freezeShown_ready (s : State) : s.freezeShown.getB Fd.MBX_CSTAT_READY = false := by
  have h : SameReg (Reg.MBX_CSTAT.off 0 0) ((s.set Fd.PWR_SVC_STATE 7).setB Fd.MBX_CSTAT_READY false) s.freezeShown :=
    cxCopy_sameReg _ (by decide)
  rw [h.getB Fd.MBX_CSTAT_READY 0 rfl]
  exact getB_setB_same _ Fd.MBX_CSTAT_READY false 0 0 (by unfold Fld.fits; decide) (by decide)

theorem freezeNoted_stat (s : State) {cause who : Nat} (active : Nat) (hc : cause < 16) (hw : who < 1024) :
    (s.freezeNoted cause who active).get Fd.FRZ_STAT_CAUSE = cause ∧ (s.freezeNoted cause who active).get Fd.FRZ_STAT_WHO = who := by
  have h : SameReg (Reg.FRZ_STAT.off 0 0) (((s.set Fd.FRZ_STAT_CAUSE cause).set Fd.FRZ_STAT_WHO who).set Fd.FRZ_STAT_TXMASK active)
      (s.freezeNoted cause who active) :=
    .after (.set _ Fd.FRZ_LAST_GT_GT _ 0 0 (by decide)) (.set _ Fd.FRZ_LAST_SEC_OP_SEC _ 0 0 (by decide))
  constructor
  · rw [h.get Fd.FRZ_STAT_CAUSE 0 rfl,
      get_set_field _ Fd.FRZ_STAT_TXMASK Fd.FRZ_STAT_CAUSE _ 0 0 rfl (by unfold Fld.fits; decide) (by decide),
      get_set_field _ Fd.FRZ_STAT_WHO Fd.FRZ_STAT_CAUSE _ 0 0 rfl (by unfold Fld.fits; decide) (by decide),
      get_set_same _ Fd.FRZ_STAT_CAUSE _ 0 0 (by unfold Fld.fits; decide)]
    exact Nat.mod_eq_of_lt hc
  · rw [h.get Fd.FRZ_STAT_WHO 0 rfl,
      get_set_field _ Fd.FRZ_STAT_TXMASK Fd.FRZ_STAT_WHO _ 0 0 rfl (by unfold Fld.fits; decide) (by decide),
      get_set_same _ Fd.FRZ_STAT_WHO _ 0 0 (by unfold Fld.fits; decide)]
    exact Nat.mod_eq_of_lt hw

/-- A freeze with its cause and the number of who asked. -/
structure Frozen (cause who : Nat) (t : State) : Prop where
  frozen : t.start.frozen = true
  state : t.get Fd.PWR_SVC_STATE = 7
  ready : t.getB Fd.MBX_CSTAT_READY = false
  cause : t.get Fd.FRZ_STAT_CAUSE = cause
  who : t.get Fd.FRZ_STAT_WHO = who

theorem requestFreeze_frozen {s : State} (hs : s.alive = true) {cause who : Nat} (hc : cause < 16) (hw : who < 1024) :
    Frozen cause who (s.requestFreeze cause who) := by
  rw [requestFreeze_eq s cause who hs]
  have h : SameReg (Reg.FRZ_STAT.off 0 0) (s.freezeNoted cause who s.txActive)
      ((s.freezeNoted cause who s.txActive).freezeStopped.freezeRecorded cause who s.txActive) :=
    .after (freezeRecorded_sameReg (by decide) (by decide) ..) (freezeStopped_sameReg (by decide) (by decide) _)
  generalize (s.freezeNoted cause who s.txActive).freezeStopped.freezeRecorded cause who s.txActive = u at h
  have h : SameReg (Reg.FRZ_STAT.off 0 0) (s.freezeNoted cause who s.txActive) u.freezeShown :=
    .after (cxCopy_sameReg _ (by decide)) (.after (.setB _ Fd.MBX_CSTAT_READY _ 0 0 (by decide))
      (.after (.set _ Fd.PWR_SVC_STATE _ 0 0 (by decide)) h))
  obtain ⟨hcause, hwho⟩ := freezeNoted_stat s s.txActive hc hw
  exact ⟨rfl, (stilled_get ..).trans (freezeShown_state u), (stilled_getB ..).trans (freezeShown_ready u),
    (stilled_get ..).trans ((h.get Fd.FRZ_STAT_CAUSE 0 rfl).trans hcause), (stilled_get ..).trans ((h.get Fd.FRZ_STAT_WHO 0 rfl).trans hwho)⟩

end Sys2Proof.Machine

/-!
SUPPORT. Proofs about resets: what a reset leaves of the registers, the start and the time, and which start follows.
-/

namespace Sys2Proof.Machine

-- The option has the proofs elaborated one after another, not beside the tests above: the two together exceed the check's memory.
set_option deprecated.oldSectionVars true

/-! ### The state that a reset leaves (R344, R345, R357) -/

/-- The fields that outlive a reset in registers that do not (R286, R345): `s` is the state before it. -/
def State.resetShown (t s : State) (pulse : Bool) : State :=
  let t := t.set Fd.MBX_CSTAT_FAILOVERS (s.get Fd.MBX_CSTAT_FAILOVERS)
  let t := t.set Fd.AGE_STAT_PLANS (s.get Fd.AGE_STAT_PLANS)
  let t := forEach (List.range 2) t fun t i =>
    (t.setB Fd.RCE_CXSTAT_REQ (s.getB Fd.RCE_CXSTAT_REQ i) i).setB Fd.RCE_CXSTAT_PRI (s.getB Fd.RCE_CXSTAT_PRI i) i
  let t := forEach (List.range 4) t fun t c =>
    let lost := s.getB Fd.DRC_CSTAT_LOST c
    (t.setB Fd.DRC_CSTAT_LOST lost c).setB Fd.DRC_CSTAT_SELF_REFRESH (!lost) c
  if pulse then t.setB Fd.FLT_ALERT_PULSE true else t

/-- What a reset with VIN leaves, its registers but those shown cleared. -/
theorem resetDevice_vin (s : State) (kind : Nat) : ∃ (t : State) (pulse : Bool), s.resetDevice kind true = t.resetShown (s.settled true) pulse ∧
    t.start.kind = kind ∧ t.start.phase = 0 ∧ t.csr = (s.settled true).csr.filter fun p => keptRegs.contains p.1 := by
  unfold State.resetDevice State.resetShown State.settled
  refine ⟨_, _, if_pos rfl, rfl, rfl, ?_⟩
  dsimp only

theorem resetShown_start (t s : State) (pulse : Bool) : (t.resetShown s pulse).start = t.start := by
  simp -implicitDefEqProofs only [State.resetShown, apply_ite State.start, State.setB_start, ite_self]
  rw [forEach_keeps State.start _ _ fun _ _ => ⟨by simp -implicitDefEqProofs only [State.setB_start]⟩,
    forEach_keeps State.start _ _ fun _ _ => ⟨by simp -implicitDefEqProofs only [State.setB_start]⟩]
  simp -implicitDefEqProofs only [State.set_start]

theorem resetDevice_start (s : State) (kind : Nat) :
    (s.resetDevice kind true).start.kind = kind ∧ (s.resetDevice kind true).start.phase = 0 := by
  obtain ⟨t, pulse, e, hk, hp, -⟩ := resetDevice_vin s kind
  rw [e, resetShown_start]
  exact ⟨hk, hp⟩

theorem mapGet_absent {α : Type} (d : α) {m : List (Nat × α)} {x : Nat} (h : ∀ p ∈ m, p.1 ≠ x) : mapGet d m x = d := by
  induction m with
  | nil => rfl
  | cons p m ih =>
    rw [mapGet, if_neg (h p (by simp))]
    exact ih fun q hq => h q (by simp [hq])

/-- A register that a reset writes behind its reset value. -/
def resetWrites (off : Nat) : Prop :=
  off = Reg.MBX_CSTAT.off 0 0 ∨ off = Reg.AGE_STAT.off 0 0 ∨ off = Reg.FLT_ALERT.off 0 0 ∨ (∃ c < 4, off = Reg.DRC_CSTAT.off c 0) ∨
    ∃ i < 2, off = Reg.RCE_CXSTAT.off i 0

theorem resetShown_sameReg (t s : State) (pulse : Bool) {off : Nat} (hw : ¬ resetWrites off) : SameReg off t (t.resetShown s pulse) := by
  unfold resetWrites at hw
  push Not at hw
  obtain ⟨hm, ha, hf, hd, hc⟩ := hw
  unfold State.resetShown
  refine .after (.ite (.setB _ _ _ _ _ hf.symm) (.refl ..)) (.after (.forEach _ _ (fun t c h => ?_) _) (.after
    (.forEach _ _ (fun t i h => ?_) _) (.after (.set _ _ _ _ _ ha.symm) (.set _ _ _ _ _ hm.symm))))
  · exact .after (.setB _ _ _ _ _ (hd c (List.mem_range.1 h)).symm) (.setB _ _ _ _ _ (hd c (List.mem_range.1 h)).symm)
  · exact .after (.setB _ _ _ _ _ (hc i (List.mem_range.1 h)).symm) (.setB _ _ _ _ _ (hc i (List.mem_range.1 h)).symm)

/-- A register that no reset keeps or writes has its reset value after one. -/
theorem resetDevice_reg (s : State) (kind : Nat) {off : Nat} (hk : keptRegs.contains off = false) (hw : ¬ resetWrites off) :
    (s.resetDevice kind true).reg off = wd (resetAt off) := by
  obtain ⟨t, pulse, e, -, -, hc⟩ := resetDevice_vin s kind
  rw [e, (resetShown_sameReg t _ pulse hw).reg, State.reg, hc]
  refine mapGet_absent _ fun p hp he => ?_
  have hm : keptRegs.contains p.1 = true := (List.mem_filter.1 hp).2
  rw [he, hk] at hm
  exact absurd hm (by decide)

theorem resumed_gt (a : Time) : a.resumed.gt = 0 := rfl

/-! ### RESET_N and ordered starts (R338, R366) -/

/-- The state with RESET_N asserted. -/
def State.heldInReset (s : State) : State := { s with start := { s.start with inReset := true } }

theorem exec_resetNAssert (s : State) : exec .resetNAssert s = s.keepQueue (if s.start.inReset then .next s
    else if !s.start.good then .next s.heldInReset else .next ((s.resetDevice 1 true).cxCopy).heldInReset) := rfl

/-- A command of the pins leaves the queue as it is. -/
def State.withQueue (u s : State) : State := { u with pending := s.pending }

theorem keepQueue_next (u s : State) : s.keepQueue (.next u) = .next (u.withQueue s) := rfl

theorem heldInReset_keeps (u s : State) : (u.heldInReset.withQueue s).start.kind = u.start.kind ∧
    (u.heldInReset.withQueue s).start.phase = u.start.phase ∧ (u.heldInReset.withQueue s).time = u.time ∧
      ∀ o, (u.heldInReset.withQueue s).reg o = u.reg o := ⟨rfl, rfl, rfl, fun _ => rfl⟩

theorem cxCopy_start (s : State) : s.cxCopy.start = s.start :=
  forEach_keeps State.start _ _ (fun _ _ => ⟨State.setB_start ..⟩) s

theorem resetNAssert_resets {s : State} (hr : s.start.inReset = false) : ∃ t, exec .resetNAssert s = .next t ∧
    (s.start.good = false → t = { s with start := { s.start with inReset := true } }) ∧
    (s.start.good = true → t.start.inReset = true ∧ t.start.kind = 1 ∧ t.start.phase = 0 ∧ t.time.gt = 0 ∧
      t.time.opSec = s.time.mramSec + 1 ∧
      ∀ off, keptRegs.contains off = false → off ≠ Reg.MBX_CSTAT.off 0 0 → off ≠ Reg.AGE_STAT.off 0 0 → off ≠ Reg.FLT_ALERT.off 0 0 →
        (∀ c, c < 4 → off ≠ Reg.DRC_CSTAT.off c 0) → (∀ i, i < 2 → off ≠ Reg.RCE_CXSTAT.off i 0) → t.reg off = wd (resetAt off)) := by
  rw [exec_resetNAssert, hr, if_neg Bool.false_ne_true]
  by_cases hg : s.start.good = true
  · rw [hg, if_neg (by decide), keepQueue_next]
    obtain ⟨hk, hp⟩ := resetDevice_start s 1
    obtain ⟨hk', hp', ht', hr'⟩ := heldInReset_keeps (s.resetDevice 1 true).cxCopy s
    have ht : (s.resetDevice 1 true).cxCopy.time = s.time.resumed := (cxCopy_time _).trans (resetDevice_time ..)
    refine ⟨_, rfl, fun h => absurd h (by decide), fun _ => ⟨rfl, ?_, ?_, ?_, ?_, fun off hko hm ha hf hd hc => ?_⟩⟩
    · rw [hk', cxCopy_start, hk]
    · rw [hp', cxCopy_start, hp]
    · rw [ht', ht, resumed_gt]
    · rw [ht', ht]
      rfl
    · have hw : ¬ resetWrites off := by
        unfold resetWrites
        push Not
        exact ⟨hm, ha, hf, hd, hc⟩
      rw [hr', ← resetDevice_reg s 1 hko hw]
      exact forEach_keeps_mem (fun s => s.reg off) _ _ (fun s i hi => ⟨reg_set_other s Fd.RCE_CXSTAT_GNT _ i 0 (hc i (List.mem_range.1 hi))⟩) _
  · rw [Bool.eq_false_iff.2 hg, if_pos (by rfl), keepQueue_next]
    exact ⟨_, rfl, fun _ => rfl, fun h => absurd h (by decide)⟩

/-- The state with its start replaced. -/
def State.withStart (s : State) (x : Startup) : State := { s with start := x }

theorem setB_withStart (s : State) (x : Startup) (f : Fld) (v : Bool) (i j : Nat) :
    (s.withStart x).setB f v i j = (s.setB f v i j).withStart x := rfl

theorem cxLow_withStart (s : State) (x : Startup) : (s.withStart x).cxLow = s.cxLow.withStart x := by
  unfold State.cxLow forEach
  rw [List.range_succ, List.range_one]
  simp -implicitDefEqProofs only [List.cons_append, List.nil_append, List.foldl_cons, List.foldl_nil, setB_withStart]

theorem cxLow_pending (s : State) : s.cxLow.pending = s.pending :=
  forEach_keeps State.pending _ _ (fun _ _ => ⟨State.setB_pending ..⟩) s

theorem withStart_withQueue {u s : State} (x : Startup) (h : u.pending = s.pending) : (u.withStart x).withQueue s = u.withStart x := by
  unfold State.withQueue State.withStart
  rw [← h]

theorem exec_resetNRelease (sel : Fin 4) (s : State) : exec (.resetNRelease sel) s = s.keepQueue (if !s.start.inReset then .next s
    else .next (if s.start.good then (s.withStart { s.start with inReset := false }).cxLow.beginStart sel
      else s.withStart { s.start with inReset := false })) := rfl

theorem beginStart_withStart (s : State) (x : Startup) (sel : Nat) :
    (s.withStart x).beginStart sel = s.withStart { x with phase := 1, bootSel := sel } := rfl

theorem resetNRelease_starts {s : State} (hr : s.start.inReset = true) (sel : Fin 4) : ∃ t, exec (.resetNRelease sel) s = .next t ∧
    (s.start.good = true → t = { s.cxLow with start := { s.start with inReset := false, phase := 1, bootSel := sel } }) ∧
    (s.start.good = false → t = { s with start := { s.start with inReset := false } }) := by
  rw [exec_resetNRelease, hr, if_neg (by decide), keepQueue_next]
  by_cases hg : s.start.good = true
  · rw [if_pos hg, cxLow_withStart, beginStart_withStart, withStart_withQueue _ (cxLow_pending s)]
    exact ⟨_, rfl, fun _ => rfl, fun h => absurd hg (by simp [h])⟩
  · rw [if_neg hg, withStart_withQueue _ rfl]
    exact ⟨_, rfl, fun h => absurd h hg, fun _ => rfl⟩

/-- A start ordered by the Datum core: after a reset of kind 2, with the selection it samples. -/
structure OrderedStart (sel : Nat) (s t : State) : Prop where
  phase : t.start.phase = 1
  bootSel : t.start.bootSel = sel
  kind : t.start.kind = 2
  time : t.time = s.time.resumed

theorem beginStart_start (s : State) (sel : Nat) : (s.beginStart sel).start = { s.start with phase := 1, bootSel := sel } := rfl

theorem orderStart_resets (s : State) (sel : Nat) : ∃ u : State, s.orderStart sel = (u.resetDevice 2 true).beginStart sel := ⟨_, rfl⟩

theorem orderStart_ordered (s : State) (sel : Nat) : OrderedStart sel s (s.orderStart sel) := by
  have ht := orderStart_time s sel
  obtain ⟨u, e⟩ := orderStart_resets s sel
  obtain ⟨hk, -⟩ := resetDevice_start u 2
  rw [e] at ht ⊢
  generalize u.resetDevice 2 true = r at hk ht
  exact ⟨rfl, rfl, hk, ht⟩

theorem datumOrderedStart_starts {s : State} (hs : s.alive = true) (sel : Fin 4) : ∃ t, exec (.datumOrderedStart sel) s = .next t ∧
    t.start.phase = 1 ∧ t.start.bootSel = sel.val ∧ t.start.kind = 2 ∧ t.time.gt = 0 := by
  have he : exec (.datumOrderedStart sel) s = .next ((s.orderStart sel).withQueue s) := exec_timed hs rfl
  obtain ⟨hp, hb, hk, ht⟩ := orderStart_ordered s sel
  generalize s.orderStart sel = u at he hp hb hk ht
  exact ⟨u.withQueue s, he, hp, hb, hk, (congrArg Time.gt ht).trans (resumed_gt _)⟩

/-- Settles O54. -/
theorem resetsBeginStarts : Obligations.ResetsBeginStarts :=
  ⟨fun _ hr => resetNAssert_resets hr, fun sel _ hr => resetNRelease_starts hr sel, fun sel _ hs => datumOrderedStart_starts hs sel⟩

end Sys2Proof.Machine

/-!
SUPPORT. Proofs about the commands of the start and of ageing (Table 18.9).
-/

namespace Sys2Proof.Machine

-- The option has the proofs elaborated one after another, not beside the tests above: the two together exceed the check's memory.
set_option deprecated.oldSectionVars true

/-! ### FREEZE (R348) -/

section
variable {cause who : Nat} {t u : State} (h : Frozen cause who t)
include h

theorem Frozen.answered {m : Nat} (k : OnlyAnswered m t u) : Frozen cause who u where
  frozen := (congrArg Startup.frozen k.start).trans h.frozen
  state := (SameReg.answered k (o := Reg.PWR_SVC.off 0 0) (by decide)).get Fd.PWR_SVC_STATE 0 rfl |>.trans h.state
  ready := (SameReg.answered k (o := Reg.MBX_CSTAT.off 0 0) (by decide)).getB Fd.MBX_CSTAT_READY 0 rfl |>.trans h.ready
  cause := (SameReg.answered k (o := Reg.FRZ_STAT.off 0 0) (by decide)).get Fd.FRZ_STAT_CAUSE 0 rfl |>.trans h.cause
  who := (SameReg.answered k (o := Reg.FRZ_STAT.off 0 0) (by decide)).get Fd.FRZ_STAT_WHO 0 rfl |>.trans h.who

theorem Frozen.putBack (s : State) : Frozen cause who (t.putBack s) :=
  ⟨h.frozen, h.state, h.ready, h.cause, h.who⟩

end

section
variable {s : State} {mb op lv : Nat} {c : Command} {i : Instr} {body : State → Command → State}
  (e : exec i s = s.whenLive (.next (s.runCommand mb op fun s c => s.checked mb c lv false fun s => body s c)))
  (h : s.runs mb op lv false c)
include e h

/-- A row, whatever its body does: the answers to undefined opcodes follow it. -/
theorem row_runs : ∃ u, exec i s = .next (u.putBack s) ∧ OnlyAnswered mb (body (s.startOldest mb) (s.begun c)) u :=
  ⟨_, exec_next h.1 (e.trans (by rw [runs_row h (fun _ => lv) (fun _ _ => false) rfl rfl body])), drainUndefined_answered ..⟩

end

section
variable {mb : Fin 20} {s : State} {c : Command}

theorem freeze_freezes (h : s.runs mb 0x70 1 false c) (hw : c.word 1 = 0x46525A4E) :
    ∃ t, exec (.freeze mb) s = .next t ∧ Frozen 2 mb t := by
  obtain ⟨u, he, ha⟩ := row_runs (i := .freeze mb) rfl h
  rw [if_neg (by rw [begun_word, hw]; decide)] at ha
  have hf : Frozen 2 mb ((s.startOldest mb).requestFreeze 2 mb) :=
    requestFreeze_frozen (show (s.startOldest mb).alive = true from h.1) (by decide) (Nat.lt_trans mb.isLt (by decide))
  exact ⟨_, he, (hf.answered ha).putBack s⟩

theorem freeze_badWord (h : s.runs mb 0x70 1 false c) (hw : c.word 1 ≠ 0x46525A4E) :
    ∃ t, exec (.freeze mb) s = .next t ∧ s.answers t mb c 4 [] ∧ OnlyAnswered mb s t :=
  row_answers (i := .freeze mb) rfl h 4 [] (if_pos hw)

/-! ### START_STATUS, START_RETRY, IMAGE_WRITE (R339, R346, R347) -/

theorem startStatus_answers (h : s.runs mb 0x71 1 false c) : ∃ t, exec (.startStatus mb) s = .next t ∧
    s.answers t mb c 0 [s.reg (Reg.PWR_SVC.off 0 0), s.reg (Reg.PWR_START.off 0 0), wd s.fw.bootImage, s.fw.version, s.fw.secver,
      s.reg (Reg.FRZ_STAT.off 0 0), s.reg (Reg.FRZ_LAST_SEC.off 0 0)] ∧ OnlyAnswered mb s t :=
  row_answers (i := .startStatus mb) rfl h 0 _ rfl

/-- START_RETRY as it runs. -/
def State.retryRun (s : State) (mb : Nat) (c : Command) : State :=
  if c.word 1 ≠ 0x52455452 then s.complete mb c 0x04
  else if s.get Fd.PWR_SVC_STATE ≠ 6 then s.complete mb c 0x07
  else (s.set Fd.PWR_START_FAILS (s.legN 0x0040 - 1)).orderStart s.start.bootSel

theorem startRetry_runs (h : s.runs mb 0x72 3 false c) : ∃ u, exec (.startRetry mb) s = .next (u.withQueue s) ∧
    OnlyAnswered mb ((s.startOldest mb).retryRun mb (s.begun c)) u :=
  ⟨_, exec_timed h.1 (by rw [← runs_row h (fun _ => 3) (fun _ _ => false) rfl rfl fun s c => s.retryRun mb c]; rfl), drainUndefined_answered ..⟩

theorem withQueue_self {u s : State} (h : u.pending = s.pending) : u.withQueue s = u := by
  unfold State.withQueue
  rw [← h]

theorem startRetry_refuses (h : s.runs mb 0x72 3 false c) (st : Nat)
    (hb : (s.startOldest mb).retryRun mb (s.begun c) = (s.startOldest mb).complete mb (s.begun c) st) :
    ∃ t, exec (.startRetry mb) s = .next t ∧ s.answers t mb c st [] ∧ OnlyAnswered mb s t := by
  obtain ⟨u, he, ha⟩ := startRetry_runs h
  rw [hb] at ha
  have hc := complete_answers (s.startOldest mb) mb (s.begun c) st [] h.2.2.2.2.2.1
  have hk : OnlyAnswered mb s u := (startOldest_answered s mb).trans ((complete_answered ..).trans ha)
  rw [withQueue_self hk.pending] at he
  exact ⟨u, he, answers_after (answers_from hc (startOldest_waiting s mb)) ha, hk⟩

theorem startRetry_orders (h : s.runs mb 0x72 3 false c) (hw : c.word 1 = 0x52455452) (hv : s.get Fd.PWR_SVC_STATE = 6) :
    ∃ t, exec (.startRetry mb) s = .next t ∧ t.start.phase = 1 ∧ t.start.kind = 2 ∧ t.start.bootSel = s.start.bootSel ∧
      t.time.opSec = s.time.mramSec + 1 := by
  obtain ⟨u, he, ha⟩ := startRetry_runs h
  unfold State.retryRun at ha
  rw [if_neg (by rw [begun_word, hw]; decide), if_neg (fun hn => hn hv)] at ha
  obtain ⟨hp, hb, hk, ht⟩ := orderStart_ordered ((s.startOldest mb).set Fd.PWR_START_FAILS ((s.startOldest mb).legN 0x0040 - 1))
    (s.startOldest mb).start.bootSel
  have ht' := congrArg Time.opSec (ha.time.trans (ht.trans (congrArg Time.resumed (State.set_time ..))))
  generalize State.orderStart _ _ = r at ha hp hb hk
  rw [← ha.start] at hp hb hk
  exact ⟨_, he, hp, hk, hb, ht'⟩

theorem startRetry_acts (h : s.runs mb 0x72 3 false c) : ∃ t, exec (.startRetry mb) s = .next t ∧
    (c.word 1 ≠ 0x52455452 → s.answers t mb c 4 [] ∧ OnlyAnswered mb s t) ∧
    (c.word 1 = 0x52455452 → s.get Fd.PWR_SVC_STATE ≠ 6 → s.answers t mb c 7 [] ∧ OnlyAnswered mb s t) ∧
    (c.word 1 = 0x52455452 → s.get Fd.PWR_SVC_STATE = 6 →
      t.start.phase = 1 ∧ t.start.kind = 2 ∧ t.start.bootSel = s.start.bootSel ∧ t.time.opSec = s.time.mramSec + 1) := by
  by_cases hw : c.word 1 = 0x52455452
  · by_cases hv : s.get Fd.PWR_SVC_STATE = 6
    · obtain ⟨t, he, ht⟩ := startRetry_orders h hw hv
      exact ⟨t, he, fun hn => absurd hw hn, fun _ hn => absurd hv hn, fun _ _ => ht⟩
    · obtain ⟨t, he, ht⟩ := startRetry_refuses h 7 ((if_neg fun hn => hn hw).trans (if_pos hv))
      exact ⟨t, he, fun hn => absurd hw hn, fun _ _ => ht, fun _ hn => absurd hn hv⟩
  · obtain ⟨t, he, ht⟩ := startRetry_refuses h 4 (if_pos hw)
    exact ⟨t, he, fun _ => ht, fun hn => absurd hn hw, fun hn => absurd hn hw⟩

/-- The write of an image begun, its command to be answered when it ends. -/
def State.imageWriting (s : State) (mb : Nat) (c : Command) : State :=
  (s.acceptEarly mb c).withStart { (s.acceptEarly mb c).start with writing := some (mb, c.accepted) }

theorem accepted_payload (c : Command) : c.accepted.tag = c.tag ∧ c.accepted.payload = c.payload := by
  unfold Command.accepted
  split
  · exact ⟨rfl, rfl⟩
  · exact ⟨rfl, rfl⟩

theorem imageWrite_begins (h : s.runs mb 0x73 3 false c) (hw : s.start.writing = none) :
    ∃ t q, exec (.imageWrite mb) s = .next t ∧ t.start.writing = some (mb.val, q) ∧ q.tag = c.tag ∧ q.payload = c.payload := by
  obtain ⟨u, he, ha⟩ := row_runs (i := .imageWrite mb) (body := fun s c =>
    if s.start.writing.isSome then s.complete mb c 0x06 else s.imageWriting mb c) rfl h
  rw [if_neg (by rw [show (s.startOldest mb).start.writing = none from hw]; decide)] at ha
  exact ⟨_, (s.begun c).accepted, he, congrArg Startup.writing ha.start, accepted_payload (s.begun c)⟩

theorem imageWrite_busy (h : s.runs mb 0x73 3 false c) (hw : s.start.writing ≠ none) :
    ∃ t, exec (.imageWrite mb) s = .next t ∧ s.answers t mb c 6 [] ∧ OnlyAnswered mb s t :=
  row_answers (i := .imageWrite mb) rfl h 6 [] (if_pos (Option.isSome_iff_ne_none.2 hw))

/-! ### The commands of ageing (R351, R354, R355) -/

theorem ageStatus_answers (h : s.runs mb 0x74 2 false c) : ∃ t, exec (.ageStatus mb) s = .next t ∧
    s.answers t mb c 0 ([s.reg (Reg.AGE_STAT.off 0 0), s.reg (Reg.PWR_VCORE.off 0 0)] ++
      ((List.range 8).map fun k => s.reg (Reg.AGE_MON.off k 0)) ++ (List.range 16).map fun w => s.leg 0xB010 w) ∧ OnlyAnswered mb s t :=
  row_answers (i := .ageStatus mb) rfl h 0 _ rfl

theorem startPlan_waits (s : State) (kind : Nat) : (s.startPlan kind).age.waits = s.age.waits := by
  unfold State.startPlan
  split
  · rfl
  · rw [State.setB_age]

/-- A plan started where none runs, its command to be answered when it ends. -/
def State.planWaited (s : State) (mb : Nat) (c : Command) : State :=
  { s.startPlan 2 with age := { (s.startPlan 2).age with waits := (s.startPlan 2).age.waits ++ [(mb, c)] } }

theorem ageReplan_waits (h : s.runs mb 0x75 3 false c) : ∃ t, exec (.ageReplan mb) s = .next t ∧
    (∃ q, t.age.waits = s.age.waits ++ [(mb.val, q)] ∧ q.tag = c.tag) ∧
    (s.age.running = none → t.age.running = some 2 ∧ t.getB Fd.AGE_STAT_BUSY = true) ∧
    (∀ k, s.age.running = some k → t.age.running = some k) := by
  obtain ⟨u, he, ha⟩ := row_runs (i := .ageReplan mb) (body := fun s c => s.planWaited mb c) rfl h
  have hw := startPlan_waits (s.startOldest mb) 2
  have hr := fun hn => startPlan_runs (s := s.startOldest mb) 2 hn
  have hk := fun k hn => startPlan_running (s := s.startOldest mb) 2 (k := k) hn
  have hb := (SameReg.answered ha (o := Reg.AGE_STAT.off 0 0) (by decide)).getB Fd.AGE_STAT_BUSY 0 rfl
  refine ⟨_, he, ⟨s.begun c, (congrArg Ageing.waits ha.age).trans (congrArg (· ++ _) hw), rfl⟩, fun hn => ?_, fun k hn => ?_⟩
  · exact ⟨(congrArg Ageing.running ha.age).trans (hr hn).1, hb.trans (hr hn).2⟩
  · exact (congrArg Ageing.running ha.age).trans ((congrArg (·.age.running) (hk k hn)).trans hn)

theorem leg_setLeg_same (s : State) (id i : Nat) (v : Word) : (s.setLeg id i v).leg id i = v := mapGet_mapSet_same ..

theorem leg_setLeg_other (s : State) (id : Nat) {i j : Nat} (v : Word) (h : j ≠ i) : (s.setLeg id i v).leg id j = s.leg id j := by
  have hk : legendKey id j ≠ legendKey id i := fun e => h (Nat.add_left_cancel e)
  unfold State.leg State.setLeg mapSet
  simp only []
  split
  · exact mapGet_mapErase_other _ _ hk
  · exact (mapGet_mapInsert_other _ _ v hk).trans (mapGet_mapErase_other _ _ hk)

/-- The margins of a list of windows put at 0. -/
def State.marginsCleared (s : State) (ws : List Nat) : State := forEach ws s fun s w => s.setLeg 0xB010 w 0

theorem marginsCleared_other (ws : List Nat) {w : Nat} : ∀ s : State, w ∉ ws → (s.marginsCleared ws).leg 0xB010 w = s.leg 0xB010 w := by
  induction ws with
  | nil => exact fun s _ => rfl
  | cons v vs ih =>
    intro s hw
    obtain ⟨hv, hs⟩ := List.ne_and_not_mem_of_not_mem_cons hw
    exact (ih (s.setLeg 0xB010 v 0) hs).trans (leg_setLeg_other s 0xB010 0 hv)

theorem marginsCleared_leg (ws : List Nat) {w : Nat} : ∀ s : State, w ∈ ws → (s.marginsCleared ws).leg 0xB010 w = 0 := by
  induction ws with
  | nil => exact fun s hw => absurd hw List.not_mem_nil
  | cons v vs ih =>
    intro s hw
    by_cases hm : w ∈ vs
    · exact ih (s.setLeg 0xB010 v 0) hm
    · obtain rfl : w = v := (List.mem_cons.1 hw).resolve_right hm
      exact (marginsCleared_other vs (s.setLeg 0xB010 w 0) hm).trans (leg_setLeg_same ..)

theorem marginsCleared_keeps (s : State) (ws : List Nat) : (s.marginsCleared ws).time = s.time ∧ (s.marginsCleared ws).pending = s.pending ∧
    (s.marginsCleared ws).mbox = s.mbox :=
  have hk {β : Type} (p : State → β) (hp : ∀ (u : State) (w : Nat), p (u.setLeg 0xB010 w 0) = p u) : p (s.marginsCleared ws) = p s :=
    forEach_keeps p ws _ (fun u w => ⟨hp u w⟩) s
  ⟨hk State.time fun _ _ => rfl, hk State.pending fun _ _ => rfl, hk State.mbox fun _ _ => rfl⟩

/-- The state with the baselines of the ageing replaced. -/
def State.withBase (s : State) (base : List (Nat × Int)) : State := { s with age := { s.age with base := base } }

/-- The baselines with the present medians of a list of windows. -/
def State.rebased (s : State) (ws : List Nat) : List (Nat × Int) :=
  ws.foldl (fun m w => match s.depthMedian w with
    | some d => mapInsert (mapErase m w) w d
    | none => mapErase m w) s.age.base

/-- An AGE_BASELINE taken, before its answer. -/
def State.baselined (s : State) (ws : List Nat) : State := (s.withBase (s.rebased ws)).marginsCleared ws

theorem ageBaseline_clears (h : s.runs mb 0x76 3 true c) (hd : s.fw.dones = []) : ∃ t, exec (.ageBaseline mb) s = .next t ∧
    s.answers t mb c 0 [] ∧ ∀ w, w < 16 → bit (wbits (c.word 1) 15 0) w = true → t.leg 0xB010 w = 0 := by
  have hk := marginsCleared_keeps
  obtain ⟨t, he, ha, ho⟩ := row_complete (i := .ageBaseline mb) rfl h
    (((s.startOldest mb).remember mb (s.begun c) false (c.addressed.map fun w => (legendKey 0xB010 w, 0)) []).baselined c.addressed) 0 []
    (asOrder_first (s := s.startOldest mb) hd ..) (hk ..).1 (hk ..).2.1 (by
      rw [State.mb, State.baselined, (hk ..).2.2]
      exact startOldest_waiting s mb)
  refine ⟨t, he, ha, fun w hw hb => ?_⟩
  rw [State.leg, ho.legend]
  exact marginsCleared_leg _ _ (mem_maskList.2 ⟨hw, hb⟩)

theorem ageRead_none (h : s.runs mb 0x77 2 false c) (hn : wbits (c.word 2) 1 0 = 0) :
    ∃ t, exec (.ageRead mb) s = .next t ∧ s.answers t mb c 4 [] ∧ OnlyAnswered mb s t :=
  row_answers (i := .ageRead mb) rfl h 4 [] (if_pos hn)

theorem ageRead_range (h : s.runs mb 0x77 2 false c) (hn : wbits (c.word 2) 1 0 ≠ 0)
    (hl : s.age.history.length < (c.word 1).toNat + wbits (c.word 2) 1 0) :
    ∃ t, exec (.ageRead mb) s = .next t ∧ s.answers t mb c 0xD [] ∧ OnlyAnswered mb s t :=
  row_answers (i := .ageRead mb) rfl h 0xD [] ((if_neg hn).trans (if_pos hl))

theorem ageRead_reads (h : s.runs mb 0x77 2 false c) (hn : wbits (c.word 2) 1 0 ≠ 0)
    (hl : ¬ s.age.history.length < (c.word 1).toNat + wbits (c.word 2) 1 0) :
    ∃ t, exec (.ageRead mb) s = .next t ∧
      s.answers t mb c 0 (((s.age.history.drop (c.word 1).toNat).take (wbits (c.word 2) 1 0)).flatten.take 63) ∧ OnlyAnswered mb s t :=
  row_answers (i := .ageRead mb) rfl h 0 _ ((if_neg hn).trans (if_neg hl))

end

/-- Settles O57. -/
theorem startAndAgeCommandsAct : Obligations.StartAndAgeCommandsAct := by
  refine ⟨⟨fun mb s c h => ?_, fun mb s c h => ?_, fun mb s c h => startRetry_acts h, fun mb s c h => ?_⟩,
    fun mb s c h => ?_, fun mb s c h => ageReplan_waits h, fun mb s c h hd => ageBaseline_clears h hd, fun mb s c h => ?_⟩
  · by_cases hw : c.word 1 = 0x46525A4E
    · obtain ⟨t, he, ht⟩ := freeze_freezes h hw
      exact ⟨t, he, fun hn => absurd hw hn, fun _ => ⟨ht.frozen, ht.state, ht.ready, ht.cause, ht.who⟩⟩
    · obtain ⟨t, he, ht⟩ := freeze_badWord h hw
      exact ⟨t, he, fun _ => ht, fun hn => absurd hn hw⟩
  · obtain ⟨t, he, ha, hk⟩ := startStatus_answers h
    exact ⟨t, he, hk, ha⟩
  · by_cases hw : s.start.writing = none
    · obtain ⟨t, q, he, ht⟩ := imageWrite_begins h hw
      exact ⟨t, he, fun hn => absurd hw hn, fun _ => ⟨q, ht⟩⟩
    · obtain ⟨t, he, ht⟩ := imageWrite_busy h hw
      exact ⟨t, he, fun _ => ht, fun hn => absurd hn hw⟩
  · obtain ⟨t, he, ha, hk⟩ := ageStatus_answers h
    exact ⟨t, he, hk, ha⟩
  · by_cases hn : wbits (c.word 2) 1 0 = 0
    · obtain ⟨t, he, ha, hk⟩ := ageRead_none h hn
      exact ⟨t, he, hk, fun _ => ha, fun h0 => absurd hn h0, fun h0 => absurd hn h0⟩
    · by_cases hl : s.age.history.length < (c.word 1).toNat + wbits (c.word 2) 1 0
      · obtain ⟨t, he, ha, hk⟩ := ageRead_range h hn hl
        exact ⟨t, he, hk, fun h0 => absurd h0 hn, fun _ _ => ha, fun _ h0 => absurd hl (Nat.not_lt.2 h0)⟩
      · obtain ⟨t, he, ha, hk⟩ := ageRead_reads h hn hl
        exact ⟨t, he, hk, fun h0 => absurd h0 hn, fun _ h0 => absurd h0 hl, fun _ _ => ha⟩

end Sys2Proof.Machine

/-!
SUPPORT. Proofs about the steps of a start: ROM boot, the verification of an image, the start calibrations.
-/

namespace Sys2Proof.Machine

-- The option has the proofs elaborated one after another, not beside the tests above: the two together exceed the check's memory.
set_option deprecated.oldSectionVars true

/-! ### The start and one register followed through a chain of steps -/

/-- The start and the register at an offset are in `t` what they are in `s`. -/
structure SameBoot (o : Nat) (s t : State) : Prop extends SameReg o s t where
  start : t.start = s.start

section
variable {o : Nat} {s t u : State}

theorem SameBoot.refl (o : Nat) (s : State) : SameBoot o s s := ⟨.refl o s, rfl⟩

/-- The chain taken from its end. -/
theorem SameBoot.after (k : SameBoot o t u) (h : SameBoot o s t) : SameBoot o s u :=
  ⟨k.toSameReg.after h.toSameReg, k.start.trans h.start⟩

theorem SameBoot.ite {c : Prop} [Decidable c] (h : SameBoot o s t) (k : SameBoot o s u) : SameBoot o s (if c then t else u) := by
  split
  · exact h
  · exact k

theorem SameBoot.booked (h : OnlyBooked s t) (ho : quiet o = true) : SameBoot o s t := ⟨⟨h.regs o ho⟩, h.start⟩

theorem SameBoot.raised (h : OnlyRaised s t) (ho : quiet o = true) : SameBoot o s t := .booked h.booked ho

theorem SameBoot.answered {m : Nat} (h : OnlyAnswered m s t) (ho : quiet o = true) : SameBoot o s t := ⟨.answered h ho, h.start⟩

theorem SameBoot.set (s : State) (f : Fld) (v i j : Nat) (h : f.reg.off i j ≠ o) : SameBoot o s (s.set f v i j) :=
  ⟨.set s f v i j h, State.set_start ..⟩

theorem SameBoot.setB (s : State) (f : Fld) (v : Bool) (i j : Nat) (h : f.reg.off i j ≠ o) : SameBoot o s (s.setB f v i j) :=
  .set s f _ i j h

theorem SameBoot.addSat (s : State) (f : Fld) (n i j : Nat) (h : f.reg.off i j ≠ o) : SameBoot o s (s.addSat f n i j) :=
  .set s f _ i j h

theorem SameBoot.withBook (s : State) (b : Book) : SameBoot o s { s with book := b } := ⟨.of_csr rfl, rfl⟩

theorem SameBoot.withCapt (s : State) (c : SampleCapture) : SameBoot o s { s with capt := c } := ⟨.of_csr rfl, rfl⟩

theorem SameBoot.withPmc (s : State) (x : Perf) : SameBoot o s { s with pmc := x } := ⟨.of_csr rfl, rfl⟩

theorem SameBoot.withCan (s : State) (x : Canceller) : SameBoot o s { s with can := x } := ⟨.of_csr rfl, rfl⟩

theorem SameBoot.withRef (s : State) (x : Ref) : SameBoot o s { s with ref := x } := ⟨.of_csr rfl, rfl⟩

theorem SameBoot.setSlot (s : State) (k : Nat) (a : Slot) : SameBoot o s (s.setSlot k a) := ⟨.of_csr rfl, rfl⟩

theorem SameBoot.forEach {α : Type} (l : List α) (f : State → α → State) (hf : ∀ s, ∀ a ∈ l, SameBoot o s (f s a)) (s : State) :
    SameBoot o s (forEach l s f) :=
  ⟨.forEach l f (fun s a ha => (hf s a ha).toSameReg) s, forEach_keeps_mem State.start l f (fun s a ha => ⟨(hf s a ha).start⟩) s⟩

end

/-! ### DRAM channels (R286) -/

/-- What the loss of a channel takes with it, once the channel shows LOST. -/
def State.shutDram (s : State) (c : Nat) (inj : Bool) : State :=
  let s := if s.getB Fd.FLT_SSTAT_ACTIVE (285 + c) then s else s.raiseCycle [⟨285 + c, inj, false, 0, 0⟩]
  let s := (s.loseImages c).loseAtlasChannel c
  let s := if c = Config.heapChannel then { s with book := { s.book with shadow := [] } } else s
  let s := if (s.capt.state = 1 ∨ s.capt.state = 2) ∧ s.capt.onChannel c then s.captureStop [] else s
  s.dropDramInFlight c

theorem loseDram_eq (s : State) (c : Nat) (inj : Bool) : s.loseDram c inj =
    if s.getB Fd.DRC_CSTAT_LOST c then s else (s.setB Fd.DRC_CSTAT_LOST true c).shutDram c inj := rfl

section
variable {o : Nat} (hl : 0x3C100 ≤ o) (hh : o < 0x3C140)
include hl hh

/-- The registers of the DRAM channels keep what a raised fault leaves alone. -/
theorem quiet_dram : quiet o = true := by
  simp only [quiet, Bool.not_eq_true', Bool.or_eq_false_iff, decide_eq_false_iff_not]
  omega

theorem captureStop_sameBoot (s : State) (data : List (Nat × Word)) : SameBoot o s (s.captureStop data) := by
  unfold State.captureStop State.captureEnd
  dsimp only
  split
  · exact .after (.answered (complete_answered ..) (quiet_dram hl hh)) (.withCapt ..)
  · exact .withCapt ..

theorem loseImages_sameBoot (s : State) (c : Nat) : SameBoot o s (s.loseImages c) :=
  .after (.set _ Fd.CAN_CP_STAT_CH_LOST _ 0 0 (by simp only [RegDesc.off, Fd.CAN_CP_STAT_CH_LOST, Reg.CAN_CP_STAT]; omega)) (.withCan ..)

theorem loseAtlasChannel_sameBoot (s : State) (c : Nat) : SameBoot o s (s.loseAtlasChannel c) := by
  have hm (u : State) : SameBoot o u u.syncMirror :=
    .setB _ Fd.POS_ATLAS_MIRROR_LOST _ 0 0 (by simp only [RegDesc.off, Fd.POS_ATLAS_MIRROR_LOST, Reg.POS_ATLAS]; omega)
  have h (u : State) (a b : Slot) : SameBoot o u ((u.setSlot 0 a).setSlot 1 b).syncMirror :=
    .after (hm _) (.after (.setSlot ..) (.setSlot ..))
  unfold State.loseAtlasChannel
  exact .ite (.after (.raised (pulse_raised _ (by decide)) (quiet_dram hl hh)) (h ..)) (h ..)

theorem dropDramInFlight_sameBoot (s : State) (c : Nat) : SameBoot o s (s.dropDramInFlight c) := by
  have hd (u : State) : SameBoot o u u.dropDram :=
    .after (.addSat _ Fd.PMC_DLOST_DRAM 1 0 0 (by simp only [RegDesc.off, Fd.PMC_DLOST_DRAM, Reg.PMC_DLOST]; omega)) (.withPmc ..)
  unfold State.dropDramInFlight
  split
  · exact .ite (.refl ..) (.after (.setB _ Fd.PMC_STAT_DUMPING _ 0 0 (by simp only [RegDesc.off, Fd.PMC_STAT_DUMPING, Reg.PMC_STAT]; omega))
      (.after (hd _) (.withPmc ..)))
  · exact .refl ..

theorem shutDram_sameBoot (s : State) {c : Nat} (hc : c < 4) (inj : Bool) : SameBoot o s (s.shutDram c inj) := by
  have hr (u : State) : SameBoot o u (u.raiseCycle [⟨285 + c, inj, false, 0, 0⟩]) :=
    .raised (raiseCycle_raised u _ (by simp; omega)) (quiet_dram hl hh)
  unfold State.shutDram
  exact .after (dropDramInFlight_sameBoot hl hh ..) (.after (.ite (captureStop_sameBoot hl hh ..) (.refl ..))
    (.after (.ite (.withBook ..) (.refl ..)) (.after (loseAtlasChannel_sameBoot hl hh ..) (.after (loseImages_sameBoot hl hh ..)
      (.ite (.refl ..) (hr _))))))

/-- The loss of a channel leaves the registers of the others alone. -/
theorem loseDram_sameBoot (s : State) {c : Nat} (hc : c < 4) (inj : Bool) (hne : Reg.DRC_CSTAT.off c 0 ≠ o) :
    SameBoot o s (s.loseDram c inj) := by
  rw [loseDram_eq]
  exact .ite (.refl ..) (.after (shutDram_sameBoot hl hh _ hc inj) (.setB _ Fd.DRC_CSTAT_LOST _ _ _ hne))

theorem trainDram_sameBoot (s : State) (trained : Nat) {c : Nat} (hc : c < 4) (hne : Reg.DRC_CSTAT.off c 0 ≠ o) :
    SameBoot o s (s.trainDram trained c) := by
  have hs (u : State) (f : Fld) (v : Bool) (hf : f.reg = Reg.DRC_CSTAT) : SameBoot o u (u.setB f v c) := .setB u f v c 0 (hf ▸ hne)
  unfold State.trainDram
  refine .ite (.after (.raised (raise_raised _ (by omega)) (quiet_dram hl hh)) (hs _ _ _ rfl)) (.ite ?_ ?_)
  · exact .after (hs _ _ _ rfl) (hs _ _ _ rfl)
  · exact .after (loseDram_sameBoot hl hh _ hc _ hne) (hs _ _ _ rfl)

end

theorem trainDram_start (s : State) (trained : Nat) {c : Nat} (hc : c < 4) : (s.trainDram trained c).start = s.start :=
  (trainDram_sameBoot (o := 0x3C104) (by decide) (by decide) s trained hc (by
    simp only [RegDesc.off, Reg.DRC_CSTAT]
    omega)).start

/-- A field of a channel's register keeps its value beside one written. -/
theorem channel_setB {f g : Fld} (h : f.clear g = true) (hf : f.reg = Reg.DRC_CSTAT) (hg : g.reg = Reg.DRC_CSTAT) (s : State) (v : Bool)
    {c : Nat} (hc : c < 4) : (s.setB g v c).getB f c = s.getB f c :=
  getB_of_get (get_set_clear s h _ (by rw [hf]; exact hc) (by rw [hg]; exact hc))

/-- A channel that has trained and is not lost shows it. -/
theorem trainDram_trains {s : State} {trained c : Nat} (hc : c < 4) (hl : s.getB Fd.DRC_CSTAT_LOST c = false) (hb : bit trained c = true) :
    (s.trainDram trained c).getB Fd.DRC_CSTAT_LOST c = false ∧ (s.trainDram trained c).getB Fd.DRC_CSTAT_TRAINED c = true := by
  have hl' : (s.setB Fd.DRC_CSTAT_SELF_REFRESH false c).getB Fd.DRC_CSTAT_LOST c = false :=
    (channel_setB (by decide) rfl rfl s false hc).trans hl
  rw [State.trainDram, if_neg (by rw [hl']; decide), if_pos hb]
  exact ⟨(channel_setB (by decide) rfl rfl _ true hc).trans hl', getB_setB_same _ _ _ _ _ (by unfold Fld.fits; decide) (by decide)⟩

theorem otherChannel (s : State) (trained : Nat) {k c : Nat} (hk : k < 4) (hc : c < 4) (hne : k ≠ c) :
    SameReg (Reg.DRC_CSTAT.off c 0) s (s.trainDram trained k) := by
  refine (trainDram_sameBoot ?_ ?_ s trained hk ?_).toSameReg <;> simp only [RegDesc.off, Reg.DRC_CSTAT] <;> omega

/-- Once every channel has been trained, one that is not lost and has trained shows it. -/
theorem trainAll_trains {s : State} {trained c : Nat} (l : List Nat) (hl4 : ∀ k ∈ l, k < 4) (hc : c < 4) (hb : bit trained c = true)
    (hl : s.getB Fd.DRC_CSTAT_LOST c = false) (ht : c ∈ l ∨ s.getB Fd.DRC_CSTAT_TRAINED c = true) :
    (forEach l s fun s c => s.trainDram trained c).getB Fd.DRC_CSTAT_TRAINED c = true := by
  induction l generalizing s with
  | nil => exact ht.resolve_left List.not_mem_nil
  | cons k l ih =>
    have hk := hl4 k List.mem_cons_self
    rw [forEach_cons]
    refine ih (s := s.trainDram trained k) (fun j hj => hl4 j (List.mem_cons_of_mem _ hj)) ?_ ?_
    · by_cases he : k = c
      · subst he
        exact (trainDram_trains hk hl hb).1
      · rw [(otherChannel s trained hk hc he).getB Fd.DRC_CSTAT_LOST c rfl, hl]
    · by_cases he : k = c
      · subst he
        exact .inr (trainDram_trains hk hl hb).2
      · rw [(otherChannel s trained hk hc he).getB Fd.DRC_CSTAT_TRAINED c rfl]
        exact ht.imp_left fun h => (List.mem_cons.1 h).resolve_left (Ne.symm he)

/-! ### ROM boot (Table 18.2, R338) -/

theorem bookRebuild_booked (s : State) (mainOk spareOk : Bool) : OnlyBooked s (s.bookRebuild mainOk spareOk) := by
  unfold State.bookRebuild
  exact .ite (.withBook ..) (.after (levelEvent_booked ..) (.after (placeOrDrop_booked ..) (.after (.withBook ..) (.withBook ..))))

section
variable {o : Nat} (hl : 0x3C100 ≤ o) (hh : o < 0x3C140)
include hl hh

/-- The registers of the references stand below those of the channels. -/
theorem refStat_set (s : State) (f : Fld) (v : Nat) (hf : f.reg = Reg.SYN_REF_STAT) : SameBoot o s (s.set f v) :=
  .set s f v 0 0 (by rw [hf]; simp only [RegDesc.off, Reg.SYN_REF_STAT]; omega)

theorem enterHoldover_sameBoot (s : State) : SameBoot o s s.enterHoldover :=
  .after (.raised (raise_raised _ (by decide)) (quiet_dram hl hh)) (.after (refStat_set hl hh _ Fd.SYN_REF_STAT_HOLD_SEC 0 rfl)
    (.after (refStat_set hl hh _ Fd.SYN_REF_STAT_SEL 2 rfl) (.withRef ..)))

theorem refLost_sameBoot (s : State) : SameBoot o s (s.refLost false) := by
  have h (u : State) (x : Ref) : SameBoot o u { u.setB Fd.SYN_REF_STAT_REF_OK false with ref := x } :=
    .after (.withRef ..) (refStat_set hl hh u Fd.SYN_REF_STAT_REF_OK _ rfl)
  unfold State.refLost
  rw [if_neg Bool.false_ne_true]
  refine .ite (.after (.ite (refStat_set hl hh _ Fd.SYN_REF_STAT_SEL 1 rfl) (enterHoldover_sameBoot hl hh _)) ?_) (h ..)
  exact .after (.raised (raise_raised _ (by decide)) (quiet_dram hl hh)) (h ..)

theorem bootRefs_sameBoot (s : State) (ref1 ref2 : Nat) : SameBoot o s (s.bootRefs ref1 ref2) := by
  have h (u : State) (f1 f2 o1 o2 : Nat) : SameBoot o u (((((u.set Fd.SYN_REF_STAT_REF_FREQ f1).set Fd.SYN_REF_STAT_REF2_FREQ f2).set
      Fd.SYN_REF_STAT_REF_OK o1).set Fd.SYN_REF_STAT_REF2_OK o2).setB Fd.SYN_REF_STAT_CK_LOCK true) :=
    .after (refStat_set hl hh _ _ _ rfl) (.after (refStat_set hl hh _ _ _ rfl) (.after (refStat_set hl hh _ _ _ rfl)
      (.after (refStat_set hl hh _ _ _ rfl) (refStat_set hl hh _ _ _ rfl))))
  exact .ite (h ..) (.after (refLost_sameBoot hl hh _) (h ..))

end

/-- The state whose time begins with the image load. -/
def State.romBooted (s : State) (ms : Nat) : State :=
  { s with
    time := { s.time with gt := 0, sheetsRun := 0, secBase := 0 }
    start := { s.start with phase := 2, preMs := ms, order := bootOrder s.start.bootSel } }

theorem romBooted_getB (s : State) (ms : Nat) (f : Fld) (i : Nat) : (s.romBooted ms).getB f i = s.getB f i := rfl

/-- The state with the Field Book, the references and the channels taken into service. -/
def State.unitsFound (s : State) (trained ref1 ref2 : Nat) (mainOk spareOk : Bool) : State :=
  forEach (List.range 4) ((s.bookRebuild mainOk spareOk).bootRefs ref1 ref2) fun s c => s.trainDram trained c

theorem unitsFound_start (s : State) (trained ref1 ref2 : Nat) (mainOk spareOk : Bool) :
    (s.unitsFound trained ref1 ref2 mainOk spareOk).start = s.start :=
  (forEach_keeps_mem State.start _ _ (fun s _ hc => ⟨trainDram_start s trained (List.mem_range.1 hc)⟩) _).trans
    ((bootRefs_sameBoot (o := 0x3C104) (by decide) (by decide) ..).start.trans (bookRebuild_booked ..).start)

theorem unitsFound_time (s : State) (trained ref1 ref2 : Nat) (mainOk spareOk : Bool) :
    (s.unitsFound trained ref1 ref2 mainOk spareOk).time = s.time := romBoot_time s trained ref1 ref2 mainOk spareOk

theorem unitsFound_trained {s : State} {trained c : Nat} (ref1 ref2 : Nat) (mainOk spareOk : Bool) (hc : c < 4)
    (hl : s.getB Fd.DRC_CSTAT_LOST c = false) (hb : bit trained c = true) :
    (s.unitsFound trained ref1 ref2 mainOk spareOk).getB Fd.DRC_CSTAT_TRAINED c = true := by
  have hlow : 0x3C100 ≤ Reg.DRC_CSTAT.off c 0 ∧ Reg.DRC_CSTAT.off c 0 < 0x3C140 := by
    simp only [RegDesc.off, Reg.DRC_CSTAT]
    omega
  have h : SameBoot (Reg.DRC_CSTAT.off c 0) s ((s.bookRebuild mainOk spareOk).bootRefs ref1 ref2) :=
    .after (bootRefs_sameBoot hlow.1 hlow.2 ..) (.booked (bookRebuild_booked ..) (quiet_dram hlow.1 hlow.2))
  refine trainAll_trains _ (fun _ => List.mem_range.1) hc hb ?_ (.inl (List.mem_range.2 hc))
  rw [h.getB Fd.DRC_CSTAT_LOST c rfl, hl]

/-- `t` begins the image load `ms` milliseconds after the start, with the channels of `trained` (Table 18.2, steps 3 and 4). -/
structure LoadBegun (s : State) (ms trained : Nat) (t : State) : Prop where
  phase : t.start.phase = 2
  preMs : t.start.preMs = ms
  order : t.start.order = bootOrder s.start.bootSel
  time : t.time = { s.time with gt := 0, sheetsRun := 0, secBase := 0 }
  trained : ∀ c, c < 4 → s.getB Fd.DRC_CSTAT_LOST c = false → bit trained c = true → t.getB Fd.DRC_CSTAT_TRAINED c = true

theorem LoadBegun.withQueue {s t : State} {ms trained : Nat} (h : LoadBegun s ms trained t) (u : State) :
    LoadBegun s ms trained (t.withQueue u) := ⟨h.phase, h.preMs, h.order, h.time, h.trained⟩

theorem romBooted_begun (s : State) (ms trained ref1 ref2 : Nat) (mainOk spareOk : Bool) :
    LoadBegun s ms trained ((s.romBooted ms).unitsFound trained ref1 ref2 mainOk spareOk) where
  phase := congrArg Startup.phase (unitsFound_start ..)
  preMs := congrArg Startup.preMs (unitsFound_start ..)
  order := congrArg Startup.order (unitsFound_start ..)
  time := unitsFound_time ..
  trained _ hc hl hb := unitsFound_trained _ _ _ _ hc (by rw [romBooted_getB, hl]) hb

theorem exec_romBootDone {s : State} (hs : s.alive = true) (hp : s.start.phase = 1) (ms trained ref1 ref2 : Nat) (mainOk spareOk : Bool) :
    exec (.romBootDone ms trained ref1 ref2 mainOk spareOk) s =
      .next (((s.romBooted ms).unitsFound trained ref1 ref2 mainOk spareOk).withQueue s) := by
  have hlive : ¬ (s.start.phase ≠ 1 ∨ (!s.start.good) = true ∨ s.start.inReset = true ∨ s.start.frozen = true) := by
    simp only [State.alive, Bool.and_eq_true, Bool.not_eq_true'] at hs
    obtain ⟨⟨hg, hr⟩, hf⟩ := hs
    simp [hp, hg, hr, hf]
  exact congrArg s.keepQueue (if_neg hlive)

theorem romBootDone_begins {s : State} (hs : s.alive = true) (hp : s.start.phase = 1) (ms trained r1 r2 : Nat) (mainOk spareOk : Bool) :
    ∃ t, exec (.romBootDone ms trained r1 r2 mainOk spareOk) s = .next t ∧ t.start.phase = 2 ∧ t.start.preMs = ms ∧
      t.start.order = bootOrder s.start.bootSel ∧ t.time = { s.time with gt := 0, sheetsRun := 0, secBase := 0 } ∧
      ∀ c, c < 4 → s.getB Fd.DRC_CSTAT_LOST c = false → bit trained c = true → t.getB Fd.DRC_CSTAT_TRAINED c = true := by
  obtain ⟨hph, hms, ho, ht, htr⟩ := (romBooted_begun s ms trained r1 r2 mainOk spareOk).withQueue s
  exact ⟨_, exec_romBootDone hs hp .., hph, hms, ho, ht, htr⟩

/-! ### The start and the image in use followed through a chain of steps -/

/-- The start and the number of the image in use are in `t` what they are in `s`. -/
structure SameImage (s t : State) : Prop where
  start : t.start = s.start
  image : t.fw.bootImage = s.fw.bootImage

section
variable {s t u : State}

theorem SameImage.refl (s : State) : SameImage s s := ⟨rfl, rfl⟩

/-- The chain taken from its end. -/
theorem SameImage.after (k : SameImage t u) (h : SameImage s t) : SameImage s u := ⟨k.start.trans h.start, k.image.trans h.image⟩

theorem SameImage.ite {c : Prop} [Decidable c] (h : SameImage s t) (k : SameImage s u) : SameImage s (if c then t else u) := by
  split
  · exact h
  · exact k

theorem SameImage.raised (h : OnlyRaised s t) : SameImage s t := ⟨h.start, congrArg (fun x => x.fw.bootImage) h.part⟩

theorem SameImage.setReg (s : State) (o : Nat) (v : Word) : SameImage s (s.setReg o v) := ⟨rfl, rfl⟩

theorem SameImage.set (s : State) (f : Fld) (v i j : Nat) : SameImage s (s.set f v i j) := ⟨rfl, rfl⟩

theorem SameImage.setB (s : State) (f : Fld) (v : Bool) (i j : Nat) : SameImage s (s.setB f v i j) := ⟨rfl, rfl⟩

theorem SameImage.withWin (s : State) (x : Windows) : SameImage s { s with win := x } := ⟨rfl, rfl⟩

theorem SameImage.withLane (s : State) (x : Lanes) : SameImage s { s with lane := x } := ⟨rfl, rfl⟩

theorem SameImage.withAge (s : State) (x : Ageing) : SameImage s { s with age := x } := ⟨rfl, rfl⟩

theorem SameImage.withSns (s : State) (x : Sense) : SameImage s { s with sns := x } := ⟨rfl, rfl⟩

theorem SameImage.forEach {α : Type} (l : List α) (f : State → α → State) (hf : ∀ s a, SameImage s (f s a)) (s : State) :
    SameImage s (forEach l s f) :=
  ⟨forEach_keeps State.start l f (fun s a => ⟨(hf s a).start⟩) s,
    forEach_keeps (fun s => s.fw.bootImage) l f (fun s a => ⟨(hf s a).image⟩) s⟩

end

/-! ### What an image begins (R339, R341, R347) -/

section
variable (s : State)

theorem setService_sameImage (st : Nat) : SameImage s (s.setService st) := .after (.raised (offer_raised ..)) (.set s Fd.PWR_SVC_STATE st 0 0)

theorem releaseChart_sameImage : SameImage s s.releaseChart :=
  .after (.raised (notifyChart_raised ..)) (.after (.setB _ Fd.MBX_CSTAT_STANDBY true 0 0) (.setB _ Fd.MBX_CSTAT_READY true 0 0))

theorem cxCopy_sameImage : SameImage s s.cxCopy := .forEach _ _ (fun _ _ => .setB ..) s

theorem updateMuted_sameImage (n : Nat) : SameImage s (s.updateMuted n) := by
  have hm (u : State) (v : Bool) : SameImage u (u.setB Fd.LANE_TX_MUTE_MUTED v n) := .setB u _ v n 0
  have hr (u : State) (v : Bool) : SameImage u (u.setB Fd.LANE_TX_MUTE_RAMPING v n) := .setB u _ v n 0
  unfold State.updateMuted
  refine .ite ?_ (.ite (.after (.withLane ..) (hm ..)) (hm ..))
  exact .ite (.ite (.after (.withLane ..) (hm ..)) (.after (hr ..) (.after (.withLane ..) (hm ..))))
    (.after (hr ..) (.after (.withLane ..) (hm ..)))

theorem startFailure_sameImage (reason : Nat) : SameImage s (s.startFailure reason) :=
  .after (.raised (pulse_raised _ (by decide))) (.after (.raised (offer_raised ..))
    (.after (.set _ Fd.PWR_START_REASON reason 0 0) (.set _ Fd.PWR_START_FAILS _ 0 0)))

theorem startPlan_sameImage (kind : Nat) : SameImage s (s.startPlan kind) :=
  .ite (.refl s) (.after (.setB _ Fd.AGE_STAT_BUSY true 0 0) (.withAge ..))

theorem snsCalibrate_sameImage (c : Nat) : SameImage s (s.snsCalibrate c) :=
  .ite (.refl s) (.after (.setB _ (snsBusy c) true 0 0) (.withSns ..))

theorem applySketch_sameImage (k : SketchConfig) : SameImage s (s.applySketch k) := by
  unfold State.applySketch
  refine .after (.forEach _ _ (fun u w => ?_) _) (.after (.withWin ..) (.forEach _ _ (fun _ _ => .setReg ..) s))
  have h := SameImage.setB u Fd.CHN_WCTL_EN false w 0
  exact .ite (.after (.set _ Fd.CHN_WCTL_PROTO 0 w 0) (.after (.set _ Fd.CHN_WCTL_PROFILE 2 w 0) h)) h

theorem startLaneCal_sameImage (k : SketchConfig) (n : Nat) : SameImage s (s.startLaneCal k n) := by
  unfold State.startLaneCal
  refine .after (.set _ Fd.SYN_LSTATE_RX_STATE _ n 0) (.after (updateMuted_sameImage ..) (.after (.setB _ Fd.LANE_TX_MUTE_SRC_CAL true n 0)
    (.after (.setB _ Fd.LANE_CAL_STAT_TX_BUSY true n 0) (.after (.setB _ Fd.LANE_CAL_STAT_RX_BUSY true n 0) ?_))))
  exact .after (.ite (.setB _ Fd.LANE_CTL_TX_EN true n 0) (.refl _)) (.ite (.setB _ Fd.LANE_CTL_RX_EN true n 0) (.refl _))

theorem enterCompass_sameImage (noImage : Bool) :
    SameImage (s.withStart { s.start with phase := 0, noImage := noImage }) (s.enterCompass noImage) :=
  .after (releaseChart_sameImage _) (.after (.raised (raise_raised _ (by decide))) (.after (cxCopy_sameImage _) (setService_sameImage ..)))

theorem enterCal_sameImage : SameImage (s.withStart { s.start with phase := 3 }) s.enterCal :=
  .after (startPlan_sameImage ..) (.after (snsCalibrate_sameImage ..) (.after (snsCalibrate_sameImage ..)
    (.after (.forEach _ _ (fun _ _ => startLaneCal_sameImage ..) _) (.after (applySketch_sameImage ..)
      (.after (releaseChart_sameImage _) (setService_sameImage ..))))))

end

/-- The state with the image at the head of the order in use. -/
def State.imageTaken (s : State) (n : Nat) (img : BootImage) : State :=
  { s with
    fw := { s.fw with bootImage := n, version := wd (imageVersion img), secver := wd (imageSecver img) }
    start := { s.start with order := [], sketch := img.sketch } }

/-- The state with the image at the head of the order passed over, its failure recorded. -/
def State.imagePassed (s : State) (n : Nat) (rest : List Nat) : State :=
  let s := (s.pulse 311).imageRecord n 1
  { s with start := { s.start with order := rest } }

/-- The state after the image at the head of the order has been judged. -/
def State.imageJudged (s : State) (n : Nat) (rest : List Nat) (img : BootImage) : State :=
  if s.imageOk img then
    if (s.imageTaken n img).legN 0x0040 ≤ (s.imageTaken n img).get Fd.PWR_START_FAILS then (s.imageTaken n img).enterCompass false
    else (s.imageTaken n img).enterCal
  else if rest.isEmpty then ((s.imagePassed n rest).startFailure 3).enterCompass true else s.imagePassed n rest

theorem exec_imageVerifyDone {s : State} (hs : s.alive = true) {n : Nat} {rest : List Nat} (hp : s.start.phase = 2)
    (ho : s.start.order = n :: rest) (img : BootImage) :
    exec (.imageVerifyDone img) s = .next ((s.imageJudged n rest img).putBack s) := by
  have hlive : ¬ (s.start.phase ≠ 2 ∨ s.start.inReset = true ∨ s.start.frozen = true) := by
    simp only [State.alive, Bool.and_eq_true, Bool.not_eq_true'] at hs
    obtain ⟨⟨-, hr⟩, hf⟩ := hs
    simp [hp, hr, hf]
  refine exec_next hs (congrArg s.whenLive ((if_neg hlive).trans ?_))
  rw [ho, State.imageJudged, apply_ite Host.Outcome.next]
  rfl

theorem imageTaken_fails (s : State) (n : Nat) (img : BootImage) (id : Nat) (f : Fld) :
    (s.imageTaken n img).legN id = s.legN id ∧ (s.imageTaken n img).get f = s.get f := ⟨rfl, rfl⟩

/-- The image that verifies is in use, and COMPASS or CAL is entered. -/
theorem imageJudged_taken {s : State} {img : BootImage} (h : s.imageOk img = true) (n : Nat) (rest : List Nat) :
    (s.imageJudged n rest img).fw.bootImage = n ∧ (s.imageJudged n rest img).start.order = [] ∧
      (s.imageJudged n rest img).start.phase = if s.legN 0x0040 ≤ s.get Fd.PWR_START_FAILS then 0 else 3 := by
  obtain ⟨hl, hf⟩ := imageTaken_fails s n img 0x0040 Fd.PWR_START_FAILS
  rw [State.imageJudged, if_pos h, hl, hf]
  split
  · have k := enterCompass_sameImage (s.imageTaken n img) false
    exact ⟨k.image, congrArg Startup.order k.start, congrArg Startup.phase k.start⟩
  · have k := enterCal_sameImage (s.imageTaken n img)
    exact ⟨k.image, congrArg Startup.order k.start, congrArg Startup.phase k.start⟩

theorem imagePassed_sameImage (s : State) (n : Nat) (rest : List Nat) :
    SameImage (s.withStart { s.start with order := rest }) (s.imagePassed n rest) := by
  have h : SameImage s ((s.pulse 311).imageRecord n 1) := .after (.raised (offer_raised ..)) (.raised (pulse_raised _ (by decide)))
  unfold State.imagePassed
  dsimp only
  generalize (s.pulse 311).imageRecord n 1 = u at h
  exact ⟨congrArg (fun x : Startup => { x with order := rest }) h.start, h.image⟩

/-- An image that does not verify is passed over, and COMPASS is entered where none is left. -/
theorem imageJudged_passed {s : State} {img : BootImage} (h : s.imageOk img = false) (hp : s.start.phase = 2) (n : Nat) (rest : List Nat) :
    (s.imageJudged n rest img).fw.bootImage = s.fw.bootImage ∧ (s.imageJudged n rest img).start.order = rest ∧
      (s.imageJudged n rest img).start.phase = if rest = [] then 0 else 2 := by
  rw [State.imageJudged, h, if_neg Bool.false_ne_true]
  have k := imagePassed_sameImage s n rest
  generalize s.imagePassed n rest = u at k
  cases rest with
  | nil =>
    rw [if_pos List.isEmpty_nil, if_pos rfl]
    have kf := (startFailure_sameImage u 3).after k
    generalize u.startFailure 3 = v at kf
    have kc := enterCompass_sameImage v true
    exact ⟨kc.image.trans kf.image, (congrArg Startup.order kc.start).trans (congrArg Startup.order kf.start),
      congrArg Startup.phase kc.start⟩
  | cons m ms =>
    rw [List.isEmpty_cons, if_neg Bool.false_ne_true, if_neg (List.cons_ne_nil m ms)]
    exact ⟨k.image, congrArg Startup.order k.start, (congrArg Startup.phase k.start).trans hp⟩

theorem imageVerifyDone_judges {s : State} (hs : s.alive = true) {n : Nat} {rest : List Nat} (hp : s.start.phase = 2)
    (ho : s.start.order = n :: rest) (img : BootImage) : ∃ t, exec (.imageVerifyDone img) s = .next t ∧
      (s.imageOk img = true → t.fw.bootImage = n ∧ t.start.order = [] ∧
        t.start.phase = if s.legN 0x0040 ≤ s.get Fd.PWR_START_FAILS then 0 else 3) ∧
      (s.imageOk img = false → t.fw.bootImage = s.fw.bootImage ∧ t.start.order = rest ∧
        t.start.phase = if rest = [] then 0 else 2) := by
  have ht (h : s.imageOk img = true) := imageJudged_taken h n rest
  have hf (h : s.imageOk img = false) := imageJudged_passed h hp n rest
  have he := exec_imageVerifyDone hs hp ho img
  generalize s.imageJudged n rest img = u at he ht hf
  exact ⟨u.putBack s, he, ht, hf⟩

end Sys2Proof.Machine

/-!
SUPPORT. Proofs about the start calibrations: which of them run after their results.
-/

namespace Sys2Proof.Machine

-- The option has the proofs elaborated one after another, not beside the tests above: the two together exceed the check's memory.
set_option deprecated.oldSectionVars true

/-! ### The end of a lane's calibration (R205, R341) -/

/-- The fields that the end of a calibration writes beside those of LANE.CAL_STAT. -/
def besideEnd : List Fld := Fd.LANE_TX_MUTE_SRC_CAL :: Fd.SYN_LSTATE_RX_STATE :: enterFields

/-- The result of a side's calibration. -/
def resultField (tx : Bool) : Fld := if tx then Fd.LANE_CAL_STAT_TX_RESULT else Fd.LANE_CAL_STAT_RX_RESULT

theorem finishCals_spares (l : List Fld) (s : State) (n : Nat) : Spares l s (s.finishCals n) :=
  .after (.complete_each l _ CalWait.mb CalWait.cmd _ _ _) (.withLane ..)

theorem setLaneX_spares (l : List Fld) (s : State) (n : Nat) (x : LaneExt) : Spares l s (s.setLaneX n x) := .withLane ..

/-- What follows the end of a TX calibration. -/
def State.txCalEnded (s : State) (n code : Nat) : State :=
  let s := (s.setB Fd.LANE_TX_MUTE_SRC_CAL false n).updateMuted n
  let s := if code = 1 then s
    else (if s.get Fd.SYN_LSTATE_TX_STATE n = 0 then s else s.enterTx n 5).pulseOn (4 * n + 3) (2 ^ n) (s.laneDomains n)
  s.finishLaneTx.finishCals n

/-- What follows the end of an RX calibration. -/
def State.rxCalEnded (s : State) (n code : Nat) : State :=
  let s := s.refreshRx n
  let s := if code = 1 then s else s.pulseOn (4 * n + 3) 0 (s.laneDomains n)
  s.finishCals n

theorem endCal_tx {s : State} {n : Nat} (hb : s.getB Fd.LANE_CAL_STAT_TX_BUSY n = true) (r : CalResult) : ∃ code x, s.endCal n true r =
    (((s.setB Fd.LANE_CAL_STAT_TX_BUSY false n).set Fd.LANE_CAL_STAT_TX_RESULT code n).setLaneX n x).txCalEnded n code := by
  unfold State.endCal
  simp only [if_true]
  rw [if_pos hb]
  exact ⟨_, _, rfl⟩

theorem endCal_rx {s : State} {n : Nat} (hb : s.getB Fd.LANE_CAL_STAT_RX_BUSY n = true) (r : CalResult) : ∃ code x, s.endCal n false r =
    (((s.setB Fd.LANE_CAL_STAT_RX_BUSY false n).set Fd.LANE_CAL_STAT_RX_RESULT code n).setLaneX n x).rxCalEnded n code := by
  unfold State.endCal
  simp only [Bool.false_eq_true, if_false]
  rw [if_pos hb]
  exact ⟨_, _, rfl⟩

theorem txCalEnded_spares (s : State) {n : Nat} (hn : n < 16) (code : Nat) : Spares besideEnd s (s.txCalEnded n code) := by
  unfold State.txCalEnded
  refine .after (finishCals_spares ..) (.after (finishLaneTx_spares _ _) (.after (.ite (fun _ => .refl ..) fun _ => ?_)
    (.after ((updateMuted_spares _ hn).mono (by decide)) (.setB _ (g := Fd.LANE_TX_MUTE_SRC_CAL) (by decide) false hn))))
  exact .after (.of_raised _ (pulseOn_raised _ _ _ (by omega))) (.ite (fun _ => .refl ..) fun _ => (enterTx_spares _ hn 5).mono (by decide))

theorem rxCalEnded_spares (s : State) {n : Nat} (hn : n < 16) (code : Nat) : Spares besideEnd s (s.rxCalEnded n code) := by
  unfold State.rxCalEnded
  exact .after (finishCals_spares ..) (.after (.ite (fun _ => .refl ..) fun _ => .of_raised _ (pulseOn_raised _ _ _ (by omega)))
    (.set _ (g := Fd.SYN_LSTATE_RX_STATE) (by decide) _ hn))

/-- A side that calibrates shows its end, and what follows it leaves LANE.CAL_STAT alone. -/
theorem endCal_ends {s : State} {n : Nat} (hn : n < 16) {tx : Bool} (hb : s.getB (busyField tx) n = true) (r : CalResult) :
    ∃ code, Spares besideEnd ((s.setB (busyField tx) false n).set (resultField tx) code n) (s.endCal n tx r) := by
  cases tx with
  | true =>
    obtain ⟨code, x, e⟩ := endCal_tx hb r
    exact ⟨code, e ▸ .after (txCalEnded_spares _ hn code) (setLaneX_spares ..)⟩
  | false =>
    obtain ⟨code, x, e⟩ := endCal_rx hb r
    exact ⟨code, e ▸ .after (rxCalEnded_spares _ hn code) (setLaneX_spares ..)⟩

theorem endCal_idle {s : State} {n : Nat} {tx : Bool} (hb : s.getB (busyField tx) n = false) (r : CalResult) : s.endCal n tx r = s := by
  unfold State.endCal
  cases tx with
  | true =>
    simp only [if_true]
    exact if_neg (by rw [show s.getB Fd.LANE_CAL_STAT_TX_BUSY n = false from hb]; decide)
  | false =>
    simp only [Bool.false_eq_true, if_false]
    exact if_neg (by rw [show s.getB Fd.LANE_CAL_STAT_RX_BUSY n = false from hb]; decide)

/-- A BUSY flag of LANE.CAL_STAT is clear of the results shown beside it. -/
theorem busy_setResult (s : State) (x tx : Bool) (code n : Nat) {m : Nat} (hn : n < 16) (hm : m < 16) :
    (s.set (resultField tx) code n).getB (busyField x) m = s.getB (busyField x) m :=
  getB_of_get (get_set_clear s (by cases x <;> cases tx <;> decide) code (by cases x <;> exact hm) (by cases tx <;> exact hn))

theorem busy_clear : ∀ x tx : Bool, x ≠ tx → (busyField x).clear (busyField tx) = true := by decide

theorem busy_setBusy (s : State) {x tx : Bool} (v : Bool) {m n : Nat} (hn : n < 16) (hm : m < 16) :
    (s.setB (busyField tx) v n).getB (busyField x) m = if x = tx ∧ m = n then v else s.getB (busyField x) m := by
  split
  · next h =>
    obtain ⟨rfl, rfl⟩ := h
    exact getB_setB_same _ _ _ _ _ (fits_of (by cases x <;> rfl)) (by cases x <;> decide)
  · next h =>
    by_cases hx : x = tx
    · subst hx
      refine getB_of_get (get_set_other s _ _ _ n 0 m 0 ?_)
      have hne : m ≠ n := fun e => h ⟨rfl, e⟩
      have ho (k : Nat) : (busyField x).reg.off k 0 = 0x4070 + 0x400 * k := by cases x <;> rfl
      rw [ho, ho]
      omega
    · exact getB_of_get (get_set_clear s (busy_clear x tx hx) _ (by cases x <;> exact hm) (by cases tx <;> exact hn))

/-- The end of a side's calibration clears the BUSY flag of that side, and no other. -/
theorem endCal_busy (s : State) {n m : Nat} (hn : n < 16) (hm : m < 16) (tx x : Bool) (r : CalResult) :
    (s.endCal n tx r).getB (busyField x) m = if x = tx ∧ m = n then false else s.getB (busyField x) m := by
  by_cases hb : s.getB (busyField tx) n = true
  · obtain ⟨code, h⟩ := endCal_ends hn hb r
    rw [h.getB (busyField x) (by cases x <;> decide) (by cases x <;> exact hm), busy_setResult _ _ _ _ _ hn hm, busy_setBusy _ _ hn hm]
  · have hb' := Bool.eq_false_iff.2 hb
    rw [endCal_idle hb']
    split
    · next h =>
      obtain ⟨rfl, rfl⟩ := h
      exact hb'
    · rfl

/-! ### The results of a row (R341) -/

/-- The result of one side of a lane taken. -/
def State.takeSide (tx : Bool) (l : List (Nat × CalResult)) (s : State) (n : Nat) : State :=
  match findResult l n with
  | some r => s.endCal n tx r
  | none => s

/-- The results of one lane's calibrations taken. -/
def State.takeResults (rx tx : List (Nat × CalResult)) (s : State) (n : Nat) : State := (s.takeSide false rx n).takeSide true tx n

/-- The results of a sense converter's calibration taken. -/
def State.takeSense (sns : List (Nat × CalResult)) (s : State) (c : Nat) : State :=
  match findResult sns c with
  | some r => s.endSnsStart c r
  | none => s

section
variable (rx tx : List (Nat × CalResult)) {n m : Nat} (hm : m < 16)
include hm

omit rx tx in
theorem takeSide_busy (y x : Bool) (l : List (Nat × CalResult)) (s : State) (hn : n < 16) : (s.takeSide y l n).getB (busyField x) m =
    if x = y ∧ m = n ∧ (findResult l m).isSome then false else s.getB (busyField x) m := by
  unfold State.takeSide
  split
  · next r hr =>
    rw [endCal_busy s hn hm y x r]
    by_cases he : m = n
    · simp [he, hr]
    · simp [he]
  · next hr =>
    refine (if_neg fun ⟨_, he, h⟩ => ?_).symm
    rw [he, hr] at h
    exact absurd h (by decide)

theorem takeResults_busy (s : State) (hn : n < 16) (x : Bool) : (s.takeResults rx tx n).getB (busyField x) m =
    if m = n ∧ (findResult (if x then tx else rx) m).isSome then false else s.getB (busyField x) m := by
  rw [State.takeResults, takeSide_busy hm true x tx _ hn, takeSide_busy hm false x rx s hn]
  cases x <;> simp

/-- Once every lane's results are taken, a side with a result no longer calibrates, and one without is as it was. -/
theorem takeAll_busy (s : State) (l : List Nat) (hl : ∀ k ∈ l, k < 16) (x : Bool) : (forEach l s (State.takeResults rx tx)).getB (busyField x) m =
    if m ∈ l ∧ (findResult (if x then tx else rx) m).isSome then false else s.getB (busyField x) m := by
  induction l generalizing s with
  | nil => simp [forEach]
  | cons k l ih =>
    rw [forEach_cons, ih _ (fun j hj => hl j (List.mem_cons_of_mem _ hj)), takeResults_busy rx tx hm s (hl k List.mem_cons_self)]
    generalize (findResult (if x then tx else rx) m).isSome = b
    cases b with
    | false => simp
    | true => by_cases hk : m = k <;> simp [hk]

end

/-! ### What follows the results -/

section
variable {o : Nat} (hl : o < 0x8000) (s : State)
include hl

/-- A register above the lanes' is none of theirs. -/
theorem above_lanes {f : Fld} (h : 0x8000 ≤ f.reg.base) (i j : Nat) : f.reg.off i j ≠ o := by
  have := h.trans ((Nat.le_add_right ..).trans (Nat.le_add_right ..) : f.reg.base ≤ f.reg.off i j)
  omega

theorem quiet_lanes : quiet o = true := by
  simp only [quiet, Bool.not_eq_true', Bool.or_eq_false_iff, decide_eq_false_iff_not]
  omega

omit hl in
theorem SameReg.setSnsConv (c : Nat) (x : SnsConv) : SameReg o s (s.setSnsConv c x) := .of_csr rfl

omit hl in
theorem SameReg.setDomX (d : Nat) (x : DomX) : SameReg o s (s.setDomX d x) := .of_csr rfl

omit hl in
theorem SameReg.withOpening (x : Startup) (w : Windows) : SameReg o s { s with start := x, win := w } := .of_csr rfl

theorem endSnsStart_sameReg (c : Nat) (r : CalResult) : SameReg o s (s.endSnsStart c r) := by
  have hb : 0x8000 ≤ (snsBusy c).reg.base := by unfold snsBusy; split <;> decide
  have hc : 0x8000 ≤ (snsCalStat c).reg.base := by unfold snsCalStat; split <;> decide
  have h (u : State) (x : SnsConv) (v : Nat) : SameReg o u (((u.setSnsConv c x).setB (snsBusy c) false).set (snsCalStat c) v) :=
    .after (.set _ _ _ 0 0 (above_lanes hl hc 0 0)) (.after (.setB _ _ _ 0 0 (above_lanes hl hb 0 0)) (.setSnsConv ..))
  unfold State.endSnsStart
  exact .ite (.refl o s) (.ite (.after (.raised (pulse_raised _ (by decide)) (quiet_lanes hl)) (h ..)) (h ..))

theorem takeSense_sameReg (sns : List (Nat × CalResult)) (c : Nat) : SameReg o s (s.takeSense sns c) := by
  unfold State.takeSense
  split
  · exact endSnsStart_sameReg hl s c _
  · exact .refl o s

theorem openDomain_sameReg (d : Nat) (was : Bool) : SameReg o s ((s.setB Fd.CON_DCTL_EN true d).domainEnable d was true) :=
  .after (.ite (.refl o _) (.setDomX ..)) (.setB s Fd.CON_DCTL_EN true d 0 (above_lanes hl (by decide) d 0))

theorem openSketch_sameReg : SameReg o s s.openSketch := by
  unfold State.openSketch
  refine .after (.forEach _ _ (fun u n _ => .setB u Fd.SYN_LSTATE_TX_REQ true n 0 (above_lanes hl (by decide) n 0)) _) (.after
    (.setB _ Fd.CON_CTL_EN true 0 0 (above_lanes hl (by decide) 0 0)) (.after (.forEach _ _ (fun u w _ => ?_) _) (.withOpening ..)))
  exact .after (.forEach _ _ (fun v d _ => openDomain_sameReg hl v d _) _)
    (.setB u Fd.CHN_WCTL_EN true w 0 (above_lanes hl (by decide) w 0))

end

/-- The state after the results of a row. -/
def State.resultsTaken (s : State) (rx tx sns : List (Nat × CalResult)) : State :=
  forEach [0, 1] (forEach (List.range 16) s (State.takeResults rx tx)) (State.takeSense sns)

theorem exec_startCalDone {s : State} (hs : s.alive = true) (hp : s.start.phase = 3) (rx tx sns : List (Nat × CalResult)) :
    exec (.startCalDone rx tx sns) s = .next ((if (s.resultsTaken rx tx sns).startCalRuns then s.resultsTaken rx tx sns
      else (s.resultsTaken rx tx sns).openSketch).putBack s) := by
  have hlive : ¬ (s.start.phase ≠ 3 ∨ s.start.frozen = true) := by
    simp only [State.alive, Bool.and_eq_true, Bool.not_eq_true'] at hs
    simp [hp, hs.2]
  exact exec_next hs (congrArg s.whenLive (if_neg hlive))

theorem startCalDone_busy {s : State} (hs : s.alive = true) (hp : s.start.phase = 3) (rx tx sns : List (Nat × CalResult)) :
    ∃ t, exec (.startCalDone rx tx sns) s = .next t ∧ ∀ n, n < 16 → ∀ x : Bool, t.getB (busyField x) n =
      if (findResult (if x then tx else rx) n).isSome then false else s.getB (busyField x) n := by
  refine ⟨_, exec_startCalDone hs hp rx tx sns, fun n hn x => ?_⟩
  have ho : (busyField x).reg.off n 0 = 0x4070 + 0x400 * n := by cases x <;> rfl
  have hl : (busyField x).reg.off n 0 < 0x8000 := by omega
  have hk := takeAll_busy rx tx hn s (List.range 16) (fun _ => List.mem_range.1) x
  have h : SameReg ((busyField x).reg.off n 0) (forEach (List.range 16) s (State.takeResults rx tx)) (s.resultsTaken rx tx sns) :=
    .forEach _ _ (fun u c _ => takeSense_sameReg hl u sns c) _
  have hopen := SameReg.ite (c := (s.resultsTaken rx tx sns).startCalRuns = true) (.refl _ _) (openSketch_sameReg hl (s.resultsTaken rx tx sns))
  rw [putBack_getB, (hopen.after h).getB _ n rfl, hk]
  simp only [List.mem_range, hn, true_and]

/-- Settles O55. -/
theorem startStepsFollow : Obligations.StartStepsFollow := by
  refine ⟨fun ms trained r1 r2 mainOk spareOk s hs hp => romBootDone_begins hs hp ms trained r1 r2 mainOk spareOk,
    fun img n rest s hs hp ho => imageVerifyDone_judges hs hp ho img, fun rx tx sns s hs hp => ?_⟩
  obtain ⟨t, he, hb⟩ := startCalDone_busy hs hp rx tx sns
  refine ⟨t, he, fun n hn => ⟨fun h => ?_, fun h => ?_, fun h => ?_⟩⟩
  · exact (hb n hn true).trans (if_pos h)
  · exact (hb n hn false).trans (if_pos h)
  · exact (hb n hn true).trans (if_neg (by simp [h]))

end Sys2Proof.Machine

/-!
SUPPORT. Proofs about redundant parts: DRAM channels lost, Chart pairs that stop, take over and restart.
-/

namespace Sys2Proof.Machine

-- The option has the proofs elaborated one after another, not beside the tests above: the two together exceed the check's memory.
set_option deprecated.oldSectionVars true

/-! ### DRAM channels lost (R286) -/

/-- The registers of a channel stand among those of the channels. -/
theorem channel_range {r : RegDesc} (hr : r = Reg.DRC_CSTAT ∨ r = Reg.DRC_CECC) {c : Nat} (hc : c < 4) :
    0x3C100 ≤ r.off c 0 ∧ r.off c 0 < 0x3C140 := by
  rcases hr with rfl | rfl <;> simp only [RegDesc.off, Reg.DRC_CSTAT, Reg.DRC_CECC] <;> omega

theorem cecc_apart (c : Nat) : Reg.DRC_CSTAT.off c 0 ≠ Reg.DRC_CECC.off c 0 := by
  simp only [RegDesc.off, Reg.DRC_CSTAT, Reg.DRC_CECC]
  omega

/-- A lost channel shows LOST. -/
theorem loseDram_lost (s : State) {c : Nat} (hc : c < 4) (inj : Bool) : (s.loseDram c inj).getB Fd.DRC_CSTAT_LOST c = true := by
  obtain ⟨hl, hh⟩ := channel_range (.inl rfl) hc
  rw [loseDram_eq]
  split
  · assumption
  · rw [(shutDram_sameBoot hl hh (s.setB Fd.DRC_CSTAT_LOST true c) hc inj).getB Fd.DRC_CSTAT_LOST c rfl]
    exact getB_setB_same _ _ _ _ _ (by unfold Fld.fits; decide) (by decide)

/-- The count of a channel's errors and its first, after one more at grid tick `gt`. -/
def ueNoted (p : Nat × Nat) (gt : Nat) : Nat × Nat := if p.2 = 0 ∨ p.1 + 640000 ≤ gt then (gt, 1) else (p.1, p.2 + 1)

theorem ueNoted_fourth {p : Nat × Nat} {gt : Nat} (h : 3 ≤ p.2) (hg : gt < p.1 + 640000) : 4 ≤ (ueNoted p gt).2 := by
  rw [ueNoted, if_neg (by omega)]
  exact Nat.succ_le_succ h

theorem ueNoted_below {p : Nat × Nat} {gt : Nat} (h : p.2 < 3 ∨ p.1 + 640000 ≤ gt) : ¬ 4 ≤ (ueNoted p gt).2 := by
  unfold ueNoted
  split <;> dsimp only <;> omega

/-- The state with the error of a channel counted. -/
def State.ueCounted (s : State) (ch : Nat) : State := s.addSat Fd.DRC_CECC_UE 1 ch

/-- The state with the errors of its channels noted. -/
def State.withDram (s : State) (d : List (Nat × (Nat × Nat))) : State := { s with dram := d }

/-- The state with an error that has been counted judged at grid tick `gt`, `d` being the errors noted before. -/
def State.ueJudged (s : State) (ch : Nat) (inj : Bool) (d : List (Nat × (Nat × Nat))) (gt : Nat) : State :=
  if 4 ≤ (ueNoted (mapGet (0, 0) d ch) gt).2 then (s.withDram (mapErase d ch)).loseDram ch inj
  else s.withDram (mapSet (0, 0) d ch (ueNoted (mapGet (0, 0) d ch) gt))

theorem dramUe_eq (s : State) (ch : Nat) (inj : Bool) : s.dramUe ch inj = (s.ueCounted ch).ueJudged ch inj s.dram s.time.gt := by
  have h : s.dramUe ch inj = (s.ueCounted ch).ueJudged ch inj (s.ueCounted ch).dram (s.ueCounted ch).time.gt := rfl
  rw [h, State.ueCounted, State.addSat_dram, State.addSat_time]

theorem withDram_get (s : State) (d : List (Nat × (Nat × Nat))) (f : Fld) (i : Nat) : (s.withDram d).get f i = s.get f i := rfl

theorem ueCounted_ue (s : State) (ch : Nat) :
    (s.ueCounted ch).get Fd.DRC_CECC_UE ch = min (s.get Fd.DRC_CECC_UE ch + 1) (2 ^ Fd.DRC_CECC_UE.width - 1) :=
  get_addSat_same s Fd.DRC_CECC_UE 1 ch 0 (by unfold Fld.fits; decide)

theorem ueCounted_lost (s : State) (ch : Nat) : (s.ueCounted ch).getB Fd.DRC_CSTAT_LOST ch = s.getB Fd.DRC_CSTAT_LOST ch :=
  getB_of_get (get_set_other s Fd.DRC_CECC_UE Fd.DRC_CSTAT_LOST _ ch 0 ch 0 (cecc_apart ch))

/-- An error of a live channel is counted. -/
theorem dramUe_counts (s : State) {ch : Nat} (hc : ch < 4) (inj : Bool) :
    (s.dramUe ch inj).get Fd.DRC_CECC_UE ch = min (s.get Fd.DRC_CECC_UE ch + 1) (2 ^ Fd.DRC_CECC_UE.width - 1) := by
  obtain ⟨hl, hh⟩ := channel_range (.inr rfl) hc
  rw [dramUe_eq, State.ueJudged, ← ueCounted_ue]
  split
  · rw [(loseDram_sameBoot hl hh _ hc inj (cecc_apart ch)).get Fd.DRC_CECC_UE ch rfl, withDram_get]
  · rw [withDram_get]

theorem dramUe_loses {s : State} {ch : Nat} (hc : ch < 4) (inj : Bool) (h : 3 ≤ (mapGet (0, 0) s.dram ch).2)
    (hg : s.time.gt < (mapGet (0, 0) s.dram ch).1 + 640000) : (s.dramUe ch inj).getB Fd.DRC_CSTAT_LOST ch = true := by
  rw [dramUe_eq, State.ueJudged, if_pos (ueNoted_fourth h hg)]
  exact loseDram_lost _ hc inj

theorem dramUe_keeps {s : State} {ch : Nat} (inj : Bool) (hn : s.getB Fd.DRC_CSTAT_LOST ch = false)
    (h : (mapGet (0, 0) s.dram ch).2 < 3 ∨ (mapGet (0, 0) s.dram ch).1 + 640000 ≤ s.time.gt) :
    (s.dramUe ch inj).getB Fd.DRC_CSTAT_LOST ch = false := by
  rw [dramUe_eq, State.ueJudged, if_neg (ueNoted_below h), ← hn, ← ueCounted_lost s ch]
  exact getB_of_get (withDram_get ..)

/-- The state with the atlas copy that an erroneous word held marked. -/
def State.markCopy (s : State) (ch : Nat) (entry : Option Nat) : State :=
  match entry with
  | none => s
  | some e =>
    let k := e % 2
    let a := s.slot k
    let m := if a.chP = ch then 1 else if a.chM = ch then 2 else 0
    s.setSlot k { a with bad := mapSet 0 a.bad (e / 2) (mapGet 0 a.bad (e / 2) ||| m) }

theorem markCopy_keeps (s : State) (ch : Nat) (entry : Option Nat) :
    (s.markCopy ch entry).dram = s.dram ∧ (s.markCopy ch entry).time = s.time ∧ (s.markCopy ch entry).csr = s.csr := by
  unfold State.markCopy
  split
  · exact ⟨rfl, rfl, rfl⟩
  · exact ⟨rfl, rfl, rfl⟩

theorem exec_dramUe (ch : Fin 4) (entry : Option Nat) (s : State) : exec (.dramUe ch entry) s =
    s.whenLive (.next (if s.getB Fd.DRC_CSTAT_LOST ch then s else (s.markCopy ch entry).dramUe ch false)) :=
  congrArg s.whenLive (apply_ite Host.Outcome.next ..).symm

theorem dramUe_acts {s : State} (hs : s.alive = true) (ch : Fin 4) (entry : Option Nat) : ∃ t, exec (.dramUe ch entry) s = .next t ∧
    (s.getB Fd.DRC_CSTAT_LOST ch = true → t = s) ∧
    (s.getB Fd.DRC_CSTAT_LOST ch = false →
      t.get Fd.DRC_CECC_UE ch = min (s.get Fd.DRC_CECC_UE ch + 1) (2 ^ Fd.DRC_CECC_UE.width - 1) ∧
      (let p := mapGet (0, 0) s.dram ch
       (3 ≤ p.2 → s.time.gt < p.1 + 640000 → t.getB Fd.DRC_CSTAT_LOST ch = true) ∧
        (p.2 < 3 ∨ p.1 + 640000 ≤ s.time.gt → t.getB Fd.DRC_CSTAT_LOST ch = false))) := by
  refine ⟨_, exec_next hs (exec_dramUe ch entry s), fun h => ?_, fun h => ?_⟩
  · rw [if_pos h, putBack_self rfl rfl]
  · obtain ⟨hd, ht, hc⟩ := markCopy_keeps s ch entry
    have hr (o : Nat) : SameReg o s (s.markCopy ch entry) := .of_csr hc
    rw [if_neg (by rw [h]; decide), putBack_get, putBack_getB, ← hd, ← ht, ← (hr _).get Fd.DRC_CECC_UE ch rfl]
    rw [← (hr _).getB Fd.DRC_CSTAT_LOST ch rfl] at h
    exact ⟨dramUe_counts _ ch.isLt false, dramUe_loses ch.isLt false, dramUe_keeps false h⟩

theorem loseDram_again {s : State} {c : Nat} (h : s.getB Fd.DRC_CSTAT_LOST c = true) (inj : Bool) : s.loseDram c inj = s := if_pos h

theorem exec_dramCmdTimeout (ch : Fin 4) (s : State) : exec (.dramCmdTimeout ch) s = s.whenLive (.next (s.loseDram ch)) := rfl

theorem dramCmdTimeout_loses {s : State} (hs : s.alive = true) (ch : Fin 4) : ∃ t, exec (.dramCmdTimeout ch) s = .next t ∧
    t.getB Fd.DRC_CSTAT_LOST ch = true ∧ (s.getB Fd.DRC_CSTAT_LOST ch = true → t = s) := by
  refine ⟨_, exec_next hs (exec_dramCmdTimeout ch s), ?_, fun h => ?_⟩
  · rw [putBack_getB]
    exact loseDram_lost s ch.isLt false
  · rw [loseDram_again h, putBack_self rfl rfl]

/-! ### A pair stops (R34, R259, R344) -/

/-- The state with the captures of the grid tick at which a pair failed taken as invalid. -/
def State.mismatched (s : State) : State :=
  let s := s.pulse (489 + s.get Fd.MBX_CSTAT_PAIR)
  { s with fw := { s.fw with captures := s.fw.captures.filter fun k => k.at_ != s.time.gt } }

/-- The state in which the pair stopped at grid tick `gt` and the standby pair is to take over. -/
def State.awaitTakeover (s : State) (gt : Nat) : State := { s with failAt := some gt, readyAt := none }

/-- The state in which the pair has stopped. -/
def State.pairStopped (s : State) : State := (s.setB Fd.MBX_CSTAT_READY false).awaitTakeover s.time.gt

theorem exec_lockstepMismatch (s : State) : exec .lockstepMismatch s = s.whenLive (.next
    (if s.mismatched.getB Fd.MBX_CSTAT_STANDBY then s.mismatched.pairStopped else s.mismatched.startWarm false)) := rfl

theorem mismatched_raised (s : State) : OnlyRaised s (s.pulse (489 + s.get Fd.MBX_CSTAT_PAIR)) :=
  pulse_raised s (by
    have h : s.get Fd.MBX_CSTAT_PAIR < 2 := get_lt s Fd.MBX_CSTAT_PAIR 0 0
    omega)

theorem mismatched_keeps (s : State) : s.mismatched.time = s.time ∧ s.mismatched.fw.legend = s.fw.legend ∧
    SameReg (Reg.MBX_CSTAT.off 0 0) s s.mismatched := by
  have h := mismatched_raised s
  unfold State.mismatched
  dsimp only
  generalize s.pulse (489 + s.get Fd.MBX_CSTAT_PAIR) = u at h
  exact ⟨h.time, h.legend, .after (.withFw ..) (.raised h (by decide))⟩

theorem awaitTakeover_keeps (s : State) (gt : Nat) : (s.awaitTakeover gt).failAt = some gt ∧ (s.awaitTakeover gt).readyAt = none ∧
    (s.awaitTakeover gt).fw = s.fw ∧ ∀ f, (s.awaitTakeover gt).getB f = s.getB f := ⟨rfl, rfl, rfl, fun _ => rfl⟩

theorem pairStopped_keeps (s : State) : s.pairStopped.failAt = some s.time.gt ∧ s.pairStopped.readyAt = none ∧
    s.pairStopped.fw.legend = s.fw.legend ∧ s.pairStopped.getB Fd.MBX_CSTAT_READY = false := by
  obtain ⟨hf, ha, hw, hg⟩ := awaitTakeover_keeps (s.setB Fd.MBX_CSTAT_READY false) s.time.gt
  rw [State.pairStopped, hw, State.setB_fw, hg]
  exact ⟨hf, ha, rfl, getB_setB_same s Fd.MBX_CSTAT_READY false 0 0 (by unfold Fld.fits; decide) (by decide)⟩

/-- The state marked as restarting without RESTART, `before` being the service state to which it returns. -/
def State.restarting (s : State) (before : Nat) : State :=
  { s with start := { s.start with warm := true, ordered := false, before := before }, failAt := none, readyAt := none }

theorem startWarm_false (s : State) : ∃ (u : State) (before : Nat), s.startWarm false = u.restartBegun.restarting before := by
  refine ⟨if s.earlyRestart then s.startFailure 2 else s, if s.start.warm then s.start.before else s.get Fd.PWR_SVC_STATE, ?_⟩
  unfold State.startWarm State.restartBegun State.restarting
  simp -implicitDefEqProofs only [Bool.not_false, Bool.true_and]

theorem restarting_keeps (s : State) (before : Nat) : (s.restarting before).start.warm = true ∧
    (∀ f, (s.restarting before).get f = s.get f) ∧ ∀ f, (s.restarting before).getB f = s.getB f := ⟨rfl, fun _ => rfl, fun _ => rfl⟩

/-- A warm restart shows its service state, not READY. -/
theorem startWarm_begins (s : State) : (s.startWarm false).start.warm = true ∧ (s.startWarm false).get Fd.PWR_SVC_STATE = 5 ∧
    (s.startWarm false).getB Fd.MBX_CSTAT_READY = false := by
  obtain ⟨u, before, e⟩ := startWarm_false s
  obtain ⟨hw, hg, hb⟩ := restarting_keeps u.restartBegun before
  rw [e, hg, hb]
  exact ⟨hw, restartBegun_state u, restartBegun_ready u⟩

theorem lockstepMismatch_stops {s : State} (hs : s.alive = true) : ∃ t, exec .lockstepMismatch s = .next t ∧
    t.getB Fd.MBX_CSTAT_READY = false ∧
    (s.getB Fd.MBX_CSTAT_STANDBY = true → t.failAt = some s.time.gt ∧ t.readyAt = none ∧ t.fw.legend = s.fw.legend) ∧
    (s.getB Fd.MBX_CSTAT_STANDBY = false → t.start.warm = true ∧ t.get Fd.PWR_SVC_STATE = 5) := by
  obtain ⟨ht, hl, hr⟩ := mismatched_keeps s
  have he := exec_next hs (exec_lockstepMismatch s)
  rw [hr.getB Fd.MBX_CSTAT_STANDBY 0 rfl] at he
  by_cases hb : s.getB Fd.MBX_CSTAT_STANDBY = true
  · obtain ⟨hf, ha, hg, hn⟩ := pairStopped_keeps s.mismatched
    rw [if_pos hb] at he
    rw [ht] at hf
    rw [hl] at hg
    generalize s.mismatched.pairStopped = u at he hf ha hg hn
    exact ⟨u.putBack s, he, (putBack_getB ..).trans hn, fun _ => ⟨hf, ha, hg⟩, fun h => absurd hb (by simp [h])⟩
  · obtain ⟨hw, hg, hn⟩ := startWarm_begins s.mismatched
    rw [if_neg hb] at he
    generalize s.mismatched.startWarm false = u at he hw hg hn
    exact ⟨u.putBack s, he, (putBack_getB ..).trans hn, fun h => absurd h hb, fun _ => ⟨hw, (putBack_get ..).trans hg⟩⟩

/-! ### The standby pair takes over (R34, R259) -/

/-- The time, what firmware holds and MBX.CSTAT are in `t` what they are in `s`. -/
structure SameFirmware (s t : State) : Prop extends SameReg (Reg.MBX_CSTAT.off 0 0) s t where
  time : t.time = s.time
  fw : t.fw = s.fw

section
variable {s t u : State}

theorem SameFirmware.refl (s : State) : SameFirmware s s := ⟨.refl _ s, rfl, rfl⟩

/-- The chain taken from its end. -/
theorem SameFirmware.after (k : SameFirmware t u) (h : SameFirmware s t) : SameFirmware s u :=
  ⟨k.toSameReg.after h.toSameReg, k.time.trans h.time, k.fw.trans h.fw⟩

theorem SameFirmware.ite {c : Prop} [Decidable c] (h : SameFirmware s t) (k : SameFirmware s u) : SameFirmware s (if c then t else u) := by
  split
  · exact h
  · exact k

theorem SameFirmware.forEach {α : Type} (l : List α) (f : State → α → State) (hf : ∀ s, ∀ a ∈ l, SameFirmware s (f s a)) (s : State) :
    SameFirmware s (forEach l s f) :=
  ⟨.forEach l f (fun s a ha => (hf s a ha).toSameReg) s, forEach_keeps_mem State.time l f (fun s a ha => ⟨(hf s a ha).time⟩) s,
    forEach_keeps_mem State.fw l f (fun s a ha => ⟨(hf s a ha).fw⟩) s⟩

theorem SameFirmware.withWin (s : State) (x : Windows) : SameFirmware s { s with win := x } := ⟨.of_csr rfl, rfl, rfl⟩

theorem SameFirmware.withCan (s : State) (x : Canceller) : SameFirmware s { s with can := x } := ⟨.of_csr rfl, rfl, rfl⟩

theorem SameFirmware.withTdd (s : State) (x : Tdd) : SameFirmware s { s with tdd := x } := ⟨.of_csr rfl, rfl, rfl⟩

theorem SameFirmware.setTbl (s : State) (w b k i : Nat) (v : Word) : SameFirmware s (s.setTbl w b k i v) := ⟨.of_csr rfl, rfl, rfl⟩

theorem SameFirmware.touchSweep (s : State) (i : Nat) : SameFirmware s (s.touchSweep i) := ⟨.of_csr rfl, rfl, rfl⟩

theorem SameFirmware.dropWaits (s : State) (m tag : Nat) : SameFirmware s (s.dropWaits m tag) := ⟨.of_csr rfl, rfl, rfl⟩

theorem SameFirmware.setMb (s : State) (m : Nat) (b : Mailbox) : SameFirmware s (s.setMb m b) := ⟨.of_csr rfl, rfl, rfl⟩

theorem SameFirmware.setReg (s : State) {o : Nat} (v : Word) (h : Reg.MBX_CSTAT.off 0 0 ≠ o) : SameFirmware s (s.setReg o v) :=
  ⟨⟨reg_setReg_other s v h⟩, rfl, rfl⟩

end

theorem rewriteTables_sameFirmware (s : State) (k : Capture) : SameFirmware s (s.rewriteTables k) := by
  unfold State.rewriteTables
  refine .after (.withWin ..) (.after (.ite (.refl _) (.after (.touchSweep ..) (.withTdd ..))) (.after
    (.ite (.refl _) (.after (.touchSweep ..) (.withCan ..))) (.forEach _ _ (fun u q _ => ?_) s)))
  exact .ite (.refl u) (.setTbl ..)

/-- The mailboxes' registers are none of the configuration that Chart owns. -/
theorem chartSet_apart {o : Nat} (h : chartSet (setOf o) = true) : Reg.MBX_CSTAT.off 0 0 ≠ o := by
  rintro rfl
  exact absurd h (by decide)

theorem rewriteConfig_sameFirmware (s : State) (k : Capture) : SameFirmware s (s.rewriteConfig k) := by
  unfold State.rewriteConfig
  refine .after (rewriteTables_sameFirmware ..) (.forEach _ _ (fun u o ho => ?_) s)
  have hc : chartSet (setOf o) = true := (List.mem_filter.1 ho).2
  exact .ite (.refl u) (.setReg u _ (chartSet_apart hc))

/-- The state with what the capture holds of firmware's state. -/
def State.takeFirmware (s : State) (k : Capture) : State :=
  { s with fw := { s.fw with
    legend := k.legend, orders := k.orders, dones := s.fw.dones.filter fun d => d.restrictive
    lockHolder := k.lockHolder, leaseEnd := k.leaseEnd } }

/-- The state with the other pair shown, without a standby pair. -/
def State.pairShown (s : State) : State :=
  ((s.setB Fd.MBX_CSTAT_PAIR (!s.getB Fd.MBX_CSTAT_PAIR)).setB Fd.MBX_CSTAT_STANDBY false).addSat Fd.MBX_CSTAT_FAILOVERS 1

/-- The state in which READY sets at the next grid tick. -/
def State.readySoon (s : State) : State := { s with failAt := none, readyAt := some (s.time.gt + 1) }

/-- The state with the other pair in service. -/
def State.pairSwapped (s : State) : State := s.pairShown.readySoon

/-- `t` holds of firmware's state what the capture holds, and shows MBX.CSTAT as `s` does. -/
structure Restored (s : State) (k : Capture) (t : State) : Prop extends SameReg (Reg.MBX_CSTAT.off 0 0) s t where
  time : t.time = s.time
  legend : t.fw.legend = k.legend
  orders : t.fw.orders = k.orders
  lockHolder : t.fw.lockHolder = k.lockHolder
  leaseEnd : t.fw.leaseEnd = k.leaseEnd

theorem takeFirmware_restored {s t : State} (h : SameFirmware s t) (k : Capture) : Restored s k (t.takeFirmware k) :=
  ⟨.after (.withFw ..) h.toSameReg, h.time, rfl, rfl, rfl, rfl⟩

theorem Restored.same {s t u : State} {k : Capture} (h : Restored s k t) (hu : SameFirmware t u) : Restored s k u where
  toSameReg := .after hu.toSameReg h.toSameReg
  time := hu.time.trans h.time
  legend := (congrArg Firmware.legend hu.fw).trans h.legend
  orders := (congrArg Firmware.orders hu.fw).trans h.orders
  lockHolder := (congrArg Firmware.lockHolder hu.fw).trans h.lockHolder
  leaseEnd := (congrArg Firmware.leaseEnd hu.fw).trans h.leaseEnd

theorem pairShown_keeps (s : State) : s.pairShown.fw = s.fw ∧ s.pairShown.time = s.time := by
  unfold State.pairShown
  rw [State.addSat_fw, State.setB_fw, State.setB_fw, State.addSat_time, State.setB_time, State.setB_time]
  exact ⟨rfl, rfl⟩

theorem readySoon_keeps (s : State) : s.readySoon.fw = s.fw ∧ s.readySoon.failAt = none ∧ s.readySoon.readyAt = some (s.time.gt + 1) ∧
    ∀ f, s.readySoon.getB f = s.getB f := ⟨rfl, rfl, rfl, fun _ => rfl⟩

theorem pairShown_shows (s : State) : s.pairShown.getB Fd.MBX_CSTAT_PAIR = !s.getB Fd.MBX_CSTAT_PAIR ∧
    s.pairShown.getB Fd.MBX_CSTAT_STANDBY = false := by
  have hf (u : State) (f : Fld) (h : f.clear Fd.MBX_CSTAT_FAILOVERS = true) (hc : 0 < f.reg.count) :
      (u.addSat Fd.MBX_CSTAT_FAILOVERS 1).getB f = u.getB f := getB_of_get (get_set_clear u h _ hc Nat.one_pos)
  have hp (u : State) : (u.setB Fd.MBX_CSTAT_STANDBY false).getB Fd.MBX_CSTAT_PAIR = u.getB Fd.MBX_CSTAT_PAIR :=
    getB_of_get (get_set_clear u (by decide) _ Nat.one_pos Nat.one_pos)
  unfold State.pairShown
  rw [hf _ _ (by decide) Nat.one_pos, hf _ _ (by decide) Nat.one_pos, hp]
  exact ⟨getB_setB_same _ _ _ _ _ (by unfold Fld.fits; decide) (by decide), getB_setB_same _ _ _ _ _ (by unfold Fld.fits; decide) (by decide)⟩

/-- What the takeover leaves: what the capture holds, the other pair, and READY one grid tick later. -/
structure TakenOver (s : State) (k : Capture) (t : State) : Prop where
  legend : t.fw.legend = k.legend
  orders : t.fw.orders = k.orders
  lockHolder : t.fw.lockHolder = k.lockHolder
  leaseEnd : t.fw.leaseEnd = k.leaseEnd
  pair : t.getB Fd.MBX_CSTAT_PAIR = !s.getB Fd.MBX_CSTAT_PAIR
  standby : t.getB Fd.MBX_CSTAT_STANDBY = false
  failAt : t.failAt = none
  readyAt : t.readyAt = some (s.time.gt + 1)

theorem Restored.swapped {s t : State} {k : Capture} (h : Restored s k t) : TakenOver s k t.pairSwapped := by
  obtain ⟨hfw', ht⟩ := pairShown_keeps t
  obtain ⟨hfw, hf, ha, hg⟩ := readySoon_keeps t.pairShown
  obtain ⟨hp, hs⟩ := pairShown_shows t
  rw [hfw'] at hfw
  rw [ht, h.time] at ha
  rw [← hg] at hp hs
  rw [h.getB Fd.MBX_CSTAT_PAIR 0 rfl] at hp
  exact ⟨(congrArg Firmware.legend hfw).trans h.legend, (congrArg Firmware.orders hfw).trans h.orders,
    (congrArg Firmware.lockHolder hfw).trans h.lockHolder, (congrArg Firmware.leaseEnd hfw).trans h.leaseEnd, hp, hs, hf, ha⟩

theorem TakenOver.raised {s t u : State} {k : Capture} (h : TakenOver s k t) (r : OnlyRaised t u) : TakenOver s k u where
  legend := r.legend.trans h.legend
  orders := r.orders.trans h.orders
  lockHolder := r.lockHolder.trans h.lockHolder
  leaseEnd := r.leaseEnd.trans h.leaseEnd
  pair := (getB_of_get (r.get _ _ _ (by decide))).trans h.pair
  standby := (getB_of_get (r.get _ _ _ (by decide))).trans h.standby
  failAt := r.failAt.trans h.failAt
  readyAt := r.readyAt.trans h.readyAt

theorem TakenOver.putBack {s t : State} {k : Capture} (h : TakenOver s k t) (u : State) : TakenOver s k (t.putBack u) where
  legend := h.legend
  orders := h.orders
  lockHolder := h.lockHolder
  leaseEnd := h.leaseEnd
  pair := (putBack_getB ..).trans h.pair
  standby := (putBack_getB ..).trans h.standby
  failAt := h.failAt
  readyAt := h.readyAt

theorem exec_failoverTakeover {s : State} {at_ : Nat} {k : Capture} (hf : s.failAt = some at_)
    (hk : (s.fw.captures.find? fun c => decide (c.at_ < at_)) = some k) : ∃ u, TakenOver s k u ∧ exec .failoverTakeover s =
      s.whenLive (.next (if s.time.gt % 80 ≠ 0 ∨ s.time.gt ≤ at_ then s else u)) := by
  have hb : s.failAt.bind s.captureBefore = some k := by rw [hf]; exact hk
  change ∃ u, TakenOver s k u ∧ execFailoverTakeover s = _
  unfold execFailoverTakeover
  rw [hb, hf]
  dsimp -zeta only
  extract_lets configured _ _ restored aborted taken swapped shown ready
  have hr : Restored s k restored := takeFirmware_restored (rewriteConfig_sameFirmware s k) k
  have ht : SameFirmware restored taken :=
    .forEach _ _ (fun u m _ => .after (.setMb ..) (.forEach _ _ (fun v c _ => .dropWaits v m c.tag) u)) restored
  have hs : TakenOver s k ready := (hr.same ht).swapped
  exact ⟨_, hs.raised (notify_raised ..), congrArg s.whenLive (apply_ite Host.Outcome.next ..).symm⟩

theorem failoverTakeover_takes {s : State} (hs : s.alive = true) {at_ : Nat} {k : Capture} (hf : s.failAt = some at_)
    (hk : (s.fw.captures.find? fun c => decide (c.at_ < at_)) = some k) : ∃ t, exec .failoverTakeover s = .next t ∧
      (s.time.gt % 80 = 0 → at_ < s.time.gt → t.fw.legend = k.legend ∧ t.fw.orders = k.orders ∧ t.fw.lockHolder = k.lockHolder ∧
        t.fw.leaseEnd = k.leaseEnd ∧ t.getB Fd.MBX_CSTAT_PAIR = !s.getB Fd.MBX_CSTAT_PAIR ∧ t.getB Fd.MBX_CSTAT_STANDBY = false ∧
        t.failAt = none ∧ t.readyAt = some (s.time.gt + 1)) ∧
      (s.time.gt % 80 ≠ 0 ∨ s.time.gt ≤ at_ → t = s) := by
  obtain ⟨u, hu, e⟩ := exec_failoverTakeover hf hk
  have he := exec_next hs e
  by_cases hw : s.time.gt % 80 ≠ 0 ∨ s.time.gt ≤ at_
  · rw [if_pos hw, putBack_self rfl rfl] at he
    exact ⟨s, he, fun hg ha => absurd hw (by omega), fun _ => rfl⟩
  · rw [if_neg hw] at he
    have h := hu.putBack s
    exact ⟨_, he, fun _ _ => ⟨h.legend, h.orders, h.lockHolder, h.leaseEnd, h.pair, h.standby, h.failAt, h.readyAt⟩,
      fun h => absurd h hw⟩

/-! ### The end of a warm restart (R344) -/

/-- The state with what firmware restores from a capture. -/
def State.warmRestored (s : State) (k : Capture) : State :=
  { s with
    fw := { s.fw with legend := k.legend, orders := k.orders }
    win := { s.win with pendTab := k.pendTab, applTab := k.applTab }
    start := { s.start with
      warm := false, ordered := false, fullAt := if s.start.before = 4 then s.sheet else s.start.fullAt } }

/-- The state back in service with a standby pair. -/
def State.serviceResumed (s : State) : State :=
  let s := s.setService s.start.before
  let s := (s.setB Fd.MBX_CSTAT_READY true).setB Fd.MBX_CSTAT_STANDBY true
  (s.notifyChart 0xF2 [1, wd s.start.aborted]).pulse 310

theorem exec_warmRestartDone_verified {s : State} (hs : s.alive = true) (hw : s.start.warm = true) {k : Capture} {ks : List Capture}
    (hk : s.fw.captures = k :: ks) : exec (.warmRestartDone true) s = .next ((s.warmRestored k).serviceResumed.withQueue s) := by
  refine exec_timed hs (u := (s.warmRestored k).serviceResumed) ?_
  change execWarmRestartDone true s = _
  unfold execWarmRestartDone
  rw [hw, hk]
  rfl

theorem exec_warmRestartDone_failed {s : State} (hs : s.alive = true) (hw : s.start.warm = true) :
    exec (.warmRestartDone false) s = .next ((s.orderStart s.start.bootSel).withQueue s) := by
  refine exec_timed hs (u := s.orderStart s.start.bootSel) ?_
  change execWarmRestartDone false s = _
  unfold execWarmRestartDone
  rw [hw]
  rfl

/-- `t` is in service with what firmware restored from the capture. -/
structure Resumed (k : Capture) (t : State) : Prop where
  warm : t.start.warm = false
  legend : t.fw.legend = k.legend
  orders : t.fw.orders = k.orders
  ready : t.getB Fd.MBX_CSTAT_READY = true
  standby : t.getB Fd.MBX_CSTAT_STANDBY = true

theorem Resumed.withQueue {k : Capture} {t : State} (h : Resumed k t) (s : State) : Resumed k (t.withQueue s) :=
  ⟨h.warm, h.legend, h.orders, h.ready, h.standby⟩

theorem Resumed.raised {k : Capture} {t u : State} (h : Resumed k t) (r : OnlyRaised t u) : Resumed k u where
  warm := (congrArg Startup.warm r.start).trans h.warm
  legend := r.legend.trans h.legend
  orders := r.orders.trans h.orders
  ready := (getB_of_get (r.get _ _ _ (by decide))).trans h.ready
  standby := (getB_of_get (r.get _ _ _ (by decide))).trans h.standby

/-- The state shown ready with a standby pair. -/
def State.readyShown (s : State) : State := (s.setB Fd.MBX_CSTAT_READY true).setB Fd.MBX_CSTAT_STANDBY true

theorem readyShown_resumed {s : State} {k : Capture} (hw : s.start.warm = false) (hl : s.fw.legend = k.legend) (ho : s.fw.orders = k.orders) :
    Resumed k s.readyShown where
  warm := by rw [State.readyShown, State.setB_start, State.setB_start, hw]
  legend := by rw [State.readyShown, State.setB_fw, State.setB_fw, hl]
  orders := by rw [State.readyShown, State.setB_fw, State.setB_fw, ho]
  ready := (getB_of_get (get_set_clear _ (by decide) _ Nat.one_pos Nat.one_pos)).trans
    (getB_setB_same _ _ _ _ _ (by unfold Fld.fits; decide) (by decide))
  standby := getB_setB_same _ _ _ _ _ (by unfold Fld.fits; decide) (by decide)

theorem setService_keeps (s : State) (st : Nat) : (s.setService st).start = s.start ∧ (s.setService st).fw.legend = s.fw.legend ∧
    (s.setService st).fw.orders = s.fw.orders := by
  have h : OnlyRaised (s.set Fd.PWR_SVC_STATE st) (s.setService st) := offer_raised ..
  rw [h.start, h.legend, h.orders, State.set_start, State.set_fw]
  exact ⟨rfl, rfl, rfl⟩

theorem serviceResumed_resumed (s : State) (k : Capture) : Resumed k (s.warmRestored k).serviceResumed := by
  obtain ⟨hst, hl, ho⟩ := setService_keeps (s.warmRestored k) (s.warmRestored k).start.before
  exact (readyShown_resumed (congrArg Startup.warm hst) hl ho).raised (.after (pulse_raised _ (by decide)) (notifyChart_raised ..))

theorem warmRestartDone_ends {s : State} (hs : s.alive = true) (hw : s.start.warm = true) {k : Capture} {ks : List Capture}
    (hk : s.fw.captures = k :: ks) (ok : Bool) : ∃ t, exec (.warmRestartDone ok) s = .next t ∧
      (ok = true → t.start.warm = false ∧ t.fw.legend = k.legend ∧ t.fw.orders = k.orders ∧ t.getB Fd.MBX_CSTAT_READY = true ∧
        t.getB Fd.MBX_CSTAT_STANDBY = true) ∧
      (ok = false → t.start.phase = 1 ∧ t.start.bootSel = s.start.bootSel) := by
  cases ok with
  | true =>
    have h := (serviceResumed_resumed s k).withQueue s
    exact ⟨_, exec_warmRestartDone_verified hs hw hk, fun _ => ⟨h.warm, h.legend, h.orders, h.ready, h.standby⟩,
      fun h => absurd h (by decide)⟩
  | false =>
    obtain ⟨hp, hb, -, -⟩ := orderStart_ordered s s.start.bootSel
    have he := exec_warmRestartDone_failed hs hw
    generalize s.orderStart s.start.bootSel = u at he hp hb
    exact ⟨u.withQueue s, he, fun h => absurd h (by decide), fun _ => ⟨hp, hb⟩⟩

/-- Settles O52. -/
theorem redundantPartsLost : Obligations.RedundantPartsLost :=
  ⟨⟨fun ch entry _ hs => dramUe_acts hs ch entry, fun ch _ hs => dramCmdTimeout_loses hs ch⟩,
    fun _ hs => lockstepMismatch_stops hs, fun _ _ _ hs hf hk => failoverTakeover_takes hs hf hk,
    fun ok _ _ _ hs hw hk => warmRestartDone_ends hs hw hk ok⟩

end Sys2Proof.Machine
